-- ==== Sys2Proof/Word.lean ====
section
/-!
DEFINITION. The widths the spec moves: bytes, 32-bit and 64-bit register words (R4, R7).
-/
namespace Sys2Proof

/-- A byte of host memory, of a pad or of an SRAM. -/
abbrev Byte := BitVec 8

/-- A 32-bit register word, or one half of a 64-bit register (R7). -/
abbrev Word32 := BitVec 32

/-- A 64-bit register word. -/
abbrev Word64 := BitVec 64

/-- The low half of a 64-bit word, byte 0 first (R4, R7). -/
def Word64.lo (w : Word64) : Word32 := w.extractLsb' 0 32

/-- The high half of a 64-bit word (R7). -/
def Word64.hi (w : Word64) : Word32 := w.extractLsb' 32 32

/-- The 64-bit word made of two halves (R7). -/
def Word64.ofHalves (hi lo : Word32) : Word64 := hi.append lo

end Sys2Proof
end

