-- ==== Sys2Proof/Machine/Bits.lean ====
section
/-!
DEFINITION. Bit fields of registers ("[msb:lsb]", Table 2 of the scope chapter) and sparse maps in one
canonical form, the two shapes every later file reads and writes.
-/
namespace Sys2Proof.Machine

/-- A field [hi:lo] of a register, both ends included. -/
structure Fld where
  hi : Nat
  lo : Nat
  deriving DecidableEq, Repr

/-- How many bits the field has. -/
def Fld.width (f : Fld) : Nat := f.hi + 1 - f.lo

/-- The bits of the field, all ones in place. -/
def Fld.mask (f : Fld) : Word64 := BitVec.ofNat 64 (2 ^ f.width - 1) <<< f.lo

/-- The value of the field in a register value. -/
def Fld.get (f : Fld) (v : Word64) : Nat := (v.toNat >>> f.lo) % 2 ^ f.width

/-- A register value with the field replaced; a value too wide for the field loses its high bits. -/
def Fld.put (f : Fld) (x : Nat) (v : Word64) : Word64 :=
  (v &&& ~~~f.mask) ||| (BitVec.ofNat 64 (x % 2 ^ f.width) <<< f.lo)

/-- A sparse map: keys strictly rising, no entry equal to what an unlisted key reads as. -/
abbrev FMap (α : Type) := List (Nat × α)

/-- What key `k` reads as; `d` where the map lists nothing. -/
def FMap.find {α : Type} (d : α) (k : Nat) : FMap α → α
  | [] => d
  | (j, a) :: t => if j = k then a else FMap.find d k t

/-- The map without key `k`. -/
def FMap.drop {α : Type} (k : Nat) : FMap α → FMap α
  | [] => []
  | (j, a) :: t => if j = k then FMap.drop k t else (j, a) :: FMap.drop k t

/-- The map with `a` listed at key `k`, in key order. -/
def FMap.insert {α : Type} (k : Nat) (a : α) : FMap α → FMap α
  | [] => [(k, a)]
  | (j, b) :: t =>
    if k < j then (k, a) :: (j, b) :: t
    else if j = k then (k, a) :: t
    else (j, b) :: FMap.insert k a t

/-- The map with `k` reading as `a`: an entry equal to the default is removed. -/
def FMap.put {α : Type} [DecidableEq α] (d : α) (k : Nat) (a : α) (m : FMap α) : FMap α :=
  if a = d then FMap.drop k m else FMap.insert k a m

/-- The canonical form: strictly rising keys. -/
def FMap.sorted {α : Type} : FMap α → Bool
  | [] => true
  | (j, _) :: t => t.all (fun p => j < p.1) && FMap.sorted t

/-- The canonical form: no entry equals what an unlisted key reads as. -/
def FMap.wf {α : Type} [DecidableEq α] (d : α) (m : FMap α) : Bool :=
  FMap.sorted m && m.all (fun p => p.2 != d)

/-- The keys a map lists. -/
def FMap.keys {α : Type} (m : FMap α) : List Nat := m.map Prod.fst

/-- Every listed value changed by `f`, which is told its key; values that become the default are no longer listed. -/
def FMap.mapVals {α : Type} [DecidableEq α] (d : α) (f : Nat → α → α) : FMap α → FMap α
  | [] => []
  | (j, a) :: t => if f j a = d then FMap.mapVals d f t else (j, f j a) :: FMap.mapVals d f t

/-- The number of listed values for which `p` holds. -/
def FMap.count {α : Type} (p : Nat → α → Bool) (m : FMap α) : Nat := (m.filter (fun q => p q.1 q.2)).length

/-- `⌈a ÷ b⌉`. -/
def ceilDiv (a b : Nat) : Nat := (a + b - 1) / b

/-- A count that saturates at `m`. -/
def satAdd (m a b : Nat) : Nat := min m (a + b)

/-- A 64-bit value read as signed. -/
def signed64 (v : Word64) : Int := v.toInt

/-- A 16-bit immediate extended by its sign (R196). -/
def sext16 (imm : BitVec 16) : Word64 := imm.signExtend 64

/-- A 16-bit immediate extended with zeros (R196). -/
def zext16 (imm : BitVec 16) : Word64 := imm.setWidth 64

/-- The little-endian value of a list of bytes, byte 0 in bits [7:0] (R4). -/
def leValue : List Byte → Nat
  | [] => 0
  | b :: t => b.toNat + 256 * leValue t

/-- The `n` little-endian bytes of a value (R4). -/
def leBytes : Nat → Nat → List Byte
  | 0, _ => []
  | n + 1, v => BitVec.ofNat 8 (v % 256) :: leBytes n (v / 256)

/-- Ascending by a key; equal keys keep their order. -/
def putUp {α : Type} (f : α → Nat) (a : α) : List α → List α
  | [] => [a]
  | b :: t => if f a ≤ f b then a :: b :: t else b :: putUp f a t
def sortUp {α : Type} (f : α → Nat) : List α → List α
  | [] => []
  | a :: t => putUp f a (sortUp f t)

end Sys2Proof.Machine
end

