-- ==== Sys2Proof/Machine/Parts.lean ====
section
/-!
DEFINITION. The parts that the state is made of: functions, attachments, devices, contexts, bus operations, rings,
programs, ports, Boards, fault sources and the other records that the chapters say are kept beside registers.
All of it is plain data. Slice-local handles are keys `slice × 65536 + handle`, rings `slice × 64 + ring`.
-/
namespace Sys2Proof.Machine

/-! ## One cycle (R11, R232) -/

/-- What has happened in one REF cycle, for the races of R11 and the order of R232. -/
structure Cycle where
  /-- 1 above the cycle; 0 for none. -/
  at_ : Nat
  /-- Bits that hardware has set, by `Reg.addr`; and registers that software has written. -/
  rose : FMap Word64
  wrote : List Nat
  /-- Contexts that have joined a ready list: at its head, or at its tail. -/
  joins : List (Nat × Bool)
  /-- A failover has been triggered: a GO of the cycle is discarded (R452). -/
  trig : Bool
  deriving DecidableEq, Repr

def Cycle.none : Cycle := ⟨0, [], [], [], false⟩

/-! ## Upstream ports and functions -/

/-- One function of one upstream port: its configuration space as far as the block's behaviour depends on it
(R78 to R92, R98, R100). -/
structure Func where
  mse : Bool
  bme : Bool
  d3hot : Bool
  pmeEn : Bool
  msixEn : Bool
  fmask : Bool
  /-- NumVFs as written and VF Enable, kept in PF0's record (R78, R99). -/
  numVfs : Nat
  vfEnable : Bool
  /-- System Page Size in bytes, BAR bases and VF BAR bases by number, of PF0 (R80). -/
  sysPage : Nat
  bars : FMap Nat
  vfBars : FMap Nat
  extTag : Bool
  tag10 : Bool
  /-- Max Payload Size and Max Read Request Size in bytes (R83). -/
  mps : Nat
  mrrs : Nat
  pasidEn : Bool
  atsEn : Bool
  relaxed : Bool
  /-- The bus number that the function has captured (R14). -/
  bus : Nat
  /-- AER status: bits of the Uncorrectable Error Status register, and 32 above those of the Correctable one (R100). -/
  aer : List Nat
  /-- AER masks of both registers, the severity register, ECRC generation and checking (R79, R100). -/
  aerMask : Nat
  aerCorMask : Nat
  aerSev : Nat
  ecrcGen : Bool
  ecrcCheck : Bool
  /-- ASPM Control enables L1 (R77). -/
  aspmL1 : Bool
  /-- PME_Status after a PM_PME message (R92). -/
  pme : Bool
  /-- REF cycle since which it issues no request and its completion timers stand still: Bus Master Enable is 0, or it is in D3hot
  (R85, R347). -/
  offAt : Nat
  deriving DecidableEq, Repr

/-- A function after its configuration space is reset. MPS 128 B, MRRS 512 B, the page size 4 KiB and the AER masks are
PCI Express's defaults; the severities are those of Table 6 of chapter 3. -/
def Func.init : Func :=
  { mse := false, bme := false, d3hot := false, pmeEn := false, msixEn := false, fmask := false, numVfs := 0,
    vfEnable := false, sysPage := 4096, bars := [], vfBars := [], extTag := false, tag10 := false, mps := 128, mrrs := 512,
    pasidEn := false, atsEn := false, relaxed := true, bus := 0, aer := [], aerMask := 2 ^ 22,
    aerCorMask := 2 ^ 13 + 2 ^ 14 + 2 ^ 15, aerSev := 2 ^ 4 + 2 ^ 13 + 2 ^ 17 + 2 ^ 18, ecrcGen := false,
    ecrcCheck := false, aspmL1 := false, pme := false, offAt := 0 }

/-- The function may issue requests as far as its configuration says: Bus Master Enable is 1, in D0 (R85). -/
def Func.on (f : Func) : Bool := f.bme && !f.d3hot

/-- How many VFs exist: NumVFs while VF Enable is set (R78, R99). -/
def Func.vfs (f : Func) : Nat := if f.vfEnable then f.numVfs else 0

/-- One MSI-X table entry and its PBA bit (R88 to R92). -/
structure Vec where
  addr : Nat
  data : Nat
  masked : Bool
  pba : Bool
  deriving DecidableEq, Repr

/-- A vector after reset: masked, as PCI Express has it. -/
def Vec.init : Vec := ⟨0, 0, true, false⟩

/-- One upstream port beside its registers (R74, R75, R77). -/
structure Hp where
  /-- 32 GT/s is not attempted (R75). -/
  held16 : Bool
  /-- PME_Turn_Off received and not yet answered (R77). -/
  turnOff : Bool
  /-- SRIS as taken at the latest entry to Detect (R76). -/
  sris : Bool
  /-- Link Control 2, which resets of functions leave as it is (R499). -/
  lnkCtl2 : Nat
  deriving DecidableEq, Repr

def Hp.init : Hp := ⟨false, false, false, 0⟩

/-- An entry of the address translation cache (R86). -/
structure Atc where
  port : Nat
  func : Nat
  pasid : Option Nat
  page : Nat
  /-- The translation grants writing as well as reading. -/
  write : Bool
  /-- The page that the translation gives. -/
  dest : Nat
  deriving DecidableEq, Repr

/-- What a non-posted request of the block is for (Table 3 of chapter 11). -/
inductive Purpose where
  | hld (d size : Nat)
  | outData
  | listElem
  | ringFetch (r : Nat)
  /-- The image of a program: bytes still to be read after this request; `none` for the header (R170). -/
  | image (rest : Option Nat)
  | sealSource
  | sealAad
  /-- A Translation Request for the page, on behalf of reads or writes (R86). -/
  | translate (write : Bool)
  deriving DecidableEq, Repr

/-- Where a non-posted request stands (R85, R347, R349). -/
inductive ReqPhase where
  | waiting | issued | failed
  deriving DecidableEq, Repr

/-- An outstanding or waiting non-posted request (R83 to R87, R346 to R350). `tag` numbers the requests of the model. -/
structure HostReq where
  tag : Nat
  slice : Nat
  /-- The context, 16384 once nobody wants the data any more. -/
  ctx : Nat
  addr : Nat
  len : Nat
  purpose : Purpose
  phase : ReqPhase
  /-- Attempts that have failed (R349). -/
  fails : Nat
  /-- REF time at which the attempt was issued, or failed; and its completion timeout in µs as read at issue (R347, R349). -/
  since : Nat := 0
  cto : Nat := 0
  deriving DecidableEq, Repr

/-- What a posted write of the block carries (R38, R146, R202, R325, R338). -/
inductive WriteKind where
  | hst
  | data (granules : Nat)
  /-- Gambit data: bytes of pool space to be freed (R325), and the packet that it is of: endpoint context, short mark. -/
  | gambit (pool ep : Nat) (short : Bool)
  | intervalResult
  | sealOut
  deriving DecidableEq, Repr

/-- The write is made by a bus operation, which goes on beside it. -/
def WriteKind.ofOp : WriteKind → Bool
  | .hst => false
  | .sealOut => false
  | _ => true

/-- A posted write that has not left the port (R85, R97, R338). -/
structure PWrite where
  tag : Nat
  slice : Nat
  /-- The context, 16384 once it has been freed; and the entry of the item's root: ring, index, lap. -/
  ctx : Nat
  ring : Nat
  idx : Nat
  lap : Nat
  addr : Nat
  bytes : List Byte
  kind : WriteKind
  /-- The bus operation that it was made for is outstanding (R203, R225). -/
  cur : Bool
  /-- The cluster whose movers make it (R334), and the packet that it belongs to: the number of its first write (R338). -/
  cl : Nat
  pkt : Nat
  /-- It has been issued, with these translations (page, page given), and waits for flow-control credit (R85 to R87). -/
  issued : Bool
  xlat : List (Nat × Nat)
  deriving DecidableEq, Repr

/-! ## Attachments, devices and endpoints -/

/-- An attachment of an endpoint context to a slice, as the assignment tables hold it (R114 to R118). -/
structure AttCfg where
  live : Bool
  ep : Nat
  mode : Nat
  gsafeM : Bool
  secok : Bool
  filter : Nat
  fodepth : Nat
  sem : Nat
  detached : Bool
  deriving DecidableEq, Repr

def AttCfg.empty : AttCfg := ⟨false, 0, 0, false, false, 0, 0, 0, false⟩

/-- A fan-out or secure report waiting for its slice (R121, R125). -/
structure Report where
  data : List Byte
  /-- The report is a sealed block (R126). -/
  sealed : Bool
  /-- When its last DATA packet ended (R458). -/
  time : Nat
  deriving DecidableEq, Repr

/-- An effective attachment (R119 to R125). -/
structure Att where
  cfg : AttCfg
  gsafeS : Bool
  folost : Nat
  queue : List Report
  deriving DecidableEq, Repr

def Att.empty : Att := ⟨AttCfg.empty, false, 0, []⟩

/-- A change of the assignment table that waits for the tick (R110, R115, R119, R120, R124, R127). Handles are
keys `slice × 65536 + handle`. -/
inductive EpaOp where
  | assign (k : Nat) (c : AttCfg)
  | unassign (k : Nat)
  | update (k : Nat) (c : AttCfg)
  | retarget (k ep : Nat)
  | gsafe (k : Nat) (b : Bool)
  | lostClr (k : Nat)
  | secClaim (k : Nat)
  /-- A claim ends; `lost` says that it ends otherwise than by SEC_RELEASE. -/
  | secEnd (k : Nat) (lost : Bool)
  /-- A detach counts as an assignment change of the handle (R120, Table 8 of chapter 10). -/
  | detach (k : Nat)
  deriving DecidableEq, Repr

/-- A device context (R44 to R46, R265, R331, R376). -/
structure Dev where
  live : Bool
  port : Nat
  /-- Reached through the SuperSpeed path. -/
  ss : Bool
  /-- 1 low, 2 full, 3 high speed, 4 SuperSpeed. -/
  speed : Nat
  addr : Nat
  /-- Hub port numbers from the root port outwards, at most five (R45). -/
  route : List Nat
  /-- Device ID of the high-speed hub whose TT serves the device, and the hub port of a multi-TT hub (R284). -/
  ttHub : Option Nat
  ttPort : Nat
  detached : Bool
  /-- Device identity, 8 words (R376). -/
  ident : List Word32
  /-- The REF cycle of its latest reset, or in which its context was allocated (R379). -/
  fresh : Nat
  deriving DecidableEq, Repr

def Dev.empty : Dev := ⟨false, 0, false, 0, 0, [], none, 0, false, [], 0⟩

/-- A packet in the gambit pool (R324 to R328). -/
structure GPkt where
  data : List Byte
  short : Bool
  /-- Pool bytes the packet takes (R325). -/
  space : Nat
  deriving DecidableEq, Repr

/-- An endpoint context (R114, R119, R265, R322 to R329). `typ`: 0 control, 1 isochronous, 2 bulk, 3 interrupt. -/
structure Ep where
  live : Bool
  dev : Nat
  num : Nat
  typ : Nat
  dirIn : Bool
  mps : Nat
  burst : Nat
  streams : Bool
  dirty : Bool
  hist : Nat
  pend : List GPkt
  orph : List GPkt
  /-- The Clock count of the latest NAK or NRDY to a gambit, plus 1; 0 for none (R322). -/
  backoff : Nat
  /-- Streams with an ERDY kept (R70); stream 0 stands for an endpoint without streams. -/
  erdy : List Nat
  /-- Data toggle or sequence number of the next packet. -/
  toggle : Nat
  /-- Streams that NRDY has parked until ERDY; stream 0 stands for an endpoint without streams (R70). -/
  nrdy : List Nat
  /-- Parked by NAK or NYET: order of parking, and rank and microframe of the answer (R68, R69). -/
  parked : Option Nat
  parkedAt : Nat
  /-- The next OUT transaction at high speed is PING (R68). -/
  ping : Bool
  /-- A periodic start-split has been acknowledged by the TT (R305). -/
  split : Bool
  /-- The packets so far of a report that has not ended (R208), the granules they occupy (R335), and when the last one
  ended. -/
  part : List Byte
  partGran : Nat
  partAt : Nat
  /-- 1 above the service microframe in which a transaction of the endpoint failed last, or found no data: it is not sent again
  in that interval (R68, R313). -/
  failAt : Nat
  /-- The placement that NRDY answered: its word, the key of its handle, and the end of its service interval (R70). -/
  held : Option (Word64 × Nat × Nat)
  deriving DecidableEq, Repr

def Ep.empty : Ep := ⟨false, 0, 0, 0, false, 0, 0, false, false, 0, [], [], 0, [], 0, [], none, 0, false, false, [], 0, 0, 0, none⟩

/-! ## Work items -/

/-- The bus instructions (R178). -/
inductive BusKind where
  | setup | inn | out | ping | status | isoin | isoout | stream | gather | scatter
  deriving DecidableEq, Repr

/-- A bus instruction with the operand values it read in its issue cycle (R193, R205, R212, R214). -/
structure BusReq where
  kind : BusKind
  async : Bool
  handle : Nat
  setup : Word64
  addr : Nat
  len : Nat
  sid : Nat
  zlp : Bool
  mode : Nat
  count : Nat
  first : Nat
  results : Nat
  deriving DecidableEq, Repr

/-- Where a bus operation stands (R204, R303). -/
inductive OpStage where
  /-- Waits for the semaphore of an arbitrated endpoint (R204, check 5). -/
  | semaphore
  /-- Waits for a place in the port's request queue (R303). -/
  | place
  /-- Holds a place in the request queue. -/
  | queued
  deriving DecidableEq, Repr

/-- The header of an index table in use (R341): base, segment length, offsets not yet read, next table, and where the
header stands. -/
structure TableHdr where
  base : Nat
  seg : Nat
  left : Nat
  next : Nat
  at_ : Nat
  deriving DecidableEq, Repr

/-- The list position of a GATHER or SCATTER (R340 to R344). -/
structure ListPos where
  /-- Address of the next element or table to fetch; `none` at the end of the list. -/
  next : Option Nat
  table : Option TableHdr
  /-- Segments resolved and not yet used up: address, bytes left; and the addresses of their list elements, the first of which is
  in use (R344). -/
  segs : List (Nat × Nat)
  ats : List Nat
  /-- Index of the element in use (R344). -/
  elem : Nat
  /-- Bytes of the element in use that are passed. -/
  byte : Nat
  hops : Nat
  /-- `DSP_MV_CFG.HOPS` at issue (R343). -/
  budget : Nat
  /-- What has been read of a header that crosses a 4 KiB boundary (R83, R341). -/
  part : List Byte
  deriving DecidableEq, Repr

/-- An outstanding bus operation: a request of the sequencer and its movers (R210, R303 to R313, R337). -/
structure Op where
  req : BusReq
  /-- The cluster whose movers serve it: its activation's at issue, or at resumption (R334). -/
  mover : Nat
  ep : Nat
  port : Nat
  pri : Nat
  /-- Order of arrival at the sequencer. -/
  order : Nat
  stage : OpStage
  /-- Payload bytes moved on the bus. -/
  moved : Nat
  pkts : Nat
  /-- Bytes of a packet sent and not yet acknowledged; `none` with nothing in flight. -/
  flight : Option Nat
  /-- Packets asked for and not yet received. -/
  asked : Nat
  /-- OUT data in the landing buffer, oldest first (R337). -/
  buf : List Byte
  /-- Consecutive transaction errors (R312). -/
  errs : Nat
  /-- The start-split has been acknowledged (R309). -/
  split : Bool
  /-- The ZLP of R212 has been sent. -/
  zlpDone : Bool
  /-- The operation has come to its end with this code; BUS_OPERATION_END delivers it. -/
  result : Option Nat
  /-- A boundary has been reached and not yet acted on (R186). -/
  bnd : Bool
  /-- Held under R245, or part of a suspended activation. -/
  held : Bool
  /-- CANCEL, POST or an end condition stops it at the next boundary (R183, R219, R222). -/
  cut : Bool
  pos : ListPos
  /-- Service intervals passed, bytes and code of the interval under way (R215). -/
  ivs : Nat
  ivBytes : Nat
  ivCode : Nat
  /-- Microframe of the first interval wanted (R214), and 1 above the microframe of the interval served last. -/
  start : Nat
  ivAt : Nat
  missed : Bool
  xact : Bool
  /-- The interval served last has not ended. -/
  ivOpen : Bool
  /-- IN data received for which no resolved segment has room yet stands in `buf`: the granules it occupies, and whether
  its last packet was short. -/
  hold : Nat
  shortIn : Bool
  /-- It delivers orphan data, and then ends (R211). -/
  orphan : Bool
  /-- The number of the first write of an IN packet whose last bytes have no segment yet (R338). -/
  pkt : Option Nat
  deriving DecidableEq, Repr

/-- An open control sequence (R207). -/
structure CtlSeq where
  handle : Nat
  ep : Nat
  setup : Word64
  /-- The attachment was arbitrated when the sequence opened (R265). -/
  arb : Bool
  deriving DecidableEq, Repr

/-- What a parked activation waits for (R159, R267). -/
inductive Wait where
  /-- Its outstanding bus operation, issued with A = 0 (R209). -/
  | op
  /-- The end of an earlier operation, before this instruction is issued (R210). -/
  | prior (r : BusReq)
  /-- The token of a handle (R240). -/
  | token (r : BusReq)
  | lock (i : Nat)
  | hld (d size : Nat)
  | hst (w : Nat)
  /-- WAIT: destination, mask, and the moment of expiry in REF cycles, if any (R217). -/
  | wait (d mask : Nat) (deadline : Option Nat)
  | waitclk (t : Word64)
  | cancel
  /-- A = 1: its new operation waits for its semaphore or for a place in the request queue (R204, R303). -/
  | place
  /-- POST with a transaction of its operation on the wire (R222). -/
  | post (code : Nat)
  | fence
  | sealOp
  /-- An end condition has taken it from a list, a wait or its engine, and waits for its operation to stop at a boundary
  (R183, R237). -/
  | ending
  deriving DecidableEq, Repr

/-- The states of an activation (Table 1 of chapter 6); `other` is an entry that runs no program. -/
inductive Act where
  | free
  | other
  | ready
  | running (te : Nat)
  | parked (w : Wait)
  | suspended
  /-- Ended, its context kept until every child has ended (R160). -/
  | ended
  deriving DecidableEq, Repr

/-- A context (R161, Table 2 of chapter 6). -/
structure Ctx where
  act : Act
  slice : Nat
  ring : Nat
  idx : Nat
  lap : Nat
  /-- Parent context and the pad offset for the result, for a child (R184). -/
  parent : Option (Nat × Nat)
  /-- Children that have not ended. -/
  kids : List Nat
  prog : Nat
  pri : Nat
  tag : Nat
  cluster : Nat
  pad : FMap Byte
  g : FMap Word64
  /-- The handle (key 0) and g1 to g6 as the activation began with them: the arguments of a ROM program (R188). -/
  args : FMap Word64
  /-- The results of its bus operations so far, oldest first; `none` for one that CANCEL cut. Kept for ROM programs, which
  choose their next step by them (R188). -/
  rom : List (Option Nat)
  pc : Nat
  z : Bool
  c : Bool
  n : Bool
  stack : List Nat
  st : Word64
  prg : Word64
  fuel : Nat
  ep : Nat
  step : Nat
  bytes : Nat
  /-- Bytes that the children moved (R179). -/
  kidBytes : Nat
  /-- Current handle (R239). -/
  cur : Option Nat
  /-- Semaphores taken by LOCK and TRYLOCK, and those of arbitrated endpoints. -/
  locks : List Nat
  arbs : List Nat
  /-- Arbitrated endpoints on which the activation has issued a bus instruction (R266). -/
  begun : List Nat
  /-- Open control sequences, one to a handle. -/
  seq : List CtlSeq
  op : Option Op
  /-- An instruction whose checks are passed and that goes to the sequencer once an engine takes the item (R240,
  R258). -/
  go : Option BusReq
  /-- The result of an ended operation that no WAIT has consumed: code and bytes (R209, R216). -/
  opRes : Option (Nat × Nat)
  evOp : Bool
  evChild : Bool
  evPkt : Bool
  /-- The Clock count of the latest tick that a WAIT of the activation has returned for (R216). -/
  tickSeen : Nat
  /-- An end condition that takes effect at the next boundary (R182). -/
  endCode : Option Nat
  /-- The code with which the activation ended (R160). -/
  code : Nat
  /-- When the park began, in REF cycles (R217, R267). -/
  since : Nat
  /-- When the DATA packet of the report ended that the activation has received, and when its latest write left (R458). -/
  rptAt : Option Nat
  rptLeft : Nat
  /-- `DSP_MV_CFG.HOPS` as it stood at the issue of its latest bus instruction (R343). -/
  hops : Nat
  /-- The activation has ended by POST or RET, with the code that it chose (R140, R222). -/
  posted : Bool
  /-- The first 8 bytes that the latest operation with received data has brought to its buffer: a ROM program goes by them
  (R188). -/
  romData : List Byte
  /-- The part of a ROM program's time limit, in µs, that WAITs have used up since the operation's issue or its latest
  boundary (R188). -/
  romUs : Nat
  deriving DecidableEq, Repr

def Ctx.free : Ctx :=
  { act := .free, slice := 0, ring := 0, idx := 0, lap := 0, parent := none, kids := [], prog := 0, pri := 0,
    tag := 0, cluster := 0, pad := [], g := [], args := [], rom := [], pc := 0, z := false, c := false, n := false, stack := [],
    st := 0, prg := 0, fuel := 0, ep := 0, step := 0, bytes := 0, kidBytes := 0, cur := none, locks := [],
    arbs := [], begun := [], seq := [], op := none, go := none, opRes := none, evOp := false, evChild := false,
    evPkt := false, tickSeen := 0, endCode := none, code := 0, since := 0, rptAt := none, rptLeft := 0, hops := 0,
    posted := false, romData := [], romUs := 0 }

/-- A published or publishable result: status code, step index, bytes (Table 3 of chapter 5). -/
structure Result where
  code : Nat
  step : Nat
  bytes : Nat
  /-- Value of the timestamp word (R150). -/
  stamp : Nat
  deriving DecidableEq, Repr

/-- An entry that the scanner has taken and the done head does not cover (R140 to R146). -/
structure Taken where
  idx : Nat
  lap : Nat
  op : Nat
  tag : Nat
  ioc : Bool
  /-- The context while the entry holds one (R160). -/
  ctx : Option Nat
  /-- Ring positions (lap × size + index) whose INVOKE entries an ABORT waits for, and how many it stopped. -/
  victims : List Nat
  count : Nat
  /-- The entry has been made ready: no unfinished FENCE stands before it. -/
  started : Bool
  result : Option Result
  /-- The entry is the malformed one (R155). -/
  mal : Bool
  deriving DecidableEq, Repr

/-- A ring beside its registers (R145, R153, R157). -/
structure Ring where
  /-- The scan ended for want of room in the ring or of a context, and goes on by itself (R109, R144). -/
  blocked : Bool
  rescan : Bool
  scanning : Bool
  lap : Nat
  /-- Oldest first. -/
  taken : List Taken
  pend : Nat
  timer : Bool
  /-- Publication has stopped for good (R151, R155, R156). -/
  stopped : Bool
  /-- Shut down by a lowered `RINGS`; `EN` is cleared when outstanding work has completed (R113, R158). -/
  shut : Bool
  deriving DecidableEq, Repr

def Ring.init : Ring := ⟨false, false, false, 0, [], 0, false, false, false⟩

/-- A program of the Library (R168 to R173). -/
structure Prog where
  live : Bool
  unloading : Bool
  fuel : Nat
  /-- The image header, 4 words, and the words behind it (R168). -/
  head : List Word32
  words : List Word32
  /-- Physical blocks in program order (R169, R174). -/
  blocks : List Nat
  deriving DecidableEq, Repr

def Prog.empty : Prog := ⟨false, false, 0, [], [], []⟩

/-- A transfer engine (R228, R235, R243, R385). -/
structure Eng where
  hold : Option Nat
  /-- Held by DOZE (R227). -/
  doze : Bool
  /-- Writing its activation's state back (R235). -/
  wb : Bool
  /-- The write-back is that of a preempted activation: the engine has been handed to waiting work (R243). -/
  handed : Bool
  deriving DecidableEq, Repr

def Eng.free : Eng := ⟨none, false, false, false⟩

/-- An engine that writes its activation back (R235), and one that holds an activation. -/
def Eng.leaving : Eng := ⟨none, false, true, false⟩
def Eng.holds (c : Nat) : Eng := ⟨some c, false, false, false⟩

/-- The token of an attachment (R238 to R240). -/
structure Token where
  /-- Root context of the family that holds the token. -/
  fam : Option Nat
  queue : List Nat
  deriving DecidableEq, Repr

def Token.free : Token := ⟨none, []⟩

/-- A semaphore beside `SEM_CFG` (R259 to R263). -/
structure Sem where
  owner : Option Nat
  queue : List Nat
  abn : Bool
  /-- Attachments of this endpoint context name the semaphore in arbitrated mode (R260). -/
  guard : Option Nat
  deriving DecidableEq, Repr

def Sem.free : Sem := ⟨none, [], false, none⟩

/-! ## Root ports -/

/-- A path of a root port beside `PORT_STS` (R49, R51, R54 to R58, R65). -/
structure Path where
  /-- `SS_EN`, `DEBOUNCE`, `BC_MODE` as taken when the path left OFF (R49). -/
  ssEn : Bool
  debounce : Nat
  bcMode : Nat
  /-- Failed pollings in a row. -/
  pollFails : Nat
  /-- A warm reset, not a hot one, is under way. -/
  warm : Bool
  /-- Only SOF or keep-alive is sent (R55). -/
  quiet : Bool
  /-- The device chirped in this bus reset (R56). -/
  chirp : Bool
  /-- The device's pull-up is that of low speed (R56). -/
  low : Bool
  /-- An L1 request was answered STALL (R65). -/
  l1Stall : Bool
  /-- The path's latest transition: 1 above its REF cycle, the state left, and the precedence of its condition (R52). -/
  moved : Nat
  was : Nat
  prec : Nat
  /-- The code of the test mode that a path in TEST is in; `PORT_CTL.TEST` may hold another (R496). -/
  mode : Nat
  deriving DecidableEq, Repr

def Path.init : Path := ⟨false, 0, 0, 0, false, false, false, false, false, 0, 0, 0, 0⟩

/-- The over-current filter of one OCI_N input (R60). -/
structure OcFilter where
  /-- The synchronised indication. -/
  sample : Bool
  /-- A count is running towards the sample. -/
  counting : Bool
  /-- The filtered indication. -/
  active : Bool
  /-- The filter time of the count, fixed when it starts, in units of 100 ns. -/
  time : Nat
  deriving DecidableEq, Repr

/-- A transaction on a line (R306 to R314, R324). -/
structure Txn where
  ep : Nat
  /-- The request it serves; `none` for the poll of a fan-out endpoint and for a gambit. -/
  ctx : Option Nat
  gambit : Bool
  /-- Packets still expected. -/
  left : Nat
  ping : Bool
  /-- Start-split or complete-split of the transaction: 0 none, 1 start, 2 complete. -/
  split : Nat
  /-- Data packets are expected, not a handshake. -/
  asks : Bool
  /-- The service microframe of an interrupt transaction (R313). -/
  mf : Nat
  deriving DecidableEq, Repr

/-- The sealing of a secure-input report (R125, R126): handle key of the claimant, slot, Clock count of the report; and, from
its start on, what it has copied from the slot (R362): key (empty if the slot may not be used, or has been erased since),
generation, sequence value. -/
structure SecCopy where
  handle : Nat
  slot : Nat
  key : List Word32
  gen : Nat
  seq : Nat
  clock : Nat
  /-- It has not started: 8 operations run, or others wait before it (R365). -/
  waits : Bool
  deriving DecidableEq, Repr

/-- The sequencer's record of an item written into the Packet Return FIFO and not yet read (R316 to R321). -/
structure Item where
  cls : Nat
  words : Nat
  /-- The end-marked word has been written. -/
  whole : Bool
  ep : Nat
  ctx : Option Nat
  gambit : Bool
  code : Nat
  short : Bool
  data : List Byte
  hasData : Bool
  last : Bool
  /-- The sealing of the report that the item ends (R125). -/
  sec : Option SecCopy
  /-- When the last DATA packet of the item ended. -/
  time : Nat
  deriving DecidableEq, Repr

/-- The Packet Return FIFO of a port (R315 to R321): 32 stages from the output end, the held write, both copies
of the pointers. -/
structure Fifo where
  stages : List (Option (Word64 × Bool))
  held : List (Word64 × Bool)
  wptr : Nat
  wptr2 : Nat
  rptr : Nat
  rptr2 : Nat
  items : List Item
  deriving DecidableEq, Repr

def Fifo.init : Fifo := ⟨List.replicate 32 none, [], 0, 0, 0, 0, []⟩

/-- One line of a sequencer (R69, R306, R308, R322). -/
structure Line where
  txn : Option Txn
  /-- The microframe whose Board line is executed, and the next placement in it. -/
  mf : Nat
  k : Nat
  /-- Rank (microframe × 64 + rank) to which the two counts belong. -/
  rank : Nat
  retries : Nat
  gambits : Nat
  /-- Endpoint context of the last gambit. -/
  lastGambit : Nat
  /-- Asynchronous work other than retries has been sent in the rank (R69). -/
  work : Bool
  /-- Placements to be served once more in the microframe, for an ERDY (R70). -/
  extra : List (Word64 × Nat)
  /-- A gambit of a 2.0 line between two of its transactions: endpoint context, and packets still to be asked for (R324). -/
  more : Option (Nat × Nat)
  deriving DecidableEq, Repr

def Line.init : Line := ⟨none, 0, 0, 0, 0, 0, 0, false, [], none⟩

/-- A root port beside its registers. -/
structure Port where
  usb : Path
  sup : Path
  /-- PWREN[n] as driven (R59). -/
  pwren : Bool
  oc : OcFilter
  /-- Fault sources that hold the port in OVERCURRENT (R428), and device safe state among them. -/
  holds : List Nat
  /-- VDM_SRC is driven on D− (R71). -/
  vdm : Bool
  /-- The filtered FLIP input (R58). -/
  flip : Bool
  fifo : Fifo
  lines : List Line
  /-- Next number for parking order and for arrival order. -/
  order : Nat
  /-- End of the inrush window, in REF cycles (R60). -/
  inrush : Nat
  /-- `PORT_CFG` and `PORT_SEQ_CFG` as they act up to the end of a rank: the rank of the write (microframe × 64 + rank) and
  the value before it (R49, R329). -/
  cfgHeld : Option (Nat × Word64)
  seqHeld : Option (Nat × Word64)
  deriving DecidableEq, Repr

def Port.init : Port :=
  ⟨Path.init, Path.init, false, ⟨false, false, false, 0⟩, [], false, false, Fifo.init,
    [Line.init, Line.init, Line.init], 0, 0, none, none⟩

/-! ## Clock and Board -/

/-- A reservation of a slice on a handle (R279 to R289). -/
structure Resv where
  live : Bool
  ep : Nat
  bytes : Nat
  interval : Nat
  phase : Nat
  gen : Nat
  deriving DecidableEq, Repr

def Resv.empty : Resv := ⟨false, 0, 0, 0, 0, 0⟩

/-- The header of a group's Board in a slot (R278, R292, R293). -/
structure BoardHdr where
  valid : Bool
  replay : Bool
  unchk : Bool
  mf : Nat
  deriving DecidableEq, Repr

def BoardHdr.empty : BoardHdr := ⟨false, false, false, 0⟩

/-- A planner pair (R290 to R295). -/
structure Planner where
  /-- The pair's planners have started a build at the latest tick (R295). -/
  going : Bool
  /-- The Board of the coming microframe is made by replay (R293). -/
  replay : Bool
  /-- Builder and checker have finished the build under way in time. -/
  built : Bool
  checked : Bool
  /-- The comparison found the two copies equal. -/
  equal : Bool
  /-- The retired planner comes back as checker from the next tick (R294). -/
  rejoin : Bool
  /-- The checker takes part in the comparison of the build under way (R294). -/
  joined : Bool
  /-- A mismatch was found at this deadline; the roles change at the next tick (R294). -/
  swap : Bool
  deriving DecidableEq, Repr

def Planner.init : Planner := ⟨false, false, false, false, false, false, true, false⟩

/-- Synchronisation to FSYNC_IN (R296 to R302). Times are in 1/64 ns. -/
structure Sync where
  num : Nat
  den : Nat
  falling : Bool
  filter : Nat
  /-- An edge has been counted in the current record. -/
  seen : Bool
  anchor : Nat
  /-- Index of the last counted edge. -/
  j : Nat
  /-- Target phase. -/
  phi : Int
  rate : Int
  corr : Int
  /-- The period of the microframe before (R298). -/
  last : Int
  /-- Time of the last tick, and the tick times' error against the REF count, in 1/64 ns. -/
  tick : Int
  /-- Time of the last reference edge, and the last 16 reference periods. -/
  lastRef : Option Int
  periods : List Int
  /-- Reference edges in a row within 100 ns. -/
  good : Nat
  /-- State before HOLDOVER. -/
  before : Nat
  /-- The current phase: that of the latest reference edge, less the corrections made since. -/
  phase : Int
  deriving DecidableEq, Repr

def Sync.init : Sync := ⟨0, 1, false, 0, false, 0, 0, 0, 8000000, 0, 8000000, 0, none, [], 0, 0, 0⟩

/-! ## What the block puts on its links -/

/-- Attributes of a request of the block (R38, R83, R86, R203, R338). A 64-bit address with an upper half of 0 goes out as
a 32-bit one; No Snoop, Execute Requested and Privileged Mode Requested are always 0. -/
structure Attr where
  pasid : Option Nat
  /-- Relaxed Ordering. ID-Based Ordering is always clear. -/
  ro : Bool
  /-- The address is a translated one. -/
  translated : Bool
  /-- The TLP carries an ECRC (R79). -/
  ecrc : Bool
  deriving DecidableEq, Repr

/-- What an observer outside the block sees, newest first in `State.out`. -/
inductive Output where
  /-- An MSI-X message of a function (R88). -/
  | msix (p fn vec : Nat)
  | pmPme (p fn : Nat)
  | pmeToAck (p : Nat)
  /-- A memory write that left an upstream port: address and bytes (R38, R338). -/
  | write (p fn : Nat) (a : Attr) (addr : Nat) (bytes : List Byte)
  /-- A memory read issued with this tag (R347). -/
  | read (p fn tag : Nat) (a : Attr) (addr len : Nat)
  /-- A Translation Request for a page, for reading or for writing (R86). -/
  | translate (p fn tag : Nat) (pasid : Option Nat) (page : Nat) (write : Bool)
  | invalidateDone (p fn : Nat)
  | unsupported (p fn : Nat)
  /-- An AER error message: 0 correctable, 1 non-fatal, 2 fatal (R100). -/
  | aer (p fn err severity : Nat)
  /-- The link sends the compliance pattern, modified or not, with the transmit settings of Link Control 2 (R499). -/
  | compliance (p : Nat) (modified : Bool) (speed settings : Nat)
  /-- A host packet on a root port's line: endpoint context, kind of transaction, payload. -/
  | usb (n line ep kind : Nat) (bytes : List Byte)
  /-- The hub port at the end of a route, below root port `n`, is to be disabled (R46). -/
  | hubPortOff (n : Nat) (route : List Nat)
  /-- Rank-0 items of a root port: SOF with the frame number, keep-alive, ITP with the bus interval counter (R272,
  R276). -/
  | sof (n frame : Nat)
  | keepAlive (n : Nat)
  | itp (n counter : Nat)
  /-- A pulse of some REF cycles on FSYNC_OUT, at a time after the tick in 1/64 ns. -/
  | fsyncPulse (width : Nat) (after : Int)
  /-- A PMBus command to the voltage regulator: its address, the command, and the value in the linear format (R407). -/
  | regulator (addr cmd value : Nat)
  | level (pin : Nat) (high : Bool)
  /-- An output pin, numbered as in `level`, is no longer driven (R475). -/
  | floating (pin : Nat)
  /-- What the JTAG port shifts out under IDCODE (R502). -/
  | idcode (v : Word32)
  | busError
  deriving DecidableEq, Repr

/-! ## Faults and interrupts -/

/-- A fault source beside `FLT_CFG` and `FLT_STS` (R424 to R438). -/
structure FltSrc where
  /-- The REF cycle at which the window that runs may expire (R425). -/
  window : Option Nat
  /-- The REF cycle of the last event of a SEVERE episode (R431). -/
  last : Nat
  /-- The REF cycle of the last decision whose hold was placed while the source is IDLE or COUNTING: a quiet time ends that
  hold (Table 3 of chapter 15). -/
  holdQuiet : Option Nat
  /-- The reaction in effect; 0 also stands for none. -/
  react : Nat
  /-- It caused the device safe state in effect. -/
  dsafe : Bool
  /-- Clock counts of the last recoveries, newest first, at most 15 (R433). -/
  times : List Nat
  /-- History entry of the open record, 0 for none, and whether entry 0 holds a copy (R438). -/
  entry : Nat
  pinned : Bool
  deriving DecidableEq, Repr

def FltSrc.init : FltSrc := ⟨none, 0, none, 0, false, [], 0, false⟩

/-- A GPIO input (R412, R413). -/
structure Gpio where
  pin : Bool
  level : Bool
  count : Nat
  deriving DecidableEq, Repr

def Gpio.init : Gpio := ⟨false, false, 0⟩

/-! ## Power -/

/-- A power domain beside its registers (R384 to R394, R501). -/
structure Dom where
  /-- Entry steps completed, 0 to 5 (Table 2 of chapter 13). -/
  step : Nat
  /-- The mode being entered: 1 retention, 2 off. -/
  target : Nat
  /-- Cause of a wake event that has not been acted on (R388). -/
  wake : Option Nat
  /-- Busy in the sense of R394, of a domain without processing elements; and the REF cycle of its latest traffic. -/
  busy : Bool
  last : Nat
  /-- Its bias settings: `FBB`, `RBB` and `HOLD` as taken at its latest state change (R394, R395). -/
  fbb : Bool
  rbb : Bool
  hold : Nat
  /-- Clock count and REF cycle at which PENDING began. -/
  since : Nat
  pendAt : Nat
  /-- The saved copy: the registers of its save list by address, from step 2 of the entry to the logic step of the return
  (R383, R387, R391). -/
  copy : Option (FMap Word64)
  deriving DecidableEq, Repr

def Dom.init : Dom := ⟨0, 0, none, false, 0, true, true, 10, 0, 0, none⟩

/-- The voltage loop (R405 to R409). -/
structure Avs where
  /-- SETTLE is being waited out before the clock rises: the REF cycle at which it is over. -/
  settling : Option Nat
  /-- The voltage that the loop is to apply, the clock step that goes with it, and the needs by clock step, as the latest
  evaluation found them. -/
  target : Nat
  goal : Nat
  need : List Nat
  /-- A regulator write is under way, and how often it has failed. -/
  writing : Bool
  fails : Nat
  /-- The last confirmed voltage in mV. -/
  confirmed : Nat
  inCeil : Bool
  inFloor : Bool
  deriving DecidableEq, Repr

/-- A path's link-power predictor beside its registers (R402, R403). -/
structure Pred where
  /-- REF cycle at which the idle interval began; `none` while a transaction runs. -/
  idle : Option Nat
  /-- A low-power state has been requested in this interval. -/
  asked : Bool
  /-- The decision of the interval: the state to request (0 none, 1 L1, 2 U1, 3 U2) with its BESL, and the state that the
  DMAX rule requests. -/
  choice : Nat
  besl : Nat
  deep : Nat
  /-- Policy has bounded the decision. -/
  bounded : Bool
  /-- BESL of an L1 request that has not been answered. -/
  lpm : Option Nat
  /-- The idle times, in µs, after which the choice is requested, and the deepest state (R403). -/
  delay : Nat := 0
  force : Nat := 0
  deriving DecidableEq, Repr

def Pred.init : Pred := ⟨none, false, 0, 0, 0, false, none, 0, 0⟩

/-! ## Management -/

/-- One management pair (R443 to R455). -/
structure Pair where
  halted : Bool
  wfi : Bool
  /-- The pair has become active in a failover and has not yet started at `RVEC` (R451). -/
  resume : Bool
  /-- Where in the image area the pair was last sent to run firmware; none while it runs the boot ROM (R451, R487). -/
  entry : Option Nat
  /-- The slot that it runs, as `SLOT` codes it, and the directory state of that slot (R487). -/
  slot : Nat
  slotSt : Nat
  deriving DecidableEq, Repr

def Pair.init : Pair := ⟨false, false, false, none, 0, 0⟩

/-- A checkpoint under way (R448). -/
structure Ckpt where
  bankB : Bool
  seq : Nat
  bytes : Nat
  /-- The copy has been made; it waits for the standby's domain otherwise. -/
  begun : Bool
  /-- The REF cycle of the GO, and what the bank held before the copy: a trigger in that cycle discards the GO (R452). -/
  at_ : Nat
  undo : List Byte
  deriving DecidableEq, Repr

/-- The run of the service DMA in progress (R351 to R359). -/
structure MdmaRun where
  ch : Nat
  src : Nat
  dst : Nat
  left : Nat
  moved : Nat
  esize : Nat
  burst : Nat
  req : Nat
  sinc : Bool
  dinc : Bool
  /-- Chained: CTL and NEXT of the descriptor. -/
  chain : Option (Nat × Nat)
  ie : Bool
  /-- Failures in a row of the access under way, and whether it is a write: a read and a write are counted each on its own
  (R357). -/
  fails : Nat
  failW : Bool
  /-- STOP has come: the run ends at the next element boundary (R358). -/
  stop : Bool
  deriving DecidableEq, Repr

/-! ## The seal unit and adjourning -/

/-- What a seal operation is for (R361 to R366). -/
inductive SealUse where
  /-- SEAL of a context: opening or not, length, destination, and the pad offset of its block. -/
  | instr (c : Nat) (opening : Bool) (len dst block : Nat)
  | save (s : Nat)
  | restore (s : Nat)
  /-- The next report that waits for its sealing in the Packet Return FIFO of port `n`. -/
  | report (n : Nat)
  deriving DecidableEq, Repr

/-- A seal operation: waiting, or started with its copies of the slot (R362, R365). -/
structure SealOp where
  use : SealUse
  slot : Nat
  started : Bool
  gen : Nat
  key : List Word32
  seq : Nat
  /-- The parameter block of a SEAL instruction, as read in its issue cycle (R193, R226). -/
  blk : List Byte
  /-- Source and additional data of a SEAL instruction, as far as read (R226). -/
  src : List Byte
  aad : List Byte
  /-- The output of a SEAL instruction or of a SAVE has been made, and its writes wait or have been issued (R364). -/
  out : Bool := false
  deriving DecidableEq, Repr

/-- A ring as a record holds it (Table 6 of chapter 12). -/
structure RingImage where
  r : Nat
  base : Word64
  dha : Word64
  tsa : Word64
  ctl : Word64
  mod : Word64
  sts : Word64
  done : Word64
  ring : Ring
  deriving DecidableEq, Repr

/-- A handle as a record holds it, with its gambit blocks; `dev` is the index of its device among the identities. -/
structure HandleImage where
  handle : Nat
  dev : Nat
  num : Nat
  typ : Nat
  dirIn : Bool
  cfg : AttCfg
  gsafeS : Bool
  folost : Nat
  bytes : Nat
  interval : Nat
  pend : List GPkt
  orph : List GPkt
  deriving DecidableEq, Repr

/-- The contents of a sealed record (R373, Tables 5 and 6 of chapter 12). Wherever it names a context, it gives its index
among `ctxs`. -/
structure SliceRecord where
  slice : Nat
  serial : Word64
  /-- Clock count and REF cycles at the completion of FREEZE; deadlines of its contexts are in those cycles. -/
  clock : Nat
  time : Nat
  nonce : List Byte
  rings : List RingImage
  ctxs : List Ctx
  handles : List HandleImage
  /-- The identity values of the devices. -/
  idents : List (List Word32)
  sems : List (Nat × Sem)
  /-- Tokens by handle, and ready lists by cluster and level, as the item records hold them. -/
  tokens : List (Nat × Token)
  ready : List (Nat × List Nat)
  /-- Program IDs and the SHA-384 of their images. -/
  progs : List (Nat × Nat)
  deriving DecidableEq, Repr

/-- Recorded gambit data of a handle, with the endpoint context that the handle came back on (R378). -/
structure Owed where
  key : Nat
  ep : Nat
  pend : List GPkt
  orph : List GPkt
  deriving DecidableEq, Repr

/-- The adjourn state of a slice (Table 2 of chapter 12). -/
structure Adj where
  state : Nat
  /-- Clock count and REF cycles at the completion of FREEZE. -/
  clock : Nat
  time : Nat
  /-- THAW acts at the next tick. -/
  thaw : Bool
  /-- Gambit data of a restored record, which becomes pending or orphan at THAW (R378). -/
  owed : List Owed
  deriving DecidableEq, Repr

def Adj.init : Adj := ⟨0, 0, 0, false, []⟩

end Sys2Proof.Machine
end

