-- ==== Sys2Proof/Syntax.lean ====
section
/-!
DEFINITION. The commands: one constructor per row of spec/opcode_table.json, with the operands that the row's
words name. A command is an operation from outside (a register access, a configuration request, a response on a
wire, a pin) or an event whose moment the block's surroundings decide (a timer's expiry, the arrival of a
completion). Indexes are plain numbers; `Instr.wf` in WellFormed.lean states their ranges.
-/
namespace Sys2Proof

/-- Who issues a register access (R14): a function of an upstream port, a management pair, a service DMA channel
or the JTAG port. -/
inductive Requester where
  | func (hp fn : Nat)
  | ma
  | mb
  | dma (ch : Nat)
  | jtag
  deriving DecidableEq, Repr

/-- Where a register access points: an offset in manager space, in a slice's page wherever that stands (R504, R508), or an
address of a host's memory request to a function's BARs (R80, R81). -/
inductive Loc where
  | mgr (off : Nat)
  | page (s off : Nat)
  | mem (addr : Nat)
  deriving DecidableEq, Repr

/-- What a write brings to a register: the data, and the bits of the register that hardware sets in the same cycle (R11). -/
structure Landing (n k : Nat) where
  data : BitVec n
  hw : BitVec k
  deriving DecidableEq, Repr

/-- Where an access of some bytes begins (R12). -/
structure Span where
  loc : Loc
  bytes : Nat
  deriving DecidableEq, Repr

/-- The two input pins of the island as they stand when VDD_AON rises: `svc` says that SVC_N is low (R480). -/
structure Pins where
  resetN : Bool
  svc : Bool
  deriving DecidableEq, Repr

/-- Strap levels as they stand at the pins when they are sampled (R21, R72, R73). -/
structure Straps where
  mgrSel : Nat
  linkCfg : Nat
  bootSrc : Nat
  deriving DecidableEq, Repr

/-- What a start-up finds: self-tests, and the NOR's two directory copies and slots (R467, R485 to R488, R500). -/
structure Boot where
  /-- The two pairs pass their self-tests. -/
  maOk : Bool
  mbOk : Bool
  /-- The two directory copies, 64 bytes each. -/
  copy0 : List Byte
  copy1 : List Byte
  /-- What the two slots hold, from their first byte. -/
  imgA : List Byte
  imgB : List Byte
  deriving DecidableEq, Repr

/-- The answer of a device to an L1 request (R65). -/
inductive LpmResponse where
  | ack | nyet | stall | none
  deriving DecidableEq, Repr

/-- What a configuration request reads: the fields that chapter 3 gives a function (Tables 1 to 3, R78 to R100). -/
inductive ConfigField where
  | vendorId | deviceId | classCode | revisionId | subsystemVendor | subsystemId | interruptPin
  | mse | bme | d3hot | d1d2Support | pmeSupport | pmeEn | pmeStatus | noSoftReset
  | mpsSupported | mps | mrrs | extTagSupported | extTag | tag10Supported | tag10 | flrSupported | ctoRanges | ctoDisable
  | transactionsPending | relaxedOrd | aspmSupported | aspmL1 | lnkCtl2
  | msixSize | msixEn | fmask
  | aerStatus | aerMask | aerSeverity | aerCorStatus | aerCorMask | ecrcGenCap | ecrcGen | ecrcCheckCap | ecrcCheck
  | totalVfs | numVfs | vfEnable | firstVf | vfStride | vfDeviceId | pageSizes | systemPage
  | bar (k : Nat)
  | vfBar (k : Nat)
  | ari | atsQueueDepth | atsPageAligned | atsGlobal | atsEn | pasidWidth | pasidEn | pasidExec | pasidPriv
  | secondary | serial | otherCapability
  deriving DecidableEq, Repr

/-- What a configuration request, or a write to the MSI-X table, does in a function (R78 to R92, R100, R499). -/
inductive ConfigOp where
  | read (f : ConfigField)
  | mse (b : Bool)
  | bme (b : Bool)
  | d3hot (b : Bool)
  | pmeEn (b : Bool)
  | msixEn (b : Bool)
  | fmask (b : Bool)
  | vf (enable : Bool) (num : Nat)
  | extTag (b : Bool)
  | tag10 (b : Bool)
  | mps (bytes : Nat)
  | mrrs (bytes : Nat)
  | pasidEn (b : Bool)
  | atsEn (b : Bool)
  | relaxedOrd (b : Bool)
  | vectorMask (vec : Nat) (b : Bool)
  | vectorEntry (vec addr data : Nat)
  | captureBus (bus : Nat)
  /-- The base address of BAR `k`, and, in PF0's SR-IOV capability, of VF BAR `k`. -/
  | bar (k base : Nat)
  | vfBar (k base : Nat)
  | systemPage (bytes : Nat)
  | aspmL1 (b : Bool)
  | lnkCtl2 (v : Nat)
  | ecrcGen (b : Bool)
  | ecrcCheck (b : Bool)
  /-- Bits written 1 to the AER Uncorrectable and Correctable Error Status registers clear. -/
  | aerClear (v : Nat)
  | aerCorClear (v : Nat)
  | aerMask (v : Nat)
  | aerCorMask (v : Nat)
  | aerSeverity (v : Nat)
  deriving DecidableEq, Repr

/-- Why a host's request is unsupported (R82, Table 6 of chapter 3): Memory Space Enable is 0, it carries a PASID prefix,
or it is a message that the ports do not support. -/
inductive UrCause where
  | mseOff | pasid | message
  deriving DecidableEq, Repr

/-- The quota and window registers of a slice's administration block (Table 2 of chapter 4). -/
inductive QuotaReg where
  | qeng | qmem | qper | qep
  | winBase (w : Nat)
  | winSize (w : Nat)
  | host
  deriving DecidableEq, Repr

/-- A submission entry as read from host memory (R139). `ctx` is the context that the context store gives it: the
spec does not say which free context that is. -/
structure Entry where
  hdr : Word64
  a0 : Word64
  a1 : Word64
  a2 : Word64
  a3 : Word64
  a4 : Word64
  a5 : Word64
  ctx : Nat
  deriving DecidableEq, Repr

/-- What a device, or a TT, answers on a line (R310 to R314). -/
inductive ResponseKind where
  | data | ack | nak | nyet | nrdy | stall | error | wrongToggle
  deriving DecidableEq, Repr

/-- A response: its line, its kind, the payload of a data packet, whether it ends what the service interval
allows (R208), and where the landing buffer places a payload above 24 B (R316), which the spec leaves open. -/
structure Response where
  line : Nat
  kind : ResponseKind
  data : List Byte
  last : Bool
  lba : Nat
  deriving DecidableEq, Repr

/-- The status of a completion (R346): of a read, or of a Translation Request. -/
inductive CompletionStatus where
  | ok | ur | ca | poisoned | granted | denied | error
  deriving DecidableEq, Repr

/-- What RESTORE reads (R375): nothing, a read or a translation having failed for good; or the bytes of the record (not
needed where it lies in SRAM), with the contents that they stand for. -/
inductive RestoreOutcome where
  | fails
  | reads (bytes : List Byte) (r : Machine.SliceRecord)
  deriving DecidableEq, Repr

/-- One sensor conversion (R456, R522, R523). -/
inductive SensorReading where
  | diode (i : Nat) (t : Int)
  | rail (k v : Nat)
  deriving DecidableEq, Repr

/-- The JTAG instructions (R502). -/
inductive JtagCode where
  | bypass | idcode | sample | extest | memap | scan
  | other (code : Nat)
  deriving DecidableEq, Repr

/-- The errors of Table 6 of chapter 3 that the link itself detects (R100). -/
inductive UpstreamError where
  | receiver | badTlp | badDllp | replayTimeout | replayRollover
  | dlProtocol | flowControl | overflow | malformed | ecrc
  deriving DecidableEq, Repr

/-- The commands, in the order of the table. -/
inductive Instr where
  /-- `REGISTER_WRITE` (R8). -/
  | registerWrite (q : Requester) (l : Loc) (v : Landing 32 32)
  /-- `LOW_HALF_READ` (R15). -/
  | lowHalfRead (q : Requester) (l : Span)
  /-- `HIGH_HALF_READ` (R16). -/
  | highHalfRead (q : Requester) (l : Loc)
  /-- `LOW_HALF_WRITE` (R18). -/
  | lowHalfWrite (q : Requester) (l : Loc) (v : Word32)
  /-- `HIGH_HALF_WRITE` (R18). -/
  | highHalfWrite (q : Requester) (l : Loc) (v : Landing 32 64)
  /-- `WRITE_64` (R18). -/
  | write64 (q : Requester) (l : Loc) (v : Landing 64 64)
  /-- `MISALIGNED_ACCESS` (R12). -/
  | misalignedAccess (q : Requester) (l : Span) (write : Bool)
  /-- `NARROW_WRITE` (R12). -/
  | narrowWrite (q : Requester) (l : Loc)
  /-- `POWER_ON_RESET` (R472). -/
  | powerOnReset (extAclk rails : Bool) (pins : Pins) (st : Straps) (b : Boot)
  /-- `RAIL_POWER_FAIL` (R473). -/
  | railPowerFail (rail : Nat)
  /-- `RAILS_GOOD` (R473). -/
  | railsGood (st : Straps) (b : Boot)
  /-- `RESET_N_ASSERT` (R477). -/
  | resetNAssert
  /-- `RESET_N_RELEASE` (R478). -/
  | resetNRelease (hold : Nat) (st : Straps) (b : Boot)
  /-- `GLB_RST_WARM` (R484). -/
  | glbRstWarm (q : Requester) (b : Boot)
  /-- `ACLK_LOSS` (R519). -/
  | aclkLoss
  /-- `CLOCK_TICK` (R271). -/
  | clockTick
  /-- `REF_STOP` (R273). -/
  | refStop
  /-- `REF_RESTART` (R273). -/
  | refRestart
  /-- `SNAPSHOT_TAKE` (R274). -/
  | snapshotTake (q : Requester)
  /-- `PORT_CTL_PP_WRITE` (R51). -/
  | portCtlPpWrite (q : Requester) (n : Nat) (pp : Bool)
  /-- `PGOOD_ELAPSED` (R51). -/
  | pgoodElapsed (n : Nat) (ss : Bool)
  /-- `USB2_CONNECT` (R51). -/
  | usb2Connect (n : Nat) (low : Bool)
  /-- `DEBOUNCE_EXPIRY` (R51). -/
  | debounceExpiry (n : Nat)
  /-- `PORT_CTL_RESET` (R51). -/
  | portCtlReset (q : Requester) (n : Nat) (ss : Bool)
  /-- `DEVICE_CHIRP` (R56). -/
  | deviceChirp (n : Nat)
  /-- `BUS_RESET_END` (R51). -/
  | busResetEnd (n : Nat)
  /-- `TRAFFIC_HOLD_END` (R55). -/
  | trafficHoldEnd (n : Nat)
  /-- `PORT_CTL_SUSPEND` (R51). -/
  | portCtlSuspend (q : Requester) (n : Nat) (ss : Bool)
  /-- `SUSPEND_IDLE_L2` (R51). -/
  | suspendIdleL2 (n : Nat)
  /-- `PORT_CTL_RESUME` (R51). -/
  | portCtlResume (q : Requester) (n : Nat) (ss : Bool)
  /-- `DEVICE_RESUME_K` (R51). -/
  | deviceResumeK (n : Nat)
  /-- `RESUME_END` (R51). -/
  | resumeEnd (n : Nat)
  /-- `PORT_CTL_DISABLE` (R51). -/
  | portCtlDisable (q : Requester) (n : Nat) (ss : Bool)
  /-- `PORT_CTL_WRESET` (R51). -/
  | portCtlWreset (q : Requester) (n : Nat)
  /-- `USB2_DISCONNECT` (R57). -/
  | usb2Disconnect (n : Nat)
  /-- `FRAME_BABBLE` (R314). -/
  | frameBabble (n : Nat)
  /-- `SS_TERMINATIONS_DETECTED` (R51). -/
  | ssTerminationsDetected (n : Nat)
  /-- `SS_LINK_U0` (R51). -/
  | ssLinkU0 (n speed : Nat)
  /-- `SS_POLLING_FAIL` (R51). -/
  | ssPollingFail (n : Nat)
  /-- `HOT_RESET_ESCALATE` (R51). -/
  | hotResetEscalate (n : Nat)
  /-- `WARM_RESET_TIMEOUT` (R51). -/
  | warmResetTimeout (n : Nat)
  /-- `SS_U3_WAKE` (R51). -/
  | ssU3Wake (n : Nat)
  /-- `SS_RESUME_TIMEOUT` (R51). -/
  | ssResumeTimeout (n : Nat)
  /-- `SS_RECOVERY_FAIL` (R51). -/
  | ssRecoveryFail (n : Nat)
  /-- `SS_TERMINATIONS_ABSENT` (R51). -/
  | ssTerminationsAbsent (n : Nat)
  /-- `FLIP_CHANGE` (R58). -/
  | flipChange (n : Nat) (level : Bool)
  /-- `PORT_CTL_TEST_WRITE` (R496). -/
  | portCtlTestWrite (q : Requester) (n code : Nat)
  /-- `OCI_CHANGE` (R60). -/
  | ociChange (n : Nat) (active : Bool)
  /-- `OC_FILTER_EXPIRY` (R61). -/
  | ocFilterExpiry (n : Nat)
  /-- `PORT_GANG_WRITE` (R64). -/
  | portGangWrite (q : Requester) (g : Nat) (v : Word32)
  /-- `LPM_L1_RESPONSE` (R65). -/
  | lpmL1Response (n : Nat) (resp : LpmResponse)
  /-- `L1_REMOTE_WAKE` (R66). -/
  | l1RemoteWake (n : Nat)
  /-- `DEVICE_LGO_UX` (R67). -/
  | deviceLgoUx (n : Nat) (u2 : Bool)
  /-- `ERDY_RECEIVED` (R70). -/
  | erdyReceived (ep stream : Nat)
  /-- `CDP_VDP_SRC` (R71). -/
  | cdpVdpSrc (n : Nat) (on : Bool)
  /-- `HP_LTE_WRITE` (R74). -/
  | hpLteWrite (q : Requester) (p : Nat) (on : Bool)
  /-- `HP_RETRAIN` (R75). -/
  | hpRetrain (q : Requester) (p : Nat)
  /-- `DL_UP` (R79). -/
  | dlUp (p speed width : Nat) (eqFail : Bool)
  /-- `LINK_DOWN` (R97). -/
  | linkDown (p : Nat)
  /-- `HOT_RESET_RECEIVED` (R97). -/
  | hotResetReceived (p : Nat) (disabled : Bool)
  /-- `FLR` (R98). -/
  | flr (p fn : Nat)
  /-- `CONFIG_REQUEST` (R79). -/
  | configRequest (p fn : Nat) (op : ConfigOp)
  /-- `PME_TURN_OFF` (R77). -/
  | pmeTurnOff (p : Nat)
  /-- `HOST_REQUEST_UR` (R82). -/
  | hostRequestUr (p fn : Nat) (why : UrCause)
  /-- `POISONED_WRITE` (R100). -/
  | poisonedWrite (q : Requester) (l : Loc)
  /-- `ATS_INVALIDATE_REQUEST` (R87). -/
  | atsInvalidateRequest (p fn : Nat) (pasid : Option Nat) (page pages : Nat) (glob : Bool)
  /-- `ATS_INVALIDATE_COMPLETION` (R87). -/
  | atsInvalidateCompletion (p fn : Nat)
  /-- `BUS_MASTER_ENABLE_RETURN` (R85). -/
  | busMasterEnableReturn (p fn : Nat)
  /-- `MSIX_PENDING_RELEASE` (R92). -/
  | msixPendingRelease (p fn vec : Nat)
  /-- `MGR_CLAIM` (R95). -/
  | mgrClaim (q : Requester) (token : Nat)
  /-- `MGR_RELEASE` (R95). -/
  | mgrRelease (q : Requester) (token : Nat)
  /-- `LOCAL_RELEASE` (R95). -/
  | localRelease (q : Requester)
  /-- `LOCAL_DECLINE` (R95). -/
  | localDecline (q : Requester)
  /-- `CLAIM_TIMER_EXPIRY` (R94). -/
  | claimTimerExpiry
  /-- `MGR_TMO_WRITE` (R94). -/
  | mgrTmoWrite (q : Requester) (v : Word32)
  /-- `SLC_BIND_WRITE` (R103). -/
  | slcBindWrite (q : Requester) (sl : Nat) (v : Word32)
  /-- `SLC_QUOTA_WRITE` (R107). -/
  | slcQuotaWrite (q : Requester) (sl : Nat) (r : QuotaReg) (v : Word64)
  /-- `SLC_FENCE` (R131). -/
  | slcFence (q : Requester) (sl : Nat)
  /-- `SLC_RESET` (R132). -/
  | slcReset (q : Requester) (sl : Nat)
  /-- `SLC_UNBIND` (R105). -/
  | slcUnbind (q : Requester) (sl : Nat)
  /-- `SL_CSR_RESET` (R132). -/
  | slCsrReset (q : Requester) (sl : Nat)
  /-- `SLICE_RESET_COMPLETE` (R132). -/
  | sliceResetComplete (sl : Nat)
  /-- `EPA_ASSIGN` (R115). -/
  | epaAssign (q : Requester)
  /-- `EPA_UNASSIGN` (R117). -/
  | epaUnassign (q : Requester)
  /-- `EPA_UPDATE` (R116). -/
  | epaUpdate (q : Requester)
  /-- `EPA_RETARGET` (R118). -/
  | epaRetarget (q : Requester)
  /-- `EPA_SEC_REVOKE` (R127). -/
  | epaSecRevoke (q : Requester)
  /-- `EPA_BAD_COMMAND` (R115). -/
  | epaBadCommand (q : Requester) (code : Nat)
  /-- `EPA_COMMAND_DONE` (R115). -/
  | epaCommandDone
  /-- `GSAFE_SET` (R119). -/
  | gsafeSet (q : Requester) (sl h : Nat)
  /-- `GSAFE_CLR` (R119). -/
  | gsafeClr (q : Requester) (sl h : Nat)
  /-- `SEC_CLAIM` (R124). -/
  | secClaim (q : Requester) (sl h : Nat)
  /-- `SEC_RELEASE` (R127). -/
  | secRelease (q : Requester) (sl h : Nat)
  /-- `LOST_CLR` (R119). -/
  | lostClr (q : Requester) (sl h : Nat)
  /-- `MBX_SLICE_DB` (R128). -/
  | mbxSliceDb (q : Requester) (sl : Nat)
  /-- `MBX_IN_ACK` (R128). -/
  | mbxInAck (q : Requester) (sl : Nat)
  /-- `MBX_MGR_DB` (R128). -/
  | mbxMgrDb (q : Requester) (sl : Nat)
  /-- `MBX_MGR_ACK` (R128). -/
  | mbxMgrAck (q : Requester) (sl : Nat)
  /-- `DOORBELL` (R145). -/
  | doorbell (q : Requester) (sl r : Nat)
  /-- `ENTRY_FETCH_COMPLETE` (R145). -/
  | entryFetchComplete (sl r : Nat) (batch : List Entry)
  /-- `SCAN_RESUME` (R145). -/
  | scanResume (sl r : Nat)
  /-- `ENTRY_INVOKE` (R140). -/
  | entryInvoke (sl r : Nat) (e : Entry)
  /-- `ENTRY_NOP` (R140). -/
  | entryNop (sl r : Nat) (e : Entry)
  /-- `ENTRY_FENCE` (R140). -/
  | entryFence (sl r : Nat) (e : Entry)
  /-- `ENTRY_ABORT` (R140). -/
  | entryAbort (sl r : Nat) (e : Entry)
  /-- `ENTRY_RESERVE` (R140). -/
  | entryReserve (sl r : Nat) (e : Entry)
  /-- `ENTRY_RELEASE` (R140). -/
  | entryRelease (sl r : Nat) (e : Entry)
  /-- `RING_ENABLE` (R137). -/
  | ringEnable (q : Requester) (sl r : Nat) (v : Word32)
  /-- `RING_SHUTDOWN` (R157). -/
  | ringShutdown (q : Requester) (sl r : Nat)
  /-- `RING_IE_CHANGE` (R136). -/
  | ringIeChange (q : Requester) (sl r : Nat)
  /-- `WORK_ITEM_FINISH` (R146). -/
  | workItemFinish (sl r : Nat)
  /-- `MODERATION_TIMER_EXPIRY` (R153). -/
  | moderationTimerExpiry (sl r : Nat)
  /-- `DSP_LOAD` (R170). -/
  | dspLoad (q : Requester) (sl prog : Nat)
  /-- `DSP_UNLOAD` (R172). -/
  | dspUnload (q : Requester) (sl prog : Nat)
  /-- `DSP_LD_BAD_COMMAND` (R170). -/
  | dspLdBadCommand (q : Requester) (code : Nat)
  /-- `LOAD_COMPLETE` (R171). -/
  | loadComplete (image : Option (List Word32)) (blocks : List Nat)
  /-- `ADD` (R196). -/
  | add (c d a b : Nat)
  /-- `SUB` (R196). -/
  | sub (c d a b : Nat)
  /-- `AND` (R196). -/
  | andd (c d a b : Nat)
  /-- `OR` (R196). -/
  | orr (c d a b : Nat)
  /-- `XOR` (R196). -/
  | xor (c d a b : Nat)
  /-- `SHL` (R196). -/
  | shl (c d a b : Nat)
  /-- `SHR` (R196). -/
  | shr (c d a b : Nat)
  /-- `SAR` (R196). -/
  | sar (c d a b : Nat)
  /-- `MUL` (R196). -/
  | mul (c d a b : Nat)
  /-- `ADDI` (R196). -/
  | addi (c d a : Nat) (imm : BitVec 16)
  /-- `ANDI` (R196). -/
  | andi (c d a : Nat) (imm : BitVec 16)
  /-- `ORI` (R196). -/
  | ori (c d a : Nat) (imm : BitVec 16)
  /-- `XORI` (R196). -/
  | xori (c d a : Nat) (imm : BitVec 16)
  /-- `SHLI` (R196). -/
  | shli (c d a : Nat) (imm : BitVec 16)
  /-- `SHRI` (R196). -/
  | shri (c d a : Nat) (imm : BitVec 16)
  /-- `SARI` (R196). -/
  | sari (c d a : Nat) (imm : BitVec 16)
  /-- `MOVI` (R196). -/
  | movi (c d x : Nat) (imm : BitVec 16)
  /-- `MOVK` (R196). -/
  | movk (c d x : Nat) (imm : BitVec 16)
  /-- `MFS` (R197). -/
  | mfs (c d sp : Nat)
  /-- `MTS` (R197). -/
  | mts (c sp a : Nat)
  /-- `CMP` (R198). -/
  | cmp (c a b : Nat)
  /-- `CMPI` (R198). -/
  | cmpi (c a : Nat) (imm : BitVec 16)
  /-- `TST` (R198). -/
  | tst (c a b : Nat)
  /-- `BTST` (R198). -/
  | btst (c a : Nat) (imm : BitVec 16)
  /-- `STCMP` (R198). -/
  | stcmp (c : Nat) (imm : BitVec 8)
  /-- `B` (R199). -/
  | b (c cond target : Nat)
  /-- `CALL` (R200). -/
  | call (c target : Nat)
  /-- `RET` (R200). -/
  | ret (c : Nat)
  /-- `LDP` (R201). -/
  | ldp (c d a size off : Nat)
  /-- `STP` (R201). -/
  | stp (c d a size off : Nat)
  /-- `HLD` (R202). -/
  | hld (c d a size : Nat) (off : BitVec 16)
  /-- `HST` (R202). -/
  | hst (c d a size : Nat) (off : BitVec 16)
  /-- `SETUP` (R207). -/
  | setup (c : Nat) (async : Bool) (a : Nat)
  /-- `IN` (R208). -/
  | inn (c : Nat) (async : Bool) (a b : Nat)
  /-- `OUT` (R205). -/
  | out (c : Nat) (async : Bool) (a b : Nat)
  /-- `PING` (R205). -/
  | ping (c : Nat) (async : Bool)
  /-- `STATUS` (R207). -/
  | status (c : Nat) (async : Bool)
  /-- `ISOIN` (R214). -/
  | isoin (c : Nat) (async : Bool) (a : Nat)
  /-- `ISOOUT` (R214). -/
  | isoout (c : Nat) (async : Bool) (a : Nat)
  /-- `STREAM` (R212). -/
  | stream (c : Nat) (async : Bool) (a : Nat)
  /-- `GATHER` (R212). -/
  | gather (c : Nat) (async : Bool) (a : Nat)
  /-- `SCATTER` (R212). -/
  | scatter (c : Nat) (async : Bool) (a : Nat)
  /-- `CANCEL` (R219). -/
  | cancel (c : Nat)
  /-- `WAIT` (R217). -/
  | wait (c d t : Nat) (mask : BitVec 4)
  /-- `WAITCLK` (R218). -/
  | waitclk (c a : Nat)
  /-- `LOCK` (R221). -/
  | lock (c a : Nat)
  /-- `TRYLOCK` (R221). -/
  | trylock (c a : Nat)
  /-- `UNLOCK` (R221). -/
  | unlock (c a : Nat)
  /-- `POST` (R222). -/
  | post (c code : Nat)
  /-- `YIELD` (R223). -/
  | yield (c : Nat)
  /-- `SPAWN` (R224). -/
  | spawn (c prog a h off k : Nat)
  /-- `FENCE` (R225). -/
  | fence (c : Nat)
  /-- `SEAL` (R226). -/
  | seal (c mode a : Nat)
  /-- `DOZE` (R227). -/
  | doze (c : Nat)
  /-- `BUS_OPERATION_END` (R216). -/
  | busOperationEnd (c : Nat)
  /-- `BUS_OPERATION_BOUNDARY` (R186). -/
  | busOperationBoundary (c : Nat)
  /-- `HLD_COMPLETION` (R202). -/
  | hldCompletion (c : Nat) (data : Word64)
  /-- `POSTED_WRITE_DEPARTURE` (R338). -/
  | postedWriteDeparture (w : Nat)
  /-- `WAIT_TIMEOUT` (R217). -/
  | waitTimeout (c : Nat)
  /-- `WAITCLK_REACHED` (R218). -/
  | waitclkReached (c : Nat)
  /-- `INSTRUCTION_FENCE_DONE` (R225). -/
  | instructionFenceDone (c : Nat)
  /-- `ENGINE_FREE` (R235). -/
  | engineFree (te : Nat)
  /-- `QUANTUM_PREEMPT` (R243). -/
  | quantumPreempt (te : Nat)
  /-- `SUSPEND_LEAVE` (R246). -/
  | suspendLeave (c : Nat)
  /-- `STEAL` (R249). -/
  | steal (k : Nat)
  /-- `NEIGHBOUR_RESORT` (R255). -/
  | neighbourResort
  /-- `STALEMATE_DETECTION` (R268). -/
  | stalemateDetection
  /-- `SEM_CTL_RELEASE` (R262). -/
  | semCtlRelease (q : Requester) (ix : Nat)
  /-- `SEM_CFG_WRITE` (R259). -/
  | semCfgWrite (q : Requester) (ix : Nat) (v : Word32)
  /-- `RESERVE_DECISION` (R288). -/
  | reserveDecision (j : Nat)
  /-- `BOARD_BUILD_DONE` (R291). -/
  | boardBuildDone (pl : Nat) (equal : Bool)
  /-- `PLN_REINSTATE` (R294). -/
  | plnReinstate (q : Requester) (j : Nat)
  /-- `SYNC_START` (R299). -/
  | syncStart (q : Requester)
  /-- `SYNC_STOP` (R299). -/
  | syncStop (q : Requester)
  /-- `SYNC_SLEW` (R299). -/
  | syncSlew (q : Requester)
  /-- `FSYNC_EDGE` (R297). -/
  | fsyncEdge (sub : Nat)
  /-- `FSYNC_LOSS_TIMEOUT` (R299). -/
  | fsyncLossTimeout
  /-- `REQUEST_QUEUE_ADMIT` (R303). -/
  | requestQueueAdmit (n : Nat)
  /-- `PLACEMENT_START` (R306). -/
  | placementStart (n line : Nat)
  /-- `ASYNC_TRANSACTION_START` (R308). -/
  | asyncTransactionStart (n line rank np : Nat)
  /-- `GAMBIT_START` (R322). -/
  | gambitStart (n line rank np : Nat)
  /-- `RESPONSE_RECEIVED` (R311). -/
  | responseReceived (n : Nat) (r : Response)
  /-- `RESPONSE_TIMEOUT` (R310). -/
  | responseTimeout (n line : Nat)
  /-- `FIFO_WRITE_COMPLETE` (R318). -/
  | fifoWriteComplete (n : Nat)
  /-- `RETURN_ITEM_READ` (R317). -/
  | returnItemRead (n : Nat)
  /-- `PRF_POINTER_ERROR` (R321). -/
  | prfPointerError (n : Nat)
  /-- `PORT_DET_DETACH` (R331). -/
  | portDetDetach (q : Requester) (n dev : Nat)
  /-- `GPOOL_SIZE_WRITE` (R330). -/
  | gpoolSizeWrite (q : Requester) (v : Word32)
  /-- `PHY_PLL_LOCK_LOSS` (R422). -/
  | phyPllLockLoss (n : Nat) (ss : Bool)
  /-- `COMPLETION_RECEIVED` (R348). -/
  | completionReceived (p tag : Nat) (r : CompletionStatus) (data : List Byte)
  /-- `COMPLETION_TIMEOUT` (R347). -/
  | completionTimeout (tag : Nat)
  /-- `REQUEST_RETRY` (R349). -/
  | requestRetry (tag : Nat)
  /-- `MDMA_START` (R356). -/
  | mdmaStart (q : Requester) (ch : Nat)
  /-- `MDMA_STOP` (R358). -/
  | mdmaStop (q : Requester) (ch : Nat)
  /-- `MDMA_RUN_START` (R351). -/
  | mdmaRunStart
  /-- `MDMA_BURST` (R353). -/
  | mdmaBurst
  /-- `MDMA_ACCESS_FAIL` (R357). -/
  | mdmaAccessFail
  /-- `MDMA_RUN_END` (R355). -/
  | mdmaRunEnd
  /-- `SEAL_KEY_LOAD` (R360). -/
  | sealKeyLoad (q : Requester) (slot use : Nat)
  /-- `SEAL_KEY_ERASE` (R363). -/
  | sealKeyErase (q : Requester) (slot : Nat)
  /-- `SEAL_KEY_BAD_COMMAND` (R360). -/
  | sealKeyBadCommand (q : Requester) (code : Nat)
  /-- `SEAL_ERASE_DONE` (R363). -/
  | sealEraseDone
  /-- `SEAL_OP_START` (R365). -/
  | sealOpStart
  /-- `SEAL_OP_COMPLETE` (R364). -/
  | sealOpComplete (k : Nat)
  /-- `ADJ_FREEZE` (R368). -/
  | adjFreeze (q : Requester) (sl slot : Nat)
  /-- `FREEZE_COMPLETE` (R368). -/
  | freezeComplete
  /-- `ADJ_SAVE` (R371). -/
  | adjSave (q : Requester) (sl slot : Nat)
  /-- `SAVE_COMPLETE` (R371). -/
  | saveComplete (ok : Bool)
  /-- `ADJ_RELEASE` (R372). -/
  | adjRelease (q : Requester) (sl slot : Nat)
  /-- `ADJ_RESTORE` (R375). -/
  | adjRestore (q : Requester) (sl slot : Nat)
  /-- `RESTORE_COMPLETE` (R375). -/
  | restoreComplete (o : RestoreOutcome)
  /-- `ADJ_THAW` (R378). -/
  | adjThaw (q : Requester) (sl slot : Nat)
  /-- `ADJ_BAD_COMMAND` (R367). -/
  | adjBadCommand (q : Requester) (code : Nat)
  /-- `SEAL_ID_WRITE` (R376). -/
  | sealIdWrite (q : Requester) (dev : Nat)
  /-- `SEAL_ID_READ` (R376). -/
  | sealIdRead (q : Requester) (dev : Nat)
  /-- `FW_VERIFY_GO` (R380). -/
  | fwVerifyGo (q : Requester) (len : Nat)
  /-- `FW_VERIFY_DONE` (R380): whether the image could be fetched, and, where several fused key hashes equal that of the image,
  which of them matched (log entry 47). -/
  | fwVerifyDone (fetched : Bool) (key : Nat)
  /-- `PWR_ENTRY_REQUEST` (R384). -/
  | pwrEntryRequest (q : Requester) (d mode : Nat)
  /-- `PWR_WAKE_WRITE` (R389). -/
  | pwrWakeWrite (q : Requester) (d : Nat)
  /-- `DOMAIN_ENTRY_START` (R387). -/
  | domainEntryStart (d : Nat)
  /-- `ENTRY_STEP_COMPLETE` (R387). -/
  | entryStepComplete (d : Nat) (wake : Bool)
  /-- `RETURN_STEP_READY` (R390). -/
  | returnStepReady (d : Nat)
  /-- `RETURN_STEP_STUCK` (R390). -/
  | returnStepStuck (d : Nat)
  /-- `DEMAND_WAKE` (R389). -/
  | demandWake (d : Nat)
  /-- `NATIVE_LINE_EVENT` (R396). -/
  | nativeLineEvent (n : Nat)
  /-- `VBUS_SENSE_EVENT` (R396). -/
  | vbusSenseEvent (p : Nat)
  /-- `LFPS_WAKE` (R397). -/
  | lfpsWake (n : Nat)
  /-- `EI_EXIT_WAKE` (R397). -/
  | eiExitWake (p : Nat)
  /-- `BIAS_HOLD_EXPIRY` (R394). -/
  | biasHoldExpiry (d : Nat)
  /-- `PREDICTOR_DELAY_EXPIRY` (R403). -/
  | predictorDelayExpiry (n : Nat) (ss acc : Bool)
  /-- `PREDICTOR_FORCE_EXPIRY` (R403). -/
  | predictorForceExpiry (n : Nat) (ss acc : Bool)
  /-- `AVS_EVALUATION` (R405). -/
  | avsEvaluation (need : List Nat)
  /-- `AVS_SETTLE_EXPIRY` (R406). -/
  | avsSettleExpiry
  /-- `AVS_REGULATOR_WRITE_DONE` (R407). -/
  | avsRegulatorWriteDone (ok : Bool)
  /-- `AVS_POLICY_WRITE` (R406). -/
  | avsPolicyWrite (q : Requester) (v : Word32)
  /-- `IC_SWI_WRITE` (R410). -/
  | icSwiWrite (q : Requester) (bits : BitVec 8)
  /-- `GPIO_INPUT_CHANGE` (R412). -/
  | gpioInputChange (k : Nat) (level : Bool)
  /-- `GPIO_FILTER_TICK` (R412). -/
  | gpioFilterTick
  /-- `IC_SRC_WRITE` (R413). -/
  | icSrcWrite (q : Requester) (ix : Nat) (v : Word32)
  /-- `IC_CLAIM` (R415). -/
  | icClaim (q : Requester) (mb : Bool)
  /-- `IC_COMPLETE` (R416). -/
  | icComplete (q : Requester) (mb : Bool) (id : Nat)
  /-- `FAULT_WINDOW_EXPIRY` (R425). -/
  | faultWindowExpiry (ix : Nat)
  /-- `FAULT_QUIET_EXPIRY` (R431). -/
  | faultQuietExpiry (ix : Nat)
  /-- `OC_HOLD_QUIET_EXPIRY` (R428). -/
  | ocHoldQuietExpiry (n : Nat)
  /-- `FLT_CLEAR` (R435). -/
  | fltClear (q : Requester) (ix : Nat)
  /-- `FLT_HCLEAR` (R438). -/
  | fltHclear (q : Requester)
  /-- `FLT_FORCE` (R440). -/
  | fltForce (q : Requester) (ix detail : Nat)
  /-- `FLT_RAISE` (R441). -/
  | fltRaise (q : Requester) (ix detail : Nat)
  /-- `FLT_CFG_WRITE` (R426). -/
  | fltCfgWrite (q : Requester) (ix : Nat) (v : Word32)
  /-- `ALIVE_TOGGLE` (R432). -/
  | aliveToggle
  /-- `ALIVE_HALT_WRITE` (R432). -/
  | aliveHaltWrite (q : Requester) (halt : Bool)
  /-- `SENSOR_SAMPLE` (R456). -/
  | sensorSample (r : SensorReading)
  /-- `ECC_UE_DETECTED` (R422). -/
  | eccUeDetected (m addr : Nat)
  /-- `ECC_CE_DETECTED` (R422). -/
  | eccCeDetected (m addr : Nat)
  /-- `LOCKSTEP_MISMATCH` (R443). -/
  | lockstepMismatch (mb : Bool)
  /-- `FAILOVER_RESUME` (R451). -/
  | failoverResume
  /-- `MGT_READY` (R454). -/
  | mgtReady (q : Requester)
  /-- `MGT_FAILOVER` (R451). -/
  | mgtFailover (q : Requester)
  /-- `MGT_REBOOT_STBY` (R455). -/
  | mgtRebootStby (q : Requester)
  /-- `MGT_PEER_DB` (R410). -/
  | mgtPeerDb (q : Requester)
  /-- `WDT_KICK` (R450). -/
  | wdtKick (q : Requester)
  /-- `WATCHDOG_EXPIRY` (R450). -/
  | watchdogExpiry
  /-- `CKPT_GO` (R448). -/
  | ckptGo (q : Requester) (len : Nat)
  /-- `CHECKPOINT_COMMIT` (R448). -/
  | checkpointCommit
  /-- `TLM_SNAP` (R458). -/
  | tlmSnap (q : Requester)
  /-- `FWMB_HDB` (R466). -/
  | fwmbHdb (q : Requester)
  /-- `FWMB_HACK` (R466). -/
  | fwmbHack (q : Requester)
  /-- `FWMB_FDB` (R466). -/
  | fwmbFdb (q : Requester)
  /-- `FWMB_FACK` (R466). -/
  | fwmbFack (q : Requester)
  /-- `SVC_PRESS_DECIDE` (R481). -/
  | svcPressDecide (cycles : Nat) (st : Straps) (b : Boot)
  /-- `SVC_STUCK_DECISION` (R481). -/
  | svcStuckDecision
  /-- `PORT_CYCLE_END` (R482). -/
  | portCycleEnd
  /-- `PORT_TST_START` (R494). -/
  | portTstStart (q : Requester) (n : Nat) (v : Word32)
  /-- `PORT_TST_STOP` (R493). -/
  | portTstStop (q : Requester) (n bits errs : Nat)
  /-- `LOOPBACK_LOCK` (R492). -/
  | loopbackLock (up : Bool) (n : Nat)
  /-- `LOOPBACK_LOCK_LOST` (R492). -/
  | loopbackLockLost (up : Bool) (n bits errs : Nat)
  /-- `HP_TST_START` (R498). -/
  | hpTstStart (q : Requester) (p : Nat) (v : Word32)
  /-- `HP_TST_STOP` (R498). -/
  | hpTstStop (q : Requester) (p bits errs : Nat)
  /-- `BIST_START` (R501). -/
  | bistStart (q : Requester) (d : Nat)
  /-- `BIST_DONE` (R501). -/
  | bistDone (fail : Option Nat)
  /-- `JTAG_INSTRUCTION` (R503). -/
  | jtagInstruction (ix : JtagCode)
  /-- `OC_INACTIVE_FILTER_EXPIRY` (R62). -/
  | ocInactiveFilterExpiry (n : Nat)
  /-- `VDD_AON_FAIL` (R512). -/
  | vddAonFail
  /-- `SVC_PRESS_START` (R480). -/
  | svcPressStart
  /-- `ACLK_CLOCK_COUNT_ADVANCE` (R273). -/
  | aclkClockCountAdvance
  /-- `SS_LINK_RECOVERY` (R312). -/
  | ssLinkRecovery (n : Nat)
  /-- `UPSTREAM_ERROR_DETECTED` (R100). -/
  | upstreamErrorDetected (p fn : Nat) (err : UpstreamError)
  /-- `ROUTER_LOOPBACK_ENTRY` (R498). -/
  | routerLoopbackEntry (p : Nat)
  /-- `UNLOAD_COMPLETE` (R172). -/
  | unloadComplete
  /-- `KEY_LOAD_COMPLETE` (R360). -/
  | keyLoadComplete
  deriving DecidableEq, Repr

end Sys2Proof
end

