-- ==== Sys2Proof/Config.lean ====
section
/-!
DEFINITION. What a part fixes at production (fuses, grades, ROM contents), and the values that the spec leaves
open. Every constant here has no body: a statement about it holds whatever its value is.
-/
namespace Sys2Proof

/-- The silicon revision fused into `GLB_ID.REV` (R509). -/
opaque Config.revision : BitVec 4
/-- The grade fused into `GLB_ID.GRADE`: 0 RFH7120-C, 1 RFH7120-E (R2, R509). -/
opaque Config.gradeFuse : BitVec 2
/-- The fused serial number (R509), and the fused PCI Express identification (R78). -/
opaque Config.serial : BitVec 64
opaque Config.vendorId : BitVec 16
opaque Config.subsystemVendor : BitVec 16
opaque Config.subsystemId : BitVec 16
/-- The keys revoked by fuse, `SEAL_FW_STS.REVOKED`, the four fused key hashes and the fused minimum of an image's security
version (R380). -/
opaque Config.revokedKeys : BitVec 4
opaque Config.fusedKeyHash : Nat → BitVec 384
opaque Config.fusedMinVersion : Nat
/-- A firmware image, whose Omloth container the spec names without its layout (R380): whether it parses, SHA-384 of the
public key in it, its security version, whether its ECDSA P-384 signature verifies. -/
opaque Config.fwParses : List Byte → Bool
opaque Config.fwKeyHash : List Byte → BitVec 384
opaque Config.fwVersion : List Byte → Nat
opaque Config.fwSigOk : List Byte → Bool
/-- The size of the NOR: 32, 64 or 128 MiB (R459). -/
opaque Config.norCode : Fin 3
def Config.norSize : Nat := 0x2000000 * 2 ^ Config.norCode.val
/-- The fused default prediction of path `q` of port `n` in µs (R401). -/
opaque Config.fusedPred : Nat → Nat → BitVec 16
/-- The fused U2 exit latency of port `n` (R404). -/
opaque Config.fusedU2el : Nat → BitVec 11
/-- The fused U1 exit latency of port `n` (R404). -/
opaque Config.fusedU1el : Nat → BitVec 8
/-- The fused safe core voltage in mV (R408). -/
opaque Config.fusedVout : BitVec 10
/-- It is never above 0.80 V (R474). -/
def Config.fusedMv : Nat := min 800 Config.fusedVout.toNat
/-- The fused clock step for a core voltage in mV (R408). -/
opaque Config.fusedStep : Nat → Nat
/-- The fused manufacturer code of IDCODE (R502). -/
opaque Config.jtagMaker : BitVec 11
/-- Fuse TLOCK (R503). -/
opaque Config.tlock : BitVec 1
/-- Fuse DLOCK (R503). -/
opaque Config.dlock : BitVec 1
/-- AES-256-GCM, a standard outside the spec (R126, R226, R371): byte `i` of the key stream for a key and nonce, and the
tag over additional data and ciphertext. -/
opaque Config.gcmStream : List Word32 → List Byte → Nat → Byte
opaque Config.gcmTag : List Word32 → List Byte → List Byte → List Byte → BitVec 128
/-- CRC-32, which the spec names without its polynomial (R448). -/
opaque Config.crc32 : List Byte → BitVec 32
/-- SHA-384 of a program image (R373, R375). -/
opaque Config.sha384 : List Word32 → Nat
/-- A value the spec leaves open, fresh for every counter value: nothing constrains it. -/
opaque Config.freeWord : Nat → Word64
/-- What a register field whose value the spec leaves open reads as: it depends on that counter, the time and the place, so
that reading it again at once gives the same (R10). -/
opaque Config.openRead : Nat → Nat → Nat → Word64
/-- An open choice between two outcomes, fresh for every counter value. -/
opaque Config.freeBit : Nat → Bool

end Sys2Proof
end

