-- ==== Sys2Proof/Machine/Reg.lean ====
section
/-!
DEFINITION. The register map: every register of chapter 19, with its address, its width, the reset kind of its
header line, its fields with their access types (R8) and its reset value (R6). Field constants carry the names
of the spec's register tables. Registers of slice pages take the slice first.
-/
namespace Sys2Proof.Machine

/-- The registers (R505, R507, R508). An index outside the range of `Reg.ofAddr` names no register (R507). -/
inductive Reg where
  | portSts (n : Nat)
  | portCtl (n : Nat)
  | portCfg (n : Nat)
  | portOc (n : Nat)
  | portLink (n : Nat)
  | portGang (g : Nat)
  | glbHpCfg
  | glbHpCtl (p : Nat)
  | glbHpSts (p : Nat)
  | glbMgrClaim
  | glbMgrSts
  | glbMgrTmo
  | slcBind (s : Nat)
  | slcHost (s : Nat)
  | slcCsr (s : Nat)
  | slcQeng (s : Nat)
  | slcQmem (s : Nat)
  | slcQper (s : Nat)
  | slcQep (s : Nat)
  | slcWinBase (s : Nat) (w : Nat)
  | slcWinSize (s : Nat) (w : Nat)
  | slcEpaA
  | slcEpaB
  | slcEpaCs
  | epvCsr (s : Nat)
  | epvResult (s : Nat)
  | mbxCsr (s : Nat)
  | mbxSCsr (s : Nat)
  | mbxPend (k : Nat)
  | mbxRst (k : Nat)
  | mbxMcsr
  | slCsr (s : Nat)
  | ringBase (s : Nat) (r : Nat)
  | ringDha (s : Nat) (r : Nat)
  | ringTsa (s : Nat) (r : Nat)
  | ringCtl (s : Nat) (r : Nat)
  | ringMod (s : Nat) (r : Nat)
  | ringDone (s : Nat) (r : Nat)
  | ringSts (s : Nat) (r : Nat)
  | db (s : Nat) (r : Nat)
  | dspLdSrc
  | dspLdCtl
  | dspLdSts
  | dspFuelMax
  | dspCtl
  | dspClSts (k : Nat)
  | dspClNbr (k : Nat)
  | dspClSteal (k : Nat)
  | semCfg (i : Nat)
  | semSt (i : Nat)
  | semCtl
  | semAbnCnt
  | dspStale
  | dspStaleCnt
  | plnClk
  | plnSnapCtl
  | plnSnapClk
  | plnSnapSub
  | plnSnapEdge
  | plnBrdSel
  | plnBrdHdr
  | plnCtl
  | plnSts
  | plnCnt
  | plnSyncCfg
  | plnSyncRatio
  | plnSyncOfs
  | plnSyncCtl
  | plnSyncSts
  | plnSyncErr
  | plnTcrAnc
  | plnTcrClk
  | plnTcrSeq
  | plnFout
  | portPrfCfg (n : Nat)
  | portPrfSts (n : Nat)
  | portPrfNote (n : Nat)
  | portPrfLoss (n : Nat)
  | portXerr (n : Nat)
  | portSeqCfg (n : Nat)
  | portGmbCnt (n : Nat)
  | portGmbOrph (n : Nat)
  | portGpool
  | portGpoolHeld
  | portDet (n : Nat)
  | dspMvCto (p : Nat)
  | dspMvCfg
  | dspMvFaddr
  | dspMvFsts
  | dspMvFcnt
  | mdmaSrc (c : Nat)
  | mdmaDst (c : Nat)
  | mdmaDesc (c : Nat)
  | mdmaCnt (c : Nat)
  | mdmaCtl (c : Nat)
  | mdmaSts (c : Nat)
  | mdmaRunq
  | sealKey (w : Nat)
  | sealKeyCtl
  | sealKeySts
  | sealSlot (k : Nat)
  | sealAdjCtl
  | sealAdjAddr
  | sealAdjSts
  | sealAdjLen
  | sealAdjInfo
  | sealIdCtl
  | sealId (w : Nat)
  | sealFwAddr
  | sealFwCtl
  | sealFwSts
  | pwrCtl (d : Nat)
  | pwrSts (d : Nat)
  | pwrBias
  | pwrWline
  | pwrWvbus
  | pwrWcompat
  | pwrLppol (n : Nat) (q : Nat)
  | pwrLpst (n : Nat) (q : Nat)
  | pwrLpcnt (n : Nat) (q : Nat)
  | pwrLpex (n : Nat)
  | pwrAvsPol
  | pwrAvsBus
  | pwrAvsSts
  | pwrAvsCnt
  | icSrc (i : Nat)
  | icPend (k : Nat)
  | icSwi
  | icThr (t : Nat)
  | icClaim (t : Nat)
  | icClaimed (t : Nat)
  | icComp (t : Nat)
  | icSts (t : Nat)
  | fltTemp
  | fltCfg (i : Nat)
  | fltSts (i : Nat)
  | fltHold
  | fltAlive
  | fltRcfg
  | fltCtl
  | fltHsts
  | fltHtotal
  | fltHist (x : Nat)
  | fltForce
  | fltForceAux
  | fltRaise
  | fltIpend
  | fltSevere
  | fltLatched
  | glbMgtSts
  | glbMgtCtl
  | glbMgtWdt
  | glbMgtCkpt
  | glbMgtCkseq
  | tlmCtl
  | tlmDiode (j : Nat)
  | tlmRail (k : Nat)
  | tlmRwin (k : Nat)
  | tlmEcc (m : Nat)
  | tlmLat (b : Nat)
  | glbFwmbCsr
  | glbRstSts
  | glbSvc
  | glbRstCtl
  | glbBootSts
  | portDefr (n : Nat)
  | portTstCtl (n : Nat)
  | portTstSts (n : Nat)
  | portTstBits (n : Nat)
  | portTstErrs (n : Nat)
  | portTstWord (n : Nat)
  | glbHpTst (p : Nat)
  | glbHpTbits (p : Nat)
  | glbHpTerr (p : Nat)
  | glbHpTword (p : Nat)
  | glbBistCtl
  | glbBistSts
  | glbBistFail
  | glbId
  | glbSerial
  | slId (s : Nat)
  | slcUeng (s : Nat)
  | slcUmem (s : Nat)
  | slcUper (s : Nat)
  | slcUep (s : Nat)
  | mbxOut (s : Nat) (i : Nat)
  | mbxIn (s : Nat) (i : Nat)
  | fwmbHost (i : Nat)
  | fwmbFw (i : Nat)
  | boardWin (x : Nat)
  /-- The management pairs' own copy of `EPV_CSR.HANDLE` of slice `s` (R446); it has no address of its own. -/
  | epvCsrMgt (s : Nat)
  deriving DecidableEq, Repr

/-- Access types (R8, Table 3). -/
inductive Access where
  | rw | ro | w1c | w1s | wo
  deriving DecidableEq, Repr

/-- Reset kinds (R19, Table 5). -/
inductive ResetKind where
  | powerOn | cold | warm | slice | port
  deriving DecidableEq, Repr

def PORT_STS.REQ_IGN : Fld := ⟨31, 31⟩
def PORT_STS.FLC : Fld := ⟨30, 30⟩
def PORT_STS.SCSC : Fld := ⟨29, 29⟩
def PORT_STS.SPEC : Fld := ⟨28, 28⟩
def PORT_STS.SRSC : Fld := ⟨27, 27⟩
def PORT_STS.SLSC : Fld := ⟨26, 26⟩
def PORT_STS.CSC : Fld := ⟨25, 25⟩
def PORT_STS.PEC : Fld := ⟨24, 24⟩
def PORT_STS.RSC : Fld := ⟨23, 23⟩
def PORT_STS.LSC : Fld := ⟨22, 22⟩
def PORT_STS.OCC : Fld := ⟨21, 21⟩
def PORT_STS.OCA : Fld := ⟨20, 20⟩
def PORT_STS.FLIP : Fld := ⟨19, 19⟩
def PORT_STS.SSPEED : Fld := ⟨18, 16⟩
def PORT_STS.SSTATE : Fld := ⟨15, 12⟩
def PORT_STS.SPEED : Fld := ⟨9, 8⟩
def PORT_STS.STATE : Fld := ⟨3, 0⟩
def PORT_CTL.TEST : Fld := ⟨19, 16⟩
def PORT_CTL.PP : Fld := ⟨8, 8⟩
def PORT_CTL.PATH : Fld := ⟨5, 5⟩
def PORT_CTL.DISABLE : Fld := ⟨4, 4⟩
def PORT_CTL.RESUME : Fld := ⟨3, 3⟩
def PORT_CTL.SUSPEND : Fld := ⟨2, 2⟩
def PORT_CTL.WRESET : Fld := ⟨1, 1⟩
def PORT_CTL.RESET : Fld := ⟨0, 0⟩
def PORT_CFG.SS_EN : Fld := ⟨31, 31⟩
def PORT_CFG.L1_EN : Fld := ⟨30, 30⟩
def PORT_CFG.U1_EN : Fld := ⟨29, 29⟩
def PORT_CFG.U2_EN : Fld := ⟨28, 28⟩
def PORT_CFG.UX_ACC : Fld := ⟨27, 27⟩
def PORT_CFG.NAK_BUDGET : Fld := ⟨23, 16⟩
def PORT_CFG.DEBOUNCE : Fld := ⟨12, 8⟩
def PORT_CFG.BC_MODE : Fld := ⟨5, 4⟩
def PORT_OC.PGOOD : Fld := ⟨31, 24⟩
def PORT_OC.INRUSH : Fld := ⟨23, 16⟩
def PORT_OC.INRUSH_FLT : Fld := ⟨15, 8⟩
def PORT_OC.FILTER : Fld := ⟨7, 0⟩
def PORT_LINK.BESL : Fld := ⟨15, 12⟩
def PORT_LINK.LPM_RESP : Fld := ⟨11, 8⟩
def PORT_LINK.SLSTATE : Fld := ⟨7, 4⟩
def PORT_LINK.LSTATE : Fld := ⟨3, 0⟩
def PORT_GANG.EN : Fld := ⟨31, 31⟩
def PORT_GANG.SRC : Fld := ⟨28, 24⟩
def PORT_GANG.MEMBERS : Fld := ⟨19, 0⟩
def GLB_HP_CFG.MGR_PORT : Fld := ⟨9, 8⟩
def GLB_HP_CFG.PRESENT : Fld := ⟨7, 4⟩
def GLB_HP_CFG.LINK_CFG : Fld := ⟨2, 2⟩
def GLB_HP_CFG.MGR_SEL : Fld := ⟨1, 0⟩
def GLB_HP_CTL.RETRAIN : Fld := ⟨5, 5⟩
def GLB_HP_CTL.SRIS : Fld := ⟨4, 4⟩
def GLB_HP_CTL.MAX_SPEED : Fld := ⟨3, 1⟩
def GLB_HP_CTL.LTE : Fld := ⟨0, 0⟩
def GLB_HP_STS.LDC : Fld := ⟨31, 31⟩
def GLB_HP_STS.SDG : Fld := ⟨30, 30⟩
def GLB_HP_STS.FRC : Fld := ⟨29, 29⟩
def GLB_HP_STS.LDOWN_CNT : Fld := ⟨23, 16⟩
def GLB_HP_STS.WIDTH : Fld := ⟨11, 9⟩
def GLB_HP_STS.SPEED : Fld := ⟨8, 6⟩
def GLB_HP_STS.DL_UP : Fld := ⟨5, 5⟩
def GLB_HP_STS.LTSSM : Fld := ⟨4, 0⟩
def GLB_MGR_CLAIM.CMD : Fld := ⟨27, 24⟩
def GLB_MGR_CLAIM.TOKEN : Fld := ⟨15, 0⟩
def GLB_MGR_STS.STATE : Fld := ⟨31, 29⟩
def GLB_MGR_STS.HREQ : Fld := ⟨28, 28⟩
def GLB_MGR_STS.ABN : Fld := ⟨27, 27⟩
def GLB_MGR_STS.IGN : Fld := ⟨26, 26⟩
def GLB_MGR_STS.TOKEN : Fld := ⟨15, 0⟩
def GLB_MGR_TMO.TIMEOUT : Fld := ⟨15, 0⟩
def SLC_BIND.VALID : Fld := ⟨31, 31⟩
def SLC_BIND.PEN : Fld := ⟨30, 30⟩
def SLC_BIND.PORT : Fld := ⟨29, 28⟩
def SLC_BIND.FUNC : Fld := ⟨27, 22⟩
def SLC_BIND.PASID : Fld := ⟨19, 0⟩
def SLC_HOST.SLOT : Fld := ⟨31, 24⟩
def SLC_HOST.VCOUNT : Fld := ⟨22, 11⟩
def SLC_HOST.VBASE : Fld := ⟨10, 0⟩
def SLC_CSR.CMD : Fld := ⟨31, 28⟩
def SLC_CSR.FCAUSE : Fld := ⟨15, 8⟩
def SLC_CSR.REJ : Fld := ⟨4, 4⟩
def SLC_CSR.DRAIN : Fld := ⟨3, 3⟩
def SLC_CSR.RSTB : Fld := ⟨2, 2⟩
def SLC_CSR.FENCED : Fld := ⟨1, 1⟩
def SLC_CSR.ACTIVE : Fld := ⟨0, 0⟩
def SLC_QENG.TE : Fld := ⟨31, 24⟩
def SLC_QENG.MAXPRI : Fld := ⟨22, 20⟩
def SLC_QENG.RINGS : Fld := ⟨18, 12⟩
def SLC_QENG.LIB : Fld := ⟨10, 0⟩
def SLC_QMEM.CTX : Fld := ⟨30, 16⟩
def SLC_QMEM.LB : Fld := ⟨12, 0⟩
def SLC_QPER.SEN : Fld := ⟨31, 31⟩
def SLC_QPER.SSLOT : Fld := ⟨30, 26⟩
def SLC_QPER.PER : Fld := ⟨19, 0⟩
def SLC_QEP.HANDLES : Fld := ⟨16, 0⟩
def SLC_WIN_BASE.BASE : Fld := ⟨63, 12⟩
def SLC_WIN_SIZE.SIZE : Fld := ⟨48, 12⟩
def SLC_EPA_A.HANDLE : Fld := ⟨31, 16⟩
def SLC_EPA_A.EPCTX : Fld := ⟨14, 0⟩
def SLC_EPA_B.SLICE : Fld := ⟨31, 24⟩
def SLC_EPA_B.MODE : Fld := ⟨23, 22⟩
def SLC_EPA_B.GSAFE : Fld := ⟨21, 21⟩
def SLC_EPA_B.SECOK : Fld := ⟨20, 20⟩
def SLC_EPA_B.FILTER : Fld := ⟨19, 16⟩
def SLC_EPA_B.FODEPTH : Fld := ⟨15, 12⟩
def SLC_EPA_B.SEM : Fld := ⟨9, 0⟩
def SLC_EPA_CS.CMD : Fld := ⟨31, 28⟩
def SLC_EPA_CS.BUSY : Fld := ⟨16, 16⟩
def SLC_EPA_CS.RESULT : Fld := ⟨7, 0⟩
def EPV_CSR.OP : Fld := ⟨31, 28⟩
def EPV_CSR.GEN : Fld := ⟨27, 16⟩
def EPV_CSR.HANDLE : Fld := ⟨15, 0⟩
def EPV_RESULT.ASSIGNED : Fld := ⟨31, 31⟩
def EPV_RESULT.DETACHED : Fld := ⟨30, 30⟩
def EPV_RESULT.MODE : Fld := ⟨29, 28⟩
def EPV_RESULT.GSAFE_M : Fld := ⟨27, 27⟩
def EPV_RESULT.GSAFE_S : Fld := ⟨26, 26⟩
def EPV_RESULT.SECOK : Fld := ⟨25, 25⟩
def EPV_RESULT.SECURE : Fld := ⟨24, 24⟩
def EPV_RESULT.SECOTHER : Fld := ⟨23, 23⟩
def EPV_RESULT.DIRTY : Fld := ⟨22, 22⟩
def EPV_RESULT.TYPE : Fld := ⟨21, 20⟩
def EPV_RESULT.DIR : Fld := ⟨19, 19⟩
def EPV_RESULT.FOLOST : Fld := ⟨18, 11⟩
def EPV_RESULT.DEVICE : Fld := ⟨10, 0⟩
def MBX_CSR.DB : Fld := ⟨31, 31⟩
def MBX_CSR.IN_ACK : Fld := ⟨30, 30⟩
def MBX_CSR.IE : Fld := ⟨29, 29⟩
def MBX_CSR.VEC : Fld := ⟨28, 18⟩
def MBX_CSR.OUT_BUSY : Fld := ⟨7, 7⟩
def MBX_CSR.IN_FULL : Fld := ⟨6, 6⟩
def MBX_CSR.OVR : Fld := ⟨5, 5⟩
def MBX_CSR.OUT_DONE : Fld := ⟨4, 4⟩
def MBX_CSR.IN_NEW : Fld := ⟨3, 3⟩
def MBX_CSR.ASSIGN_CHG : Fld := ⟨2, 2⟩
def MBX_CSR.SEC_LOST : Fld := ⟨1, 1⟩
def MBX_S_CSR.DB : Fld := ⟨31, 31⟩
def MBX_S_CSR.ACK : Fld := ⟨30, 30⟩
def MBX_S_CSR.OUT_BUSY : Fld := ⟨7, 7⟩
def MBX_S_CSR.IN_FULL : Fld := ⟨6, 6⟩
def MBX_PEND.PEND : Fld := ⟨31, 0⟩
def MBX_RST.RST : Fld := ⟨31, 0⟩
def MBX_MCSR.IE : Fld := ⟨31, 31⟩
def MBX_MCSR.VEC : Fld := ⟨10, 0⟩
def SL_CSR.RESET : Fld := ⟨31, 31⟩
def SL_CSR.DRAIN : Fld := ⟨10, 10⟩
def SL_CSR.RSTB : Fld := ⟨9, 9⟩
def SL_CSR.FENCED : Fld := ⟨8, 8⟩
def SL_CSR.FCAUSE : Fld := ⟨7, 0⟩
def RING_BASE.BASE : Fld := ⟨63, 6⟩
def RING_DHA.ADDR : Fld := ⟨63, 3⟩
def RING_TSA.ADDR : Fld := ⟨63, 3⟩
def RING_TSA.TSE : Fld := ⟨0, 0⟩
def RING_CTL.EN : Fld := ⟨31, 31⟩
def RING_CTL.VEC : Fld := ⟨30, 20⟩
def RING_CTL.IE : Fld := ⟨19, 19⟩
def RING_CTL.SIZE : Fld := ⟨4, 0⟩
def RING_MOD.MTIME : Fld := ⟨31, 16⟩
def RING_MOD.MCNT : Fld := ⟨15, 0⟩
def RING_DONE.LAP : Fld := ⟨63, 16⟩
def RING_DONE.IDX : Fld := ⟨15, 0⟩
def RING_STS.IDLE : Fld := ⟨31, 31⟩
def RING_STS.ENREJ : Fld := ⟨30, 30⟩
def RING_STS.MAL : Fld := ⟨29, 29⟩
def RING_STS.MCAUSE : Fld := ⟨23, 16⟩
def RING_STS.SCAN : Fld := ⟨15, 0⟩
def DB.RING : Fld := ⟨63, 0⟩
def DSP_LD_SRC.ADDR : Fld := ⟨63, 2⟩
def DSP_LD_CTL.CMD : Fld := ⟨31, 28⟩
def DSP_LD_CTL.SLICE : Fld := ⟨23, 16⟩
def DSP_LD_CTL.PROG : Fld := ⟨5, 0⟩
def DSP_LD_STS.BUSY : Fld := ⟨31, 31⟩
def DSP_LD_STS.RESULT : Fld := ⟨23, 16⟩
def DSP_LD_STS.DETAIL : Fld := ⟨13, 0⟩
def DSP_FUEL_MAX.MAX : Fld := ⟨19, 0⟩
def DSP_CTL.STEAL_EN : Fld := ⟨31, 31⟩
def DSP_CTL.ADAPT : Fld := ⟨30, 30⟩
def DSP_CTL.SPAN : Fld := ⟨26, 24⟩
def DSP_CTL.QUANTUM : Fld := ⟨15, 0⟩
def DSP_CL_STS.ON : Fld := ⟨31, 28⟩
def DSP_CL_STS.BUSY : Fld := ⟨27, 24⟩
def DSP_CL_STS.TOPLVL : Fld := ⟨23, 21⟩
def DSP_CL_STS.RDY : Fld := ⟨20, 20⟩
def DSP_CL_STS.READY : Fld := ⟨14, 0⟩
def DSP_CL_NBR.ORDER : Fld := ⟨39, 0⟩
def DSP_CL_STEAL.IN : Fld := ⟨31, 16⟩
def DSP_CL_STEAL.OUT : Fld := ⟨15, 0⟩
def SEM_CFG.EN : Fld := ⟨31, 31⟩
def SEM_CFG.ARB : Fld := ⟨30, 30⟩
def SEM_CFG.SLICE : Fld := ⟨7, 0⟩
def SEM_ST.HELD : Fld := ⟨31, 31⟩
def SEM_ST.ABN : Fld := ⟨30, 30⟩
def SEM_ST.WAITERS : Fld := ⟨29, 24⟩
def SEM_ST.SLICE : Fld := ⟨23, 16⟩
def SEM_ST.CTX : Fld := ⟨13, 0⟩
def SEM_CTL.CMD : Fld := ⟨31, 28⟩
def SEM_CTL.SEM : Fld := ⟨9, 0⟩
def SEM_ABN_CNT.COUNT : Fld := ⟨31, 0⟩
def DSP_STALE.SLICE : Fld := ⟨31, 24⟩
def DSP_STALE.CTX : Fld := ⟨21, 8⟩
def DSP_STALE.VALID : Fld := ⟨0, 0⟩
def DSP_STALE_CNT.COUNT : Fld := ⟨31, 0⟩
def PLN_CLK.COUNT : Fld := ⟨63, 0⟩
def PLN_SNAP_CTL.TAKE : Fld := ⟨31, 31⟩
def PLN_SNAP_CLK.COUNT : Fld := ⟨63, 0⟩
def PLN_SNAP_SUB.SUB : Fld := ⟨31, 20⟩
def PLN_SNAP_SUB.PORT : Fld := ⟨19, 18⟩
def PLN_SNAP_SUB.KIND : Fld := ⟨17, 16⟩
def PLN_SNAP_SUB.ID : Fld := ⟨15, 0⟩
def PLN_SNAP_EDGE.EDGE : Fld := ⟨31, 0⟩
def PLN_BRD_SEL.SLOT : Fld := ⟨19, 16⟩
def PLN_BRD_SEL.FILE : Fld := ⟨12, 8⟩
def PLN_BRD_SEL.LINE : Fld := ⟨1, 0⟩
def PLN_BRD_HDR.VALID : Fld := ⟨31, 31⟩
def PLN_BRD_HDR.REPLAY : Fld := ⟨30, 30⟩
def PLN_BRD_HDR.UNCHK : Fld := ⟨29, 29⟩
def PLN_BRD_HDR.COUNT : Fld := ⟨22, 16⟩
def PLN_BRD_HDR.MF : Fld := ⟨15, 0⟩
def PLN_CTL.CMD : Fld := ⟨31, 28⟩
def PLN_CTL.PAIR : Fld := ⟨27, 26⟩
def PLN_CNT.OVR : Fld := ⟨31, 16⟩
def PLN_CNT.MIS : Fld := ⟨15, 8⟩
def PLN_CNT.CHKL : Fld := ⟨7, 0⟩
def PLN_SYNC_CFG.EDGE : Fld := ⟨31, 31⟩
def PLN_SYNC_CFG.GUARD : Fld := ⟨23, 16⟩
def PLN_SYNC_CFG.LOSS : Fld := ⟨15, 8⟩
def PLN_SYNC_CFG.FILTER : Fld := ⟨7, 0⟩
def PLN_SYNC_RATIO.NUM : Fld := ⟨30, 11⟩
def PLN_SYNC_RATIO.DEN : Fld := ⟨10, 0⟩
def PLN_SYNC_OFS.OFS : Fld := ⟨31, 0⟩
def PLN_SYNC_CTL.CMD : Fld := ⟨31, 28⟩
def PLN_SYNC_STS.STATE : Fld := ⟨31, 29⟩
def PLN_SYNC_STS.SLOST : Fld := ⟨28, 28⟩
def PLN_SYNC_STS.CFG_ERR : Fld := ⟨27, 27⟩
def PLN_SYNC_STS.RATE_ERR : Fld := ⟨26, 26⟩
def PLN_SYNC_STS.ADOPTED : Fld := ⟨25, 25⟩
def PLN_SYNC_ERR.ERR : Fld := ⟨31, 0⟩
def PLN_TCR_ANC.ANC : Fld := ⟨63, 0⟩
def PLN_TCR_CLK.EDGE_T : Fld := ⟨63, 0⟩
def PLN_TCR_SEQ.SEQ : Fld := ⟨31, 16⟩
def PLN_FOUT.MODE : Fld := ⟨31, 30⟩
def PLN_FOUT.WIDTH : Fld := ⟨23, 16⟩
def PLN_FOUT.DIV : Fld := ⟨15, 0⟩
def PORT_PRF_CFG.LIE : Fld := ⟨31, 31⟩
def PORT_PRF_CFG.LEVEL : Fld := ⟨5, 0⟩
def PORT_PRF_STS.LVL : Fld := ⟨31, 31⟩
def PORT_PRF_STS.PERR : Fld := ⟨30, 30⟩
def PORT_PRF_STS.PKTS : Fld := ⟨21, 16⟩
def PORT_PRF_STS.OCC : Fld := ⟨13, 8⟩
def PORT_PRF_STS.CLS : Fld := ⟨3, 0⟩
def PORT_PRF_NOTE.NOTES : Fld := ⟨31, 0⟩
def PORT_PRF_LOSS.RSTS : Fld := ⟨31, 16⟩
def PORT_PRF_LOSS.ITEMS : Fld := ⟨15, 0⟩
def PORT_XERR.ENDED : Fld := ⟨31, 16⟩
def PORT_XERR.ERRS : Fld := ⟨15, 0⟩
def PORT_SEQ_CFG.GMB_EN : Fld := ⟨31, 31⟩
def PORT_SEQ_CFG.GMB_BUDGET : Fld := ⟨19, 16⟩
def PORT_SEQ_CFG.GMB_BACKOFF : Fld := ⟨15, 8⟩
def PORT_GMB_CNT.LANDED : Fld := ⟨63, 32⟩
def PORT_GMB_CNT.ISSUED : Fld := ⟨31, 0⟩
def PORT_GMB_ORPH.ORPHANED : Fld := ⟨31, 0⟩
def PORT_GPOOL.USED : Fld := ⟨27, 16⟩
def PORT_GPOOL.SIZE : Fld := ⟨11, 0⟩
def PORT_GPOOL_HELD.ORPH : Fld := ⟨31, 16⟩
def PORT_GPOOL_HELD.DETH : Fld := ⟨15, 0⟩
def PORT_DET.CMD : Fld := ⟨31, 28⟩
def PORT_DET.IGN : Fld := ⟨16, 16⟩
def PORT_DET.DEVICE : Fld := ⟨10, 0⟩
def DSP_MV_CTO.CTO : Fld := ⟨15, 0⟩
def DSP_MV_CFG.HOPS : Fld := ⟨15, 0⟩
def DSP_MV_FADDR.ADDR : Fld := ⟨63, 0⟩
def DSP_MV_FSTS.VALID : Fld := ⟨31, 31⟩
def DSP_MV_FSTS.CAUSE : Fld := ⟨30, 28⟩
def DSP_MV_FSTS.PORT : Fld := ⟨27, 26⟩
def DSP_MV_FSTS.SLICE : Fld := ⟨25, 18⟩
def DSP_MV_FSTS.CTX : Fld := ⟨13, 0⟩
def DSP_MV_FCNT.RETRY : Fld := ⟨31, 16⟩
def DSP_MV_FCNT.FINAL : Fld := ⟨15, 0⟩
def MDMA_SRC.ADDR : Fld := ⟨63, 0⟩
def MDMA_DST.ADDR : Fld := ⟨63, 0⟩
def MDMA_DESC.ADDR : Fld := ⟨63, 5⟩
def MDMA_CNT.COUNT : Fld := ⟨23, 0⟩
def MDMA_CTL.START : Fld := ⟨31, 31⟩
def MDMA_CTL.STOP : Fld := ⟨30, 30⟩
def MDMA_CTL.IE : Fld := ⟨29, 29⟩
def MDMA_CTL.CHAIN : Fld := ⟨28, 28⟩
def MDMA_CTL.REQ : Fld := ⟨27, 24⟩
def MDMA_CTL.BURST : Fld := ⟨23, 21⟩
def MDMA_CTL.ESIZE : Fld := ⟨20, 19⟩
def MDMA_CTL.DINC : Fld := ⟨18, 18⟩
def MDMA_CTL.SINC : Fld := ⟨17, 17⟩
def MDMA_STS.BUSY : Fld := ⟨31, 31⟩
def MDMA_STS.RUN : Fld := ⟨30, 30⟩
def MDMA_STS.DONE : Fld := ⟨29, 29⟩
def MDMA_STS.HALT : Fld := ⟨28, 28⟩
def MDMA_STS.EMPTY : Fld := ⟨27, 27⟩
def MDMA_STS.IGN : Fld := ⟨26, 26⟩
def MDMA_STS.CODE : Fld := ⟨25, 24⟩
def MDMA_STS.BYTES : Fld := ⟨23, 0⟩
def MDMA_RUNQ.ACT : Fld := ⟨31, 31⟩
def MDMA_RUNQ.QUEUED : Fld := ⟨15, 8⟩
def MDMA_RUNQ.CHAN : Fld := ⟨2, 0⟩
def SEAL_KEY.KEY : Fld := ⟨31, 0⟩
def SEAL_KEY_CTL.CMD : Fld := ⟨31, 28⟩
def SEAL_KEY_CTL.USE : Fld := ⟨10, 8⟩
def SEAL_KEY_CTL.SLOT : Fld := ⟨4, 0⟩
def SEAL_KEY_STS.BUSY : Fld := ⟨31, 31⟩
def SEAL_KEY_STS.RESULT : Fld := ⟨7, 0⟩
def SEAL_SLOT.VALID : Fld := ⟨31, 31⟩
def SEAL_SLOT.USE : Fld := ⟨30, 28⟩
def SEAL_SLOT.OPS : Fld := ⟨19, 16⟩
def SEAL_SLOT.GEN : Fld := ⟨15, 0⟩
def SEAL_ADJ_CTL.CMD : Fld := ⟨31, 28⟩
def SEAL_ADJ_CTL.SLOT : Fld := ⟨12, 8⟩
def SEAL_ADJ_CTL.SLICE : Fld := ⟨7, 0⟩
def SEAL_ADJ_ADDR.ADDR : Fld := ⟨63, 4⟩
def SEAL_ADJ_STS.BUSY : Fld := ⟨31, 31⟩
def SEAL_ADJ_STS.STATE : Fld := ⟨10, 8⟩
def SEAL_ADJ_STS.RESULT : Fld := ⟨7, 0⟩
def SEAL_ADJ_LEN.LEN : Fld := ⟨23, 0⟩
def SEAL_ADJ_INFO.UNBOUND : Fld := ⟨31, 16⟩
def SEAL_ADJ_INFO.LIVE : Fld := ⟨14, 0⟩
def SEAL_ID_CTL.CMD : Fld := ⟨31, 28⟩
def SEAL_ID_CTL.DEVICE : Fld := ⟨10, 0⟩
def SEAL_ID.ID : Fld := ⟨31, 0⟩
def SEAL_FW_ADDR.ADDR : Fld := ⟨63, 2⟩
def SEAL_FW_CTL.GO : Fld := ⟨31, 31⟩
def SEAL_FW_CTL.LEN : Fld := ⟨23, 0⟩
def SEAL_FW_STS.BUSY : Fld := ⟨31, 31⟩
def SEAL_FW_STS.REVOKED : Fld := ⟨15, 12⟩
def SEAL_FW_STS.KEY : Fld := ⟨11, 10⟩
def SEAL_FW_STS.RESULT : Fld := ⟨7, 0⟩
def PWR_CTL.MODE : Fld := ⟨31, 30⟩
def PWR_CTL.DWAKE : Fld := ⟨29, 29⟩
def PWR_STS.STATE : Fld := ⟨31, 29⟩
def PWR_STS.WOKE : Fld := ⟨28, 28⟩
def PWR_STS.ABT : Fld := ⟨27, 27⟩
def PWR_STS.IGN : Fld := ⟨26, 26⟩
def PWR_STS.STUCK : Fld := ⟨25, 25⟩
def PWR_STS.APT : Fld := ⟨24, 22⟩
def PWR_STS.RSTEP : Fld := ⟨21, 20⟩
def PWR_STS.WSRC : Fld := ⟨19, 16⟩
def PWR_STS.ENTRIES : Fld := ⟨15, 0⟩
def PWR_BIAS.FBB : Fld := ⟨31, 31⟩
def PWR_BIAS.RBB : Fld := ⟨30, 30⟩
def PWR_BIAS.HOLD : Fld := ⟨7, 0⟩
def PWR_WLINE.LTHR : Fld := ⟨31, 28⟩
def PWR_WLINE.FILT : Fld := ⟨27, 24⟩
def PWR_WLINE.EN : Fld := ⟨19, 0⟩
def PWR_WVBUS.VTHR : Fld := ⟨31, 24⟩
def PWR_WVBUS.FILT : Fld := ⟨23, 20⟩
def PWR_WVBUS.EN : Fld := ⟨3, 0⟩
def PWR_WCOMPAT.EI : Fld := ⟨27, 24⟩
def PWR_WCOMPAT.LFPS : Fld := ⟨15, 0⟩
def PWR_LPPOL.DMIN : Fld := ⟨31, 24⟩
def PWR_LPPOL.DMAX : Fld := ⟨23, 16⟩
def PWR_LPPOL.BESL_MAX : Fld := ⟨15, 12⟩
def PWR_LPPOL.LATMAX : Fld := ⟨11, 0⟩
def PWR_LPST.WARM : Fld := ⟨31, 31⟩
def PWR_LPST.LAST : Fld := ⟨30, 28⟩
def PWR_LPST.PRED : Fld := ⟨15, 0⟩
def PWR_LPCNT.CLAMPS : Fld := ⟨31, 16⟩
def PWR_LPCNT.INTERVALS : Fld := ⟨15, 0⟩
def PWR_LPEX.U2EL : Fld := ⟨26, 16⟩
def PWR_LPEX.U1EL : Fld := ⟨7, 0⟩
def PWR_AVS_POL.EN : Fld := ⟨31, 31⟩
def PWR_AVS_POL.CEIL : Fld := ⟨29, 20⟩
def PWR_AVS_POL.FLOOR : Fld := ⟨9, 0⟩
def PWR_AVS_BUS.SETTLE : Fld := ⟨31, 24⟩
def PWR_AVS_BUS.ADDR : Fld := ⟨22, 16⟩
def PWR_AVS_BUS.VEXP : Fld := ⟨12, 8⟩
def PWR_AVS_STS.VOUT : Fld := ⟨31, 22⟩
def PWR_AVS_STS.CSTEP : Fld := ⟨21, 18⟩
def PWR_AVS_STS.BUSERR : Fld := ⟨17, 17⟩
def PWR_AVS_STS.IGN : Fld := ⟨16, 16⟩
def PWR_AVS_STS.VNEED : Fld := ⟨15, 6⟩
def PWR_AVS_CNT.CEILC : Fld := ⟨31, 16⟩
def PWR_AVS_CNT.FLOORC : Fld := ⟨15, 0⟩
def IC_SRC.ENA : Fld := ⟨31, 31⟩
def IC_SRC.ENB : Fld := ⟨30, 30⟩
def IC_SRC.PRI : Fld := ⟨29, 27⟩
def IC_SRC.SENSE : Fld := ⟨26, 24⟩
def IC_SRC.FILT : Fld := ⟨23, 16⟩
def IC_SRC.INSVA : Fld := ⟨2, 2⟩
def IC_SRC.INSVB : Fld := ⟨1, 1⟩
def IC_SRC.PEND : Fld := ⟨0, 0⟩
def IC_PEND.PEND : Fld := ⟨31, 0⟩
def IC_SWI.SET : Fld := ⟨7, 0⟩
def IC_THR.THR : Fld := ⟨2, 0⟩
def IC_CLAIM.CLAIM : Fld := ⟨31, 0⟩
def IC_CLAIMED.DEPTH : Fld := ⟨31, 28⟩
def IC_CLAIMED.PRI : Fld := ⟨18, 16⟩
def IC_CLAIMED.ID : Fld := ⟨9, 0⟩
def IC_COMP.ID : Fld := ⟨9, 0⟩
def IC_STS.IGN : Fld := ⟨31, 31⟩
def IC_STS.WAKE : Fld := ⟨30, 30⟩
def IC_STS.RUNPRI : Fld := ⟨19, 16⟩
def IC_STS.SPUR : Fld := ⟨15, 0⟩
def FLT_TEMP.WARN : Fld := ⟨31, 24⟩
def FLT_TEMP.CRIT : Fld := ⟨23, 16⟩
def FLT_CFG.EN : Fld := ⟨31, 31⟩
def FLT_CFG.NOALIVE : Fld := ⟨30, 30⟩
def FLT_CFG.REACT : Fld := ⟨29, 27⟩
def FLT_CFG.N : Fld := ⟨23, 16⟩
def FLT_CFG.W : Fld := ⟨15, 0⟩
def FLT_STS.STATE : Fld := ⟨31, 30⟩
def FLT_STS.HOUR : Fld := ⟨27, 24⟩
def FLT_STS.COUNT : Fld := ⟨23, 16⟩
def FLT_STS.RCNT : Fld := ⟨15, 0⟩
def FLT_HOLD.DSAFE : Fld := ⟨31, 31⟩
def FLT_HOLD.HALT : Fld := ⟨30, 30⟩
def FLT_HOLD.PORTS : Fld := ⟨19, 0⟩
def FLT_ALIVE.STOPPED : Fld := ⟨31, 31⟩
def FLT_ALIVE.LEVEL : Fld := ⟨30, 30⟩
def FLT_ALIVE.HALT : Fld := ⟨0, 0⟩
def FLT_RCFG.Q : Fld := ⟨31, 16⟩
def FLT_RCFG.K : Fld := ⟨3, 0⟩
def FLT_CTL.CMD : Fld := ⟨31, 28⟩
def FLT_CTL.SRC : Fld := ⟨5, 0⟩
def FLT_HSTS.PIN : Fld := ⟨31, 31⟩
def FLT_HSTS.NEWEST : Fld := ⟨4, 0⟩
def FLT_HTOTAL.TOTAL : Fld := ⟨31, 0⟩
def FLT_HIST.RECORD : Fld := ⟨511, 0⟩
def FLT_FORCE.SRC : Fld := ⟨31, 26⟩
def FLT_FORCE.DETAIL : Fld := ⟨15, 0⟩
def FLT_FORCE_AUX.AUX : Fld := ⟨31, 0⟩
def FLT_RAISE.SRC : Fld := ⟨31, 26⟩
def FLT_RAISE.DETAIL : Fld := ⟨15, 0⟩
def FLT_IPEND.PEND : Fld := ⟨63, 0⟩
def FLT_SEVERE.SEV : Fld := ⟨63, 0⟩
def FLT_LATCHED.LAT : Fld := ⟨63, 0⟩
def GLB_MGT_STS.ACTIVE : Fld := ⟨31, 31⟩
def GLB_MGT_STS.SBY_RDY : Fld := ⟨30, 30⟩
def GLB_MGT_STS.NOMGT : Fld := ⟨29, 29⟩
def GLB_MGT_STS.RESUMED : Fld := ⟨28, 28⟩
def GLB_MGT_STS.CAUSE : Fld := ⟨27, 24⟩
def GLB_MGT_STS.FOVR : Fld := ⟨15, 0⟩
def GLB_MGT_CTL.CMD : Fld := ⟨31, 28⟩
def GLB_MGT_CTL.RVEC : Fld := ⟨15, 0⟩
def GLB_MGT_WDT.KICK : Fld := ⟨31, 31⟩
def GLB_MGT_WDT.TIMEOUT : Fld := ⟨15, 0⟩
def GLB_MGT_CKPT.GO : Fld := ⟨31, 31⟩
def GLB_MGT_CKPT.BUSY : Fld := ⟨30, 30⟩
def GLB_MGT_CKPT.BANK : Fld := ⟨29, 29⟩
def GLB_MGT_CKPT.IGN : Fld := ⟨28, 28⟩
def GLB_MGT_CKPT.LEN : Fld := ⟨11, 0⟩
def GLB_MGT_CKSEQ.SEQ : Fld := ⟨31, 0⟩
def TLM_CTL.CMD : Fld := ⟨31, 28⟩
def TLM_DIODE.T : Fld := ⟨31, 0⟩
def TLM_RAIL.V : Fld := ⟨11, 0⟩
def TLM_RWIN.HI : Fld := ⟨27, 16⟩
def TLM_RWIN.LO : Fld := ⟨11, 0⟩
def TLM_ECC.CE : Fld := ⟨31, 0⟩
def TLM_LAT.N : Fld := ⟨31, 0⟩
def GLB_FWMB_CSR.HDB : Fld := ⟨31, 31⟩
def GLB_FWMB_CSR.HACK : Fld := ⟨30, 30⟩
def GLB_FWMB_CSR.FDB : Fld := ⟨29, 29⟩
def GLB_FWMB_CSR.FACK : Fld := ⟨28, 28⟩
def GLB_FWMB_CSR.IE : Fld := ⟨27, 27⟩
def GLB_FWMB_CSR.VEC : Fld := ⟨26, 16⟩
def GLB_FWMB_CSR.HBUSY : Fld := ⟨3, 3⟩
def GLB_FWMB_CSR.FFULL : Fld := ⟨2, 2⟩
def GLB_FWMB_CSR.HOVR : Fld := ⟨1, 1⟩
def GLB_RST_STS.CAUSE : Fld := ⟨31, 28⟩
def GLB_RST_STS.EXT : Fld := ⟨27, 27⟩
def GLB_RST_STS.HOLD : Fld := ⟨25, 0⟩
def GLB_SVC.HELD : Fld := ⟨31, 31⟩
def GLB_SVC.STUCK : Fld := ⟨30, 30⟩
def GLB_SVC.ACT : Fld := ⟨29, 27⟩
def GLB_SVC.LEN : Fld := ⟨15, 0⟩
def GLB_RST_CTL.CMD : Fld := ⟨31, 28⟩
def GLB_BOOT_STS.STAGE : Fld := ⟨31, 28⟩
def GLB_BOOT_STS.SRC : Fld := ⟨27, 27⟩
def GLB_BOOT_STS.SLOT : Fld := ⟨26, 25⟩
def GLB_BOOT_STS.SLOTST : Fld := ⟨24, 22⟩
def GLB_BOOT_STS.DIRBAD : Fld := ⟨21, 21⟩
def GLB_BOOT_STS.RESA : Fld := ⟨15, 8⟩
def GLB_BOOT_STS.RESB : Fld := ⟨7, 0⟩
def PORT_DEFR.TTHUB : Fld := ⟨51, 41⟩
def PORT_DEFR.TTPORT : Fld := ⟨40, 37⟩
def PORT_DEFR.ROUTE : Fld := ⟨31, 12⟩
def PORT_DEFR.SS : Fld := ⟨4, 4⟩
def PORT_DEFR.SPEED : Fld := ⟨3, 2⟩
def PORT_DEFR.MPS : Fld := ⟨1, 0⟩
def PORT_TST_CTL.START : Fld := ⟨31, 31⟩
def PORT_TST_CTL.STOP : Fld := ⟨30, 30⟩
def PORT_TST_CTL.DEPTH : Fld := ⟨27, 24⟩
def PORT_TST_CTL.PATH : Fld := ⟨23, 23⟩
def PORT_TST_CTL.PAT : Fld := ⟨22, 20⟩
def PORT_TST_CTL.LANES : Fld := ⟨19, 18⟩
def PORT_TST_CTL.RATE : Fld := ⟨17, 16⟩
def PORT_TST_STS.RUN : Fld := ⟨31, 31⟩
def PORT_TST_STS.LOCK : Fld := ⟨30, 30⟩
def PORT_TST_STS.LOST : Fld := ⟨29, 29⟩
def PORT_TST_STS.REJ : Fld := ⟨28, 28⟩
def PORT_TST_STS.RCODE : Fld := ⟨27, 24⟩
def PORT_TST_BITS.BITS : Fld := ⟨63, 0⟩
def PORT_TST_ERRS.ERRS : Fld := ⟨63, 0⟩
def PORT_TST_WORD.WORD : Fld := ⟨31, 0⟩
def GLB_HP_TST.START : Fld := ⟨31, 31⟩
def GLB_HP_TST.STOP : Fld := ⟨30, 30⟩
def GLB_HP_TST.RUN : Fld := ⟨29, 29⟩
def GLB_HP_TST.LOCK : Fld := ⟨28, 28⟩
def GLB_HP_TST.LOST : Fld := ⟨27, 27⟩
def GLB_HP_TST.REJ : Fld := ⟨26, 26⟩
def GLB_HP_TST.DEPTH : Fld := ⟨25, 22⟩
def GLB_HP_TST.PAT : Fld := ⟨21, 19⟩
def GLB_HP_TST.RATE : Fld := ⟨18, 16⟩
def GLB_HP_TST.LANES : Fld := ⟨15, 8⟩
def GLB_HP_TBITS.BITS : Fld := ⟨63, 0⟩
def GLB_HP_TERR.ERRS : Fld := ⟨31, 0⟩
def GLB_HP_TWORD.WORD : Fld := ⟨31, 0⟩
def GLB_BIST_CTL.START : Fld := ⟨31, 31⟩
def GLB_BIST_CTL.DOMAIN : Fld := ⟨7, 0⟩
def GLB_BIST_STS.BUSY : Fld := ⟨31, 31⟩
def GLB_BIST_STS.RESULT : Fld := ⟨30, 28⟩
def GLB_BIST_STS.MA_OK : Fld := ⟨27, 27⟩
def GLB_BIST_STS.MB_OK : Fld := ⟨26, 26⟩
def GLB_BIST_STS.TLOCK : Fld := ⟨25, 25⟩
def GLB_BIST_STS.DLOCK : Fld := ⟨24, 24⟩
def GLB_BIST_STS.DOMAIN : Fld := ⟨7, 0⟩
def GLB_BIST_FAIL.ADDR : Fld := ⟨31, 0⟩
def GLB_ID.PART : Fld := ⟨31, 16⟩
def GLB_ID.REV : Fld := ⟨15, 12⟩
def GLB_ID.GRADE : Fld := ⟨11, 10⟩
def GLB_ID.MAPVER : Fld := ⟨7, 0⟩
def GLB_SERIAL.SERIAL : Fld := ⟨63, 0⟩
def SL_ID.SLICE : Fld := ⟨31, 24⟩
def SL_ID.PORT : Fld := ⟨23, 22⟩
def SL_ID.FUNC : Fld := ⟨21, 16⟩
def SL_ID.SLOT : Fld := ⟨15, 8⟩
def SL_ID.PEN : Fld := ⟨0, 0⟩
def SLC_UENG.TE : Fld := ⟨31, 24⟩
def SLC_UENG.MAXPRI : Fld := ⟨22, 20⟩
def SLC_UENG.RINGS : Fld := ⟨18, 12⟩
def SLC_UENG.LIB : Fld := ⟨10, 0⟩
def SLC_UMEM.CTX : Fld := ⟨30, 16⟩
def SLC_UMEM.LB : Fld := ⟨12, 0⟩
def SLC_UPER.SEN : Fld := ⟨31, 31⟩
def SLC_UPER.SSLOT : Fld := ⟨30, 26⟩
def SLC_UPER.PER : Fld := ⟨19, 0⟩
def SLC_UEP.HANDLES : Fld := ⟨16, 0⟩
def MBX_OUT.WORD : Fld := ⟨31, 0⟩
def MBX_IN.WORD : Fld := ⟨31, 0⟩
def FWMB_HOST.WORD : Fld := ⟨31, 0⟩
def FWMB_FW.WORD : Fld := ⟨31, 0⟩
def BOARD_WIN.PLACEMENT : Fld := ⟨63, 0⟩
/-- Pair `j` of planners is off (`PLN_STS.OFFj`). -/
def PLN_STS.OFF (j : Nat) : Fld := ⟨4 * j + 2, 4 * j + 2⟩
/-- The roles of planner pair `j` (`PLN_STS.ROLEj`). -/
def PLN_STS.ROLE (j : Nat) : Fld := ⟨4 * j + 1, 4 * j⟩

/-- The address of the first byte: manager-space offset, or 2^32 + s × 0x1_0000 + page offset (R504, R508). -/
def Reg.addr : Reg → Nat
  | .portSts n => 0x40000 + n * 0xC00
  | .portCtl n => 0x40004 + n * 0xC00
  | .portCfg n => 0x40008 + n * 0xC00
  | .portOc n => 0x4000C + n * 0xC00
  | .portLink n => 0x40010 + n * 0xC00
  | .portGang g => 0x4F000 + g * 0x4
  | .glbHpCfg => 0x400
  | .glbHpCtl p => 0x500 + p * 0x20
  | .glbHpSts p => 0x504 + p * 0x20
  | .glbMgrClaim => 0x410
  | .glbMgrSts => 0x414
  | .glbMgrTmo => 0x418
  | .slcBind s => 0x100000 + s * 0x100
  | .slcHost s => 0x100004 + s * 0x100
  | .slcCsr s => 0x100008 + s * 0x100
  | .slcQeng s => 0x100030 + s * 0x100
  | .slcQmem s => 0x100034 + s * 0x100
  | .slcQper s => 0x100038 + s * 0x100
  | .slcQep s => 0x10003C + s * 0x100
  | .slcWinBase s w => 0x100010 + s * 0x100 + w * 0x10
  | .slcWinSize s w => 0x100018 + s * 0x100 + w * 0x10
  | .slcEpaA => 0x110000
  | .slcEpaB => 0x110004
  | .slcEpaCs => 0x110008
  | .epvCsr s => 0x100000000 + s * 0x10000 + 0x3000
  | .epvResult s => 0x100000000 + s * 0x10000 + 0x3004
  | .mbxCsr s => 0x100000000 + s * 0x10000 + 0x1080
  | .mbxSCsr s => 0xA0080 + s * 0x100
  | .mbxPend k => 0xA0000 + k * 0x4
  | .mbxRst k => 0xA0020 + k * 0x4
  | .mbxMcsr => 0xA0080
  | .slCsr s => 0x100000000 + s * 0x10000 + 0x0
  | .ringBase s r => 0x100000000 + s * 0x10000 + 0x100 + r * 0x20
  | .ringDha s r => 0x100000000 + s * 0x10000 + 0x108 + r * 0x20
  | .ringTsa s r => 0x100000000 + s * 0x10000 + 0x110 + r * 0x20
  | .ringCtl s r => 0x100000000 + s * 0x10000 + 0x118 + r * 0x20
  | .ringMod s r => 0x100000000 + s * 0x10000 + 0x11C + r * 0x20
  | .ringDone s r => 0x100000000 + s * 0x10000 + 0x900 + r * 0x10
  | .ringSts s r => 0x100000000 + s * 0x10000 + 0x908 + r * 0x10
  | .db s r => 0x100000000 + s * 0x10000 + 0x2000 + r * 0x8
  | .dspLdSrc => 0x60800
  | .dspLdCtl => 0x60808
  | .dspLdSts => 0x6080C
  | .dspFuelMax => 0x60810
  | .dspCtl => 0x60000
  | .dspClSts k => 0x60100 + k * 0x20
  | .dspClNbr k => 0x60108 + k * 0x20
  | .dspClSteal k => 0x60110 + k * 0x20
  | .semCfg i => 0x70000 + i * 0x4
  | .semSt i => 0x71000 + i * 0x4
  | .semCtl => 0x72000
  | .semAbnCnt => 0x72004
  | .dspStale => 0x60040
  | .dspStaleCnt => 0x60044
  | .plnClk => 0x50000
  | .plnSnapCtl => 0x50008
  | .plnSnapClk => 0x50010
  | .plnSnapSub => 0x50018
  | .plnSnapEdge => 0x5001C
  | .plnBrdSel => 0x50070
  | .plnBrdHdr => 0x50074
  | .plnCtl => 0x50020
  | .plnSts => 0x50024
  | .plnCnt => 0x50028
  | .plnSyncCfg => 0x50040
  | .plnSyncRatio => 0x50044
  | .plnSyncOfs => 0x50048
  | .plnSyncCtl => 0x5004C
  | .plnSyncSts => 0x50050
  | .plnSyncErr => 0x50054
  | .plnTcrAnc => 0x50058
  | .plnTcrClk => 0x50060
  | .plnTcrSeq => 0x50068
  | .plnFout => 0x5006C
  | .portPrfCfg n => 0x40104 + n * 0xC00
  | .portPrfSts n => 0x40108 + n * 0xC00
  | .portPrfNote n => 0x40110 + n * 0xC00
  | .portPrfLoss n => 0x40114 + n * 0xC00
  | .portXerr n => 0x40118 + n * 0xC00
  | .portSeqCfg n => 0x40100 + n * 0xC00
  | .portGmbCnt n => 0x40120 + n * 0xC00
  | .portGmbOrph n => 0x40128 + n * 0xC00
  | .portGpool => 0x4F100
  | .portGpoolHeld => 0x4F104
  | .portDet n => 0x4011C + n * 0xC00
  | .dspMvCto p => 0x60C00 + p * 0x4
  | .dspMvCfg => 0x60C10
  | .dspMvFaddr => 0x60C18
  | .dspMvFsts => 0x60C20
  | .dspMvFcnt => 0x60C24
  | .mdmaSrc c => 0xB0000 + c * 0x40
  | .mdmaDst c => 0xB0008 + c * 0x40
  | .mdmaDesc c => 0xB0010 + c * 0x40
  | .mdmaCnt c => 0xB0018 + c * 0x40
  | .mdmaCtl c => 0xB001C + c * 0x40
  | .mdmaSts c => 0xB0020 + c * 0x40
  | .mdmaRunq => 0xB0200
  | .sealKey w => 0x80000 + w * 0x4
  | .sealKeyCtl => 0x80020
  | .sealKeySts => 0x80024
  | .sealSlot k => 0x80100 + k * 0x4
  | .sealAdjCtl => 0x80200
  | .sealAdjAddr => 0x80208
  | .sealAdjSts => 0x80210
  | .sealAdjLen => 0x80214
  | .sealAdjInfo => 0x80218
  | .sealIdCtl => 0x80300
  | .sealId w => 0x80320 + w * 0x4
  | .sealFwAddr => 0x80400
  | .sealFwCtl => 0x80408
  | .sealFwSts => 0x8040C
  | .pwrCtl d => 0x20000 + d * 0x8
  | .pwrSts d => 0x20004 + d * 0x8
  | .pwrBias => 0x20600
  | .pwrWline => 0x20800
  | .pwrWvbus => 0x20804
  | .pwrWcompat => 0x20808
  | .pwrLppol n q => 0x21000 + n * 0x40 + q * 0x10
  | .pwrLpst n q => 0x21004 + n * 0x40 + q * 0x10
  | .pwrLpcnt n q => 0x21008 + n * 0x40 + q * 0x10
  | .pwrLpex n => 0x2101C + n * 0x40
  | .pwrAvsPol => 0x22000
  | .pwrAvsBus => 0x22004
  | .pwrAvsSts => 0x22008
  | .pwrAvsCnt => 0x2200C
  | .icSrc i => 0x30000 + i * 0x4
  | .icPend k => 0x30800 + k * 0x4
  | .icSwi => 0x30980
  | .icThr t => 0x30900 + t * 0x10
  | .icClaim t => 0x30904 + t * 0x10
  | .icClaimed t => 0x30908 + t * 0x10
  | .icComp t => 0x3090C + t * 0x10
  | .icSts t => 0x30940 + t * 0x8
  | .fltTemp => 0x10234
  | .fltCfg i => 0x10000 + i * 0x8
  | .fltSts i => 0x10004 + i * 0x8
  | .fltHold => 0x10230
  | .fltAlive => 0x10214
  | .fltRcfg => 0x10200
  | .fltCtl => 0x10204
  | .fltHsts => 0x10238
  | .fltHtotal => 0x1023C
  | .fltHist x => 0x10800 + x * 0x8
  | .fltForce => 0x10208
  | .fltForceAux => 0x1020C
  | .fltRaise => 0x10210
  | .fltIpend => 0x10218
  | .fltSevere => 0x10220
  | .fltLatched => 0x10228
  | .glbMgtSts => 0x600
  | .glbMgtCtl => 0x604
  | .glbMgtWdt => 0x608
  | .glbMgtCkpt => 0x610
  | .glbMgtCkseq => 0x614
  | .tlmCtl => 0x90000
  | .tlmDiode j => 0x90010 + j * 0x4
  | .tlmRail k => 0x90020 + k * 0x4
  | .tlmRwin k => 0x90040 + k * 0x4
  | .tlmEcc m => 0x90080 + m * 0x4
  | .tlmLat b => 0x90100 + b * 0x4
  | .glbFwmbCsr => 0x880
  | .glbRstSts => 0x700
  | .glbSvc => 0x708
  | .glbRstCtl => 0x704
  | .glbBootSts => 0x710
  | .portDefr n => 0x40018 + n * 0xC00
  | .portTstCtl n => 0x40200 + n * 0xC00
  | .portTstSts n => 0x40204 + n * 0xC00
  | .portTstBits n => 0x40208 + n * 0xC00
  | .portTstErrs n => 0x40210 + n * 0xC00
  | .portTstWord n => 0x40218 + n * 0xC00
  | .glbHpTst p => 0x508 + p * 0x20
  | .glbHpTbits p => 0x510 + p * 0x20
  | .glbHpTerr p => 0x518 + p * 0x20
  | .glbHpTword p => 0x51C + p * 0x20
  | .glbBistCtl => 0x900
  | .glbBistSts => 0x904
  | .glbBistFail => 0x908
  | .glbId => 0x0
  | .glbSerial => 0x8
  | .slId s => 0x100000000 + s * 0x10000 + 0x4
  | .slcUeng s => 0x100040 + s * 0x100
  | .slcUmem s => 0x100044 + s * 0x100
  | .slcUper s => 0x100048 + s * 0x100
  | .slcUep s => 0x10004C + s * 0x100
  | .mbxOut s i => 0x100000000 + s * 0x10000 + 0x1000 + i * 0x4
  | .mbxIn s i => 0x100000000 + s * 0x10000 + 0x1040 + i * 0x4
  | .fwmbHost i => 0x800 + i * 0x4
  | .fwmbFw i => 0x840 + i * 0x4
  | .boardWin x => 0x51000 + x * 0x8
  | .epvCsrMgt s => 0x200000000 + s

/-- The register is 64 bits wide (R7). -/
def Reg.wide : Reg → Bool
  | .slcWinBase _ _ => true
  | .slcWinSize _ _ => true
  | .ringBase _ _ => true
  | .ringDha _ _ => true
  | .ringTsa _ _ => true
  | .ringDone _ _ => true
  | .db _ _ => true
  | .dspLdSrc => true
  | .dspClNbr _ => true
  | .plnClk => true
  | .plnSnapClk => true
  | .plnTcrAnc => true
  | .plnTcrClk => true
  | .portGmbCnt _ => true
  | .dspMvFaddr => true
  | .mdmaSrc _ => true
  | .mdmaDst _ => true
  | .mdmaDesc _ => true
  | .sealAdjAddr => true
  | .sealFwAddr => true
  | .fltHist _ => true
  | .fltIpend => true
  | .fltSevere => true
  | .fltLatched => true
  | .portDefr _ => true
  | .portTstBits _ => true
  | .portTstErrs _ => true
  | .glbHpTbits _ => true
  | .glbSerial => true
  | .boardWin _ => true
  | _ => false

/-- The reset kind of the register's header line (R19). -/
def Reg.kind : Reg → ResetKind
  | .portLink _ => .port
  | .glbHpCfg => .cold
  | .epvCsr _ => .slice
  | .epvResult _ => .slice
  | .mbxCsr _ => .slice
  | .slCsr _ => .slice
  | .ringBase _ _ => .slice
  | .ringDha _ _ => .slice
  | .ringTsa _ _ => .slice
  | .ringCtl _ _ => .slice
  | .ringMod _ _ => .slice
  | .ringDone _ _ => .slice
  | .ringSts _ _ => .slice
  | .db _ _ => .slice
  | .plnClk => .powerOn
  | .pwrWline => .powerOn
  | .pwrWvbus => .powerOn
  | .pwrWcompat => .powerOn
  | .fltHsts => .cold
  | .fltHtotal => .cold
  | .fltHist _ => .cold
  | .tlmEcc _ => .cold
  | .glbRstSts => .powerOn
  | .glbSvc => .powerOn
  | .portDefr _ => .port
  | .glbId => .cold
  | .glbSerial => .cold
  | .mbxOut _ _ => .slice
  | .mbxIn _ _ => .slice
  | .epvCsrMgt _ => .slice
  | _ => .warm

/-- The fields with their access types; a bit of no field is reserved (R8). -/
def Reg.fields : Reg → List (Fld × Access)
  | .portSts _ => [(PORT_STS.REQ_IGN, .w1c), (PORT_STS.FLC, .w1c), (PORT_STS.SCSC, .w1c), (PORT_STS.SPEC, .w1c), (PORT_STS.SRSC, .w1c), (PORT_STS.SLSC, .w1c), (PORT_STS.CSC, .w1c), (PORT_STS.PEC, .w1c), (PORT_STS.RSC, .w1c), (PORT_STS.LSC, .w1c), (PORT_STS.OCC, .w1c), (PORT_STS.OCA, .ro), (PORT_STS.FLIP, .ro), (PORT_STS.SSPEED, .ro), (PORT_STS.SSTATE, .ro), (PORT_STS.SPEED, .ro), (PORT_STS.STATE, .ro)]
  | .portCtl _ => [(PORT_CTL.TEST, .rw), (PORT_CTL.PP, .rw), (PORT_CTL.PATH, .wo), (PORT_CTL.DISABLE, .wo), (PORT_CTL.RESUME, .wo), (PORT_CTL.SUSPEND, .wo), (PORT_CTL.WRESET, .wo), (PORT_CTL.RESET, .wo)]
  | .portCfg _ => [(PORT_CFG.SS_EN, .rw), (PORT_CFG.L1_EN, .rw), (PORT_CFG.U1_EN, .rw), (PORT_CFG.U2_EN, .rw), (PORT_CFG.UX_ACC, .rw), (PORT_CFG.NAK_BUDGET, .rw), (PORT_CFG.DEBOUNCE, .rw), (PORT_CFG.BC_MODE, .rw)]
  | .portOc _ => [(PORT_OC.PGOOD, .rw), (PORT_OC.INRUSH, .rw), (PORT_OC.INRUSH_FLT, .rw), (PORT_OC.FILTER, .rw)]
  | .portLink _ => [(PORT_LINK.BESL, .ro), (PORT_LINK.LPM_RESP, .ro), (PORT_LINK.SLSTATE, .ro), (PORT_LINK.LSTATE, .ro)]
  | .portGang _ => [(PORT_GANG.EN, .rw), (PORT_GANG.SRC, .rw), (PORT_GANG.MEMBERS, .rw)]
  | .glbHpCfg => [(GLB_HP_CFG.MGR_PORT, .ro), (GLB_HP_CFG.PRESENT, .ro), (GLB_HP_CFG.LINK_CFG, .ro), (GLB_HP_CFG.MGR_SEL, .ro)]
  | .glbHpCtl _ => [(GLB_HP_CTL.RETRAIN, .wo), (GLB_HP_CTL.SRIS, .rw), (GLB_HP_CTL.MAX_SPEED, .rw), (GLB_HP_CTL.LTE, .rw)]
  | .glbHpSts _ => [(GLB_HP_STS.LDC, .w1c), (GLB_HP_STS.SDG, .w1c), (GLB_HP_STS.FRC, .w1c), (GLB_HP_STS.LDOWN_CNT, .ro), (GLB_HP_STS.WIDTH, .ro), (GLB_HP_STS.SPEED, .ro), (GLB_HP_STS.DL_UP, .ro), (GLB_HP_STS.LTSSM, .ro)]
  | .glbMgrClaim => [(GLB_MGR_CLAIM.CMD, .wo), (GLB_MGR_CLAIM.TOKEN, .wo)]
  | .glbMgrSts => [(GLB_MGR_STS.STATE, .ro), (GLB_MGR_STS.HREQ, .ro), (GLB_MGR_STS.ABN, .w1c), (GLB_MGR_STS.IGN, .w1c), (GLB_MGR_STS.TOKEN, .ro)]
  | .glbMgrTmo => [(GLB_MGR_TMO.TIMEOUT, .rw)]
  | .slcBind _ => [(SLC_BIND.VALID, .rw), (SLC_BIND.PEN, .rw), (SLC_BIND.PORT, .rw), (SLC_BIND.FUNC, .rw), (SLC_BIND.PASID, .rw)]
  | .slcHost _ => [(SLC_HOST.SLOT, .rw), (SLC_HOST.VCOUNT, .rw), (SLC_HOST.VBASE, .rw)]
  | .slcCsr _ => [(SLC_CSR.CMD, .wo), (SLC_CSR.FCAUSE, .ro), (SLC_CSR.REJ, .w1c), (SLC_CSR.DRAIN, .ro), (SLC_CSR.RSTB, .ro), (SLC_CSR.FENCED, .ro), (SLC_CSR.ACTIVE, .ro)]
  | .slcQeng _ => [(SLC_QENG.TE, .rw), (SLC_QENG.MAXPRI, .rw), (SLC_QENG.RINGS, .rw), (SLC_QENG.LIB, .rw)]
  | .slcQmem _ => [(SLC_QMEM.CTX, .rw), (SLC_QMEM.LB, .rw)]
  | .slcQper _ => [(SLC_QPER.SEN, .rw), (SLC_QPER.SSLOT, .rw), (SLC_QPER.PER, .rw)]
  | .slcQep _ => [(SLC_QEP.HANDLES, .rw)]
  | .slcWinBase _ _ => [(SLC_WIN_BASE.BASE, .rw)]
  | .slcWinSize _ _ => [(SLC_WIN_SIZE.SIZE, .rw)]
  | .slcEpaA => [(SLC_EPA_A.HANDLE, .rw), (SLC_EPA_A.EPCTX, .rw)]
  | .slcEpaB => [(SLC_EPA_B.SLICE, .rw), (SLC_EPA_B.MODE, .rw), (SLC_EPA_B.GSAFE, .rw), (SLC_EPA_B.SECOK, .rw), (SLC_EPA_B.FILTER, .rw), (SLC_EPA_B.FODEPTH, .rw), (SLC_EPA_B.SEM, .rw)]
  | .slcEpaCs => [(SLC_EPA_CS.CMD, .wo), (SLC_EPA_CS.BUSY, .ro), (SLC_EPA_CS.RESULT, .ro)]
  | .epvCsr _ => [(EPV_CSR.OP, .wo), (EPV_CSR.GEN, .ro), (EPV_CSR.HANDLE, .rw)]
  | .epvResult _ => [(EPV_RESULT.ASSIGNED, .ro), (EPV_RESULT.DETACHED, .ro), (EPV_RESULT.MODE, .ro), (EPV_RESULT.GSAFE_M, .ro), (EPV_RESULT.GSAFE_S, .ro), (EPV_RESULT.SECOK, .ro), (EPV_RESULT.SECURE, .ro), (EPV_RESULT.SECOTHER, .ro), (EPV_RESULT.DIRTY, .ro), (EPV_RESULT.TYPE, .ro), (EPV_RESULT.DIR, .ro), (EPV_RESULT.FOLOST, .ro), (EPV_RESULT.DEVICE, .ro)]
  | .mbxCsr _ => [(MBX_CSR.DB, .wo), (MBX_CSR.IN_ACK, .wo), (MBX_CSR.IE, .rw), (MBX_CSR.VEC, .rw), (MBX_CSR.OUT_BUSY, .ro), (MBX_CSR.IN_FULL, .ro), (MBX_CSR.OVR, .w1c), (MBX_CSR.OUT_DONE, .w1c), (MBX_CSR.IN_NEW, .w1c), (MBX_CSR.ASSIGN_CHG, .w1c), (MBX_CSR.SEC_LOST, .w1c)]
  | .mbxSCsr _ => [(MBX_S_CSR.DB, .wo), (MBX_S_CSR.ACK, .wo), (MBX_S_CSR.OUT_BUSY, .ro), (MBX_S_CSR.IN_FULL, .ro)]
  | .mbxPend _ => [(MBX_PEND.PEND, .ro)]
  | .mbxRst _ => [(MBX_RST.RST, .w1c)]
  | .mbxMcsr => [(MBX_MCSR.IE, .rw), (MBX_MCSR.VEC, .rw)]
  | .slCsr _ => [(SL_CSR.RESET, .wo), (SL_CSR.DRAIN, .ro), (SL_CSR.RSTB, .ro), (SL_CSR.FENCED, .ro), (SL_CSR.FCAUSE, .ro)]
  | .ringBase _ _ => [(RING_BASE.BASE, .rw)]
  | .ringDha _ _ => [(RING_DHA.ADDR, .rw)]
  | .ringTsa _ _ => [(RING_TSA.ADDR, .rw), (RING_TSA.TSE, .rw)]
  | .ringCtl _ _ => [(RING_CTL.EN, .rw), (RING_CTL.VEC, .rw), (RING_CTL.IE, .rw), (RING_CTL.SIZE, .rw)]
  | .ringMod _ _ => [(RING_MOD.MTIME, .rw), (RING_MOD.MCNT, .rw)]
  | .ringDone _ _ => [(RING_DONE.LAP, .ro), (RING_DONE.IDX, .ro)]
  | .ringSts _ _ => [(RING_STS.IDLE, .ro), (RING_STS.ENREJ, .w1c), (RING_STS.MAL, .ro), (RING_STS.MCAUSE, .ro), (RING_STS.SCAN, .ro)]
  | .db _ _ => [(DB.RING, .wo)]
  | .dspLdSrc => [(DSP_LD_SRC.ADDR, .rw)]
  | .dspLdCtl => [(DSP_LD_CTL.CMD, .wo), (DSP_LD_CTL.SLICE, .rw), (DSP_LD_CTL.PROG, .rw)]
  | .dspLdSts => [(DSP_LD_STS.BUSY, .ro), (DSP_LD_STS.RESULT, .ro), (DSP_LD_STS.DETAIL, .ro)]
  | .dspFuelMax => [(DSP_FUEL_MAX.MAX, .rw)]
  | .dspCtl => [(DSP_CTL.STEAL_EN, .rw), (DSP_CTL.ADAPT, .rw), (DSP_CTL.SPAN, .rw), (DSP_CTL.QUANTUM, .rw)]
  | .dspClSts _ => [(DSP_CL_STS.ON, .ro), (DSP_CL_STS.BUSY, .ro), (DSP_CL_STS.TOPLVL, .ro), (DSP_CL_STS.RDY, .ro), (DSP_CL_STS.READY, .ro)]
  | .dspClNbr _ => [(DSP_CL_NBR.ORDER, .ro)]
  | .dspClSteal _ => [(DSP_CL_STEAL.IN, .ro), (DSP_CL_STEAL.OUT, .ro)]
  | .semCfg _ => [(SEM_CFG.EN, .rw), (SEM_CFG.ARB, .ro), (SEM_CFG.SLICE, .rw)]
  | .semSt _ => [(SEM_ST.HELD, .ro), (SEM_ST.ABN, .ro), (SEM_ST.WAITERS, .ro), (SEM_ST.SLICE, .ro), (SEM_ST.CTX, .ro)]
  | .semCtl => [(SEM_CTL.CMD, .wo), (SEM_CTL.SEM, .rw)]
  | .semAbnCnt => [(SEM_ABN_CNT.COUNT, .ro)]
  | .dspStale => [(DSP_STALE.SLICE, .ro), (DSP_STALE.CTX, .ro), (DSP_STALE.VALID, .w1c)]
  | .dspStaleCnt => [(DSP_STALE_CNT.COUNT, .ro)]
  | .plnClk => [(PLN_CLK.COUNT, .ro)]
  | .plnSnapCtl => [(PLN_SNAP_CTL.TAKE, .wo)]
  | .plnSnapClk => [(PLN_SNAP_CLK.COUNT, .ro)]
  | .plnSnapSub => [(PLN_SNAP_SUB.SUB, .ro), (PLN_SNAP_SUB.PORT, .ro), (PLN_SNAP_SUB.KIND, .ro), (PLN_SNAP_SUB.ID, .ro)]
  | .plnSnapEdge => [(PLN_SNAP_EDGE.EDGE, .ro)]
  | .plnBrdSel => [(PLN_BRD_SEL.SLOT, .rw), (PLN_BRD_SEL.FILE, .rw), (PLN_BRD_SEL.LINE, .rw)]
  | .plnBrdHdr => [(PLN_BRD_HDR.VALID, .ro), (PLN_BRD_HDR.REPLAY, .ro), (PLN_BRD_HDR.UNCHK, .ro), (PLN_BRD_HDR.COUNT, .ro), (PLN_BRD_HDR.MF, .ro)]
  | .plnCtl => [(PLN_CTL.CMD, .wo), (PLN_CTL.PAIR, .wo)]
  | .plnSts => []
  | .plnCnt => [(PLN_CNT.OVR, .ro), (PLN_CNT.MIS, .ro), (PLN_CNT.CHKL, .ro)]
  | .plnSyncCfg => [(PLN_SYNC_CFG.EDGE, .rw), (PLN_SYNC_CFG.GUARD, .rw), (PLN_SYNC_CFG.LOSS, .rw), (PLN_SYNC_CFG.FILTER, .rw)]
  | .plnSyncRatio => [(PLN_SYNC_RATIO.NUM, .rw), (PLN_SYNC_RATIO.DEN, .rw)]
  | .plnSyncOfs => [(PLN_SYNC_OFS.OFS, .rw)]
  | .plnSyncCtl => [(PLN_SYNC_CTL.CMD, .wo)]
  | .plnSyncSts => [(PLN_SYNC_STS.STATE, .ro), (PLN_SYNC_STS.SLOST, .w1c), (PLN_SYNC_STS.CFG_ERR, .w1c), (PLN_SYNC_STS.RATE_ERR, .w1c), (PLN_SYNC_STS.ADOPTED, .ro)]
  | .plnSyncErr => [(PLN_SYNC_ERR.ERR, .ro)]
  | .plnTcrAnc => [(PLN_TCR_ANC.ANC, .ro)]
  | .plnTcrClk => [(PLN_TCR_CLK.EDGE_T, .ro)]
  | .plnTcrSeq => [(PLN_TCR_SEQ.SEQ, .ro)]
  | .plnFout => [(PLN_FOUT.MODE, .rw), (PLN_FOUT.WIDTH, .rw), (PLN_FOUT.DIV, .rw)]
  | .portPrfCfg _ => [(PORT_PRF_CFG.LIE, .rw), (PORT_PRF_CFG.LEVEL, .rw)]
  | .portPrfSts _ => [(PORT_PRF_STS.LVL, .w1c), (PORT_PRF_STS.PERR, .w1c), (PORT_PRF_STS.PKTS, .ro), (PORT_PRF_STS.OCC, .ro), (PORT_PRF_STS.CLS, .ro)]
  | .portPrfNote _ => [(PORT_PRF_NOTE.NOTES, .ro)]
  | .portPrfLoss _ => [(PORT_PRF_LOSS.RSTS, .ro), (PORT_PRF_LOSS.ITEMS, .ro)]
  | .portXerr _ => [(PORT_XERR.ENDED, .ro), (PORT_XERR.ERRS, .ro)]
  | .portSeqCfg _ => [(PORT_SEQ_CFG.GMB_EN, .rw), (PORT_SEQ_CFG.GMB_BUDGET, .rw), (PORT_SEQ_CFG.GMB_BACKOFF, .rw)]
  | .portGmbCnt _ => [(PORT_GMB_CNT.LANDED, .ro), (PORT_GMB_CNT.ISSUED, .ro)]
  | .portGmbOrph _ => [(PORT_GMB_ORPH.ORPHANED, .ro)]
  | .portGpool => [(PORT_GPOOL.USED, .ro), (PORT_GPOOL.SIZE, .rw)]
  | .portGpoolHeld => [(PORT_GPOOL_HELD.ORPH, .ro), (PORT_GPOOL_HELD.DETH, .ro)]
  | .portDet _ => [(PORT_DET.CMD, .wo), (PORT_DET.IGN, .w1c), (PORT_DET.DEVICE, .rw)]
  | .dspMvCto _ => [(DSP_MV_CTO.CTO, .rw)]
  | .dspMvCfg => [(DSP_MV_CFG.HOPS, .rw)]
  | .dspMvFaddr => [(DSP_MV_FADDR.ADDR, .ro)]
  | .dspMvFsts => [(DSP_MV_FSTS.VALID, .w1c), (DSP_MV_FSTS.CAUSE, .ro), (DSP_MV_FSTS.PORT, .ro), (DSP_MV_FSTS.SLICE, .ro), (DSP_MV_FSTS.CTX, .ro)]
  | .dspMvFcnt => [(DSP_MV_FCNT.RETRY, .ro), (DSP_MV_FCNT.FINAL, .ro)]
  | .mdmaSrc _ => [(MDMA_SRC.ADDR, .rw)]
  | .mdmaDst _ => [(MDMA_DST.ADDR, .rw)]
  | .mdmaDesc _ => [(MDMA_DESC.ADDR, .rw)]
  | .mdmaCnt _ => [(MDMA_CNT.COUNT, .rw)]
  | .mdmaCtl _ => [(MDMA_CTL.START, .wo), (MDMA_CTL.STOP, .wo), (MDMA_CTL.IE, .rw), (MDMA_CTL.CHAIN, .rw), (MDMA_CTL.REQ, .rw), (MDMA_CTL.BURST, .rw), (MDMA_CTL.ESIZE, .rw), (MDMA_CTL.DINC, .rw), (MDMA_CTL.SINC, .rw)]
  | .mdmaSts _ => [(MDMA_STS.BUSY, .ro), (MDMA_STS.RUN, .ro), (MDMA_STS.DONE, .w1c), (MDMA_STS.HALT, .w1c), (MDMA_STS.EMPTY, .w1c), (MDMA_STS.IGN, .w1c), (MDMA_STS.CODE, .ro), (MDMA_STS.BYTES, .ro)]
  | .mdmaRunq => [(MDMA_RUNQ.ACT, .ro), (MDMA_RUNQ.QUEUED, .ro), (MDMA_RUNQ.CHAN, .ro)]
  | .sealKey _ => [(SEAL_KEY.KEY, .wo)]
  | .sealKeyCtl => [(SEAL_KEY_CTL.CMD, .wo), (SEAL_KEY_CTL.USE, .wo), (SEAL_KEY_CTL.SLOT, .wo)]
  | .sealKeySts => [(SEAL_KEY_STS.BUSY, .ro), (SEAL_KEY_STS.RESULT, .ro)]
  | .sealSlot _ => [(SEAL_SLOT.VALID, .ro), (SEAL_SLOT.USE, .ro), (SEAL_SLOT.OPS, .ro), (SEAL_SLOT.GEN, .ro)]
  | .sealAdjCtl => [(SEAL_ADJ_CTL.CMD, .wo), (SEAL_ADJ_CTL.SLOT, .rw), (SEAL_ADJ_CTL.SLICE, .rw)]
  | .sealAdjAddr => [(SEAL_ADJ_ADDR.ADDR, .rw)]
  | .sealAdjSts => [(SEAL_ADJ_STS.BUSY, .ro), (SEAL_ADJ_STS.STATE, .ro), (SEAL_ADJ_STS.RESULT, .ro)]
  | .sealAdjLen => [(SEAL_ADJ_LEN.LEN, .rw)]
  | .sealAdjInfo => [(SEAL_ADJ_INFO.UNBOUND, .ro), (SEAL_ADJ_INFO.LIVE, .ro)]
  | .sealIdCtl => [(SEAL_ID_CTL.CMD, .wo), (SEAL_ID_CTL.DEVICE, .rw)]
  | .sealId _ => [(SEAL_ID.ID, .rw)]
  | .sealFwAddr => [(SEAL_FW_ADDR.ADDR, .rw)]
  | .sealFwCtl => [(SEAL_FW_CTL.GO, .wo), (SEAL_FW_CTL.LEN, .rw)]
  | .sealFwSts => [(SEAL_FW_STS.BUSY, .ro), (SEAL_FW_STS.REVOKED, .ro), (SEAL_FW_STS.KEY, .ro), (SEAL_FW_STS.RESULT, .ro)]
  | .pwrCtl _ => [(PWR_CTL.MODE, .rw), (PWR_CTL.DWAKE, .rw)]
  | .pwrSts _ => [(PWR_STS.STATE, .ro), (PWR_STS.WOKE, .w1c), (PWR_STS.ABT, .w1c), (PWR_STS.IGN, .w1c), (PWR_STS.STUCK, .w1c), (PWR_STS.APT, .ro), (PWR_STS.RSTEP, .ro), (PWR_STS.WSRC, .ro), (PWR_STS.ENTRIES, .ro)]
  | .pwrBias => [(PWR_BIAS.FBB, .rw), (PWR_BIAS.RBB, .rw), (PWR_BIAS.HOLD, .rw)]
  | .pwrWline => [(PWR_WLINE.LTHR, .rw), (PWR_WLINE.FILT, .rw), (PWR_WLINE.EN, .rw)]
  | .pwrWvbus => [(PWR_WVBUS.VTHR, .rw), (PWR_WVBUS.FILT, .rw), (PWR_WVBUS.EN, .rw)]
  | .pwrWcompat => [(PWR_WCOMPAT.EI, .rw), (PWR_WCOMPAT.LFPS, .rw)]
  | .pwrLppol _ _ => [(PWR_LPPOL.DMIN, .rw), (PWR_LPPOL.DMAX, .rw), (PWR_LPPOL.BESL_MAX, .rw), (PWR_LPPOL.LATMAX, .rw)]
  | .pwrLpst _ _ => [(PWR_LPST.WARM, .ro), (PWR_LPST.LAST, .ro), (PWR_LPST.PRED, .ro)]
  | .pwrLpcnt _ _ => [(PWR_LPCNT.CLAMPS, .ro), (PWR_LPCNT.INTERVALS, .ro)]
  | .pwrLpex _ => [(PWR_LPEX.U2EL, .rw), (PWR_LPEX.U1EL, .rw)]
  | .pwrAvsPol => [(PWR_AVS_POL.EN, .rw), (PWR_AVS_POL.CEIL, .rw), (PWR_AVS_POL.FLOOR, .rw)]
  | .pwrAvsBus => [(PWR_AVS_BUS.SETTLE, .rw), (PWR_AVS_BUS.ADDR, .rw), (PWR_AVS_BUS.VEXP, .rw)]
  | .pwrAvsSts => [(PWR_AVS_STS.VOUT, .ro), (PWR_AVS_STS.CSTEP, .ro), (PWR_AVS_STS.BUSERR, .w1c), (PWR_AVS_STS.IGN, .w1c), (PWR_AVS_STS.VNEED, .ro)]
  | .pwrAvsCnt => [(PWR_AVS_CNT.CEILC, .ro), (PWR_AVS_CNT.FLOORC, .ro)]
  | .icSrc _ => [(IC_SRC.ENA, .rw), (IC_SRC.ENB, .rw), (IC_SRC.PRI, .rw), (IC_SRC.SENSE, .rw), (IC_SRC.FILT, .rw), (IC_SRC.INSVA, .ro), (IC_SRC.INSVB, .ro), (IC_SRC.PEND, .ro)]
  | .icPend _ => [(IC_PEND.PEND, .ro)]
  | .icSwi => [(IC_SWI.SET, .wo)]
  | .icThr _ => [(IC_THR.THR, .rw)]
  | .icClaim _ => [(IC_CLAIM.CLAIM, .wo)]
  | .icClaimed _ => [(IC_CLAIMED.DEPTH, .ro), (IC_CLAIMED.PRI, .ro), (IC_CLAIMED.ID, .ro)]
  | .icComp _ => [(IC_COMP.ID, .wo)]
  | .icSts _ => [(IC_STS.IGN, .w1c), (IC_STS.WAKE, .w1c), (IC_STS.RUNPRI, .ro), (IC_STS.SPUR, .ro)]
  | .fltTemp => [(FLT_TEMP.WARN, .rw), (FLT_TEMP.CRIT, .rw)]
  | .fltCfg _ => [(FLT_CFG.EN, .rw), (FLT_CFG.NOALIVE, .rw), (FLT_CFG.REACT, .rw), (FLT_CFG.N, .rw), (FLT_CFG.W, .rw)]
  | .fltSts _ => [(FLT_STS.STATE, .ro), (FLT_STS.HOUR, .ro), (FLT_STS.COUNT, .ro), (FLT_STS.RCNT, .ro)]
  | .fltHold => [(FLT_HOLD.DSAFE, .ro), (FLT_HOLD.HALT, .ro), (FLT_HOLD.PORTS, .ro)]
  | .fltAlive => [(FLT_ALIVE.STOPPED, .ro), (FLT_ALIVE.LEVEL, .ro), (FLT_ALIVE.HALT, .rw)]
  | .fltRcfg => [(FLT_RCFG.Q, .rw), (FLT_RCFG.K, .rw)]
  | .fltCtl => [(FLT_CTL.CMD, .wo), (FLT_CTL.SRC, .wo)]
  | .fltHsts => [(FLT_HSTS.PIN, .ro), (FLT_HSTS.NEWEST, .ro)]
  | .fltHtotal => [(FLT_HTOTAL.TOTAL, .ro)]
  | .fltHist _ => [(FLT_HIST.RECORD, .ro)]
  | .fltForce => [(FLT_FORCE.SRC, .wo), (FLT_FORCE.DETAIL, .wo)]
  | .fltForceAux => [(FLT_FORCE_AUX.AUX, .rw)]
  | .fltRaise => [(FLT_RAISE.SRC, .wo), (FLT_RAISE.DETAIL, .wo)]
  | .fltIpend => [(FLT_IPEND.PEND, .w1c)]
  | .fltSevere => [(FLT_SEVERE.SEV, .ro)]
  | .fltLatched => [(FLT_LATCHED.LAT, .ro)]
  | .glbMgtSts => [(GLB_MGT_STS.ACTIVE, .ro), (GLB_MGT_STS.SBY_RDY, .ro), (GLB_MGT_STS.NOMGT, .ro), (GLB_MGT_STS.RESUMED, .ro), (GLB_MGT_STS.CAUSE, .ro), (GLB_MGT_STS.FOVR, .ro)]
  | .glbMgtCtl => [(GLB_MGT_CTL.CMD, .wo), (GLB_MGT_CTL.RVEC, .rw)]
  | .glbMgtWdt => [(GLB_MGT_WDT.KICK, .wo), (GLB_MGT_WDT.TIMEOUT, .rw)]
  | .glbMgtCkpt => [(GLB_MGT_CKPT.GO, .wo), (GLB_MGT_CKPT.BUSY, .ro), (GLB_MGT_CKPT.BANK, .ro), (GLB_MGT_CKPT.IGN, .w1c), (GLB_MGT_CKPT.LEN, .rw)]
  | .glbMgtCkseq => [(GLB_MGT_CKSEQ.SEQ, .ro)]
  | .tlmCtl => [(TLM_CTL.CMD, .wo)]
  | .tlmDiode _ => [(TLM_DIODE.T, .ro)]
  | .tlmRail _ => [(TLM_RAIL.V, .ro)]
  | .tlmRwin _ => [(TLM_RWIN.HI, .rw), (TLM_RWIN.LO, .rw)]
  | .tlmEcc _ => [(TLM_ECC.CE, .ro)]
  | .tlmLat _ => [(TLM_LAT.N, .ro)]
  | .glbFwmbCsr => [(GLB_FWMB_CSR.HDB, .wo), (GLB_FWMB_CSR.HACK, .wo), (GLB_FWMB_CSR.FDB, .wo), (GLB_FWMB_CSR.FACK, .wo), (GLB_FWMB_CSR.IE, .rw), (GLB_FWMB_CSR.VEC, .rw), (GLB_FWMB_CSR.HBUSY, .ro), (GLB_FWMB_CSR.FFULL, .ro), (GLB_FWMB_CSR.HOVR, .w1c)]
  | .glbRstSts => [(GLB_RST_STS.CAUSE, .ro), (GLB_RST_STS.EXT, .w1c), (GLB_RST_STS.HOLD, .ro)]
  | .glbSvc => [(GLB_SVC.HELD, .ro), (GLB_SVC.STUCK, .ro), (GLB_SVC.ACT, .ro), (GLB_SVC.LEN, .ro)]
  | .glbRstCtl => [(GLB_RST_CTL.CMD, .wo)]
  | .glbBootSts => [(GLB_BOOT_STS.STAGE, .ro), (GLB_BOOT_STS.SRC, .ro), (GLB_BOOT_STS.SLOT, .ro), (GLB_BOOT_STS.SLOTST, .ro), (GLB_BOOT_STS.DIRBAD, .ro), (GLB_BOOT_STS.RESA, .ro), (GLB_BOOT_STS.RESB, .ro)]
  | .portDefr _ => [(PORT_DEFR.TTHUB, .rw), (PORT_DEFR.TTPORT, .rw), (PORT_DEFR.ROUTE, .rw), (PORT_DEFR.SS, .rw), (PORT_DEFR.SPEED, .rw), (PORT_DEFR.MPS, .rw)]
  | .portTstCtl _ => [(PORT_TST_CTL.START, .wo), (PORT_TST_CTL.STOP, .wo), (PORT_TST_CTL.DEPTH, .rw), (PORT_TST_CTL.PATH, .rw), (PORT_TST_CTL.PAT, .rw), (PORT_TST_CTL.LANES, .rw), (PORT_TST_CTL.RATE, .rw)]
  | .portTstSts _ => [(PORT_TST_STS.RUN, .ro), (PORT_TST_STS.LOCK, .ro), (PORT_TST_STS.LOST, .w1c), (PORT_TST_STS.REJ, .w1c), (PORT_TST_STS.RCODE, .ro)]
  | .portTstBits _ => [(PORT_TST_BITS.BITS, .ro)]
  | .portTstErrs _ => [(PORT_TST_ERRS.ERRS, .ro)]
  | .portTstWord _ => [(PORT_TST_WORD.WORD, .rw)]
  | .glbHpTst _ => [(GLB_HP_TST.START, .wo), (GLB_HP_TST.STOP, .wo), (GLB_HP_TST.RUN, .ro), (GLB_HP_TST.LOCK, .ro), (GLB_HP_TST.LOST, .w1c), (GLB_HP_TST.REJ, .w1c), (GLB_HP_TST.DEPTH, .rw), (GLB_HP_TST.PAT, .rw), (GLB_HP_TST.RATE, .rw), (GLB_HP_TST.LANES, .rw)]
  | .glbHpTbits _ => [(GLB_HP_TBITS.BITS, .ro)]
  | .glbHpTerr _ => [(GLB_HP_TERR.ERRS, .ro)]
  | .glbHpTword _ => [(GLB_HP_TWORD.WORD, .rw)]
  | .glbBistCtl => [(GLB_BIST_CTL.START, .wo), (GLB_BIST_CTL.DOMAIN, .rw)]
  | .glbBistSts => [(GLB_BIST_STS.BUSY, .ro), (GLB_BIST_STS.RESULT, .ro), (GLB_BIST_STS.MA_OK, .ro), (GLB_BIST_STS.MB_OK, .ro), (GLB_BIST_STS.TLOCK, .ro), (GLB_BIST_STS.DLOCK, .ro), (GLB_BIST_STS.DOMAIN, .ro)]
  | .glbBistFail => [(GLB_BIST_FAIL.ADDR, .ro)]
  | .glbId => [(GLB_ID.PART, .ro), (GLB_ID.REV, .ro), (GLB_ID.GRADE, .ro), (GLB_ID.MAPVER, .ro)]
  | .glbSerial => [(GLB_SERIAL.SERIAL, .ro)]
  | .slId _ => [(SL_ID.SLICE, .ro), (SL_ID.PORT, .ro), (SL_ID.FUNC, .ro), (SL_ID.SLOT, .ro), (SL_ID.PEN, .ro)]
  | .slcUeng _ => [(SLC_UENG.TE, .ro), (SLC_UENG.MAXPRI, .ro), (SLC_UENG.RINGS, .ro), (SLC_UENG.LIB, .ro)]
  | .slcUmem _ => [(SLC_UMEM.CTX, .ro), (SLC_UMEM.LB, .ro)]
  | .slcUper _ => [(SLC_UPER.SEN, .ro), (SLC_UPER.SSLOT, .ro), (SLC_UPER.PER, .ro)]
  | .slcUep _ => [(SLC_UEP.HANDLES, .ro)]
  | .mbxOut _ _ => [(MBX_OUT.WORD, .rw)]
  | .mbxIn _ _ => [(MBX_IN.WORD, .ro)]
  | .fwmbHost _ => [(FWMB_HOST.WORD, .rw)]
  | .fwmbFw _ => [(FWMB_FW.WORD, .rw)]
  | .boardWin _ => [(BOARD_WIN.PLACEMENT, .ro)]
  | .epvCsrMgt _ => [(EPV_CSR.HANDLE, .rw)]

/-- The static neighbour order of cluster `k` (R253). -/
def staticOrder (k : Nat) : List Nat :=
  [k + 1, k + 19, k + 2, k + 18, k + 3, k + 17, k + 4, k + 16].map (· % 20)

/-- Eight 5-bit cluster numbers, entry j in bits [5j + 4:5j] (`DSP_CLk_NBR.ORDER`). -/
def packOrder : List Nat → Nat
  | [] => 0
  | c :: t => c % 32 + 32 * packOrder t

/-- The default `REACT`, `N` and `W` of source `i` (Table 1 of chapter 15). Source 63 has no row values there;
the model reads them as 0 (DESIGN CHOICE, log entry 4). -/
def fltDefault (i : Nat) : Nat × Nat × Nat :=
  if i < 20 then (3, 3, 1000)
  else if i < 40 then (1, 4, 1000)
  else if i < 44 then (0, 8, 60000)
  else match i with
    | 44 => (4, 1, 0)
    | 45 => (0, 255, 1000)
    | 46 => (1, 1, 0)
    | 47 => (1, 1, 0)
    | 48 => (4, 1, 0)
    | 49 => (0, 16, 1000)
    | 50 => (1, 8, 1000)
    | 51 => (1, 1, 0)
    | 52 => (1, 1, 0)
    | 53 => (0, 4, 1000)
    | 54 => (0, 16, 1000)
    | 55 => (1, 1, 0)
    | 56 => (1, 3, 1000)
    | 57 => (1, 1, 0)
    | 58 => (4, 1, 0)
    | 59 => (1, 4, 10000)
    | 60 => (1, 1, 0)
    | 61 => (0, 1, 0)
    | 62 => (0, 1, 0)
    | _ => (0, 0, 0)

/-- The grade's upper junction limit in °C as an 8-bit signed value (Table 1 of the scope chapter). -/
def tjUpper : BitVec 8 := if Config.gradeFuse = 1 then 115 else 105

/-- The reset value of every register (R6). Fields latched from straps read 0 here; the reads that show them
take the straps from the state. -/
def Reg.resetVal : Reg → Word64
  | .portCfg n => PORT_CFG.SS_EN.put (if n < 16 then 1 else 0) (0x40A00#64)
  | .portOc _ => 0xA320A14#64
  | .glbHpCtl _ => 0xA#64
  | .glbMgrTmo => 0xC8#64
  | .slcBind s => SLC_BIND.VALID.put (if s = 0 then 1 else 0) (0x0#64)
  | .slcCsr s => SLC_CSR.ACTIVE.put (if s = 0 then 1 else 0) (0x0#64)
  | .slcQeng s => SLC_QENG.LIB.put (if s = 0 then 0x40 else 0) (SLC_QENG.RINGS.put (if s = 0 then 0x40 else 0) (SLC_QENG.MAXPRI.put (if s = 0 then 7 else 0) (SLC_QENG.TE.put (if s = 0 then 0xA0 else 0) (0x0#64))))
  | .slcQmem s => SLC_QMEM.LB.put (if s = 0 then 0x200 else 0) (SLC_QMEM.CTX.put (if s = 0 then 0x800 else 0) (0x0#64))
  | .slcQper s => SLC_QPER.PER.put (if s = 0 then 0xFFFFF else 0) (0x0#64)
  | .slcQep s => SLC_QEP.HANDLES.put (if s = 0 then 0x10000 else 0) (0x0#64)
  | .slcEpaB => 0x3000#64
  | .ringCtl _ _ => 0x4#64
  | .ringSts _ _ => 0x80000000#64
  | .dspFuelMax => 0x10000#64
  | .dspCtl => 0xC50003C0#64
  | .dspClNbr k => DSP_CL_NBR.ORDER.put (packOrder (staticOrder k)) (0x0#64)
  | .plnSyncCfg => 0x140204#64
  | .plnSyncRatio => 0xC8003#64
  | .plnFout => 0x190001#64
  | .portPrfCfg _ => 0x18#64
  | .portSeqCfg _ => 0x80020800#64
  | .portGpool => 0x200#64
  | .dspMvCto _ => 0x2710#64
  | .dspMvCfg => 0x1000#64
  | .mdmaCtl _ => 0x160000#64
  | .sealFwSts => SEAL_FW_STS.REVOKED.put (Config.revokedKeys.toNat) (0x0#64)
  | .pwrCtl _ => 0x20000000#64
  | .pwrBias => 0xC000000A#64
  | .pwrWline => 0x820FFFFF#64
  | .pwrWvbus => 0x64800000#64
  | .pwrWcompat => 0xF00FFFF#64
  | .pwrLppol _ _ => 0x5326800#64
  | .pwrLpst n q => PWR_LPST.PRED.put ((Config.fusedPred n q).toNat) (0x0#64)
  | .pwrLpex n => PWR_LPEX.U1EL.put ((Config.fusedU1el n).toNat) (PWR_LPEX.U2EL.put ((Config.fusedU2el n).toNat) (0x0#64))
  | .pwrAvsPol => 0x3520028A#64
  | .pwrAvsBus => 0x14001400#64
  | .pwrAvsSts => PWR_AVS_STS.VOUT.put Config.fusedMv (0x0#64)
  | .icClaimed _ => 0x3FF#64
  | .icSts _ => 0xF0000#64
  | .fltTemp => FLT_TEMP.CRIT.put ((tjUpper + 5).toNat) (FLT_TEMP.WARN.put ((tjUpper - 5).toNat) (0x0#64))
  | .fltCfg i => FLT_CFG.W.put ((fltDefault i).2.2) (FLT_CFG.N.put ((fltDefault i).2.1) (FLT_CFG.REACT.put ((fltDefault i).1) (FLT_CFG.NOALIVE.put (if i < 63 ∧ (fltDefault i).1 = 0 then 1 else 0) (FLT_CFG.EN.put (if i = 63 then 0 else 1) (0x0#64)))))
  | .fltRcfg => 0x640008#64
  | .glbBootSts => 0xFFFF#64
  | .portDefr _ => 0x3#64
  | .glbHpTst _ => 0x5FF00#64
  | .glbBistSts => GLB_BIST_STS.DLOCK.put (Config.dlock.toNat) (GLB_BIST_STS.TLOCK.put (Config.tlock.toNat) (0x0#64))
  | .glbId => GLB_ID.GRADE.put (Config.gradeFuse.toNat) (GLB_ID.REV.put (Config.revision.toNat) (0x71200001#64))
  | .glbSerial => GLB_SERIAL.SERIAL.put (Config.serial.toNat) (0x0#64)
  | _ => 0#64

/-- One row of the address map: base, stride, count and the register at index `i` (R507). -/
structure MapRow where
  base : Nat
  stride : Nat
  count : Nat
  reg : Nat → Reg

/-- The register that starts at address `a` according to a row. -/
def MapRow.hit (m : MapRow) (a : Nat) : Option Reg :=
  if m.base ≤ a ∧ (a - m.base) % m.stride = 0 ∧ (a - m.base) / m.stride < m.count
  then some (m.reg ((a - m.base) / m.stride)) else none

/-- The register that starts at address `a` according to a list of rows. -/
def mapFind (a : Nat) : List MapRow → Option Reg
  | [] => none
  | m :: t => match m.hit a with
    | some r => some r
    | none => mapFind a t

/-- The manager space (Tables 3 to 5 of chapter 19), part 1. -/
def mgrRows0 : List MapRow := [
  ⟨0x0, 0x4, 1, fun _ => .glbId⟩,
  ⟨0x8, 0x4, 1, fun _ => .glbSerial⟩,
  ⟨0x400, 0x4, 1, fun _ => .glbHpCfg⟩,
  ⟨0x410, 0x4, 1, fun _ => .glbMgrClaim⟩,
  ⟨0x414, 0x4, 1, fun _ => .glbMgrSts⟩,
  ⟨0x418, 0x4, 1, fun _ => .glbMgrTmo⟩,
  ⟨0x500, 0x20, 4, fun i => .glbHpCtl i⟩,
  ⟨0x504, 0x20, 4, fun i => .glbHpSts i⟩,
  ⟨0x508, 0x20, 4, fun i => .glbHpTst i⟩,
  ⟨0x510, 0x20, 4, fun i => .glbHpTbits i⟩,
  ⟨0x518, 0x20, 4, fun i => .glbHpTerr i⟩,
  ⟨0x51C, 0x20, 4, fun i => .glbHpTword i⟩,
  ⟨0x600, 0x4, 1, fun _ => .glbMgtSts⟩,
  ⟨0x604, 0x4, 1, fun _ => .glbMgtCtl⟩,
  ⟨0x608, 0x4, 1, fun _ => .glbMgtWdt⟩,
  ⟨0x610, 0x4, 1, fun _ => .glbMgtCkpt⟩,
  ⟨0x614, 0x4, 1, fun _ => .glbMgtCkseq⟩,
  ⟨0x700, 0x4, 1, fun _ => .glbRstSts⟩,
  ⟨0x704, 0x4, 1, fun _ => .glbRstCtl⟩,
  ⟨0x708, 0x4, 1, fun _ => .glbSvc⟩,
  ⟨0x710, 0x4, 1, fun _ => .glbBootSts⟩,
  ⟨0x800, 0x4, 16, fun i => .fwmbHost i⟩,
  ⟨0x840, 0x4, 16, fun i => .fwmbFw i⟩,
  ⟨0x880, 0x4, 1, fun _ => .glbFwmbCsr⟩,
  ⟨0x900, 0x4, 1, fun _ => .glbBistCtl⟩,
  ⟨0x904, 0x4, 1, fun _ => .glbBistSts⟩,
  ⟨0x908, 0x4, 1, fun _ => .glbBistFail⟩,
  ⟨0x10000, 0x8, 64, fun i => .fltCfg i⟩,
  ⟨0x10004, 0x8, 64, fun i => .fltSts i⟩,
  ⟨0x10200, 0x4, 1, fun _ => .fltRcfg⟩,
  ⟨0x10204, 0x4, 1, fun _ => .fltCtl⟩,
  ⟨0x10208, 0x4, 1, fun _ => .fltForce⟩,
  ⟨0x1020C, 0x4, 1, fun _ => .fltForceAux⟩,
  ⟨0x10210, 0x4, 1, fun _ => .fltRaise⟩,
  ⟨0x10214, 0x4, 1, fun _ => .fltAlive⟩,
  ⟨0x10218, 0x4, 1, fun _ => .fltIpend⟩,
  ⟨0x10220, 0x4, 1, fun _ => .fltSevere⟩,
  ⟨0x10228, 0x4, 1, fun _ => .fltLatched⟩,
  ⟨0x10230, 0x4, 1, fun _ => .fltHold⟩,
  ⟨0x10234, 0x4, 1, fun _ => .fltTemp⟩]

/-- The manager space (Tables 3 to 5 of chapter 19), part 2. -/
def mgrRows1 : List MapRow := [
  ⟨0x10238, 0x4, 1, fun _ => .fltHsts⟩,
  ⟨0x1023C, 0x4, 1, fun _ => .fltHtotal⟩,
  ⟨0x10800, 0x8, 256, fun i => .fltHist i⟩,
  ⟨0x20000, 0x8, 168, fun i => .pwrCtl i⟩,
  ⟨0x20004, 0x8, 168, fun i => .pwrSts i⟩,
  ⟨0x20600, 0x4, 1, fun _ => .pwrBias⟩,
  ⟨0x20800, 0x4, 1, fun _ => .pwrWline⟩,
  ⟨0x20804, 0x4, 1, fun _ => .pwrWvbus⟩,
  ⟨0x20808, 0x4, 1, fun _ => .pwrWcompat⟩,
  ⟨0x21000, 0x40, 20, fun i => .pwrLppol i 0⟩,
  ⟨0x21004, 0x40, 20, fun i => .pwrLpst i 0⟩,
  ⟨0x21008, 0x40, 20, fun i => .pwrLpcnt i 0⟩,
  ⟨0x21010, 0x40, 20, fun i => .pwrLppol i 1⟩,
  ⟨0x21014, 0x40, 20, fun i => .pwrLpst i 1⟩,
  ⟨0x21018, 0x40, 20, fun i => .pwrLpcnt i 1⟩,
  ⟨0x2101C, 0x40, 20, fun i => .pwrLpex i⟩,
  ⟨0x22000, 0x4, 1, fun _ => .pwrAvsPol⟩,
  ⟨0x22004, 0x4, 1, fun _ => .pwrAvsBus⟩,
  ⟨0x22008, 0x4, 1, fun _ => .pwrAvsSts⟩,
  ⟨0x2200C, 0x4, 1, fun _ => .pwrAvsCnt⟩,
  ⟨0x30000, 0x4, 512, fun i => .icSrc i⟩,
  ⟨0x30800, 0x4, 16, fun i => .icPend i⟩,
  ⟨0x30900, 0x10, 2, fun i => .icThr i⟩,
  ⟨0x30904, 0x10, 2, fun i => .icClaim i⟩,
  ⟨0x30908, 0x10, 2, fun i => .icClaimed i⟩,
  ⟨0x3090C, 0x10, 2, fun i => .icComp i⟩,
  ⟨0x30940, 0x8, 2, fun i => .icSts i⟩,
  ⟨0x30980, 0x4, 1, fun _ => .icSwi⟩,
  ⟨0x40000, 0xC00, 20, fun i => .portSts i⟩,
  ⟨0x40004, 0xC00, 20, fun i => .portCtl i⟩,
  ⟨0x40008, 0xC00, 20, fun i => .portCfg i⟩,
  ⟨0x4000C, 0xC00, 20, fun i => .portOc i⟩,
  ⟨0x40010, 0xC00, 20, fun i => .portLink i⟩,
  ⟨0x40018, 0xC00, 20, fun i => .portDefr i⟩,
  ⟨0x40100, 0xC00, 20, fun i => .portSeqCfg i⟩,
  ⟨0x40104, 0xC00, 20, fun i => .portPrfCfg i⟩,
  ⟨0x40108, 0xC00, 20, fun i => .portPrfSts i⟩,
  ⟨0x40110, 0xC00, 20, fun i => .portPrfNote i⟩,
  ⟨0x40114, 0xC00, 20, fun i => .portPrfLoss i⟩,
  ⟨0x40118, 0xC00, 20, fun i => .portXerr i⟩]

/-- The manager space (Tables 3 to 5 of chapter 19), part 3. -/
def mgrRows2 : List MapRow := [
  ⟨0x4011C, 0xC00, 20, fun i => .portDet i⟩,
  ⟨0x40120, 0xC00, 20, fun i => .portGmbCnt i⟩,
  ⟨0x40128, 0xC00, 20, fun i => .portGmbOrph i⟩,
  ⟨0x40200, 0xC00, 20, fun i => .portTstCtl i⟩,
  ⟨0x40204, 0xC00, 20, fun i => .portTstSts i⟩,
  ⟨0x40208, 0xC00, 20, fun i => .portTstBits i⟩,
  ⟨0x40210, 0xC00, 20, fun i => .portTstErrs i⟩,
  ⟨0x40218, 0xC00, 20, fun i => .portTstWord i⟩,
  ⟨0x4F000, 0x4, 4, fun i => .portGang i⟩,
  ⟨0x4F100, 0x4, 1, fun _ => .portGpool⟩,
  ⟨0x4F104, 0x4, 1, fun _ => .portGpoolHeld⟩,
  ⟨0x50000, 0x4, 1, fun _ => .plnClk⟩,
  ⟨0x50008, 0x4, 1, fun _ => .plnSnapCtl⟩,
  ⟨0x50010, 0x4, 1, fun _ => .plnSnapClk⟩,
  ⟨0x50018, 0x4, 1, fun _ => .plnSnapSub⟩,
  ⟨0x5001C, 0x4, 1, fun _ => .plnSnapEdge⟩,
  ⟨0x50020, 0x4, 1, fun _ => .plnCtl⟩,
  ⟨0x50024, 0x4, 1, fun _ => .plnSts⟩,
  ⟨0x50028, 0x4, 1, fun _ => .plnCnt⟩,
  ⟨0x50040, 0x4, 1, fun _ => .plnSyncCfg⟩,
  ⟨0x50044, 0x4, 1, fun _ => .plnSyncRatio⟩,
  ⟨0x50048, 0x4, 1, fun _ => .plnSyncOfs⟩,
  ⟨0x5004C, 0x4, 1, fun _ => .plnSyncCtl⟩,
  ⟨0x50050, 0x4, 1, fun _ => .plnSyncSts⟩,
  ⟨0x50054, 0x4, 1, fun _ => .plnSyncErr⟩,
  ⟨0x50058, 0x4, 1, fun _ => .plnTcrAnc⟩,
  ⟨0x50060, 0x4, 1, fun _ => .plnTcrClk⟩,
  ⟨0x50068, 0x4, 1, fun _ => .plnTcrSeq⟩,
  ⟨0x5006C, 0x4, 1, fun _ => .plnFout⟩,
  ⟨0x50070, 0x4, 1, fun _ => .plnBrdSel⟩,
  ⟨0x50074, 0x4, 1, fun _ => .plnBrdHdr⟩,
  ⟨0x51000, 0x8, 64, fun i => .boardWin i⟩,
  ⟨0x60000, 0x4, 1, fun _ => .dspCtl⟩,
  ⟨0x60040, 0x4, 1, fun _ => .dspStale⟩,
  ⟨0x60044, 0x4, 1, fun _ => .dspStaleCnt⟩,
  ⟨0x60100, 0x20, 20, fun i => .dspClSts i⟩,
  ⟨0x60108, 0x20, 20, fun i => .dspClNbr i⟩,
  ⟨0x60110, 0x20, 20, fun i => .dspClSteal i⟩,
  ⟨0x60800, 0x4, 1, fun _ => .dspLdSrc⟩,
  ⟨0x60808, 0x4, 1, fun _ => .dspLdCtl⟩]

/-- The manager space (Tables 3 to 5 of chapter 19), part 4. -/
def mgrRows3 : List MapRow := [
  ⟨0x6080C, 0x4, 1, fun _ => .dspLdSts⟩,
  ⟨0x60810, 0x4, 1, fun _ => .dspFuelMax⟩,
  ⟨0x60C00, 0x4, 4, fun i => .dspMvCto i⟩,
  ⟨0x60C10, 0x4, 1, fun _ => .dspMvCfg⟩,
  ⟨0x60C18, 0x4, 1, fun _ => .dspMvFaddr⟩,
  ⟨0x60C20, 0x4, 1, fun _ => .dspMvFsts⟩,
  ⟨0x60C24, 0x4, 1, fun _ => .dspMvFcnt⟩,
  ⟨0x70000, 0x4, 1024, fun i => .semCfg i⟩,
  ⟨0x71000, 0x4, 1024, fun i => .semSt i⟩,
  ⟨0x72000, 0x4, 1, fun _ => .semCtl⟩,
  ⟨0x72004, 0x4, 1, fun _ => .semAbnCnt⟩,
  ⟨0x80000, 0x4, 8, fun i => .sealKey i⟩,
  ⟨0x80020, 0x4, 1, fun _ => .sealKeyCtl⟩,
  ⟨0x80024, 0x4, 1, fun _ => .sealKeySts⟩,
  ⟨0x80100, 0x4, 32, fun i => .sealSlot i⟩,
  ⟨0x80200, 0x4, 1, fun _ => .sealAdjCtl⟩,
  ⟨0x80208, 0x4, 1, fun _ => .sealAdjAddr⟩,
  ⟨0x80210, 0x4, 1, fun _ => .sealAdjSts⟩,
  ⟨0x80214, 0x4, 1, fun _ => .sealAdjLen⟩,
  ⟨0x80218, 0x4, 1, fun _ => .sealAdjInfo⟩,
  ⟨0x80300, 0x4, 1, fun _ => .sealIdCtl⟩,
  ⟨0x80320, 0x4, 8, fun i => .sealId i⟩,
  ⟨0x80400, 0x4, 1, fun _ => .sealFwAddr⟩,
  ⟨0x80408, 0x4, 1, fun _ => .sealFwCtl⟩,
  ⟨0x8040C, 0x4, 1, fun _ => .sealFwSts⟩,
  ⟨0x90000, 0x4, 1, fun _ => .tlmCtl⟩,
  ⟨0x90010, 0x4, 2, fun i => .tlmDiode i⟩,
  ⟨0x90020, 0x4, 7, fun i => .tlmRail i⟩,
  ⟨0x90040, 0x4, 7, fun i => .tlmRwin i⟩,
  ⟨0x90084, 0x4, 9, fun i => .tlmEcc (i + 1)⟩,
  ⟨0x90100, 0x4, 16, fun i => .tlmLat i⟩,
  ⟨0xA0000, 0x4, 8, fun i => .mbxPend i⟩,
  ⟨0xA0020, 0x4, 8, fun i => .mbxRst i⟩,
  ⟨0xA0080, 0x4, 1, fun _ => .mbxMcsr⟩,
  ⟨0xA0180, 0x100, 255, fun i => .mbxSCsr (i + 1)⟩,
  ⟨0xB0000, 0x40, 8, fun i => .mdmaSrc i⟩,
  ⟨0xB0008, 0x40, 8, fun i => .mdmaDst i⟩,
  ⟨0xB0010, 0x40, 8, fun i => .mdmaDesc i⟩,
  ⟨0xB0018, 0x40, 8, fun i => .mdmaCnt i⟩,
  ⟨0xB001C, 0x40, 8, fun i => .mdmaCtl i⟩]

/-- The manager space (Tables 3 to 5 of chapter 19), part 5. -/
def mgrRows4 : List MapRow := [
  ⟨0xB0020, 0x40, 8, fun i => .mdmaSts i⟩,
  ⟨0xB0200, 0x4, 1, fun _ => .mdmaRunq⟩,
  ⟨0x100000, 0x100, 256, fun i => .slcBind i⟩,
  ⟨0x100004, 0x100, 256, fun i => .slcHost i⟩,
  ⟨0x100008, 0x100, 256, fun i => .slcCsr i⟩,
  ⟨0x100010, 0x100, 256, fun i => .slcWinBase i 0⟩,
  ⟨0x100018, 0x100, 256, fun i => .slcWinSize i 0⟩,
  ⟨0x100020, 0x100, 256, fun i => .slcWinBase i 1⟩,
  ⟨0x100028, 0x100, 256, fun i => .slcWinSize i 1⟩,
  ⟨0x100030, 0x100, 256, fun i => .slcQeng i⟩,
  ⟨0x100034, 0x100, 256, fun i => .slcQmem i⟩,
  ⟨0x100038, 0x100, 256, fun i => .slcQper i⟩,
  ⟨0x10003C, 0x100, 256, fun i => .slcQep i⟩,
  ⟨0x100040, 0x100, 256, fun i => .slcUeng i⟩,
  ⟨0x100044, 0x100, 256, fun i => .slcUmem i⟩,
  ⟨0x100048, 0x100, 256, fun i => .slcUper i⟩,
  ⟨0x10004C, 0x100, 256, fun i => .slcUep i⟩,
  ⟨0x110000, 0x4, 1, fun _ => .slcEpaA⟩,
  ⟨0x110004, 0x4, 1, fun _ => .slcEpaB⟩,
  ⟨0x110008, 0x4, 1, fun _ => .slcEpaCs⟩]

/-- The manager space (Tables 3 to 5 of chapter 19). -/
def mgrRows : List MapRow := mgrRows0 ++ mgrRows1 ++ mgrRows2 ++ mgrRows3 ++ mgrRows4

/-- The page of slice `s` (Table 6 of chapter 19), part 1. -/
def pageRows0 (s : Nat) : List MapRow := [
  ⟨0x0, 0x4, 1, fun _ => .slCsr s⟩,
  ⟨0x4, 0x4, 1, fun _ => .slId s⟩,
  ⟨0x100, 0x20, 64, fun i => .ringBase s i⟩,
  ⟨0x108, 0x20, 64, fun i => .ringDha s i⟩,
  ⟨0x110, 0x20, 64, fun i => .ringTsa s i⟩,
  ⟨0x118, 0x20, 64, fun i => .ringCtl s i⟩,
  ⟨0x11C, 0x20, 64, fun i => .ringMod s i⟩,
  ⟨0x900, 0x10, 64, fun i => .ringDone s i⟩,
  ⟨0x908, 0x10, 64, fun i => .ringSts s i⟩,
  ⟨0x1000, 0x4, 16, fun i => .mbxOut s i⟩,
  ⟨0x1040, 0x4, 16, fun i => .mbxIn s i⟩,
  ⟨0x1080, 0x4, 1, fun _ => .mbxCsr s⟩,
  ⟨0x2000, 0x8, 64, fun i => .db s i⟩,
  ⟨0x3000, 0x4, 1, fun _ => .epvCsr s⟩,
  ⟨0x3004, 0x4, 1, fun _ => .epvResult s⟩]

/-- The page of slice `s` (Table 6 of chapter 19). -/
def pageRows (s : Nat) : List MapRow := pageRows0 s

/-- The register that starts at offset `a` of manager space. The words of slice `s`'s mailbox are the same
registers as in its page (Table 9 of chapter 4). -/
def Reg.ofMgr (a : Nat) : Option Reg :=
  let s := (a - 0xA0000) / 0x100
  let w := (a - 0xA0000) % 0x100
  if 0xA0100 ≤ a ∧ a < 0xB0000 ∧ w < 0x80 ∧ w % 4 = 0 then
    some (if w < 0x40 then .mbxOut s (w / 4) else .mbxIn s ((w - 0x40) / 4))
  else mapFind a mgrRows

/-- The register that starts at offset `a` of slice `s`'s page; slice 0 has no mailbox (R508). -/
def Reg.ofPage (s a : Nat) : Option Reg :=
  if s = 0 ∧ 0x1000 ≤ a ∧ a ≤ 0x1080 then none else mapFind a (pageRows s)

end Sys2Proof.Machine
end

