-- ==== Sys2Proof/Machine/State.lean ====
section
/-!
DEFINITION. The state of the block: the register file of chapter 19, everything the chapters say is kept beside
registers, the always-on island, the queue of waiting commands, and the record of what the block has put on its
links. All of it is plain data; sparse maps are in canonical form (Machine/Bits.lean). `State.reset` is the block
right after reset.
-/
namespace Sys2Proof.Machine

/-! ## The always-on island -/

/-- The always-on island's own state (R20, R272, R273, R472 to R483, R519). Its registers are in `State.regs`
(reset kind power-on). -/
structure Aon where
  /-- Clock count, 64 bits (R272). -/
  clockCount : Nat
  /-- REF cycles since the last tick, 0 to 3,124 (R150, R271). -/
  refCycle : Nat
  /-- REF is running (R273). -/
  refRunning : Bool
  /-- Accumulator that advances the Clock count from ACLK (R273). -/
  acc : Nat
  /-- The island runs from ACLK_IN, and from its internal RC otherwise (R519). -/
  extAclk : Bool
  /-- VDD_AON is above its threshold (R472, R512). -/
  vddAon : Bool
  /-- Every board rail is good; those that are below their threshold, numbered as in Table 5 of chapter 16 (R473, R475). -/
  railsGood : Bool
  badRails : List Nat
  /-- The filtered level of RESET_N is high; 1 above the REF cycle in which it last passed low (R475, R478, R479). -/
  resetN : Bool
  resetLow : Nat
  /-- Strap values as sampled (R21). -/
  straps : Straps
  /-- The press under way counts: it began after SVC_N had been seen high (R480). -/
  svcArmed : Bool
  /-- The press under way has been decided STUCK (R481). -/
  svcStuck : Bool
  /-- PORT_CYCLE holds every PWREN deasserted, since the REF cycle of the last decision (R482). -/
  portCycle : Option Nat
  /-- A RESET_N hold above 1 s waits to be reported as EXT_RESET (R478). -/
  extDue : Bool
  deriving DecidableEq, Repr

/-- Why a step stops. The spec gives the block no stop (every command has an effect, if only that it is ignored), so
no meaning raises a fault. -/
inductive Fault where
  /-- Raised by no meaning: the constructor keeps the type inhabited. Safe. -/
  | none
  deriving DecidableEq, Repr

/-- Why a command has no meaning. -/
inductive Refusal where
  /-- The command is not modelled yet; raised by `exec` alone. Safe: the machine stops. -/
  | notModelled (mnemonic : String)
  deriving DecidableEq, Repr

/-- The whole state. Maps from numbers are sparse; the comment of a field says what its key is. -/
structure State where
  /-- Commands that wait, first in first out: the model's own field. -/
  pending : List Instr
  aon : Aon
  /-- Stored register values by `Reg.addr`; a register not listed holds its reset value (R6, R504 to R508). -/
  regs : FMap Word64
  /-- Effective copies of quotas, windows, pool size and `PLN_FOUT`, while `regs` holds the pending ones
  (R110, R302, R330). -/
  eff : FMap Word64
  /-- High-half latches and staged low halves by requester and register (R14 to R18). -/
  latches : FMap (Option Word32)
  staged : FMap (Option Word32)
  /-- Bits set, registers written and ready lists joined in the latest cycle that had any: the model's own field (R11,
  R232). -/
  cyc : Cycle
  /-- What the latest read returned, by dwords from the lowest address: the model's own field. -/
  readData : List Word32
  /-- What the block has put on its links, newest first: the model's own field. -/
  out : List Output
  /-- Counts the values that the spec leaves open: the model's own field; Config.freeWord is applied to it. -/
  free : Nat
  /-- Functions by port × 64 + function; vectors by that × 2,048 + vector; ports HP0 to HP3. -/
  funcs : FMap Func
  vecs : FMap Vec
  hps : FMap Hp
  /-- Address translation cache, newest first (R86). -/
  atc : List Atc
  /-- Non-posted requests in the order they were made, and posted writes that have not left (R83 to R87, R338). -/
  reqs : List HostReq
  writes : List PWrite
  /-- Next number of a request or write. -/
  tag : Nat
  /-- Invalidate Requests not yet answered: port, function, the requests and writes they wait for (R87). -/
  invals : List (Nat × Nat × List Nat)
  /-- REF cycle of the claim timer's latest start while it runs (R94). -/
  claimTimer : Option Nat
  /-- Set-aside capacity by slice × 4 + resource: 0 contexts, 1 landing-buffer granules, 2 Library blocks (R111). -/
  aside : FMap Nat
  /-- Slices whose UNBIND waits for the reset and the tick (R105). -/
  unbind : List Nat
  /-- Slices whose reset in progress is a RELEASE (R372). -/
  releasing : List Nat
  /-- Slice resets before step 4 of Table 10 of chapter 4: slice, and REF cycle of the request (R132). -/
  resets : List (Nat × Nat)
  /-- Landing-buffer granules in use by slice (R335). -/
  lb : FMap Nat
  /-- Assignment tables by handle key: pending and effective, and the changes that wait for the tick (R110, R115). -/
  attP : FMap AttCfg
  att : FMap Att
  epaOps : List EpaOp
  /-- The assignment command being checked: its result and, if accepted, its change (R115). -/
  epaCmd : Option (Nat × Option EpaOp)
  /-- Handle key of the secure-input claimant by endpoint context (R124). -/
  sec : FMap (Option Nat)
  /-- Claims that an erase of their key slot has ended, until the next tick: endpoint context and handle key (R127). -/
  secOver : List (Nat × Nat)
  /-- Rings by slice × 64 + ring. -/
  rings : FMap Ring
  /-- The context store. -/
  ctxs : FMap Ctx
  /-- The Library by slice × 64 + ID, and the program command in progress: CMD, slice, ID (R169 to R172). -/
  progs : FMap Prog
  ldCmd : Option (Nat × Nat × Nat)
  /-- Transfer engines; ready lists by cluster × 8 + level; items stolen in the period by thief × 32 + victim. -/
  engs : FMap Eng
  ready : FMap (List Nat)
  stolen : FMap Nat
  /-- The Clock count of the latest tick at which stalemates were looked for (R268). -/
  staleSeen : Nat
  /-- Endpoint tokens by handle key; semaphores. -/
  tokens : FMap Token
  sems : FMap Sem
  /-- Endpoint contexts, device contexts, root ports. -/
  eps : FMap Ep
  devs : FMap Dev
  ports : FMap Port
  /-- Reservations by handle key: the pending set, the effective set, and the sets that were effective at the
  ticks that fix the split placements of the latest frame fixed and of the one before it (R286 to R289). -/
  resvP : FMap Resv
  resvE : FMap Resv
  resvF : FMap Resv
  resvG : FMap Resv
  /-- RESERVE entries waiting for their planner pair, in order of arrival: context (R288). -/
  deciding : List Nat
  /-- Boards: lines by slot × 64 + file × 3 + line, headers by slot × 4 + pair, planner pairs (R278, R290). -/
  board : FMap (List (Word64 × Nat))
  hdrs : FMap BoardHdr
  planners : FMap Planner
  sync : Sync
  /-- REF cycle of the latest snapshot (R274). -/
  snapAt : Option Nat
  /-- Fault sources (R424); event interrupt sources pending; sources in service at MA and MB; GPIO (R410 to R416). -/
  flts : FMap FltSrc
  icPend : FMap Bool
  insA : FMap Bool
  insB : FMap Bool
  gpio : FMap Gpio
  /-- Power domains (R381), the voltage loop, predictors by port × 2 + path. -/
  doms : FMap Dom
  avs : Avs
  preds : FMap Pred
  /-- Management pairs and their SRAM by byte offset, zero after reset (R443, R447, R485). -/
  pairA : Pair
  pairB : Pair
  sramA : FMap Byte
  sramB : FMap Byte
  ckpt : Option Ckpt
  /-- REF cycle from which a cold start or a warm reset runs, until the standby's READY (R483, R485). -/
  starting : Option Nat
  /-- The watchdog runs, since the REF cycle of the last kick or write (R444). -/
  wdt : Option Nat
  /-- Live latency histogram; latencies that wait for the departure of a write: its tag, the report's time (R458). -/
  live : FMap Nat
  lats : List (Nat × Nat)
  /-- Service DMA: run queue and the run in progress (R351). -/
  mdmaQ : List Nat
  /-- The REF cycle in which the newest of them became pending, and how many did in it (R351); failures of the descriptor
  read of the first (R357). -/
  mdmaNew : Nat × Nat
  mdmaFails : Nat
  mdmaRun : Option MdmaRun
  /-- Seal unit: keys and sequence counters by slot, staging words, the key command in progress (CMD, slot, use, key),
  operations in order of acceptance (R360 to R366). -/
  keys : FMap (List Word32)
  seqs : FMap Nat
  stage : FMap (Option Word32)
  keyCmd : Option (Nat × Nat × Nat × List Word32)
  sealOps : List SealOp
  /-- What a RESTORE that has passed its checks rebuilds at the next tick (R375). -/
  restoring : Option SliceRecord
  /-- Adjourn states by slice, and the command in progress: CMD, slice, slot (R367). -/
  adjs : FMap Adj
  adjCmd : Option (Nat × Nat × Nat)
  /-- The JTAG instruction in force, and isolation of the core after EXTEST (R502, R503). -/
  jtag : JtagCode
  isolated : Bool
  deriving DecidableEq, Repr

/-- The always-on island after the power-on reset, with good rails, RESET_N high and every strap low. -/
def Aon.reset : Aon :=
  { clockCount := 0, refCycle := 0, refRunning := true, acc := 0, extAclk := true, vddAon := true, railsGood := true,
    badRails := [], resetN := true, resetLow := 0, straps := ⟨0, 0, 0⟩, svcArmed := false, svcStuck := false, portCycle := none, extDue := false }

/-- The voltage loop after reset (R408). -/
def Avs.reset : Avs := ⟨none, Config.fusedMv, 0, [], false, 0, Config.fusedMv, false, false⟩

/-- The block right after reset, at step 5 of Table 3 of chapter 17: every register at its reset value, every
domain ON, SRAM zero, nothing waiting (R6, R485, R486). -/
def State.reset : State :=
  { pending := [], aon := Aon.reset, regs := [], eff := [], latches := [], staged := [], cyc := Cycle.none, readData := [], out := [],
    free := 0, funcs := [], vecs := [], hps := [], atc := [], reqs := [], writes := [], tag := 0, invals := [],
    claimTimer := none, aside := [], unbind := [], releasing := [], resets := [], lb := [], attP := [], att := [], epaOps := [],
    epaCmd := none, sec := [], secOver := [], rings := [], ctxs := [], progs := [], ldCmd := none, engs := [], ready := [],
    stolen := [], staleSeen := 0, tokens := [], sems := [], eps := [], devs := [], ports := [], resvP := [], resvE := [],
    resvF := [], resvG := [], deciding := [], board := [], hdrs := [], planners := [], sync := Sync.init, snapAt := none, flts := [],
    icPend := [], insA := [], insB := [], gpio := [], doms := [], avs := Avs.reset, preds := [],
    pairA := Pair.init, pairB := Pair.init, sramA := [], sramB := [], ckpt := none, starting := some 0, wdt := none, live := [], lats := [],
    mdmaQ := [], mdmaNew := (0, 0), mdmaFails := 0, mdmaRun := none, keys := [], seqs := [], stage := [], keyCmd := none, sealOps := [], restoring := none, adjs := [],
    adjCmd := none, jtag := .idcode, isolated := false }

end Sys2Proof.Machine
end

