-- ==== Sys2Proof/Machine/Ops.lean ====
section
/-!
DEFINITION. The named operations on the state that every meaning uses: registers and their fields, the maps of the
state, time, the output log, free values, the management SRAM. Nothing here has side effects beyond what its name
says.
-/
namespace Sys2Proof.Machine

/-! ## Registers -/

/-- The stored value of a register. -/
def State.rd (s : State) (r : Reg) : Word64 := FMap.find r.resetVal r.addr s.regs

/-- A register's stored value replaced. -/
def State.wr (s : State) (r : Reg) (v : Word64) : State :=
  { s with regs := FMap.put r.resetVal r.addr v s.regs }

/-- A field of a stored register. -/
def State.getF (s : State) (r : Reg) (f : Fld) : Nat := f.get (s.rd r)

/-- A field of a stored register replaced (modulo its width). -/
def State.setF (s : State) (r : Reg) (f : Fld) (x : Nat) : State := s.wr r (f.put x (s.rd r))

/-- A one-bit field is 1. -/
def State.flag (s : State) (r : Reg) (f : Fld) : Bool := s.getF r f != 0

/-- REF cycles since the Clock count was 0 (R150, R271). -/
def State.now (s : State) : Nat := s.aon.clockCount * 3125 + s.aon.refCycle

/-- What has happened to registers in this cycle (R11). -/
def State.cycle (s : State) : Cycle := if s.cyc.at_ = s.now + 1 then s.cyc else ⟨s.now + 1, [], [], [], false⟩

/-- Bits of a register that hardware has set in this cycle, and whether software has written it (R11). -/
def State.roseIn (s : State) (r : Reg) : Word64 := FMap.find 0 r.addr s.cycle.rose
def State.wroteNow (s : State) (r : Reg) : Bool := decide (r.addr ∈ s.cycle.wrote)

/-- Hardware sets bits of a register; software writes it. -/
def State.noteRise (s : State) (r : Reg) (m : Word64) : State :=
  { s with cyc := { s.cycle with rose := FMap.put 0 r.addr (s.roseIn r ||| m) s.cycle.rose } }
def State.noteWrite (s : State) (r : Reg) : State :=
  { s with cyc := { s.cycle with wrote := r.addr :: s.cycle.wrote } }

/-- A one-bit field set by hardware, and cleared. -/
def State.set1 (s : State) (r : Reg) (f : Fld) : State := (s.setF r f 1).noteRise r f.mask
def State.clr1 (s : State) (r : Reg) (f : Fld) : State := s.setF r f 0

/-- A field raised by `k`, modulo its width; and the same, saturating. -/
def State.addF (s : State) (r : Reg) (f : Fld) (k : Nat) : State := s.setF r f (s.getF r f + k)
def State.satF (s : State) (r : Reg) (f : Fld) (k : Nat) : State :=
  s.setF r f (min (2 ^ f.width - 1) (s.getF r f + k))

/-- The effective copy of a register that takes effect at the tick (R110). -/
def State.rdE (s : State) (r : Reg) : Word64 := FMap.find r.resetVal r.addr s.eff
def State.wrE (s : State) (r : Reg) (v : Word64) : State :=
  { s with eff := FMap.put r.resetVal r.addr v s.eff }
def State.getE (s : State) (r : Reg) (f : Fld) : Nat := f.get (s.rdE r)

/-- Registers in a key of `latches` and `staged`: requester × 2³⁴ + address. Those for which `p` holds lose their latches
and staged halves (R16, R18). -/
def halfAddr (k : Nat) : Nat := k % 2 ^ 34
def State.dropHalves (s : State) (p : Nat → Bool) : State :=
  { s with latches := s.latches.filter (fun q => !(p (halfAddr q.1))),
           staged := s.staged.filter (fun q => !(p (halfAddr q.1))) }

/-- A register returned to its reset value. -/
def State.resetReg (s : State) (r : Reg) : State := { s with regs := FMap.drop r.addr s.regs }

/-! ## The maps -/

/-- The key port × 64 + function at a key; read, replaced, changed. -/
def State.func (s : State) (k : Nat) : Func := FMap.find Func.init k s.funcs
def State.setFunc (s : State) (k : Nat) (x : Func) : State := { s with funcs := FMap.put Func.init k x s.funcs }
def State.modFunc (s : State) (k : Nat) (g : Func → Func) : State := s.setFunc k (g (s.func k))

/-- The MSI-X vector at a key; read, replaced, changed. -/
def State.vec (s : State) (k : Nat) : Vec := FMap.find Vec.init k s.vecs
def State.setVec (s : State) (k : Nat) (x : Vec) : State := { s with vecs := FMap.put Vec.init k x s.vecs }
def State.modVec (s : State) (k : Nat) (g : Vec → Vec) : State := s.setVec k (g (s.vec k))

/-- The upstream port at a key; read, replaced, changed. -/
def State.hp (s : State) (k : Nat) : Hp := FMap.find Hp.init k s.hps
def State.setHp (s : State) (k : Nat) (x : Hp) : State := { s with hps := FMap.put Hp.init k x s.hps }
def State.modHp (s : State) (k : Nat) (g : Hp → Hp) : State := s.setHp k (g (s.hp k))

/-- The pending attachment at a key; read, replaced, changed. -/
def State.atp (s : State) (k : Nat) : AttCfg := FMap.find AttCfg.empty k s.attP
def State.setAtp (s : State) (k : Nat) (x : AttCfg) : State := { s with attP := FMap.put AttCfg.empty k x s.attP }
def State.modAtp (s : State) (k : Nat) (g : AttCfg → AttCfg) : State := s.setAtp k (g (s.atp k))

/-- The effective attachment at a key; read, replaced, changed. -/
def State.atE (s : State) (k : Nat) : Att := FMap.find Att.empty k s.att
def State.setAtE (s : State) (k : Nat) (x : Att) : State := { s with att := FMap.put Att.empty k x s.att }
def State.modAtE (s : State) (k : Nat) (g : Att → Att) : State := s.setAtE k (g (s.atE k))

/-- The ring at a key; read, replaced, changed. -/
def State.ring (s : State) (k : Nat) : Ring := FMap.find Ring.init k s.rings
def State.setRing (s : State) (k : Nat) (x : Ring) : State := { s with rings := FMap.put Ring.init k x s.rings }
def State.modRing (s : State) (k : Nat) (g : Ring → Ring) : State := s.setRing k (g (s.ring k))

/-- The context at a key; read, replaced, changed. -/
def State.ctx (s : State) (k : Nat) : Ctx := FMap.find Ctx.free k s.ctxs
def State.setCtx (s : State) (k : Nat) (x : Ctx) : State := { s with ctxs := FMap.put Ctx.free k x s.ctxs }
def State.modCtx (s : State) (k : Nat) (g : Ctx → Ctx) : State := s.setCtx k (g (s.ctx k))

/-- The Library program at a key; read, replaced, changed. -/
def State.prog (s : State) (k : Nat) : Prog := FMap.find Prog.empty k s.progs
def State.setProg (s : State) (k : Nat) (x : Prog) : State := { s with progs := FMap.put Prog.empty k x s.progs }
def State.modProg (s : State) (k : Nat) (g : Prog → Prog) : State := s.setProg k (g (s.prog k))

/-- The engine at a key; read, replaced, changed. -/
def State.eng (s : State) (k : Nat) : Eng := FMap.find Eng.free k s.engs
def State.setEng (s : State) (k : Nat) (x : Eng) : State := { s with engs := FMap.put Eng.free k x s.engs }
def State.modEng (s : State) (k : Nat) (g : Eng → Eng) : State := s.setEng k (g (s.eng k))

/-- The ready list at a key; read, replaced, changed. -/
def State.rlist (s : State) (k : Nat) : List Nat := FMap.find [] k s.ready
def State.setRlist (s : State) (k : Nat) (x : (List Nat)) : State := { s with ready := FMap.put [] k x s.ready }
def State.modRlist (s : State) (k : Nat) (g : (List Nat) → (List Nat)) : State := s.setRlist k (g (s.rlist k))

/-- The endpoint token at a key; read, replaced, changed. -/
def State.token (s : State) (k : Nat) : Token := FMap.find Token.free k s.tokens
def State.setToken (s : State) (k : Nat) (x : Token) : State := { s with tokens := FMap.put Token.free k x s.tokens }
def State.modToken (s : State) (k : Nat) (g : Token → Token) : State := s.setToken k (g (s.token k))

/-- The semaphore at a key; read, replaced, changed. -/
def State.sem (s : State) (k : Nat) : Sem := FMap.find Sem.free k s.sems
def State.setSem (s : State) (k : Nat) (x : Sem) : State := { s with sems := FMap.put Sem.free k x s.sems }
def State.modSem (s : State) (k : Nat) (g : Sem → Sem) : State := s.setSem k (g (s.sem k))

/-- The endpoint context at a key; read, replaced, changed. -/
def State.epc (s : State) (k : Nat) : Ep := FMap.find Ep.empty k s.eps
def State.setEpc (s : State) (k : Nat) (x : Ep) : State := { s with eps := FMap.put Ep.empty k x s.eps }
def State.modEpc (s : State) (k : Nat) (g : Ep → Ep) : State := s.setEpc k (g (s.epc k))

/-- The device context at a key; read, replaced, changed. -/
def State.dev (s : State) (k : Nat) : Dev := FMap.find Dev.empty k s.devs
def State.setDev (s : State) (k : Nat) (x : Dev) : State := { s with devs := FMap.put Dev.empty k x s.devs }
def State.modDev (s : State) (k : Nat) (g : Dev → Dev) : State := s.setDev k (g (s.dev k))

/-- The root port at a key; read, replaced, changed. -/
def State.port (s : State) (k : Nat) : Port := FMap.find Port.init k s.ports
def State.setPort (s : State) (k : Nat) (x : Port) : State := { s with ports := FMap.put Port.init k x s.ports }
def State.modPort (s : State) (k : Nat) (g : Port → Port) : State := s.setPort k (g (s.port k))

/-- The reservation of the pending set at a key; read, replaced, changed. -/
def State.rsvP (s : State) (k : Nat) : Resv := FMap.find Resv.empty k s.resvP
def State.setRsvP (s : State) (k : Nat) (x : Resv) : State := { s with resvP := FMap.put Resv.empty k x s.resvP }
def State.modRsvP (s : State) (k : Nat) (g : Resv → Resv) : State := s.setRsvP k (g (s.rsvP k))

/-- The effective reservation at a key; read, replaced, changed. -/
def State.rsvE (s : State) (k : Nat) : Resv := FMap.find Resv.empty k s.resvE
def State.setRsvE (s : State) (k : Nat) (x : Resv) : State := { s with resvE := FMap.put Resv.empty k x s.resvE }
def State.modRsvE (s : State) (k : Nat) (g : Resv → Resv) : State := s.setRsvE k (g (s.rsvE k))

/-- The Board header at a key; read, replaced, changed. -/
def State.hdr (s : State) (k : Nat) : BoardHdr := FMap.find BoardHdr.empty k s.hdrs
def State.setHdr (s : State) (k : Nat) (x : BoardHdr) : State := { s with hdrs := FMap.put BoardHdr.empty k x s.hdrs }
def State.modHdr (s : State) (k : Nat) (g : BoardHdr → BoardHdr) : State := s.setHdr k (g (s.hdr k))

/-- The Board line at a key; read, replaced, changed. -/
def State.bline (s : State) (k : Nat) : List (Word64 × Nat) := FMap.find [] k s.board
def State.setBline (s : State) (k : Nat) (x : (List (Word64 × Nat))) : State := { s with board := FMap.put [] k x s.board }
def State.modBline (s : State) (k : Nat) (g : (List (Word64 × Nat)) → (List (Word64 × Nat))) : State := s.setBline k (g (s.bline k))

/-- The planner pair at a key; read, replaced, changed. -/
def State.plan (s : State) (k : Nat) : Planner := FMap.find Planner.init k s.planners
def State.setPlan (s : State) (k : Nat) (x : Planner) : State := { s with planners := FMap.put Planner.init k x s.planners }
def State.modPlan (s : State) (k : Nat) (g : Planner → Planner) : State := s.setPlan k (g (s.plan k))

/-- The fault source at a key; read, replaced, changed. -/
def State.flt (s : State) (k : Nat) : FltSrc := FMap.find FltSrc.init k s.flts
def State.setFlt (s : State) (k : Nat) (x : FltSrc) : State := { s with flts := FMap.put FltSrc.init k x s.flts }
def State.modFlt (s : State) (k : Nat) (g : FltSrc → FltSrc) : State := s.setFlt k (g (s.flt k))

/-- The GPIO input at a key; read, replaced, changed. -/
def State.gpi (s : State) (k : Nat) : Gpio := FMap.find Gpio.init k s.gpio
def State.setGpi (s : State) (k : Nat) (x : Gpio) : State := { s with gpio := FMap.put Gpio.init k x s.gpio }
def State.modGpi (s : State) (k : Nat) (g : Gpio → Gpio) : State := s.setGpi k (g (s.gpi k))

/-- The power domain at a key; read, replaced, changed. -/
def State.dom (s : State) (k : Nat) : Dom := FMap.find Dom.init k s.doms
def State.setDom (s : State) (k : Nat) (x : Dom) : State := { s with doms := FMap.put Dom.init k x s.doms }
def State.modDom (s : State) (k : Nat) (g : Dom → Dom) : State := s.setDom k (g (s.dom k))

/-- A domain takes the bias settings, at a change of its state (R394, R395). -/
def State.takeBias (s : State) (x : Dom) : Dom :=
  { x with fbb := s.flag .pwrBias PWR_BIAS.FBB, rbb := s.flag .pwrBias PWR_BIAS.RBB,
           hold := s.getF .pwrBias PWR_BIAS.HOLD }

/-- The link-power predictor at a key; read, replaced, changed. -/
def State.pred (s : State) (k : Nat) : Pred := FMap.find Pred.init k s.preds
def State.setPred (s : State) (k : Nat) (x : Pred) : State := { s with preds := FMap.put Pred.init k x s.preds }
def State.modPred (s : State) (k : Nat) (g : Pred → Pred) : State := s.setPred k (g (s.pred k))

/-- The adjourn state at a key; read, replaced, changed. -/
def State.adj (s : State) (k : Nat) : Adj := FMap.find Adj.init k s.adjs
def State.setAdj (s : State) (k : Nat) (x : Adj) : State := { s with adjs := FMap.put Adj.init k x s.adjs }
def State.modAdj (s : State) (k : Nat) (g : Adj → Adj) : State := s.setAdj k (g (s.adj k))

/-- The landing-buffer use of a slice at a key; read, replaced, changed. -/
def State.lbOf (s : State) (k : Nat) : Nat := FMap.find 0 k s.lb
def State.setLbOf (s : State) (k : Nat) (x : Nat) : State := { s with lb := FMap.put 0 k x s.lb }
def State.modLbOf (s : State) (k : Nat) (g : Nat → Nat) : State := s.setLbOf k (g (s.lbOf k))

/-- The set-aside capacity at a key; read, replaced, changed. -/
def State.asideOf (s : State) (k : Nat) : Nat := FMap.find 0 k s.aside
def State.setAsideOf (s : State) (k : Nat) (x : Nat) : State := { s with aside := FMap.put 0 k x s.aside }
def State.modAsideOf (s : State) (k : Nat) (g : Nat → Nat) : State := s.setAsideOf k (g (s.asideOf k))

/-- The steal count at a key; read, replaced, changed. -/
def State.stolenOf (s : State) (k : Nat) : Nat := FMap.find 0 k s.stolen
def State.setStolenOf (s : State) (k : Nat) (x : Nat) : State := { s with stolen := FMap.put 0 k x s.stolen }
def State.modStolenOf (s : State) (k : Nat) (g : Nat → Nat) : State := s.setStolenOf k (g (s.stolenOf k))

/-- The secure-input claimant of an endpoint at a key; read, replaced, changed. -/
def State.secOf (s : State) (k : Nat) : Option Nat := FMap.find none k s.sec
def State.setSecOf (s : State) (k : Nat) (x : (Option Nat)) : State := { s with sec := FMap.put none k x s.sec }
def State.modSecOf (s : State) (k : Nat) (g : (Option Nat) → (Option Nat)) : State := s.setSecOf k (g (s.secOf k))

/-- The sequence counter of a key slot at a key; read, replaced, changed. -/
def State.seqOf (s : State) (k : Nat) : Nat := FMap.find 0 k s.seqs
def State.setSeqOf (s : State) (k : Nat) (x : Nat) : State := { s with seqs := FMap.put 0 k x s.seqs }
def State.modSeqOf (s : State) (k : Nat) (g : Nat → Nat) : State := s.setSeqOf k (g (s.seqOf k))

/-- The key of a slot at a key; read, replaced, changed. -/
def State.keyOf (s : State) (k : Nat) : List Word32 := FMap.find [] k s.keys
def State.setKeyOf (s : State) (k : Nat) (x : (List Word32)) : State := { s with keys := FMap.put [] k x s.keys }
def State.modKeyOf (s : State) (k : Nat) (g : (List Word32) → (List Word32)) : State := s.setKeyOf k (g (s.keyOf k))

/-- The live histogram bin at a key; read, replaced, changed. -/
def State.liveOf (s : State) (k : Nat) : Nat := FMap.find 0 k s.live
def State.setLiveOf (s : State) (k : Nat) (x : Nat) : State := { s with live := FMap.put 0 k x s.live }
def State.modLiveOf (s : State) (k : Nat) (g : Nat → Nat) : State := s.setLiveOf k (g (s.liveOf k))

/-- Keys of handles, rings, functions and paths. -/
def hKey (s h : Nat) : Nat := s * 65536 + h
def rKey (s r : Nat) : Nat := s * 64 + r
def fKey (p f : Nat) : Nat := p * 64 + f
def pKey (n : Nat) (ss : Bool) : Nat := 2 * n + (if ss then 1 else 0)

/-- `f` applied to `0 … n − 1` in order, carrying the state. -/
def forN (n : Nat) (f : Nat → State → State) (s : State) : State :=
  (List.range n).foldl (fun s i => f i s) s

/-- `f` applied to every element of a list in order, carrying the state. -/
def forL {α : Type} (l : List α) (f : α → State → State) (s : State) : State := l.foldl (fun s a => f a s) s

/-! ## Time, output, open values -/

/-- A domain carries traffic: it is busy, and takes the bias settings when it becomes so (R394). -/
def State.traffic (s : State) (d : Nat) : State :=
  s.modDom d (fun x => { (if x.busy then x else s.takeBias { x with busy := true }) with last := s.now })

/-- The `clk` format: Clock count shifted left by 12, with the REF cycle in the low bits (R150, R164). -/
def State.clk (s : State) : Word64 := BitVec.ofNat 64 (s.aon.clockCount * 4096 + s.aon.refCycle)

/-- Traffic between an upstream port and the rest: of the port's domain and of the fabric. -/
def State.hostTraffic (s : State) (p : Nat) : State := (s.traffic (136 + p)).traffic 163

/-- An observable output appended. -/
def State.emit (s : State) (o : Output) : State := { s with out := o :: s.out }

/-- A level at an output pin, while the core drives it (R502). -/
def State.drive (s : State) (pin : Nat) (b : Bool) : State := if s.isolated then s else s.emit (.level pin b)

/-- An open value taken: the value of Config.freeWord at the counter, which moves on. -/
def State.fresh (s : State) : Word64 := Config.freeWord s.free
def State.next (s : State) : State := { s with free := s.free + 1 }

/-! ## Path states (Table 2 of chapter 2) -/

def pOff : Nat := 0
def pDisconnected : Nat := 1
def pQualify : Nat := 2
def pAttached : Nat := 3
def pResetting : Nat := 4
def pEnabled : Nat := 5
def pSuspended : Nat := 6
def pResuming : Nat := 7
def pDisabled : Nat := 8
def pOvercurrent : Nat := 9
def pDcp : Nat := 10
def pTest : Nat := 11

/-- The state of a path of port `n`. -/
def State.pathSt (s : State) (n : Nat) (ss : Bool) : Nat :=
  s.getF (.portSts n) (if ss then PORT_STS.SSTATE else PORT_STS.STATE)

/-! ## Straps, ports and the claim -/

/-- HPp exists (R72). -/
def State.present (s : State) (p : Nat) : Bool :=
  if s.aon.straps.linkCfg = 1 then p = 0 ∨ p = 2 else p < 4

/-- Link states of Table `GLB_HPp_STS`. -/
def ltDetect : Nat := 0
def ltPolling : Nat := 1
def ltL0 : Nat := 3
def ltRecovery : Nat := 4
def ltL1 : Nat := 5
def ltL2 : Nat := 6
def ltDisabled : Nat := 7
def ltLoopback : Nat := 8
def ltHotReset : Nat := 9

def State.lte (s : State) (p : Nat) : Bool := s.flag (.glbHpCtl p) GLB_HP_CTL.LTE
def State.dlUp (s : State) (p : Nat) : Bool := s.flag (.glbHpSts p) GLB_HP_STS.DL_UP

/-- `MAX_SPEED` as it acts: 0, 6 and 7 act as 5. -/
def State.maxSpeed (s : State) (p : Nat) : Nat :=
  let m := s.getF (.glbHpCtl p) GLB_HP_CTL.MAX_SPEED
  if m = 0 ∨ 5 < m then 5 else m

/-- The port that holds the manager function (R73). -/
def State.mgrPort (s : State) : Nat :=
  if s.aon.straps.linkCfg = 1 then s.aon.straps.mgrSel / 2 * 2 else s.aon.straps.mgrSel

/-- Claim states (`GLB_MGR_STS.STATE`). -/
def claimWaiting : Nat := 0
def claimHost : Nat := 1
def claimLocal : Nat := 2
def claimAbandoned : Nat := 3
def State.claim (s : State) : Nat := s.getF .glbMgrSts GLB_MGR_STS.STATE
def State.isLocal (s : State) : Bool := s.claim = claimLocal

/-- The requester is the manager function (R73, R93). -/
def State.isMgrFunc (s : State) (q : Requester) : Bool := q = .func s.mgrPort 0

/-- The active pair (R444), and whether a requester is it. -/
def State.activeMb (s : State) : Bool := s.flag .glbMgtSts GLB_MGT_STS.ACTIVE
def State.isActive (s : State) (q : Requester) : Bool := q = (if s.activeMb then .mb else .ma)
def isPair : Requester → Bool
  | .ma => true
  | .mb => true
  | _ => false

/-- Port and function of a slice; slice 0's are fixed (R102, R106). -/
def State.slPort (s : State) (i : Nat) : Nat := if i = 0 then s.mgrPort else s.getF (.slcBind i) SLC_BIND.PORT
def State.slFunc (s : State) (i : Nat) : Nat := if i = 0 then 0 else s.getF (.slcBind i) SLC_BIND.FUNC
def State.slPasid (s : State) (i : Nat) : Option Nat :=
  if s.flag (.slcBind i) SLC_BIND.PEN then some (s.getF (.slcBind i) SLC_BIND.PASID) else none
def State.fenced (s : State) (i : Nat) : Bool := s.flag (.slcCsr i) SLC_CSR.FENCED
def State.inReset (s : State) (i : Nat) : Bool := s.flag (.slcCsr i) SLC_CSR.RSTB
/-- The slice is in an adjourn state other than NONE (Table 2 of chapter 12). -/
def State.frozen (s : State) (i : Nat) : Bool := (s.adj i).state != 0

/-! ## Domains -/

/-- Domain `d` is ON (R381). -/
def State.domOn (s : State) (d : Nat) : Bool := s.getF (.pwrSts d) PWR_STS.STATE = 0
/-- The states of a domain (`PWR_STSd.STATE`). -/
def State.domSt (s : State) (d : Nat) : Nat := s.getF (.pwrSts d) PWR_STS.STATE
def dOn : Nat := 0
def dPending : Nat := 1
def dEntering : Nat := 2
def dRetention : Nat := 3
def dOff : Nat := 4
def dReturning : Nat := 5

/-- A state of a domain, at whose beginning it takes the bias settings (R394, R395). -/
def State.setDomSt (s : State) (d st : Nat) : State :=
  (s.setF (.pwrSts d) PWR_STS.STATE st).modDom d s.takeBias

/-- A wake event of a domain under self-test abandons the test (R501). -/
def State.bistAbandon (s : State) (d : Nat) : State :=
  if s.flag .glbBistSts GLB_BIST_STS.BUSY ∧ s.getF .glbBistSts GLB_BIST_STS.DOMAIN = d then
    (s.clr1 .glbBistSts GLB_BIST_STS.BUSY).setF .glbBistSts GLB_BIST_STS.RESULT 3
  else s

/-- A domain in retention or off starts its return: the cause is recorded (R389). -/
def State.returnStart (s : State) (d cause : Nat) : State :=
  let s := (((s.bistAbandon d).setDomSt d dReturning).setF (.pwrCtl d) PWR_CTL.MODE 0).set1 (.pwrSts d) PWR_STS.WOKE
  ((s.setF (.pwrSts d) PWR_STS.WSRC cause).setF (.pwrSts d) PWR_STS.RSTEP 0).modDom d (fun x =>
    { x with step := 0, wake := none })

/-- Domain `d` works: ON, or PENDING, when it still does all it did (R384, R385). -/
def State.domLive (s : State) (d : Nat) : Bool := s.getF (.pwrSts d) PWR_STS.STATE < 2
/-- The pins of a switched I/O segment are driven and sampled (R399); EXTEST isolates the core from them (R502). -/
def State.pinsOn (s : State) (d : Nat) : Bool := s.getF (.pwrSts d) PWR_STS.STATE != 4 && !s.isolated
/-- Engine `te` is on (R228). -/
def State.engOn (s : State) (te : Nat) : Bool := s.domOn (te / 2)

/-! ## Management SRAM (R445, R447) -/

/-- A byte of the SRAM of MB (`b`) or MA. -/
def State.sram (s : State) (b : Bool) (a : Nat) : Byte := FMap.find 0 a (if b then s.sramB else s.sramA)

/-- A byte of one pair's SRAM written. -/
def State.sramPut (s : State) (b : Bool) (a : Nat) (v : Byte) : State :=
  if b then { s with sramB := FMap.put 0 a v s.sramB } else { s with sramA := FMap.put 0 a v s.sramA }

/-- The mirrored region (Table 2 of chapter 16). -/
def mirrored (a : Nat) : Bool := 0xE0000 ≤ a ∧ a < 0x100000

/-- The checkpoint banks, which the checkpoint engine alone writes (Table 2 of chapter 16). -/
def inBank (a : Nat) : Bool := 0xA0000 ≤ a ∧ a < 0xE0000

/-- A byte of one pair's SRAM written by any other agent than the checkpoint engine. -/
def State.userPut (s : State) (b : Bool) (a : Nat) (v : Byte) : State := if inBank a then s else s.sramPut b a v

/-- A byte written through the own-SRAM alias by a requester whose own pair is `b`: a mirrored byte goes to both
pairs, unless the other pair's domain is not ON, which loses the mirror write and clears `SBY_RDY` (R447). -/
def State.ownPut (s : State) (b : Bool) (a : Nat) (v : Byte) : State :=
  let t := s.userPut b a v
  if mirrored a then
    if s.domOn (if b then 160 else 161) then t.sramPut (!b) a v
    else t.clr1 .glbMgtSts GLB_MGT_STS.SBY_RDY
  else t

/-- The bytes lie in own SRAM, at its addresses of the management map (Table 1 of chapter 16). -/
def ownRange (a n : Nat) : Bool := decide (0x10000000 ≤ a) && decide (a + n ≤ 0x10100000)

/-- Bytes written to the active pair's SRAM at a management-map address (R30, R447); an address outside own SRAM
takes no byte. -/
def State.localWrite (s : State) (addr : Nat) : List Byte → State
  | [] => s
  | b :: t =>
    (if ownRange addr 1 then s.ownPut s.activeMb (addr - 0x10000000) b else s).localWrite
      (addr + 1) t

/-- A value that the spec leaves open, at a place. -/
def State.openAt (s : State) (k : Nat) : Word64 := Config.openRead s.free s.now k

/-- A condition that the spec leaves open, at a place. -/
def State.openFlag (s : State) (k : Nat) : Bool := (s.openAt k).getLsbD 0

/-- What stands at an address of the management map whose contents the spec does not give. -/
def State.openBytes (s : State) (a n : Nat) : List Byte :=
  (List.range n).map (fun k => BitVec.ofNat 8 (s.openAt (2 ^ 40 + a + k)).toNat)

/-- What the NOR holds from an offset on, through its range of the management map: a smaller NOR repeats (R445). -/
def norPlace (a : Nat) : Nat := 0x40000000 + a % Config.norSize
def State.norBytes (s : State) (a n : Nat) : List Byte :=
  (List.range n).map (fun k => BitVec.ofNat 8 (s.openAt (2 ^ 40 + norPlace (a + k))).toNat)

/-- `n` bytes of the active pair's SRAM at a management-map address; what a read of slice 0 finds outside own SRAM is open. -/
def State.localRead (s : State) (addr n : Nat) : List Byte :=
  if ownRange addr n then
    (List.range n).map (fun i => s.sram s.activeMb (addr + i - 0x10000000))
  else s.openBytes addr n

/-- Bytes of a pair's SRAM. -/
def State.sramBytes (s : State) (b : Bool) (a n : Nat) : List Byte := (List.range n).map (fun k => s.sram b (a + k))

/-- Bytes that a core writes to its own pair's SRAM: through the own-SRAM alias the active pair's mirrored bytes go to both
(R447). -/
def State.coreWrite (s : State) (q : Requester) (own : Bool) (off : Nat) (d : List Byte) : State :=
  (List.range d.length).foldl (fun s k =>
    if own && s.isActive q then s.ownPut s.activeMb (off + k) (d.getD k 0)
    else s.userPut (decide (q = .mb)) (off + k) (d.getD k 0)) s

/-- Granules of the landing buffer taken for a slice. Which banks they lie in is open, and with it which of the banks'
domains carries traffic (R335, R394; log entry 89). -/
def State.bankTraffic (s : State) : State :=
  forN 16 (fun k s => if s.openFlag (2 ^ 46 + k) then s.traffic (144 + k) else s) s

/-! ## Interrupts (chapter 14) -/

/-- A source of kind event (Table 1 of chapter 14). -/
def irqIsEvent (i : Nat) : Bool :=
  (1 ≤ i ∧ i ≤ 255) ∨ i = 300 ∨ (301 ≤ i ∧ i ≤ 308) ∨ i = 311 ∨ i = 312 ∨ i = 317 ∨ i = 339 ∨
    (340 ≤ i ∧ i ≤ 411)

/-- A GPIO source. -/
def irqIsPin (i : Nat) : Bool := 318 ≤ i ∧ i ≤ 333

/-- The fault unit's interrupt output (R442). -/
def State.fltLine (s : State) : Bool := s.rd .fltIpend != 0

/-- A rail whose window is set reads outside it (R456). -/
def State.railOut (s : State) : Bool :=
  (List.range 7).any (fun k => s.rd (.tlmRwin k) != 0 &&
    (decide (s.getF (.tlmRail k) TLM_RAIL.V < s.getF (.tlmRwin k) TLM_RWIN.LO) ||
     decide (s.getF (.tlmRwin k) TLM_RWIN.HI < s.getF (.tlmRail k) TLM_RAIL.V)))

/-- Some domain or the voltage loop reports (source 313). -/
def State.pwrLine (s : State) : Bool :=
  (List.range 168).any (fun d => (s.rd (.pwrSts d)).toNat / 2 ^ 25 % 16 != 0) ||
    s.flag .pwrAvsSts PWR_AVS_STS.BUSERR || s.flag .pwrAvsSts PWR_AVS_STS.IGN

/-- Every change bit of `PORT_STS`, bits [31:21]. -/
def portChangeMask : Word64 := 0xFFE00000#64

/-- The condition of a level source (Table 1 of chapter 14). Sources 334 to 337 belong to peripherals whose registers
the spec does not give: whether their condition holds is open (log entry 12). -/
def State.irqLevel (s : State) (i : Nat) : Bool :=
  if 256 ≤ i ∧ i ≤ 275 then s.rd (.portSts (i - 256)) &&& portChangeMask != 0
  else if 276 ≤ i ∧ i ≤ 295 then
    s.flag (.portPrfSts (i - 276)) PORT_PRF_STS.LVL && s.flag (.portPrfCfg (i - 276)) PORT_PRF_CFG.LIE
  else if 296 ≤ i ∧ i ≤ 299 then s.rd (.glbHpSts (i - 296)) &&& 0xE0000000#64 != 0
  else if i = 309 then s.fltLine
  else if i = 310 then s.rd .plnSyncSts &&& 0x1C000000#64 != 0
  else if i = 313 then s.pwrLine
  else if i = 314 then s.flag .dspStale DSP_STALE.VALID
  else if i = 315 then s.flag .dspMvFsts DSP_MV_FSTS.VALID
  else if i = 338 then s.railOut
  else if 334 ≤ i ∧ i ≤ 337 then s.openFlag (2 ^ 44 + i)
  else false

/-- A source is in service at MA (`b` false) or MB. -/
def State.inService (s : State) (b : Bool) (i : Nat) : Bool := FMap.find false i (if b then s.insB else s.insA)

/-- `IC_SRCi.PEND` (R410, R416): an event source's stored bit; a level source's condition while it is not in
service; a pin as its `SENSE` says (R413). -/
def State.irqPend (s : State) (i : Nat) : Bool :=
  let idle := !(s.inService false i) && !(s.inService true i)
  if irqIsEvent i then FMap.find false i s.icPend
  else if irqIsPin i then
    let sense := s.getF (.icSrc i) IC_SRC.SENSE
    if sense = 2 ∨ sense = 3 ∨ sense = 4 then FMap.find false i s.icPend
    else if sense = 1 then !(s.gpi (i - 318)).level && idle
    else (s.gpi (i - 318)).level && idle
  else s.irqLevel i && idle

/-- A source's enable bit for MB (`b`) or MA. -/
def State.irqEnabled (s : State) (b : Bool) (i : Nat) : Bool :=
  s.flag (.icSrc i) (if b then IC_SRC.ENB else IC_SRC.ENA)

/-- The domain of a management pair, and the pair's record. -/
def pairDom (b : Bool) : Nat := if b then 161 else 160
def State.pair (s : State) (b : Bool) : Pair := if b then s.pairB else s.pairA

/-- Both cores of a pair are in WFI: since its domain's entry began; while the domain works, whether its firmware waits is
open (R386, R421; log entry 100). -/
def State.inWfi (s : State) (b : Bool) : Bool :=
  (s.pair b).wfi || (s.domLive (pairDom b) && !((s.pair b).halted) && s.openFlag (2 ^ 45 + b.toNat))

/-- Pair `b`, which is in WFI, is woken: `WAKE` is set. The same is a wake event of its domain: one in retention or off
returns, one that enters acts on it at the next abort point (R388, R389, R421). WFI returns once the domain is ON. -/
def State.wakePair (s : State) (b : Bool) : State :=
  let s := s.set1 (.icSts b.toNat) IC_STS.WAKE
  let d := pairDom b
  if s.domSt d = dRetention ∨ s.domSt d = dOff then s.returnStart d 6
  else if s.domSt d = dEntering then s.modDom d (fun x => if x.wake.isNone then { x with wake := some 6 } else x)
  else s

/-- A source that is pending and enabled for a pair in WFI wakes it. -/
def State.wakeBy (s : State) (i : Nat) (b : Bool) : State :=
  if s.irqEnabled b i && s.irqPend i && s.inWfi b then s.wakePair b else s

/-- A pending source wakes each pair in WFI whose enable bit is set; a domain that so returns is itself a condition of
source 313 (R421). -/
def State.irqWake (s : State) (i : Nat) : State :=
  let t := (s.wakeBy i false).wakeBy i true
  if t.domSt 160 = s.domSt 160 ∧ t.domSt 161 = s.domSt 161 then t else (t.wakeBy 313 false).wakeBy 313 true

/-- One occurrence of an event source (R410). -/
def State.irqEvent (s : State) (i : Nat) : State :=
  State.irqWake { s with icPend := FMap.put false i true s.icPend } i

/-! ## MSI-X (R88 to R92) -/

def vKey (p fn v : Nat) : Nat := fKey p fn * 2048 + v

/-- Vectors of a function: 2,048 of a PF, 256 of a VF (Table 2 of chapter 3). -/
def vecCount (fn : Nat) : Nat := if fn = 0 then 2048 else 256

/-- The conditions of R92 that hold a vector back. -/
def State.vecHeld (s : State) (p fn v : Nat) : Bool :=
  let f := s.func (fKey p fn)
  (s.vec (vKey p fn v)).masked || f.fmask || !f.bme || f.d3hot

/-- An interrupt event of a function: discarded, made pending, or sent (R91, R92). -/
def State.msix (s : State) (p fn v : Nat) : State :=
  let f := s.func (fKey p fn)
  if f.msixEn then
    if s.vecHeld p fn v then
      let t := s.modVec (vKey p fn v) (fun x => { x with pba := true })
      if f.d3hot && f.pmeEn && !f.pme then
        (t.modFunc (fKey p fn) (fun x => { x with pme := true })).emit (.pmPme p fn)
      else t
    else (s.hostTraffic p).emit (.msix p fn v)
  else s

/-- An interrupt event of a slice on a vector of its window (R88). -/
def State.sliceIrq (s : State) (i rel : Nat) : State :=
  s.msix (s.slPort i) (s.slFunc i) (s.getE (.slcHost i) SLC_HOST.VBASE + rel)

/-- An interrupt event of a ring: source 340 + r for slice 0 in LOCAL, else MSI-X (R411). -/
def State.ringIrq (s : State) (i r : Nat) : State :=
  if i = 0 ∧ s.isLocal then s.irqEvent (340 + r) else s.sliceIrq i (s.getF (.ringCtl i r) RING_CTL.VEC)

/-- The slice's mailbox event: one interrupt event if `IE` = 1 (R129). Slice 0 has no mailbox. -/
def State.mbxIrq (s : State) (i : Nat) : State :=
  if i ≠ 0 ∧ s.flag (.mbxCsr i) MBX_CSR.IE then s.sliceIrq i (s.getF (.mbxCsr i) MBX_CSR.VEC) else s

/-- A mailbox flag of slice `i` set, with its interrupt event; nothing for slice 0 (R120, R129). -/
def State.mbxFlag (s : State) (i : Nat) (f : Fld) : State :=
  if i = 0 then s else (s.set1 (.mbxCsr i) f).mbxIrq i

/-- The manager's event for slice `i`: MSI-X while HOST and `IE`, and source `i` in every state (R129, R411). A `VEC` at or
above slice 0's `VCOUNT` is used as it stands (R89; DESIGN CHOICE, log entry 89). -/
def State.mgrIrq (s : State) (i : Nat) : State :=
  (if s.flag .mbxMcsr MBX_MCSR.IE && s.claim = claimHost then s.sliceIrq 0 (s.getF .mbxMcsr MBX_MCSR.VEC)
   else s).irqEvent i

/-- Status bit `e` of AER set in a function. -/
def Func.logErr (f : Func) (e : Nat) : Func := { f with aer := if e ∈ f.aer then f.aer else e :: f.aer }

/-- The errors that Table 6 of chapter 3 reports as advisory: Poisoned TLP, Completion Timeout, Unexpected Completion. -/
def aerAdvisory (e : Nat) : Bool := e == 12 || e == 14 || e == 16

/-- The message of an error, as the severity register of the function has it: 0 correctable, 1 non-fatal, 2 fatal. -/
def Func.severity (f : Func) (e : Nat) : Nat :=
  if 32 ≤ e then 0 else if f.aerSev.testBit e then 2 else if aerAdvisory e then 0 else 1

/-- A mask bit holds the message back; an advisory error has two. -/
def Func.aerMasked (f : Func) (e : Nat) : Bool :=
  if 32 ≤ e then f.aerCorMask.testBit (e - 32)
  else f.aerMask.testBit e || (f.severity e == 0 && f.aerCorMask.testBit 13)

/-- An AER error logged in a function, and reported unless it is masked (R100, log entry 14). -/
def State.aer (s : State) (p fn err : Nat) : State :=
  let f := s.func (fKey p fn)
  let s := s.modFunc (fKey p fn) (fun f => if err < 32 ∧ f.severity err = 0 then (f.logErr err).logErr 45 else f.logErr err)
  if f.aerMasked err then s else s.emit (.aer p fn err (f.severity err))

/-! ## Counting and recording faults (R424 to R438) -/

/-- The two history copies of source `i`'s open record (R438): entry 0 if pinned, and its entry among 1 to 31. -/
def State.fltEntries (s : State) (i : Nat) : List Nat :=
  let x := s.flt i
  (if x.pinned then [0] else []) ++ (if x.entry = 0 then [] else [x.entry])

/-- A word of a source's open record changed, `UPD` rising by 1 in each copy (Table 5 of chapter 15). -/
def State.fltUpd (s : State) (i : Nat) (g : Nat → State → State) : State :=
  forL (s.fltEntries i) (fun e s =>
    let t := g e s
    t.setF (.fltHist (e * 8)) ⟨63, 56⟩ (t.getF (.fltHist (e * 8)) ⟨63, 56⟩ + 1)) s

/-- Entry `e` no longer belongs to the open record of any source. -/
def State.fltEvict (s : State) (e : Nat) : State :=
  { s with flts := s.flts.mapVals FltSrc.init (fun _ x => if x.entry = e then { x with entry := 0 } else x) }

/-- Word 0 of a new record (Table 5 of chapter 15). -/
def fltWord0 (upd i detail : Nat) (forced : Bool) : Word64 :=
  BitVec.ofNat 64 (upd % 256 * 2 ^ 56 + i * 2 ^ 34 + (if forced then 2 ^ 31 else 0) + detail % 65536)

/-- A new record written to entry `e`, which is an update of the entry: `UPD` goes on from the record before it. -/
def State.fltNew (s : State) (e i detail aux : Nat) (forced : Bool) : State :=
  let s := s.wr (.fltHist (e * 8)) (fltWord0 (s.getF (.fltHist (e * 8)) ⟨63, 56⟩ + 1) i detail forced)
  let s := s.wr (.fltHist (e * 8 + 1)) s.clk
  let s := s.wr (.fltHist (e * 8 + 2)) 0
  let s := s.wr (.fltHist (e * 8 + 3)) s.clk
  let s := s.wr (.fltHist (e * 8 + 4)) 0
  s.wr (.fltHist (e * 8 + 5)) (BitVec.ofNat 64 (detail % 65536 * 2 ^ 48 + aux % 2 ^ 32))

/-- A record opens for source `i` (R437, R438). -/
def State.fltOpen (s : State) (i detail aux : Nat) (forced : Bool) : State :=
  let n := s.getF .fltHsts FLT_HSTS.NEWEST
  let e := if n = 31 ∨ n = 0 then 1 else n + 1
  let pin := !(s.flag .fltHsts FLT_HSTS.PIN)
  let s := (s.fltEvict e).fltNew e i detail aux forced
  let s := if pin then s.fltNew 0 i detail aux forced else s
  let s := s.modFlt i (fun x => { x with entry := e, pinned := pin })
  ((s.setF .fltHsts FLT_HSTS.NEWEST e).set1 .fltHsts FLT_HSTS.PIN).addF .fltHtotal FLT_HTOTAL.TOTAL 1

/-- A later event merged into the open record (R437). -/
def State.fltMerge (s : State) (i detail : Nat) (forced : Bool) : State :=
  s.fltUpd i (fun e s =>
    let s := s.satF (.fltHist (e * 8)) ⟨55, 40⟩ 1
    let s := if forced then s.set1 (.fltHist (e * 8)) ⟨31, 31⟩ else s
    let s := s.wr (.fltHist (e * 8 + 3)) s.clk
    s.setF (.fltHist (e * 8 + 5)) ⟨63, 48⟩ detail)

/-- The open record closes (R425, R431, R435). -/
def State.fltClose (s : State) (i : Nat) : State :=
  let s := s.fltUpd i (fun e s => (s.setF (.fltHist (e * 8)) ⟨33, 32⟩ 3).wr (.fltHist (e * 8 + 4)) s.clk)
  s.modFlt i (fun x => { x with entry := 0, pinned := false })

/-- `N` of source `i`: 0 acts as 1 (`FLT_CFGi`). -/
def State.fltN (s : State) (i : Nat) : Nat := max 1 (s.getF (.fltCfg i) FLT_CFG.N)

/-- The deciding event: SEVERE (LATCHED at once for MGR_RING, R430), the reaction recorded, `FLT_IPEND` for a
reaction of 1 or above (R424, R427, R442). The event itself has updated the record's entries. -/
def State.fltDecide (s : State) (i : Nat) : State :=
  let react := s.getF (.fltCfg i) FLT_CFG.REACT
  let st := if i = 48 then 3 else 2
  let s := forL (s.fltEntries i) (fun e s =>
    let s := s.setF (.fltHist (e * 8)) ⟨33, 32⟩ (st - 1)
    let s := if react = 0 then s else (s.set1 (.fltHist (e * 8)) ⟨30, 30⟩).setF (.fltHist (e * 8)) ⟨29, 27⟩ react
    s.wr (.fltHist (e * 8 + 2)) s.clk) s
  let s := s.modFlt i (fun x => { x with window := none, last := s.now, react := react })
  let s := s.setF (.fltSts i) FLT_STS.STATE st
  if react = 0 then s else (s.set1 .fltIpend ⟨i, i⟩).irqWake 309

/-- One event of source `i`, counted and recorded (R424 to R426, R437). The answer says whether it decides. The
actions of reactions 2 to 4 are applied by `faultEvent` (Machine/Faults.lean). -/
def State.fltCount (s : State) (i detail aux : Nat) (forced : Bool) : State × Bool :=
  if s.flag (.fltCfg i) FLT_CFG.EN then
    let st := s.getF (.fltSts i) FLT_STS.STATE
    if st = 0 then
      let s := s.fltOpen i detail aux forced
      let s := (s.setF (.fltSts i) FLT_STS.STATE 1).setF (.fltSts i) FLT_STS.COUNT 1
      let w := s.getF (.fltCfg i) FLT_CFG.W
      let s := s.modFlt i (fun x => { x with window := if w = 0 then none else some (s.now + 25000 * w) })
      if s.fltN i ≤ 1 then (s.fltDecide i, true) else (s, false)
    else
      let s := s.fltMerge i detail forced
      if st = 1 then
        let s := s.satF (.fltSts i) FLT_STS.COUNT 1
        if s.fltN i ≤ s.getF (.fltSts i) FLT_STS.COUNT then (s.fltDecide i, true) else (s, false)
      else (s.modFlt i (fun x => { x with last := s.now }), false)
  else (s, false)

/-! ## Access violations (source 49) -/

/-- The requester as `PLN_SNAP_SUB` and the ACCESS source name it: KIND, PORT, ID (R274, R422). -/
def State.who (s : State) : Requester → Nat × Nat × Nat
  | .func hp fn => (0, hp, (s.func (fKey hp fn)).bus * 256 + fn)
  | .ma => (1, 0, 0)
  | .mb => (1, 0, 1)
  | .dma ch => (2, 0, ch)
  | .jtag => (3, 0, 0)

/-- The auxiliary value of an ACCESS event (Table 1 of chapter 15). -/
def accessAux (kind port : Nat) : Loc → Nat
  | .mgr off => kind * 2 ^ 30 + port * 2 ^ 25 + off % 2 ^ 25
  | .page i off => kind * 2 ^ 30 + 2 ^ 27 + port * 2 ^ 25 + (i * 65536 + off) % 2 ^ 25
  | .mem a => kind * 2 ^ 30 + 2 ^ 27 + port * 2 ^ 25 + a % 2 ^ 25

/-- An access violation: one event of the ACCESS source, whose reactions are log and interrupt only (R422). -/
def State.violation (s : State) (q : Requester) (l : Loc) : State :=
  let w := s.who q
  (s.fltCount 49 w.2.2 (accessAux w.1 w.2.1 l) false).1

/-- Attachments of endpoint context `e`, as handle keys. -/
def State.attsOf (s : State) (e : Nat) : List Nat :=
  (s.att.filter (fun q => q.2.cfg.live && q.2.cfg.ep == e)).map Prod.fst

/-- The location of a register, as far as it has an address. -/
def Reg.loc (r : Reg) : Loc :=
  if r.addr < 0x100000000 then .mgr r.addr
  else .page ((r.addr - 0x100000000) / 0x10000 % 256) ((r.addr - 0x100000000) % 0x10000)

/-- The sealing of reports under way: of the items that have become whole and have not been read, with their key copies
(R125, R362). -/
def State.reportSeals (s : State) : List SecCopy :=
  (s.ports.flatMap (fun q => q.2.fifo.items.filterMap Item.sec)).filter (fun x => x.key != [])

/-- Operations of the seal unit that run, the sealing of reports among them (R365). -/
def State.sealRunning (s : State) : Nat := (s.sealOps.filter SealOp.started).length + s.reportSeals.length

/-- The first waiting operation and its position. -/
def firstWaiting : List SealOp → Nat → Option (Nat × SealOp)
  | [], _ => none
  | o :: t, k => if o.started then firstWaiting t (k + 1) else some (k, o)

/-- A new operation of the seal unit starts at once: fewer than 8 run, none waits, and the unit works (R365). -/
def State.sealFree (s : State) : Bool :=
  decide (s.sealRunning < 8) && firstWaiting s.sealOps 0 == none && s.domLive 162

end Sys2Proof.Machine
end

