-- ==== Sys2Proof/Machine/Work.lean ====
section
/-!
DEFINITION. Work items (chapters 5, 6 and 8): contexts, ready lists, dispatch, tokens, semaphores, results in ring
order, and the end of an activation with everything it brings about. Ends can bring about further ends (children,
ABORT entries, a dirty pipe met at a semaphore grant), so they are run as a list of jobs.
-/
namespace Sys2Proof.Machine

/-! ## Status codes (Table 5 of chapter 5) -/

def stOk : Nat := 0x00
def stShort : Nat := 0x01
def stStall : Nat := 0x02
def stBabble : Nat := 0x03
def stXactErr : Nat := 0x04
def stTimeout : Nat := 0x05
def stDetached : Nat := 0x06
def stAborted : Nat := 0x07
def stOrphanData : Nat := 0x08
def stMissed : Nat := 0x09
def stKeyErased : Nat := 0x0A
def stFuel : Nat := 0x0B
def stLockAbandoned : Nat := 0x0C
def stMalformed : Nat := 0x0D
def stDmaFault : Nat := 0x0E
def stChainLimit : Nat := 0x0F
def stSliceFenced : Nat := 0x10
def stEndpointDirty : Nat := 0x11
def stBandwidth : Nat := 0x12
def stStalemate : Nat := 0x13

/-- Precedence of the conditions that end an activation (Table 6 of chapter 6). -/
def endPrec (code : Nat) : Nat :=
  if code = stSliceFenced then 1 else if code = stAborted then 2 else if code = stDetached then 3
  else if code = stKeyErased then 4 else if code = stStalemate then 5 else if code = stDmaFault then 6
  else if code = stChainLimit then 7 else if code = stEndpointDirty then 8 else if code = stFuel then 9 else 10

/-- The condition that is reported of two (R182). -/
def endMin (a : Option Nat) (b : Nat) : Nat :=
  match a with
  | some a => if endPrec a ≤ endPrec b then a else b
  | none => b

/-! ## Contexts -/

/-- The context is in use. -/
def Ctx.live (x : Ctx) : Bool := x.act != .free
/-- The activation has not ended. -/
def Ctx.going (x : Ctx) : Bool := x.act != .free && x.act != .ended && x.act != .other

/-- A general register; g0 reads as 0 (R162). -/
def Ctx.reg (x : Ctx) (i : Nat) : Word64 := if i = 0 then 0 else FMap.find 0 i x.g
/-- A general register written; a write to g0 is discarded (R162). -/
def Ctx.setReg (x : Ctx) (i : Nat) (v : Word64) : Ctx := if i = 0 then x else { x with g := FMap.put 0 i v x.g }

/-- A pad byte at an address modulo 256 (R166). -/
def Ctx.padAt (x : Ctx) (a : Nat) : Byte := FMap.find 0 (a % 256) x.pad
def Ctx.padPut (x : Ctx) (a : Nat) (b : Byte) : Ctx := { x with pad := FMap.put 0 (a % 256) b x.pad }
/-- `n` bytes of the pad from `a`, and bytes written to the pad from `a`. -/
def Ctx.padBytes (x : Ctx) (a n : Nat) : List Byte := (List.range n).map (fun i => x.padAt (a + i))
def Ctx.padWrite (x : Ctx) (a : Nat) : List Byte → Ctx
  | [] => x
  | b :: t => (x.padPut a b).padWrite (a + 1) t

/-- `st` with a code and bytes, the bytes saturating (R164). -/
def stWord (code bytes : Nat) : Word64 := BitVec.ofNat 64 (code % 256 + min bytes 0xFFFFFFFF * 2 ^ 32)

/-- `st` set. -/
def Ctx.setSt (x : Ctx) (code bytes : Nat) : Ctx := { x with st := stWord code bytes }
/-- The 8-byte result of a child, laid out as R184 states. -/
def childWord (code step bytes : Nat) : Nat := code % 256 + step % 65536 * 2 ^ 16 + min bytes 0xFFFFFFFF * 2 ^ 32

/-- Root context of an item's family (R239). -/
def Ctx.root (x : Ctx) (c : Nat) : Nat :=
  match x.parent with
  | some p => p.1
  | none => c

/-- Contexts of a slice that are in use (R109). -/
def State.ctxUse (s : State) (i : Nat) : Nat := FMap.count (fun _ x => x.slice == i) s.ctxs

/-- The earliest element with the least value. -/
def leastBy (f : Nat → Nat) : List Nat → Option Nat
  | [] => none
  | a :: t => match leastBy f t with
    | none => some a
    | some b => if f b < f a then some b else some a

/-! ## Capacity that is set aside (R111) -/

/-- Device-wide totals: contexts, landing-buffer granules that the gambit pool leaves, Library blocks (Table 2 of chapter
4, R325). -/
def State.capTotal (s : State) (k : Nat) : Nat :=
  if k = 0 then 16384 else if k = 1 then (4096 - s.getE .portGpool PORT_GPOOL.SIZE) * 64 else 1024

/-- Library blocks that a slice's programs occupy (R168, R172). -/
def State.libUse (s : State) (i : Nat) : Nat :=
  (s.progs.map (fun p => if p.1 / 64 = i then p.2.blocks.length else 0)).sum

/-- The landing-buffer granules of a packet of `n` bytes (R335). -/
def granules (n : Nat) : Nat := ceilDiv n 64

/-- Granules that the queues of fan-out attachments take, from slice 0's share (R121, R335). -/
def State.fanGran (s : State) : Nat :=
  (s.att.map (fun q => (q.2.queue.map (fun p => granules p.data.length)).sum)).sum

/-- A slice's use of a capacity, and its effective reservation. -/
def State.capUse (s : State) (k i : Nat) : Nat :=
  if k = 0 then s.ctxUse i else if k = 1 then s.lbOf i + (if i = 0 then s.fanGran else 0) else s.libUse i
def State.capQuota (s : State) (k i : Nat) : Nat :=
  if k = 0 then s.getE (.slcQmem i) SLC_QMEM.CTX
  else if k = 1 then s.getE (.slcQmem i) SLC_QMEM.LB * 64
  else s.getE (.slcQeng i) SLC_QENG.LIB

/-- Sum over the slices of a function of the slice. -/
def sumSlices (f : Nat → Nat) : Nat := ((List.range 256).map f).sum

/-- Some slice uses more of the capacity than its effective reservation. -/
def State.capOver (s : State) (k : Nat) : Bool := (List.range 256).any (fun i => decide (s.capQuota k i < s.capUse k i))

/-- The slice may take `n` more: within its reservation, and, while some slice is over its own, out of what is set
aside for it or free beyond every set-aside (R109, R111). -/
def State.capRoom (s : State) (k i n : Nat) : Bool :=
  decide (s.capUse k i + n ≤ s.capQuota k i) &&
    (!(s.capOver k) || decide (n ≤ s.asideOf (i * 4 + k)) ||
      decide (sumSlices (s.capUse k) + sumSlices (fun j => if j = i then 0 else s.asideOf (j * 4 + k)) + n ≤ s.capTotal k))

/-- What the slice takes comes out of its set-aside first. -/
def State.capTake (s : State) (k i n : Nat) : State := s.modAsideOf (i * 4 + k) (fun a => a - n)

/-- Shortfall of a slice (R111). -/
def State.capShort (s : State) (k i : Nat) : Nat := s.capQuota k i - (s.capUse k i + s.asideOf (i * 4 + k))

/-- `n` units freed by a draining slice are set aside for the short slices, lowest number first (R111). -/
def State.capAside (s : State) (k n : Nat) : State :=
  ((List.range 256).foldl (fun (p : State × Nat) j =>
    let g := min p.2 (p.1.capShort k j)
    if g = 0 then p else (p.1.modAsideOf (j * 4 + k) (· + g), p.2 - g)) (s, n)).1

/-- `n` units of slice `i` have been freed; `s` is the state after the freeing. -/
def State.capFreed (s : State) (k i n : Nat) : State :=
  if s.capQuota k i < s.capUse k i + n then s.capAside k n else s

/-! ## Attachments and endpoints as instructions see them (R118, R490) -/

/-- The segment whose default pipe the handle names (R490). -/
def defPipe (i h : Nat) : Option Nat := if i = 0 ∧ 0xFFC0 ≤ h ∧ h < 0xFFD4 then some (h - 0xFFC0) else none

/-- The path that `PORT_DEFR.SS` selects. -/
def State.defSS (s : State) (n : Nat) : Bool := s.flag (.portDefr n) PORT_DEFR.SS

/-- The effective attachment behind a handle. The default pipe of a segment is attached to slice 0 as endpoint
context 32768 + n, and is detached while its path is not ENABLED. -/
def State.attCfg (s : State) (i h : Nat) : AttCfg :=
  match defPipe i h with
  | some n => { AttCfg.empty with live := true, ep := 32768 + n, detached := s.pathSt n (s.defSS n) != pEnabled }
  | none => (s.atE (hKey i h)).cfg

/-- Speed of the device at the default pipe: 1 low, 2 full, 3 high, 4 SuperSpeed. -/
def State.defSpeed (s : State) (n : Nat) : Nat :=
  if s.defSS n then 4
  else if s.getF (.portDefr n) PORT_DEFR.SPEED = 0 then s.getF (.portSts n) PORT_STS.SPEED
  else s.getF (.portDefr n) PORT_DEFR.SPEED

/-- The five hops of a route string (R45). -/
def routeHops (v : Nat) : List Nat :=
  ((List.range 5).map (fun k => v / 16 ^ k % 16)).takeWhile (· != 0)

/-- The device of an endpoint context. -/
def State.devInfo (s : State) (d : Nat) : Dev :=
  if d < 65536 then s.dev d
  else
    let n := d - 65536
    let hub := s.getF (.portDefr n) PORT_DEFR.TTHUB
    { Dev.empty with live := true, port := n, ss := s.defSS n, speed := s.defSpeed n, addr := 0,
                     route := routeHops (s.getF (.portDefr n) PORT_DEFR.ROUTE),
                     ttHub := if hub = 0 then none else some hub, ttPort := s.getF (.portDefr n) PORT_DEFR.TTPORT }

/-! ### The limits of Table 1 of chapter 2 (R41, R42) -/

/-- The largest maximum packet by speed and endpoint type. -/
def mpsMax (speed typ : Nat) : Nat :=
  match speed with
  | 1 => 8
  | 2 => if typ = 1 then 1023 else 64
  | 3 => if typ = 0 then 64 else if typ = 2 then 512 else 1024
  | _ => if typ = 0 then 512 else 1024

/-- The most packets of a SuperSpeed burst: for isochronous endpoints, of a service interval. -/
def burstMax (typ : Nat) : Nat := if typ = 0 then 1 else if typ = 1 then 48 else if typ = 2 then 16 else 3

/-- What a device declares beyond the limits is not used. -/
def Ep.limited (e : Ep) (speed : Nat) : Ep :=
  { e with mps := min e.mps (mpsMax speed e.typ), burst := min e.burst (burstMax e.typ) }

/-- Bulk and isochronous endpoints are not among the features of low speed (R41). -/
def unlisted (speed typ : Nat) : Bool := decide (speed = 1) && (decide (typ = 1) || decide (typ = 2))

/-- Maximum packet of the default pipe (`PORT_DEFR.MPS`), at most what its speed allows. -/
def State.defMps (s : State) (n : Nat) : Nat :=
  if s.defSS n then 512 else min (8 * 2 ^ s.getF (.portDefr n) PORT_DEFR.MPS) (mpsMax (s.defSpeed n) 0)

/-- The endpoint context as the sequencer sees it: the default pipe's settings come from `PORT_DEFR`. -/
def State.epInfo (s : State) (e : Nat) : Ep :=
  if e < 32768 ∨ 65536 ≤ e then (s.epc e).limited (s.devInfo (s.epc e).dev).speed
  else { s.epc e with live := true, dev := 65536 + (e - 32768), num := 0, typ := 0, mps := s.defMps (e - 32768), burst := 1 }

def State.epDev (s : State) (e : Nat) : Dev := s.devInfo (s.epInfo e).dev

/-! ### Enumeration (R45, R46) -/

/-- The SETUP is a standard SET_ADDRESS (request 5, R123). -/
def isSetAddress (p : Word64) : Bool := decide (p.toNat % 2 ^ 16 = 0x0500)

/-- The endpoint context is a default pipe (R490). -/
def isDefEp (e : Nat) : Bool := decide (32768 ≤ e) && decide (e < 65536)

/-- The device context and the endpoint context that enumeration takes next (log entry 48). -/
def State.newDev (s : State) : Option Nat := ((List.range 2047).map (· + 1)).find? (fun d => !(s.dev d).live)
def State.newEp (s : State) : Option Nat := (List.range 32768).find? (fun e => !(s.epc e).live)

/-- The address of a SET_ADDRESS. -/
def newAddress (p : Word64) : Nat := p.toNat / 2 ^ 16 % 2 ^ 16

/-- A SET_ADDRESS on endpoint `e` that gives a new device an address needs contexts, and an address of the segment, that are
not to be had (R22, R46). Address 0 addresses nothing, and needs none. -/
def State.noContext (s : State) (e : Nat) (p : Word64) : Bool :=
  isSetAddress p && isDefEp e && newAddress p != 0 && (s.newDev.isNone || s.newEp.isNone || decide (127 < newAddress p))

/-- A SET_ADDRESS has completed. A new device takes a device context and the endpoint context of its control endpoint, with
what `PORT_DEFR` says of it; one that has contexts takes the address, if it is one. -/
def State.addressed (s : State) (e : Nat) (p : Word64) : State :=
  let addr := newAddress p
  if isDefEp e then
    match s.newDev, s.newEp with
    | some d, some k =>
      if addr = 0 ∨ 127 < addr then s
      else (s.setDev d { s.epDev e with addr := addr, fresh := s.now }).setEpc k { Ep.empty with
        live := true, dev := d, mps := s.defMps (e - 32768), burst := 1 }
    | _, _ => s
  else if 127 < addr then s
  else s.modDev (s.epc e).dev (fun d => { d with addr := addr })

/-! ## Engines, ready lists, dispatch -/

/-- Engines that a slice occupies; a doze item counts for slice 0 (R233, R385). -/
def State.occupied (s : State) (i : Nat) : Nat :=
  FMap.count (fun _ e => match e.hold with
    | some c => (s.ctx c).slice == i
    | none => e.doze && i == 0) s.engs

/-- The item is eligible (R233); items of a slice being adjourned are not dispatched (R368). -/
def State.eligible (s : State) (c : Nat) : Bool :=
  let i := (s.ctx c).slice
  decide (s.occupied i < s.getE (.slcQeng i) SLC_QENG.TE) && !(s.frozen i)

/-- The engine is free (R228). -/
def State.engFree (s : State) (te : Nat) : Bool := s.engOn te && s.eng te == Eng.free

/-- The lowest-numbered free engine of a cluster (R234). -/
def State.freeEng (s : State) (k : Nat) : Option Nat :=
  ((List.range 8).map (· + 8 * k)).find? (fun te => s.engFree te)

/-- The eligible item nearest the head of the highest level that holds one, below level `lv` (R234). -/
def State.topItem (s : State) (k : Nat) : Nat → Option Nat
  | 0 => none
  | lv + 1 =>
    match (s.rlist (k * 8 + lv)).find? (fun c => s.eligible c) with
    | some c => some c
    | none => s.topItem k lv

/-- The cluster is dark (R229). -/
def State.dark (s : State) (k : Nat) : Bool := (List.range 4).all (fun j => !(s.domOn (4 * k + j)))

/-- Remove a context from its ready list. -/
def State.unready (s : State) (c : Nat) : State :=
  let x := s.ctx c
  s.modRlist (x.cluster * 8 + x.pri) (fun l => l.filter (· != c))

/-- The engine that a Running activation holds starts its write-back (R235). -/
def State.leaveEng (s : State) (c : Nat) : State :=
  match (s.ctx c).act with
  | .running te => s.setEng te Eng.leaving
  | _ => s

/-- An activation parks (R159). -/
def State.park (s : State) (c : Nat) (w : Wait) : State :=
  (s.leaveEng c).modCtx c (fun x => { x with act := .parked w, since := s.now })

/-- The operation of a context changed, if there is one. -/
def Ctx.modOp (x : Ctx) (f : Op → Op) : Ctx := { x with op := x.op.map f }

/-- The request of an operation enters its port's queue, if it has a place (R303). -/
def State.queueUse (s : State) (n : Nat) : Nat :=
  FMap.count (fun _ x => match x.op with
    | some o => o.port == n && o.stage == .queued
    | none => false) s.ctxs

/-- A gambit of a 2.0 line that is between two transactions ends: a request of context `c` for its endpoint enters the queue
(R324). -/
def State.gambitOver (s : State) (c n : Nat) : State :=
  match (s.ctx c).op with
  | none => s
  | some o => s.modPort n (fun p => { p with lines := p.lines.map (fun l =>
      if l.more.any (fun q => q.1 == o.ep) then { l with more := none } else l) })

/-- An operation changed to stand in the request queue, with its order of arrival. -/
def State.queued (s : State) (c n : Nat) (st : OpStage) : State :=
  let k := (s.port n).order
  let s := if st = .queued then s.gambitOver c n else s
  (s.modPort n (fun p => { p with order := k + 1 })).modCtx c (fun x => x.modOp (fun o => { o with stage := st, order := k }))

/-- The operation goes to the sequencer: a place in the queue, or the wait for one (R303). -/
def State.toQueue (s : State) (c : Nat) : State :=
  match (s.ctx c).op with
  | some o => s.queued c o.port (if s.queueUse o.port < 512 then .queued else .place)
  | none => s

/-- The operation stands in its queue. -/
def Ctx.inQueue (x : Ctx) : Bool :=
  match x.op with
  | some o => o.stage == .queued
  | none => true

/-! ### Taking a semaphore for an arbitrated endpoint (R122, R204 check 5) -/

/-- The semaphore of the attachment through which an operation acts, if it is arbitrated (R114, R122). -/
def State.opSem (s : State) (c : Nat) : Option Nat :=
  let x := s.ctx c
  match x.op with
  | some o =>
    let a := s.attCfg x.slice o.req.handle
    if a.live ∧ a.mode = 2 then some a.sem else none
  | none => none

/-- Owner set; the grant clears `ABN` (R262). -/
def State.semOwn (s : State) (i c : Nat) : State := s.modSem i (fun m => { m with owner := some c, abn := false })

/-- `c` put behind a list, but among the elements at its end for which `p` holds in ascending order of `key`. -/
def putLast (p : Nat → Bool) (key : Nat → Nat) (c : Nat) : List Nat → List Nat
  | [] => [c]
  | a :: t => if (a :: t).all p && decide (key c < key a) then c :: a :: t else a :: putLast p key c t

/-- `c` put ahead of a list, but among the elements at its head for which `p` holds in ascending order. -/
def putFirst (p : Nat → Bool) (c : Nat) : List Nat → List Nat
  | [] => [c]
  | a :: t => if p a && decide (a < c) then a :: putFirst p c t else c :: a :: t

/-- The place of a request in a semaphore's queue: order of arrival, and in one cycle by slice and context (R261). -/
def State.semWait (s : State) (i c : Nat) : State :=
  s.modSem i (fun m => { m with
    queue := putLast (fun j => (s.ctx j).since == s.now) (fun j => (s.ctx j).slice * 16384 + j) c m.queue })

/-- Check 5 is passed: the activation has issued a bus instruction on the endpoint (R266), and the operation goes to the
sequencer. -/
def State.toSeq (s : State) (c : Nat) : State :=
  (s.toQueue c).modCtx c (fun x => match x.op with
    | some o => { x with begun := if o.ep ∈ x.begun then x.begun else o.ep :: x.begun }
    | none => x)

/-- The operation of `c` takes its semaphore or waits for it, and goes to the sequencer once it has it. -/
def State.opGo (s : State) (c : Nat) : State :=
  match s.opSem c with
  | none => s.toSeq c
  | some i =>
    let x := s.ctx c
    if i ∈ x.arbs then s.toSeq c
    else match (s.sem i).owner with
      | none => ((s.semOwn i c).modCtx c (fun x => { x with arbs := i :: x.arbs })).toSeq c
      | some _ => (s.semWait i c).modCtx c (fun x => x.modOp (fun o => { o with stage := .semaphore }))

/-- First microframe of an isochronous run: the microframe wanted, or the one after the current (R214). -/
def isoStart (clock first : Nat) : Nat :=
  let d := (BitVec.ofNat 32 first - BitVec.ofNat 32 clock).toInt
  if first = 0 ∨ d ≤ 0 then clock + 1 else clock + d.toNat

/-- The operation that the instruction `r` begins on endpoint `e` of port `n` (R204, after check 4). `HOPS` is read at
issue (R343). -/
def opOf (r : BusReq) (e n pri hops clock cl : Nat) : Op :=
  { req := r, mover := cl, ep := e, port := n, pri := pri, order := 0, stage := .place, moved := 0, pkts := 0, flight := none,
    asked := 0, buf := [], errs := 0,
    split := false, zlpDone := false, result := none, bnd := false, held := false, cut := false,
    pos :=
      { next := if r.kind = .gather ∨ r.kind = .scatter then some r.addr else none,
        table := none,
        segs := if r.kind = .gather ∨ r.kind = .scatter then []
          else [(r.addr, if r.kind = .isoin ∨ r.kind = .isoout then r.len * r.count else r.len)],
        ats := [], elem := 0, byte := 0, hops := 0, budget := hops, part := [] },
    ivs := 0, ivBytes := 0, ivCode := 0, start := isoStart clock r.first, ivAt := 0, missed := false, xact := false,
    ivOpen := false, hold := 0, shortIn := false, orphan := false, pkt := none }

/-- A SETUP opens a control sequence on its handle, in place of the one open there; any other instruction leaves the open
ones (R207). `arb` says that the attachment is arbitrated. -/
def Ctx.openSeq (x : Ctx) (r : BusReq) (e : Nat) (arb : Bool) : Ctx :=
  if r.kind = .setup then { x with seq := ⟨r.handle, e, r.setup, arb⟩ :: x.seq.filter (fun q => q.handle != r.handle) } else x

/-- A control sequence closes (R207). -/
def Ctx.closeSeq (x : Ctx) (h : Nat) : Ctx := { x with seq := x.seq.filter (fun q => q.handle != h) }

/-- The checks are passed and the token is held: C = 0, the operation exists from here on, and takes its semaphore or goes
to the sequencer (R204 check 5, R303). `HOPS` is that of the issue (R343). -/
def State.opStart (s : State) (c : Nat) (r : BusReq) : State :=
  let x := s.ctx c
  let a := s.attCfg x.slice r.handle
  let e := a.ep
  let o := opOf r e (s.epDev e).port x.pri x.hops s.aon.clockCount x.cluster
  (s.modCtx c (fun x => { x.openSeq r e (a.mode == 2) with op := some o, go := none, c := false })).opGo c

/-- The engine holds the item, and the item runs. -/
def State.runOn (s : State) (te c : Nat) : State :=
  (s.setEng te (Eng.holds c)).modCtx c (fun x => { x with act := .running te })

/-- The engine writes the item back, and the item is parked on its operation. -/
def State.parkOp (s : State) (te c : Nat) : State :=
  (s.setEng te Eng.leaving).modCtx c (fun x => { x with act := .parked .op, since := s.now })

/-- After issue with A = 1 the item runs on, unless its operation still waits on its way to the queue. -/
def State.runOrPlace (s : State) (te c : Nat) : State :=
  if (s.ctx c).inQueue then s.runOn te c
  else (s.setEng te Eng.leaving).modCtx c (fun x => { x with act := .parked .place, since := s.now })

/-- An engine takes an item: an instruction that waited for an earlier operation or a token is issued to the
sequencer (R210, R240); a suspended resumable instruction goes on from its progress, with the movers of its present cluster, and parks again (R246,
R334); any other item runs. -/
def State.startOn (s : State) (te c : Nat) : State :=
  let s := s.unready c
  let x := s.ctx c
  match x.go with
  | some r => if r.async then (s.opStart c r).runOrPlace te c else (s.opStart c r).parkOp te c
  | none =>
    match x.op with
    | some o =>
      if o.req.async then s.runOn te c
      else (s.modCtx c (fun y => y.modOp (fun o => { o with held := false, mover := x.cluster }))).parkOp te c
    | none => s.runOn te c

/-- One dispatch of cluster `k`, if an engine is free and an item is eligible (R234). -/
def State.dispatch1 (s : State) (k : Nat) : Option (State × Nat) :=
  match s.freeEng k, s.topItem k 8 with
  | some te, some c => some (s.startOn te c, c)
  | _, _ => none

/-- Dispatch on every free engine of cluster `k`. -/
def State.dispatchN (k : Nat) : Nat → State → State
  | 0, s => s
  | n + 1, s =>
    match s.dispatch1 k with
    | some p => State.dispatchN k n p.1
    | none => s
def State.dispatch (s : State) (k : Nat) : State := s.dispatchN k 8

/-- Every cluster dispatches, in ascending order. -/
def State.dispatchAll (s : State) : State := forN 20 (fun k s => s.dispatch k) s

/-- The context has joined a ready list in this cycle, at the head or the tail. -/
def State.joinedNow (s : State) (head : Bool) (c : Nat) : Bool := decide ((c, head) ∈ s.cycle.joins)

/-- An item joins its ready list, at the tail or the head; those that join at one end in one cycle stand in ascending order
(R232). -/
def State.enlist (s : State) (c : Nat) (head : Bool) : State :=
  let x := s.ctx c
  let s := s.modRlist (x.cluster * 8 + x.pri) (fun l =>
    if head then putFirst (s.joinedNow true) c l else putLast (s.joinedNow false) id c l)
  { s with cyc := { s.cycle with joins := (c, head) :: s.cycle.joins.filter (fun q => q.1 != c) } }.modCtx c
    (fun x => { x with act := .ready })

/-- An item joins its ready list, and the cluster dispatches (R234, R258). -/
def State.join (s : State) (c : Nat) (head : Bool) : State := (s.enlist c head).dispatch (s.ctx c).cluster

def State.joinTail (s : State) (c : Nat) : State := s.join c false

/-- The clusters that items have joined in this cycle dispatch, once all have joined (R234). -/
def State.settle (s : State) : State :=
  forN 20 (fun k s => if s.cycle.joins.any (fun q => (s.ctx q.1).act == .ready && (s.ctx q.1).cluster == k) then s.dispatch k
    else s) s

/-- An item that waited for its operation to stand in the queue goes on (R303). -/
def State.placed (s : State) (c : Nat) : State :=
  if (s.ctx c).act = .parked .place ∧ (s.ctx c).inQueue then s.enlist c false else s

/-! ## Events of an activation (R216, R217) -/

/-- The masked events that are set: OP, CHILD, PKT as bits 0, 1, 3. -/
def Ctx.events (x : Ctx) : Nat :=
  (if x.evOp then 1 else 0) + (if x.evChild then 2 else 0) + (if x.evPkt then 8 else 0)

/-- WAIT returns with the bits `got` consumed: g[d], `st`, C (R217). -/
def Ctx.waitReturn (x : Ctx) (d got : Nat) : Ctx :=
  let x := x.setReg d (BitVec.ofNat 64 got)
  let x := if got % 2 = 1 then
      match x.opRes with
      | some r => { x.setSt r.1 r.2 with opRes := none }
      | none => x.setSt stOk 0
    else x.setSt stOk 0
  { x with c := false, romUs := 0,
           evOp := if got % 2 = 1 then false else x.evOp,
           evChild := if got / 2 % 2 = 1 then false else x.evChild,
           evPkt := if got / 8 % 2 = 1 then false else x.evPkt }

/-- An event has arisen: a parked WAIT that names it returns, and the item joins its ready list (R217, R258); its cluster
dispatches with `settle`. A wait of a slice being adjourned stays (R370). -/
def State.eventAt (s : State) (c tick : Nat) : State :=
  let x := s.ctx c
  match x.act with
  | .parked (.wait d mask _) =>
    let got := (x.events + tick) &&& mask
    if got = 0 ∨ s.frozen x.slice then s
    else (s.modCtx c (fun x => { x.waitReturn d got with
      tickSeen := if got / 4 % 2 = 1 then s.aon.clockCount else x.tickSeen })).enlist c false
  | _ => s

/-! ## Tokens (R238 to R240) -/

/-- Some member of root `f`'s family, other than `c`, has handle `h` as its current handle. -/
def State.famHolds (s : State) (f c h : Nat) : Bool :=
  s.ctxs.any (fun p => p.1 != c && p.2.live && p.2.act != .ended && p.2.root p.1 == f && p.2.cur == some h)

/-- An unfinished FENCE entry stands before the position of context `c` in its ring (R140). -/
def fenceBefore (c : Nat) : List Taken → Bool
  | [] => false
  | t :: l => if t.ctx = some c then false else (t.op = 3 && t.result == none) || fenceBefore c l

def State.fenceHeld (s : State) (c : Nat) : Bool :=
  let x := s.ctx c
  x.parent == none && fenceBefore c (s.ring (rKey x.slice x.ring)).taken

/-- The token of key `k` is granted to `c`: a fresh INVOKE joins its ready list unless a FENCE holds it; a bus
instruction that waited goes on (R238, R240). -/
def State.tokenGive (s : State) (k c : Nat) : State :=
  let x := s.ctx c
  let s := s.modToken k (fun t => { t with fam := some (x.root c) })
  let s := s.modCtx c (fun x => { x with cur := some (k % 65536) })
  match x.act with
  | .parked (.token r) => (s.modCtx c (fun x => { x with go := some r })).enlist c false
  | _ => if s.fenceHeld c then s else s.enlist c false

/-- The token passes to the head of its queue (R239). -/
def State.tokenPass (s : State) (k : Nat) : State :=
  match (s.token k).queue with
  | [] => s.modToken k (fun t => { t with fam := none })
  | c :: q => (s.modToken k (fun _ => ⟨none, q⟩)).tokenGive k c

/-- `c` gives up its current handle; the family's token is released with its last member (R239). -/
def State.tokenDrop (s : State) (c : Nat) : State :=
  let x := s.ctx c
  match x.cur with
  | none => s
  | some h =>
    let s := s.modCtx c (fun x => { x with cur := none })
    if s.famHolds (x.root c) c h then s else s.tokenPass (hKey x.slice h)

/-- `c` leaves every token queue. -/
def State.tokenLeave (s : State) (c : Nat) : State :=
  { s with tokens := s.tokens.mapVals Token.free (fun _ t => { t with queue := t.queue.filter (· != c) }) }

/-! ## Jobs -/

/-- What is still to be done. -/
inductive Job where
  /-- The activation ends under R181 with a code, now. -/
  | ends (c code : Nat)
  /-- The activation ends by POST or RET (R222). -/
  | posts (c code : Nat)
  /-- An end condition has arisen: it acts now, or at the next boundary (R182, R183, R237). An entry whose root has ended
  and waits for its children is not finished (R185): it takes the code, and its children end; the code of a POST is no
condition that could come first. -/
  | asks (c code : Nat)
  /-- The ring's entries are looked at in order (R140). -/
  | pump (i r : Nat)
  deriving DecidableEq, Repr

/-- The operation receives IN data into segments. -/
def Op.lands (o : Op) (e : Ep) : Bool :=
  (o.req.kind == .inn || o.req.kind == .scatter || (o.req.kind == .stream && e.dirIn)) && e.typ != 3

/-- A report for the fan-out attachment of an operation stands whole in the FIFO while its device is detached: it was acknowledged
before, and is delivered (R332). -/
def State.fanComing (s : State) (c : Nat) (o : Op) : Bool :=
  o.req.kind == .inn && o.result == none && (s.atE (hKey (s.ctx c).slice o.req.handle)).cfg.mode == 1 &&
    (s.epDev o.ep).detached && (s.port o.port).fifo.items.any (fun i => i.ep == o.ep && i.whole && i.ctx == none)

/-- The operation of `c` has a transaction on the wire, or a return item that has not been read. -/
def State.onWire (s : State) (c : Nat) : Bool :=
  match (s.ctx c).op with
  | some o => (s.port o.port).lines.any (fun l => match l.txn with
      | some t => t.ctx == some c
      | none => false) || (s.port o.port).fifo.items.any (fun i => i.ctx == some c) || s.fanComing c o
  | none => false

/-- The operation, an interrupt IN, has received packets of a report that has not ended (R208). -/
def State.inReport (s : State) (c : Nat) : Bool :=
  match (s.ctx c).op with
  | some o => o.req.kind == .inn && (s.epInfo o.ep).typ == 3 && decide (o.pkts ≠ 0) && o.result == none &&
      (s.epc o.ep).part != []
  | none => false

/-- A packet or an interval of the operation is under way: a transaction or an unread item, an interval that has begun
(R186), packets of a report that have not been written (R219), or received data whose segment is not resolved yet. Otherwise the operation stands at a boundary. -/
def State.underWay (s : State) (c : Nat) : Bool :=
  match (s.ctx c).op with
  | some o => s.onWire c || o.ivOpen || s.inReport c ||
      (o.lands (s.epInfo o.ep) && o.buf != [] && o.pos.next != none && o.result == none)
  | none => false

/-- A semaphore is granted to the head of its queue (R261): a LOCK returns; an arbitrated request goes to the
sequencer, or, on a pipe that is dirty, its activation ends (R266). -/
def State.semPass (s : State) (i : Nat) : State × List Job :=
  match (s.sem i).queue with
  | [] => (s, [])
  | c :: q =>
    let abn := (s.sem i).abn
    let s := s.modSem i (fun m => { m with owner := some c, queue := q, abn := false })
    let x := s.ctx c
    match x.act with
    | .parked (.lock _) =>
      let s := s.modCtx c (fun x =>
        { x.setSt (if abn then stLockAbandoned else stOk) 0 with locks := i :: x.locks, c := false })
      (s.enlist c false, [])
    | _ =>
      let s := s.modCtx c (fun x => { x with arbs := i :: x.arbs })
      match x.op with
      | some o =>
        if (s.epc o.ep).dirty ∧ o.req.kind ≠ .setup ∧ o.ep ∉ x.begun then (s, [.ends c stEndpointDirty])
        else ((s.toSeq c).placed c, [])
      | none => (s, [])

/-- A release, clean or abandoned (R262). -/
def State.semDrop (s : State) (i : Nat) (abandoned : Bool) : State × List Job :=
  let s := s.modSem i (fun m => { m with owner := none, abn := m.abn || abandoned })
  let s := if abandoned then s.addF .semAbnCnt SEM_ABN_CNT.COUNT 1 else s
  s.semPass i

/-- Several semaphores released. -/
def State.semDrops (s : State) (abandoned : Bool) : List Nat → State × List Job
  | [] => (s, [])
  | i :: l =>
    let p := if (s.sem i).owner = none then (s, []) else s.semDrop i abandoned
    let q := p.1.semDrops abandoned l
    (q.1, p.2 ++ q.2)

/-- `c` leaves every semaphore queue. -/
def State.semLeave (s : State) (c : Nat) : State :=
  { s with sems := s.sems.mapVals Sem.free (fun _ m => { m with queue := m.queue.filter (· != c) }) }

/-- A program whose last activation has ended after UNLOAD is removed (R172). -/
def State.progDrop (s : State) (k : Nat) : State :=
  let p := s.prog k
  if p.unloading && !(s.ctxs.any (fun q => q.2.slice * 64 + q.2.prog == k && q.2.prog < 64 && q.2.going)) then
    let n := p.blocks.length
    (s.setProg k Prog.empty).capFreed 2 (k / 64) n
  else s

/-- The number that stands for no context. -/
def noCtx : Nat := 16384

/-- Requests of `c` that are on their way are no longer wanted; those not issued are dropped. -/
def orphanReqs (c : Nat) (l : List HostReq) : List HostReq :=
  (l.filter (fun q => q.ctx != c || q.phase == .issued)).map (fun q => if q.ctx = c then { q with ctx := noCtx } else q)

/-- Writes of `c` that have not left no longer name it. -/
def orphanWrites (c : Nat) (l : List PWrite) : List PWrite :=
  l.map (fun w => if w.ctx = c then { w with ctx := noCtx } else w)

def State.reqsDrop (s : State) (c : Nat) : State := { s with reqs := orphanReqs c s.reqs }

/-- A context is freed (R160). Its writes that have not left stay. -/
def State.ctxFree (s : State) (c : Nat) : State :=
  let x := s.ctx c
  let s := { s.reqsDrop c with writes := orphanWrites c s.writes }
  let s := (s.setCtx c Ctx.free).capFreed 0 x.slice 1
  if x.prog < 64 then s.progDrop (x.slice * 64 + x.prog) else s

/-- The result of the entry that holds context `c` recorded, at this moment (R150). -/
def putResult (c : Nat) (r : Result) : List Taken → List Taken
  | [] => []
  | t :: l => if t.ctx = some c then { t with ctx := none, result := some r } :: l else t :: putResult c r l

def State.finish (s : State) (c code step bytes : Nat) : State :=
  let x := s.ctx c
  let r : Result := ⟨code % 256, step, min bytes 0xFFFFFFFF, s.clk.toNat⟩
  (s.modRing (rKey x.slice x.ring) (fun g => { g with taken := putResult c r g.taken })).ctxFree c

/-- A root whose children have all ended is finished (R160, R185). -/
def State.tryFinish (s : State) (c : Nat) : State × List Job :=
  let x := s.ctx c
  if x.act = .ended ∧ x.kids = [] then (s.finish c x.code x.step (x.bytes + x.kidBytes), [.pump x.slice x.ring])
  else (s, [])

/-- A child's result goes to its parent's pad, and CHILD is set (R184). -/
def State.childEnd (s : State) (c code : Nat) : State × List Job :=
  let x := s.ctx c
  match x.parent with
  | none => (s, [])
  | some (p, off) =>
    let s := s.ctxFree c
    let s := s.modCtx p (fun y =>
      { y.padWrite off (leBytes 8 (childWord code x.step (x.bytes + x.kidBytes))) with
        kids := y.kids.filter (· != c), kidBytes := y.kidBytes + x.bytes, evChild := true })
    (s.eventAt p 0).tryFinish p

/-- The granules of `n` bytes held as packets of `mps` bytes. -/
def bufGran (mps n : Nat) : Nat := n / mps * granules mps + granules (n % mps)

/-- `n` bytes of OUT data cut where intervals of `len` bytes end, `first` bytes being left of the one under way; `f` of each
piece, summed. -/
def byInterval (f : Nat → Nat) (len first n : Nat) : Nat :=
  if n ≤ first then f n else f first + (n - first) / len * f len + f ((n - first) % len)

/-- `f` summed over what `n` bytes of OUT data of the operation consist of: the data of each interval, or all of it. -/
def Op.outSum (o : Op) (f : Nat → Nat) (n : Nat) : Nat :=
  if o.req.kind = .isoout then
    let len := max 1 o.req.len
    byInterval f len (len - o.ivBytes % len) n
  else f n

/-- The granules, and the packets, of `n` bytes of OUT data that begin where the sequencer stands (R335, R337). -/
def Op.outGran (o : Op) (mps n : Nat) : Nat := o.outSum (bufGran mps) n
def Op.outPkts (o : Op) (mps n : Nat) : Nat := o.outSum (fun k => ceilDiv k (max 1 mps)) n

/-- Granules of the landing buffer taken for a slice (R109, R335). -/
def State.lbTake (s : State) (i n : Nat) : State := ((s.capTake 1 i n).modLbOf i (· + n)).bankTraffic

/-- Granules given back by slice `i`. -/
def State.lbFree (s : State) (i n : Nat) : State := (s.modLbOf i (fun u => u - n)).capFreed 1 i n

/-- Bytes that an ended operation adds to the activation's count: a ROM program counts only the phases that Table 8 of
chapter 6 names (R179): program 136 its data phase, program 135 its final read. -/
def countBytes (prog : Nat) (k : BusKind) (old moved : Nat) : Nat :=
  if prog = 136 then (if k = .stream then old + moved else old)
  else if prog = 135 then (if k = .inn then moved else old)
  else old + moved

/-- Pending gambit data of an endpoint context becomes orphan data (R328). -/
def State.orphanize (s : State) (e : Nat) : State :=
  let x := s.epc e
  if x.pend = [] then s
  else (s.modEpc e (fun x => { x with pend := [], orph := x.orph ++ x.pend })).addF (.portGmbOrph (s.epDev e).port)
    PORT_GMB_ORPH.ORPHANED x.pend.length

/-- Bytes of OUT data that are on their way for the operation of `c`. -/
def State.coming (s : State) (c : Nat) : Nat :=
  ((s.reqs.filter (fun q => q.ctx == c && q.purpose == .outData)).map HostReq.len).sum

/-- Granules that the operation holds: those of OUT data, or those allocated for packets asked for and of data that
waits for a segment (R335, R336). -/
def Op.gran (o : Op) (mps coming : Nat) : Nat :=
  if o.hold = 0 ∧ o.asked = 0 then o.outGran (max 1 mps) (o.buf.length + coming) else o.hold + o.asked * granules mps

/-- Writes of `c`'s operation are those of an operation that has ended. -/
def pastWrites (c : Nat) (l : List PWrite) : List PWrite :=
  l.map (fun w => if w.ctx = c then { w with cur := false } else w)

/-- The operation of `c` is dropped: its request leaves the queue, OUT data fetched and not sent is discarded
(R337), so are the packets of a report that has not ended, non-posted reads for its data are no longer wanted. -/
def State.dropOp (s : State) (c : Nat) : State :=
  match (s.ctx c).op with
  | none => s
  | some o =>
    let s := s.lbFree (s.ctx c).slice (o.gran (s.epInfo o.ep).mps (s.coming c))
    let s := if o.req.kind = .inn ∧ (s.epInfo o.ep).typ = 3 ∧ o.pkts ≠ 0 then
        (s.lbFree (s.ctx c).slice (s.epc o.ep).partGran).modEpc o.ep (fun e => { e with part := [], partGran := 0 })
      else s
    let s := { s with writes := pastWrites c s.writes }
    (s.reqsDrop c).modCtx c (fun x => { x with op := none, bytes := countBytes x.prog o.req.kind x.bytes o.moved })

/-- An IN-class instruction that ends under R181 and has taken pending packets: those it has not delivered become
orphan data (R328). -/
def State.orphanTaken (s : State) (c : Nat) : State :=
  match (s.ctx c).op with
  | some o =>
    if (o.pkts ≠ 0 ∨ o.moved ≠ 0) ∧ (o.req.kind = .inn ∨ o.req.kind = .stream ∨ o.req.kind = .scatter) then s.orphanize o.ep else s
  | none => s

/-- The pipes of open control sequences on arbitrated endpoints become dirty, but for those of detached devices (R266), and
the sequences close (R207, R265). -/
def State.seqEnd (s : State) (c : Nat) : State :=
  forL (s.ctx c).seq (fun q s =>
    if q.arb && !(s.epDev q.ep).detached then s.modEpc q.ep (fun e => { e with dirty := true }) else s)
    (s.modCtx c (fun x => { x with seq := [] }))

/-- What every end of an activation does before its result: engine, lists and queues left, operation dropped,
sequence closed, token given up, semaphores released (R181, R183, R222, R262, R264). -/
def State.endCommon (s : State) (c code : Nat) (abandoned : Bool) : State × List Job :=
  let x := s.ctx c
  let s := ((((s.leaveEng c).unready c).tokenLeave c).semLeave c)
  let s := (s.dropOp c).seqEnd c
  let s := s.modCtx c (fun x => { x with
    act := .ended, code := code, posted := !abandoned, go := none, endCode := none, locks := [], arbs := [], evOp := false,
    evPkt := false, opRes := none })
  let s := s.tokenDrop c
  let s := if x.prog < 64 then s.progDrop (x.slice * 64 + x.prog) else s
  s.semDrops abandoned (x.locks ++ x.arbs)

/-- The bin of a latency in REF cycles of 40 ns (R458). -/
def latBin (d : Nat) : Nat := ((List.range 15).filter (fun b => decide (250 * 2 ^ (b + 1) ≤ 40 * d))).length

/-- The latency of a ROM INTR_POLL activation that ends with OK is counted, as soon as its last write has left (R458). -/
def State.latency (s : State) (c : Nat) : State :=
  let x := s.ctx c
  match x.rptAt with
  | none => s
  | some t =>
    match (s.writes.filter (fun w => w.ctx == c)).getLast? with
    | some w => { s with lats := s.lats ++ [(w.tag, t)] }
    | none => if x.rptLeft = 0 then s else s.modLiveOf (latBin (x.rptLeft - t)) (· + 1)

/-- A write has left: latencies that waited for it are counted. -/
def State.latLeft (s : State) (tag : Nat) : State :=
  let l := s.lats.filter (fun p => p.1 == tag)
  { forL l (fun p s => s.modLiveOf (latBin (s.now - p.2)) (· + 1)) s with lats := s.lats.filter (fun p => p.1 != tag) }

/-- The end of an activation: a child's result to its parent, a root's to its ring once every child has ended. -/
def State.endResult (s : State) (c code : Nat) : State × List Job :=
  let s := if (s.ctx c).prog = 131 ∧ code = stOk then s.latency c else s
  if (s.ctx c).parent = none then s.tryFinish c else s.childEnd c code

/-- An entry that is made ready in its turn: NOP completes; ABORT asks its victims to end; INVOKE joins its ready
list if it holds its token; RESERVE joins the planners' queue; RELEASE removes the reservation at the next tick. -/
def victimsOf (all : Bool) (tag n : Nat) : List Taken → List Taken
  | [] => []
  | t :: l => if t.op = 1 ∧ t.result = none ∧ (all ∨ t.tag = tag) then t :: victimsOf all tag n l
    else victimsOf all tag n l

/-- Position of an entry in its ring's history. -/
def Taken.pos (n : Nat) (t : Taken) : Nat := t.lap * n + t.idx

/-- The entry at a position changed. -/
def setTaken (n p : Nat) (f : Taken → Taken) (l : List Taken) : List Taken :=
  l.map (fun t => if t.pos n = p then f t else t)

/-- Number of entries of a ring (`RING_CTL.SIZE`). -/
def State.ringN (s : State) (i r : Nat) : Nat := 2 ^ s.getF (.ringCtl i r) RING_CTL.SIZE

/-- RELEASE (R140, Table 3 of chapter 5): ABORTED on an unassigned handle, DETACHED on a detached one; else OK with
the bytes released, and the reservation leaves the pending set, to leave the effective set at the next tick
(R289). -/
def State.doRelease (s : State) (c : Nat) : State :=
  let x := s.ctx c
  let k := hKey x.slice x.ep
  let a := s.attCfg x.slice x.ep
  if !a.live then s.finish c stAborted 0 0
  else if a.detached then s.finish c stDetached 0 0
  else
    let v := s.rsvP k
    (s.setRsvP k { v with live := false, bytes := 0 }).finish c stOk 0 (if v.live then v.bytes else 0)

/-- A RESERVE is suitable (R121, R140): an exclusive interrupt or isochronous attachment, or, in slice 0 only, a
fan-out interrupt-IN attachment. -/
def State.reserveOk (s : State) (i h : Nat) : Bool :=
  let a := s.attCfg i h
  let e := s.epc a.ep
  !(unlisted (s.epDev a.ep).speed e.typ) &&
    ((a.mode == 0 && (e.typ == 1 || e.typ == 3)) || (i == 0 && a.mode == 1 && e.typ == 3 && e.dirIn))

/-- Bytes per interval that a slice has reserved on a handle, a reservation not yet effective included (Table 3 of
chapter 5). -/
def State.reservedNow (s : State) (k : Nat) : Nat := if (s.rsvP k).live then (s.rsvP k).bytes else 0

/-- A RESERVE is made ready: refused at once on an attachment that is unassigned, detached or unsuitable, else it
waits for its planner pair (R140, R288). -/
def State.doReserve (s : State) (c : Nat) : State :=
  let x := s.ctx c
  let a := s.attCfg x.slice x.ep
  let now := s.reservedNow (hKey x.slice x.ep)
  if !a.live then s.finish c stAborted 0 now
  else if a.detached then s.finish c stDetached 0 now
  else if s.reserveOk x.slice x.ep then
    { s with deciding := s.deciding ++ [c] }.modCtx c (fun x => { x with since := s.now })
  else s.finish c stAborted 0 now

/-- One entry made ready (R140). -/
def State.startEntry (s : State) (i r : Nat) (t : Taken) : State × List Job :=
  let n := s.ringN i r
  let s := s.modRing (rKey i r) (fun g => { g with taken := setTaken n (t.pos n) (fun t => { t with started := true }) g.taken })
  match t.ctx with
  | none => (s, [])
  | some c =>
    match t.op with
    | 1 =>
      if (s.ctx c).act = .other then (s.finish c (s.ctx c).code 0 0, [])
      else (if (s.ctx c).act = .ready ∧ (s.ctx c).cur ≠ none then s.enlist c false else s, [])
    | 2 => (s.finish c stOk 0 0, [])
    | 4 =>
      let x := s.ctx c
      let a0 := (x.reg 1).toNat
      let vs := victimsOf (a0 / 4096 % 2 = 1) (a0 % 4096) n
        ((s.ring (rKey i r)).taken.takeWhile (fun u => u.ctx != some c))
      let s := s.modRing (rKey i r) (fun g =>
        { g with taken := setTaken n (t.pos n) (fun t =>
            { t with victims := vs.map (Taken.pos n), count := vs.length }) g.taken })
      (s, vs.filterMap (fun v => v.ctx.map (fun c => Job.asks c stAborted)))
    | 5 => (s.doReserve c, [])
    | 6 => (s.doRelease c, [])
    | _ => (s, [])

/-- FENCE and ABORT entries complete once what they wait for has finished (R140). -/
def State.tryEntry (s : State) (before : List Taken) (t : Taken) : State :=
  match t.ctx with
  | none => s
  | some c =>
    if t.op = 3 ∧ before.all (fun u => u.result != none) then s.finish c stOk 0 0
    else if t.op = 4 ∧ t.started ∧
        before.all (fun u => u.result != none || !(u.pos (s.ringN (s.ctx c).slice (s.ctx c).ring) ∈ t.victims)) then
      s.finish c stOk 0 t.count
    else s

/-- The entries of a ring looked at in order, from position `k` on: each is made ready when no unfinished FENCE
stands before it. -/
def State.pumpN (i r : Nat) : Nat → Nat → State → List Job → State × List Job
  | 0, _, s, js => (s, js)
  | f + 1, k, s, js =>
    let l := (s.ring (rKey i r)).taken
    match l[k]? with
    | none => (s, js)
    | some t =>
      let before := l.take k
      if t.result ≠ none then State.pumpN i r f (k + 1) s js
      else if before.any (fun u => u.op = 3 && u.result == none) then (s, js)
      else
        let p := if t.started then (s, []) else s.startEntry i r t
        let t' := ((p.1.ring (rKey i r)).taken)[k]?.getD t
        let s := p.1.tryEntry ((p.1.ring (rKey i r)).taken.take k) t'
        State.pumpN i r f (k + 1) s (js ++ p.2)

/-- The instruction that the item is parked on, or executes, has a boundary of its own to reach: it waits for host memory or
the seal unit, or DOZE holds its engine. -/
def State.midWay (s : State) : Act → Bool
  | .parked (.hld _ _) => true
  | .parked (.hst _) => true
  | .parked .fence => true
  | .parked .sealOp => true
  | .running te => (s.eng te).doze
  | _ => false

/-- Where an end condition acts at once: the item is in a list or queue, Suspended, Running (at an instruction
boundary), or parked on something that ends at once (R182, R237), and no packet or interval is under way. -/
def State.endsNow (s : State) (c : Nat) : Bool := !(s.underWay c) && !(s.midWay (s.ctx c).act)

/-- The item is taken out of its list, its wait or its engine at once; its operation first stops at a boundary
(R183, R237). -/
def State.toEnding (s : State) (c : Nat) : State :=
  let x := s.ctx c
  let quit (s : State) : State := s.modCtx c (fun x => { x with act := .parked .ending, go := none, since := s.now })
  if s.midWay x.act then s
  else match x.act with
    | .ready => quit ((s.unready c).tokenLeave c)
    | .running _ => quit (s.leaveEng c)
    | .suspended => quit s
    | .parked (.wait _ _ _) => quit s
    | .parked (.waitclk _) => quit s
    | .parked (.lock _) => quit (s.semLeave c)
    | .parked (.token _) => quit (s.tokenLeave c)
    | _ => s

/-- One job. -/
def State.job (s : State) : Job → State × List Job
  | .ends c code =>
    if (s.ctx c).going then
      let kids := (s.ctx c).kids
      let p := (s.orphanTaken c).endCommon c code true
      let q := p.1.endResult c code
      (q.1, p.2 ++ kids.map (fun k => Job.asks k stAborted) ++ q.2)
    else (s, [])
  | .posts c code =>
    if (s.ctx c).going then
      let p := s.endCommon c code false
      let q := p.1.endResult c code
      (q.1, p.2 ++ q.2)
    else (s, [])
  | .asks c code =>
    if (s.ctx c).going then
      if s.endsNow c then (s, [.ends c (endMin (s.ctx c).endCode code)])
      else ((s.modCtx c (fun x => { x with endCode := some (endMin x.endCode code) })).toEnding c, [])
    else if (s.ctx c).act = .other then (s.modCtx c (fun x => { x with code := code }), [])
    else if (s.ctx c).act = .ended then
      (s.modCtx c (fun x => { x with code := if x.posted then code else endMin (some x.code) code, posted := false }),
        (s.ctx c).kids.map (fun k => Job.asks k stAborted))
    else (s, [])
  | .pump i r => s.pumpN i r 65537 0 []

/-- Jobs run in order, each followed by what it brings about. -/
def State.run : Nat → List Job → State → State
  | 0, _, s => s
  | _ + 1, [], s => s
  | n + 1, j :: js, s =>
    let p := s.job j
    State.run n (js ++ p.2) p.1

/-- Jobs run to their end, and what has become ready is dispatched. The bound is above the number of contexts times the jobs that each can bring about. -/
def State.jobs (s : State) (js : List Job) : State := (State.run 1000000 js s).settle

end Sys2Proof.Machine
end

