-- ==== Sys2Proof/Machine/SliceCore.lean ====
section
/-!
DEFINITION. Fence and slice reset (R131 to R133), which many causes bring about: commands, malformed entries, faults,
function resets, abandonment of the manager claim.
-/
namespace Sys2Proof.Machine

/-- The contexts of a slice for which `p` holds, in ascending order. -/
def State.ctxsOf (s : State) (i : Nat) (p : Ctx → Bool) : List Nat :=
  (s.ctxs.filter (fun q => q.2.slice == i && p q.2)).map Prod.fst

/-- The scanner has stopped for good on this ring: the slice is fenced or in reset, or the device is halted. -/
def State.scanBarred (s : State) (i : Nat) : Bool := s.fenced i || s.inReset i || s.flag .fltHold FLT_HOLD.HALT

/-- An adjourn command ends with a result: `BUSY` falls, which is an event of source 312. -/
def State.adjFinish (s : State) (i result : Nat) : State :=
  let s := { s with adjCmd := none }
  let s := ((s.clr1 .sealAdjSts SEAL_ADJ_STS.BUSY).setF .sealAdjSts SEAL_ADJ_STS.RESULT result).setF .sealAdjSts
    SEAL_ADJ_STS.STATE (s.adj i).state
  s.irqEvent 312

/-- Recorded gambit data goes to its handle's endpoint context: pending where `pending` allows it and the handle is bound and
the endpoint's only attachment, else orphan (R378). -/
def State.owedTo (s : State) (pending : Bool) (h : Owed) : State :=
  let a := (s.atE h.key).cfg
  let e := if a.live then a.ep else h.ep
  if pending ∧ a.live ∧ a.mode = 0 ∧ a.detached = false ∧ s.attsOf e = [h.key] then
    s.modEpc e (fun x => { x with pend := x.pend ++ h.pend, orph := x.orph ++ h.orph })
  else (s.modEpc e (fun x => { x with orph := x.orph ++ h.orph ++ h.pend })).addF (.portGmbOrph (s.epDev e).port)
    PORT_GMB_ORPH.ORPHANED h.pend.length
def State.owedAll (s : State) (i : Nat) (pending : Bool) : State :=
  forL (s.adj i).owed (fun h s => s.owedTo pending h) s

/-- An adjourn ends by a fence or reset: the state returns to NONE, recorded gambit data is orphan data, and a command in progress on the slice ends with
RESET (R370). The reset of a RELEASE is part of its command (R372). -/
def State.adjEnd (s : State) (i : Nat) : State :=
  if i ∈ s.releasing then s
  else
    let s := (s.owedAll i false).setAdj i Adj.init
    let s := { s with sealOps := s.sealOps.filter (fun o => o.use != SealUse.save i && o.use != SealUse.restore i),
                      restoring := if s.adjCmd.any (fun (p : Nat × Nat × Nat) => p.2.1 == i) then none else s.restoring }
    match s.adjCmd with
    | some (_, j, _) => if j = i then s.adjFinish i 0x0D else s
    | none => s

/-- The secure-input claims of a slice end at the next tick, otherwise than by SEC_RELEASE (R127). -/
def State.claimsEnd (s : State) (i : Nat) : State :=
  { s with epaOps := s.epaOps ++ (s.sec.filterMap (fun q => match q.2 with
      | some k => if k / 65536 = i then some (EpaOp.secEnd k true) else none
      | none => none)) }

/-- Pending gambit data of the endpoints that the slice holds exclusively becomes orphan data (R328). -/
def State.orphanSlice (s : State) (i : Nat) : State :=
  forL (s.att.filter (fun q => q.1 / 65536 == i && q.2.cfg.live && q.2.cfg.mode == 0))
    (fun q s => s.orphanize q.2.cfg.ep) s

/-- Queued reports of the slice's attachments are dropped; `count` counts them in `FOLOST`, which otherwise returns
to 0 with the rest of `EPV_RESULT` (R131, R132). -/
def State.reportsDrop (s : State) (i : Nat) (count : Bool) : State :=
  let n := s.fanGran
  let t := { s with att := s.att.mapVals Att.empty (fun k a =>
      if k / 65536 = i then
        { a with queue := [], folost := if count then satAdd 255 a.folost a.queue.length else 0 }
      else a) }
  t.capFreed 1 0 (n - t.fanGran)

/-- Entry fetches of some rings of a slice are no longer wanted: those that wait or have failed are not issued, what the
others bring is discarded (R131, R157). -/
def State.fetchDrop (s : State) (i : Nat) (p : Nat → Bool) : State :=
  let mine := fun (q : HostReq) => q.slice == i && match q.purpose with
    | .ringFetch r => p r
    | _ => false
  { s with reqs := (s.reqs.filter (fun q => !(mine q) || q.phase == .issued)).map (fun q =>
      if mine q then { q with purpose := .outData } else q) }

/-- The ring scanners of the slice stop (R131, R132). -/
def State.scanStop (s : State) (i : Nat) : State :=
  { s.fetchDrop i (fun _ => true) with rings := s.rings.mapVals Ring.init (fun k g =>
      if k / 64 = i then { g with scanning := false, rescan := false } else g) }

/-- The slice's RESERVE entries leave the planners' queue. -/
def State.undecide (s : State) (i : Nat) : State :=
  { s with deciding := s.deciding.filter (fun c => (s.ctx c).slice != i) }

/-- Entries that hold a context without being activations complete with a code. -/
def State.finishOthers (s : State) (i code : Nat) : State × List Job :=
  let cs := s.ctxsOf i (fun x => x.act == .other)
  (forL cs (fun c s => s.finish c code 0 0) s, cs.map (fun c => Job.pump i (s.ctx c).ring))

/-- A slice is fenced with a cause (R131). A fence during a reset is discarded; a later fence keeps the first cause
(R131, R133). -/
def State.fence (s : State) (i cause : Nat) : State :=
  if s.inReset i then s
  else
    let first := !(s.fenced i)
    let s := if first then (s.set1 (.slcCsr i) SLC_CSR.FENCED).setF (.slcCsr i) SLC_CSR.FCAUSE cause else s
    let s := if first then s.mgrIrq i else s
    let s := ((((s.scanStop i).adjEnd i).claimsEnd i).orphanSlice i).reportsDrop i true
    let p := (s.undecide i).finishOthers i stSliceFenced
    p.1.jobs ((p.1.ctxsOf i Ctx.going).map (fun c => Job.asks c stSliceFenced) ++ p.2)

/-- What a stopped activation leaves behind without a result: no completion, no publication (R132). -/
def State.stopCtx (s : State) (c : Nat) : State :=
  let s := ((((s.leaveEng c).unready c).tokenLeave c).semLeave c)
  let s := ((s.orphanTaken c).dropOp c).seqEnd c
  let s := s.modCtx c (fun x => { x with
    act := .ended, go := none, endCode := none, evOp := false, evPkt := false, opRes := none })
  let x := s.ctx c
  if x.prog < 64 then s.progDrop (x.slice * 64 + x.prog) else s

/-- A line whose transaction no longer serves context `c`. -/
def Line.without (c : Nat) (l : Line) : Line :=
  { l with txn := l.txn.map (fun t => if t.ctx = some c then { t with ctx := some noCtx } else t) }

/-- A return item that no longer belongs to context `c`. -/
def Item.without (c : Nat) (i : Item) : Item := if i.ctx = some c then { i with ctx := some noCtx } else i

/-- Transactions on a line and unread items no longer serve context `c`. -/
def State.offWire (s : State) (c : Nat) : State :=
  { s with ports := s.ports.mapVals Port.init (fun _ p =>
      { p with lines := p.lines.map (Line.without c),
               fifo := { p.fifo with items := p.fifo.items.map (Item.without c) } }) }

/-- Invalidations no longer wait for write `tag` (R87). -/
def invalLeft (tag : Nat) (l : List (Nat × Nat × List Nat)) : List (Nat × Nat × List Nat) :=
  l.map (fun p => (p.1, p.2.1, p.2.2.filter (· != tag)))

/-- The gambit packets of writes that are not made: the pieces of one packet together (R325, R338). -/
def heldPkts : List PWrite → List (Nat × Nat × GPkt)
  | [] => []
  | w :: t =>
    match w.kind with
    | .gambit n e short =>
      match heldPkts t with
      | (pkt, d, p) :: l =>
        if pkt = w.pkt then (pkt, d, { p with data := w.bytes ++ p.data, space := n + p.space }) :: l
        else (w.pkt, e, ⟨w.bytes, short, n⟩) :: (pkt, d, p) :: l
      | [] => [(w.pkt, e, ⟨w.bytes, short, n⟩)]
    | _ => heldPkts t

/-- Gambit writes that are not made give their packets back as orphan data, ahead of what is held: packets leave the pool only
by delivery (R328, R329). -/
def State.gambitsBack (s : State) (p : PWrite → Bool) : State :=
  let l := s.writes.filter (fun w => p w && match w.kind with
    | .gambit _ _ _ => true
    | _ => false)
  let s := { s with writes := s.writes.filter (fun w => !(decide (w ∈ l))) }
  let s := forL l (fun w s => { s with invals := invalLeft w.tag s.invals }) s
  forL (heldPkts l).reverse (fun q s => (s.modEpc q.2.1 (fun x => { x with orph := q.2.2 :: x.orph })).addF
    (.portGmbOrph (s.epDev q.2.1).port) PORT_GMB_ORPH.ORPHANED 1) s

/-- Posted writes of slice `i` that have not left are discarded, and their granules freed (R97, R132); gambit data becomes
orphan data (R329). -/
def State.writesCut (s : State) (i : Nat) : State :=
  let s := s.gambitsBack (fun w => w.slice == i)
  let mine := s.writes.filter (fun w => w.slice == i)
  let g := (mine.map (fun w => match w.kind with
    | .data n => n
    | _ => 0)).sum
  let s := { s with writes := s.writes.filter (fun w => w.slice != i) }
  (forL mine (fun w s => { s with invals := invalLeft w.tag s.invals }) s).lbFree i g

/-- A slice reset begins: `RSTB`; every item stops without publication; reads are abandoned and unsent writes
discarded (R132, steps 1 to 3). A reset in progress takes in a later request (R133). -/
def State.resetStart (s : State) (i : Nat) : State :=
  if s.inReset i then s
  else
    let s := s.set1 (.slcCsr i) SLC_CSR.RSTB
    let s := ((((s.scanStop i).adjEnd i).claimsEnd i).orphanSlice i).undecide i
    let cs := s.ctxsOf i (fun x => x.act != .ended)
    let s := forL cs (fun c s => (s.stopCtx c).offWire c) s
    let s := { s with sealOps := s.sealOps.filter (fun o => match o.use with
        | .instr c _ _ _ _ => (s.ctx c).slice != i
        | _ => true) }
    let s := { s with reqs := s.reqs.filter (fun q => q.slice != i) }.writesCut i
    { s.lbFree i (s.lbOf i) with resets := s.resets ++ [(i, s.now)] }

/-- The contexts of a slice are freed. -/
def State.ctxsClear (s : State) (i : Nat) : State :=
  forL (s.ctxsOf i Ctx.live) (fun c s => s.ctxFree c) s

/-- Semaphores that the slice's contexts own are released, as abandoned but in a RELEASE, and its contexts leave the
queues (R132, R372). -/
def State.semsOut (s : State) (i : Nat) : State :=
  let mine := (s.sems.filter (fun q => match q.2.owner with
      | some c => (s.ctx c).slice == i
      | none => false)).map Prod.fst
  let s := forL (s.ctxsOf i Ctx.live) (fun c s => s.semLeave c) s
  let p := s.semDrops (!(decide (i ∈ s.releasing))) mine
  p.1.jobs p.2

/-- The tokens of the slice's handles are free (R239). -/
def State.tokensOut (s : State) (i : Nat) : State :=
  { s with tokens := s.tokens.filter (fun q => q.1 / 65536 != i) }

/-- `GSAFE_S` is cleared, and the slice's reservations leave the pending set, to leave the effective set at the next
tick (R132, R289). -/
def State.marksOut (s : State) (i : Nat) : State :=
  { s with att := s.att.mapVals Att.empty (fun k a => if k / 65536 = i then { a with gsafeS := false } else a),
           epaOps := s.epaOps.filter (fun o => match o with
             | .gsafe k _ => k / 65536 != i
             | .lostClr k => k / 65536 != i
             | .secClaim k => k / 65536 != i
             | _ => true),
           resvP := s.resvP.mapVals Resv.empty (fun k r =>
             if k / 65536 = i then { r with live := false, bytes := 0 } else r) }

/-- The registers of the slice's page return to their reset values; `EPV_CSR.GEN` with them (R6, R130, R138). -/
def State.pageClear (s : State) (i : Nat) : State :=
  let lo := 0x100000000 + i * 0x10000
  let s := s.dropHalves (fun a => decide (lo ≤ a) && decide (a < lo + 0x10000))
  { s with regs := s.regs.filter (fun q => !(decide (lo ≤ q.1) && decide (q.1 < lo + 0x10000)) &&
      q.1 != (Reg.epvCsrMgt i).addr),
           rings := s.rings.filter (fun q => q.1 / 64 != i) }

/-- `MBX_RST` of the slice is set, with the manager's interrupt event; slice 0 has no bit (R129, R130). -/
def State.mbxRstSet (s : State) (i : Nat) : State :=
  if i = 0 then s else (s.set1 (.mbxRst (i / 32)) ⟨i % 32, i % 32⟩).mgrIrq i

/-- A RELEASE whose slice reset is over ends in NONE (R372). -/
def State.releaseDone (s : State) (i : Nat) : State :=
  if i ∈ s.releasing then
    { s.setAdj i Adj.init with releasing := s.releasing.filter (· != i) }.adjFinish i 0
  else s

/-- Step 4 of a slice reset: semaphores, claims, reports, reservations and contexts go, rings are disabled, the mailbox is
cleared; every other register keeps its value (R132, R135). -/
def State.resetStep4 (s : State) (i : Nat) : State :=
  let s := ((((s.semsOut i).tokensOut i).reportsDrop i (decide (i ∈ s.releasing))).marksOut i).ctxsClear i
  let box (a : Nat) : Bool := a / 65536 == 0x10000 + i && decide (0x1000 ≤ a % 65536) && decide (a % 65536 < 0x1100)
  let s := { s with resets := s.resets.filter (fun q => q.1 != i), regs := s.regs.filter (fun q => !(box q.1)) }
  forN 64 (fun r s => if s.flag (.ringCtl i r) RING_CTL.EN then s.clr1 (.ringCtl i r) RING_CTL.EN else s) s

/-- The tick's part of slice resets: step 4 at the first tick 100 µs or more after the request (R132; log entry 86). -/
def State.resetsTick (s : State) : State :=
  forL s.resets (fun q s => if q.2 + 2500 ≤ s.now then s.resetStep4 q.1 else s) s

/-- A slice reset completes: step 4 where no tick has made it, then step 5 (R132, R372). -/
def State.resetDone (s : State) (i : Nat) : State :=
  if s.inReset i then
    let s := if s.resets.any (fun q => q.1 == i) then s.resetStep4 i else s
    let s := s.pageClear i
    let s := ((s.clr1 (.slcCsr i) SLC_CSR.RSTB).clr1 (.slcCsr i) SLC_CSR.FENCED).setF (.slcCsr i) SLC_CSR.FCAUSE 0
    (s.mbxRstSet i).releaseDone i
  else s

end Sys2Proof.Machine
end

