-- ==== Sys2Proof/Machine/PortCore.lean ====
section
/-!
DEFINITION. What many causes do to root ports: path states with their link states and change bits (R50 to R54), PWREN
and gangs (R59 to R64), holds (R428), and the detach of devices (R331, R332).
-/
namespace Sys2Proof.Machine

/-! ## Detach (R331, R332) -/

/-- A context has work on endpoint `e`: an operation, or a bus instruction that waits for a token or an engine. -/
def State.onEp (s : State) (e : Nat) (x : Ctx) : Bool :=
  (match x.op with
    | some o => o.ep == e
    | none => false) ||
  (match x.go with
    | some r => (s.attCfg x.slice r.handle).ep == e && (s.attCfg x.slice r.handle).live
    | none => false) ||
  match x.act with
  | .parked (.token r) => (s.attCfg x.slice r.handle).ep == e && (s.attCfg x.slice r.handle).live
  | _ => false

/-- An endpoint is detached: its handles are marked, its work ends with DETACHED, pending gambit data becomes orphan
data, its pipe is clean, a secure-input claim on it ends (R118, R127, R266, R332). -/
def State.detachEp (s : State) (e : Nat) : State :=
  let ks := (s.attsOf e).filter (fun k => !(s.atE k).cfg.detached)
  let cs := (s.ctxs.filter (fun q => q.2.going && s.onEp e q.2)).map Prod.fst
  let s := { s with
    att := s.att.mapVals Att.empty (fun _ a => if a.cfg.live && a.cfg.ep == e then
      { a with cfg := { a.cfg with detached := true } } else a),
    attP := s.attP.mapVals AttCfg.empty (fun _ a => if a.live && a.ep == e then { a with detached := true } else a),
    epaOps := s.epaOps ++ ks.map EpaOp.detach ++ (match s.secOf e with
      | some k => [EpaOp.secEnd k true]
      | none => []) }
  let s := (s.orphanize e).modEpc e (fun x => { x with dirty := false })
  s.jobs (cs.map (fun c => Job.asks c stDetached))

/-- The endpoint contexts of a device. -/
def State.epsOf (s : State) (d : Nat) : List Nat :=
  (s.eps.filter (fun q => q.2.live && q.2.dev == d)).map Prod.fst

/-- One device detached. -/
def State.detachOne (s : State) (d : Nat) : State :=
  if (s.dev d).detached then s
  else forL (s.epsOf d) (fun e s => s.detachEp e) (s.modDev d (fun x => { x with detached := true }))

/-- The device `b` is routed through `a`, or is `a` (R331). -/
def Dev.through (a b : Dev) : Bool :=
  b.live && a.port == b.port && a.ss == b.ss && a.route.isPrefixOf b.route

/-- A handle, a work item or gambit data refers to the endpoint context (R118, R329). -/
def State.epHeld (s : State) (e : Nat) : Bool :=
  s.att.any (fun q => q.2.cfg.live && q.2.cfg.ep == e) || s.attP.any (fun q => q.2.live && q.2.ep == e) ||
    s.ctxs.any (fun q => s.onEp e q.2) || (s.epc e).pend != [] || (s.epc e).orph != [] ||
    s.writes.any (fun w => match w.kind with
      | .gambit _ d _ => d == e
      | _ => false)

/-- The contexts of a detached device to which nothing refers any more are freed (R118, R376). -/
def State.freeDev (s : State) (d : Nat) : State :=
  if (s.dev d).detached && (s.epsOf d).all (fun e => !(s.epHeld e)) then
    forL (s.epsOf d) (fun e s => s.setEpc e Ep.empty) (s.setDev d Dev.empty)
  else s
def State.freeDevs (s : State) : State :=
  forL ((s.devs.filter (fun q => q.2.live && q.2.detached)).map Prod.fst) (fun d s => s.freeDev d) s

/-- A device is detached, and with it every device routed through it. -/
def State.detach (s : State) (d : Nat) : State :=
  let a := s.dev d
  (forL ((s.devs.filter (fun q => q.1 == d || (a.route.length < q.2.route.length && a.through q.2))).map Prod.fst)
    (fun k s => s.detachOne k) s).freeDevs

/-- Every device reached through a path is detached (R54). -/
def State.detachPath (s : State) (n : Nat) (ss : Bool) : State :=
  (forL ((s.devs.filter (fun q => q.2.live && q.2.port == n && q.2.ss == ss)).map Prod.fst)
    (fun k s => s.detachOne k) s).freeDevs

/-! ## Fields that take effect at a rank boundary (R49, R329) -/

/-- The rank under way: microframe × 64 + rank. -/
def State.rankNow (s : State) : Nat := s.aon.clockCount * 64 + s.aon.refCycle * 64 / 3125

/-- A register's value as it acts in a rank: the value before a write acts to the end of the rank of the write. -/
def acting (held : Option (Nat × Word64)) (rank : Nat) (v : Word64) : Word64 :=
  match held with
  | some (r, old) => if rank ≤ r then old else v
  | none => v

/-- `PORT_CFG` and `PORT_SEQ_CFG` as they act in a rank. -/
def State.cfgAt (s : State) (n rank : Nat) : Word64 := acting (s.port n).cfgHeld rank (s.rd (.portCfg n))
def State.seqAt (s : State) (n rank : Nat) : Word64 := acting (s.port n).seqHeld rank (s.rd (.portSeqCfg n))

/-- An enable bit of `PORT_CFG` as it acts now. -/
def State.cfgFlag (s : State) (n : Nat) (f : Fld) : Bool := f.get (s.cfgAt n s.rankNow) != 0

/-- The values that act now are kept for the rest of the rank, before a write. -/
def State.holdCfg (s : State) (n : Nat) : State :=
  s.modPort n (fun p => { p with cfgHeld := some (s.rankNow, s.cfgAt n s.rankNow) })
def State.holdSeq (s : State) (n : Nat) : State :=
  s.modPort n (fun p => { p with seqHeld := some (s.rankNow, s.seqAt n s.rankNow) })

/-! ## Path states (R50, R51) -/

/-- A new transaction leaves L1, U1 or U2 (R66, R67). -/
def State.linkUp (s : State) (n : Nat) (ss : Bool) : State :=
  if ss then
    if s.getF (.portLink n) PORT_LINK.SLSTATE = 2 ∨ s.getF (.portLink n) PORT_LINK.SLSTATE = 3 then
      s.setF (.portLink n) PORT_LINK.SLSTATE 1 else s
  else if s.getF (.portLink n) PORT_LINK.LSTATE = 2 then s.setF (.portLink n) PORT_LINK.LSTATE 1 else s

/-- A path's record beside the registers. -/
def State.path (s : State) (n : Nat) (ss : Bool) : Path := if ss then (s.port n).sup else (s.port n).usb
def State.modPath (s : State) (n : Nat) (ss : Bool) (f : Path → Path) : State :=
  s.modPort n (fun p => if ss then { p with sup := f p.sup } else { p with usb := f p.usb })

/-- States in which devices stay attached to a path (R54). -/
def pathAlive (st : Nat) : Bool := st = pEnabled || st = pSuspended || st = pResuming

/-- USB 2.0 link state in a path state: L0 while devices stay attached; L2 follows 3 ms after suspension (R51). -/
def usbLink (st : Nat) : Nat := if pathAlive st then 1 else 0

/-- SuperSpeed link state in a path state (DEDUCED, log entry 13). -/
def supLink (st : Nat) : Nat :=
  if st = pDisconnected then 5 else if st = pQualify then 6 else if st = pEnabled then 1 else if st = pSuspended then 4
  else if st = pResetting ∨ st = pResuming then 7 else if st = pDisabled then 9 else 0

/-- A device's speed is known in a path state. -/
def speedKept (st : Nat) : Bool := pathAlive st || st = pDisabled || st = pTest

/-- A path that enters OFF forgets what it took on leaving it (R49). -/
def Path.enter (x : Path) (st : Nat) : Path :=
  if st = pOff then { Path.init with moved := x.moved, was := x.was, prec := x.prec } else { x with quiet := false, warm := false }

/-- The register side of a path's change to `st`: state, link state, speed, and the FLIP sample on entry to Rx.Detect
(R58). -/
def State.pathRegs (s : State) (n : Nat) (ss : Bool) (st : Nat) : State :=
  if ss then
    let s := (s.setF (.portSts n) PORT_STS.SSTATE st).setF (.portLink n) PORT_LINK.SLSTATE (supLink st)
    let s := if speedKept st then s else s.setF (.portSts n) PORT_STS.SSPEED 0
    if st = pDisconnected then s.setF (.portSts n) PORT_STS.FLIP (s.port n).flip.toNat else s
  else
    let s := (s.setF (.portSts n) PORT_STS.STATE st).setF (.portLink n) PORT_LINK.LSTATE (usbLink st)
    if speedKept st then s else s.setF (.portSts n) PORT_STS.SPEED 0

/-- A domain that has not yet committed its entry is ON again; its saved copy is discarded (R388). -/
def State.cancelEntry (s : State) (d apt : Nat) : State :=
  let s := (s.setF (.pwrCtl d) PWR_CTL.MODE 0).setDomSt d dOn
  let s := ((s.set1 (.pwrSts d) PWR_STS.ABT).set1 (.pwrSts d) PWR_STS.WOKE).setF (.pwrSts d) PWR_STS.APT apt
  (s.modDom d (fun x => { x with step := 0, wake := none, copy := none })).irqWake 313

/-- The path states in which a port sequencer enters retention or off (Table 1 of chapter 13). -/
def restful (ss : Bool) (st : Nat) : Bool := st = pOff || st = pSuspended || (!ss && st = pDisconnected)

/-- A sequencer whose path leaves those states while it is PENDING cancels its request (R393). -/
def State.seqStirs (s : State) (n : Nat) (ss : Bool) (old st : Nat) : State :=
  if restful ss old && !(restful ss st) && s.getF (.pwrSts (80 + n)) PWR_STS.STATE == 1 then s.cancelEntry (80 + n) 0 else s

/-- The checker of a root port stops: what it had counted until then is open while it was locked (R493, R495, log entry
16). -/
def State.checkerOff (s : State) (n : Nat) : State :=
  if s.flag (.portTstSts n) PORT_TST_STS.LOCK then
    (((s.wr (.portTstBits n) s.fresh).next.wr (.portTstErrs n) s.next.fresh).next).clr1 (.portTstSts n) PORT_TST_STS.LOCK
  else s

/-- A path goes to another state; out of TEST code 6, the checker stops. `sw` says that software asked for it: ENABLED
left for another reason sets `PEC` or `SPEC`. Devices are detached as R54 states; the default pipe counts as detached on a
path that is not ENABLED (R490). P16 to P19 have no SuperSpeed path. -/
def State.setPath (s : State) (n : Nat) (ss : Bool) (st : Nat) (sw : Bool) : State :=
  let old := s.pathSt n ss
  if (ss && decide (16 ≤ n)) || old = st then s
  else
    let s := if ss ∧ old = pTest then s.checkerOff n else s
    let s := s.pathRegs n ss st
    let s := (s.modPath n ss (fun x => x.enter st)).seqStirs n ss old st
    let s := if ss then s else
      s.modPort n (fun p => { p with vdm := p.vdm && (decide (st = pDisconnected) || decide (st = pQualify)) })
    let s := if old = pEnabled ∧ st ≠ pSuspended ∧ sw = false then
        s.set1 (.portSts n) (if ss then PORT_STS.SPEC else PORT_STS.PEC) else s
    let s := if old = pEnabled ∧ s.defSS n = ss then s.detachEp (32768 + n) else s
    if pathAlive old && !(pathAlive st) then s.detachPath n ss else s

/-! ## Conditions of one cycle (R52) -/

/-- Precedence of conditions. -/
def precOc : Nat := 1
def precPp : Nat := 2
def precGone : Nat := 3
def precBabble : Nat := 4
def precSw : Nat := 5
def precTimer : Nat := 6

/-- The latest transition of a path is noted. -/
def State.noteMove (s : State) (n : Nat) (ss : Bool) (was prec : Nat) : State :=
  s.modPath n ss (fun x => { x with moved := s.now + 1, was := was, prec := prec })

/-- A condition of the cycle has moved the path already. -/
def State.movedNow (s : State) (n : Nat) (ss : Bool) : Bool := decide ((s.path n ss).moved = s.now + 1)

/-- The move that the path has made in this cycle is not taken after all: the path is in the state that it left. Change bits
stay set (R52). -/
def State.unmove (s : State) (n : Nat) (ss : Bool) : State :=
  s.setF (.portSts n) (if ss then PORT_STS.SSTATE else PORT_STS.STATE) (s.path n ss).was

/-- A condition of precedence `prec` for a path, listed in the states `ok`: `bits` sets its change bits, `f` makes its
transition and sets them. It is decided together with the condition of another precedence that has moved the path in this
cycle where the state that was left lists it too: the one of lower precedence leaves only its change bits. -/
def State.cond (s : State) (n : Nat) (ss : Bool) (prec : Nat) (ok : Nat → Bool) (bits f : State → State) : State :=
  let x := s.path n ss
  let st := s.pathSt n ss
  if s.movedNow n ss ∧ x.prec ≠ prec ∧ ok x.was then
    if x.prec < prec then bits s else (f (s.unmove n ss)).noteMove n ss x.was prec
  else if ok st then (f s).noteMove n ss st prec
  else s

/-! ## Gangs and PWREN (R59, R63) -/

/-- The enabled gang that a port belongs to. -/
def State.gangOf (s : State) (n : Nat) : Option Nat :=
  (List.range 4).find? (fun g => s.flag (.portGang g) PORT_GANG.EN && (s.getF (.portGang g) PORT_GANG.MEMBERS).testBit n)

/-- The members of a gang. -/
def gangMembers (m : Nat) : List Nat := (List.range 20).filter (fun n => m.testBit n)
def State.membersOf (s : State) (g : Nat) : List Nat := gangMembers (s.getF (.portGang g) PORT_GANG.MEMBERS)

/-- The ports that share power with a port. -/
def State.mates (s : State) (n : Nat) : List Nat :=
  match s.gangOf n with
  | some g => s.membersOf g
  | none => [n]

/-- The port whose OCI_N filter counts for port `n`. -/
def State.ocSource (s : State) (n : Nat) : Nat :=
  match s.gangOf n with
  | some g => s.getF (.portGang g) PORT_GANG.SRC
  | none => n

/-- The ports for which the OCI_N input of port `n` counts: none for a gang member that is not the source. -/
def State.ocPorts (s : State) (n : Nat) : List Nat := if s.ocSource n = n then s.mates n else []

/-- `PP` as it acts: 0 for every port while PORT_CYCLE is in force (R482). -/
def State.ppEff (s : State) (n : Nat) : Bool := s.flag (.portCtl n) PORT_CTL.PP && s.aon.portCycle == none

/-- PWREN is wanted: some mate has `PP` = 1 and none is in OVERCURRENT; with its I/O segment off the pin floats
(R59, R63). -/
def State.pwrWant (s : State) (n : Nat) : Bool :=
  let m := s.mates n
  m.any s.ppEff && m.all (fun k => s.pathSt k false != pOvercurrent) && s.domLive 167

/-- Number of an output pin in `Output.level`: PWREN[n], and ALIVE. -/
def pinPwren (n : Nat) : Nat := n
def pinAlive : Nat := 20

/-- Inrush window and inrush filter time of a port: in REF cycles, in units of 100 ns (R60). -/
def State.inrushCycles (s : State) (n : Nat) : Nat := s.getF (.portOc n) PORT_OC.INRUSH * 2500
def State.inrushTime (s : State) (n : Nat) : Nat := s.getF (.portOc n) PORT_OC.INRUSH_FLT * 100

/-- Filter time of a count that starts now (R60). -/
def State.ocTime (s : State) (n : Nat) : Nat :=
  if s.now < (s.port n).inrush then s.inrushTime n else s.getF (.portOc n) PORT_OC.FILTER

/-- The pin follows what is wanted. An assertion opens the inrush window; an indication that is still active starts a new
count, with the inrush filter time (R60). -/
def State.pwrSet (s : State) (n : Nat) : State :=
  let w := s.pwrWant n
  if (s.port n).pwren = w then s
  else
    let s := ((s.traffic 167).modPort n (fun p => { p with pwren := w })).drive (pinPwren n) w
    if w then
      (s.modPort n (fun p => { p with inrush := s.now + s.inrushCycles n })).modPort (s.ocSource n) (fun p =>
        if p.oc.sample then { p with oc := { p.oc with counting := true, time := s.inrushTime (s.ocSource n) } } else p)
    else s

def State.pwrMates (s : State) (n : Nat) : State := forL (s.mates n) (fun k s => s.pwrSet k) s
def State.pwrAll (s : State) : State := forN 20 (fun n s => s.pwrSet n) s

/-! ## OVERCURRENT and holds (R51, R428) -/

/-- Both paths of a port go to OVERCURRENT. -/
def State.toOvercurrent (s : State) (n : Nat) : State :=
  let go (ss : Bool) (s : State) : State :=
    s.cond n ss precOc (· != pOvercurrent) (fun s => s) (fun s => s.setPath n ss pOvercurrent false)
  go true (go false s)

/-- Fault source `i` holds port `n` and its mates. -/
def State.holdPort (s : State) (i n : Nat) : State :=
  let m := s.mates n
  let s := forL m (fun k s =>
    (s.modPort k (fun p => { p with holds := if i ∈ p.holds then p.holds else i :: p.holds })).toOvercurrent k) s
  forL m (fun k s => s.pwrSet k) s

/-- A port whose last hold has ended leaves OVERCURRENT for OFF, from where the `PP` rows act (R51, R428). -/
def State.fromOvercurrent (s : State) (n : Nat) : State :=
  if (s.port n).holds = [] ∧ s.pathSt n false = pOvercurrent then
    ((s.setPath n false pOff false).setPath n true pOff false)
  else s

/-- Every hold of source `i` ends. -/
def State.unhold (s : State) (i : Nat) : State :=
  let s := forN 20 (fun n s => s.modPort n (fun p => { p with holds := p.holds.filter (· != i) })) s
  (forN 20 (fun n s => s.fromOvercurrent n) s).pwrAll

/-- `PP` = 0, stored or by PORT_CYCLE: both paths go to OFF, unless OVERCURRENT keeps them (R51, R53, R482). -/
def State.toOff (s : State) (n : Nat) (sw : Bool) : State :=
  let go (ss : Bool) (s : State) : State :=
    if s.pathSt n ss = pOvercurrent ∨ s.pathSt n ss = pOff then s
    else
      let s := if s.movedNow n ss then s.unmove n ss else s
      let was := s.pathSt n ss
      (s.setPath n ss pOff sw).noteMove n ss was precPp
  go true (go false s)

end Sys2Proof.Machine
end

