-- ==== Sys2Proof/Machine/FaultCore.lean ====
section
/-!
DEFINITION. One event of a fault source with its reaction (R424 to R430), over-current decisions (R61 to R63), errors
reported on an upstream port (R100).
-/
namespace Sys2Proof.Machine

/-! ## Errors on upstream ports (Table 6 of chapter 3) -/

/-- Bit numbers of PCI Express's AER Uncorrectable Error Status register (PRESUMED, log entry 14). Correctable errors
are numbered 32 + their bit in the Correctable Error Status register. -/
def aerDlp : Nat := 4
def aerPoisoned : Nat := 12
def aerFcp : Nat := 13
def aerCto : Nat := 14
def aerCa : Nat := 15
def aerUc : Nat := 16
def aerRxOf : Nat := 17
def aerMalformed : Nat := 18
def aerEcrc : Nat := 19
def aerUr : Nat := 20
def aerUie : Nat := 22

/-! ## Reactions -/

/-- Reaction 2 does not apply: the record shows `REACTED` = 0 (Table 2 of chapter 15). -/
def State.unreacted (s : State) (i : Nat) : State :=
  forL (s.fltEntries i) (fun e s => s.clr1 (.fltHist (e * 8)) ⟨30, 30⟩) s

/-- Slice fence reaction: not of slice 0, an unbound slice, or one already fenced. -/
def State.fenceReact (s : State) (i slice : Nat) : State :=
  if slice = 0 ∨ 256 ≤ slice ∨ s.flag (.slcBind slice) SLC_BIND.VALID = false ∨ s.fenced slice then s.unreacted i
  else s.fence slice 3

/-- Device safe state: every port held, `DSAFE`, Uncorrectable Internal Error in every PF0 (R429). -/
def State.safeState (s : State) (i : Nat) : State :=
  let s := (s.modFlt i (fun x => { x with dsafe := true })).set1 .fltHold FLT_HOLD.DSAFE
  let s := forN 4 (fun p s => if s.present p then s.aer p 0 aerUie else s) s
  forN 20 (fun n s => s.holdPort i n) s

/-- MGR_RING halts the device: no scanner takes an entry, every item stops at its boundary, nothing is published
(R156, R430). -/
def State.halt (s : State) : State :=
  let s := s.set1 .fltHold FLT_HOLD.HALT
  let s := { s with deciding := [], rings := s.rings.mapVals Ring.init (fun _ g =>
    { g with scanning := false, rescan := false }) }
  forL ((s.ctxs.filter (fun q => q.2.act != .ended)).map Prod.fst) (fun c s => (s.stopCtx c).offWire c) s

/-- The action of a deciding event (Table 2 of chapter 15). -/
def State.react (s : State) (i detail : Nat) : State :=
  let s := match (s.flt i).react with
    | 2 => s.fenceReact i detail
    | 3 => s.holdPort i (i % 20)
    | 4 => s.safeState i
    | _ => s
  if i = 48 then s.halt else s

/-- One event of source `i`: counted, recorded, and reacted to when it decides (R424). -/
def State.faultEvent (s : State) (i detail aux : Nat) (forced : Bool) : State :=
  let p := s.fltCount i (detail % 65536) aux forced
  if p.2 then p.1.react i (detail % 65536) else p.1

/-- An uncorrectable error of port `p`, logged in function `fn`: also an event of LINK_HPp, with its bit number and
the function's requester ID (R100, R422). -/
def State.upErr (s : State) (p fn bit : Nat) : State :=
  (s.aer p fn bit).faultEvent (40 + p) bit ((s.func (fKey p fn)).bus * 256 + fn) false

/-! ## Over-current decisions (R61, R428) -/

/-- Detail and auxiliary value of an OC_Pn event (Table 1 of chapter 15). -/
def State.ocDetail (s : State) (n : Nat) : Nat × Nat :=
  match s.gangOf n with
  | some g => (g + 1, s.getF (.portGang g) PORT_GANG.MEMBERS)
  | none => (0, 2 ^ n)

/-- The hold of a decision, real or forced; while the source is IDLE or COUNTING, the hold has a quiet time of its
own, which every decision restarts (Table 3 of chapter 15). -/
def State.ocHold (s : State) (n : Nat) : State :=
  (s.modFlt n (fun x => { x with holdQuiet := if s.getF (.fltSts n) FLT_STS.STATE < 2 then some s.now else none })).holdPort n n

/-- A deciding event of port `n`'s filter (R61, R63). -/
def State.ocDecide (s : State) (n : Nat) : State :=
  let d := s.ocDetail n
  (s.faultEvent n d.1 d.2 false).ocHold n

end Sys2Proof.Machine
end

