-- ==== Sys2Proof/Machine/Access.lean ====
section
/-!
DEFINITION. Who may write where (R81, R82, R391, R444, R446, R503, R504): the checks that every register write passes
before the owning chapter's rule acts, and the update of fields by access type (R8).
-/
namespace Sys2Proof.Machine

/-! ## Reaching a space -/

/-- A function exists: PF0 of a present port, or a VF that VF Enable and NumVFs include (R72, R78, R99). -/
def State.fnExists (s : State) (p fn : Nat) : Bool :=
  s.present p && (decide (fn = 0) || decide (fn ≤ (s.func (fKey p 0)).vfs))

/-- A memory request of a host reaches the function's BARs (R82). -/
def State.barOn (s : State) (p fn : Nat) : Bool := s.fnExists p fn && (s.func (fKey p fn)).mse

/-- The slice is bound, effectively, to the function (R81, R104). -/
def State.boundTo (s : State) (i p fn : Nat) : Bool :=
  decide (s.slPort i = p) && decide (s.slFunc i = fn) && s.flag (.slcCsr i) SLC_CSR.ACTIVE

/-- The pair of a management core runs: its domain is on and it is not halted (R443). -/
def State.pairRuns (s : State) (mb : Bool) : Bool :=
  if mb then !s.pairB.halted && s.domLive 161 else !s.pairA.halted && s.domLive 160

/-- The requester has a path to the location as it stands: BAR0 of the manager function, the page of one of the function's
slices, the management map, or MEMAP (R80, R81, R446, R503, R504). A halted pair issues no access (R443). -/
def State.reaches (s : State) : Requester → Loc → Bool
  | _, .mem _ => false
  | .func p fn, .mgr _ => s.barOn p fn && s.isMgrFunc (.func p fn)
  | .func p fn, .page i _ => s.barOn p fn && s.boundTo i p fn
  | .jtag, .mgr _ => s.jtag = .memap && s.domLive 166
  | .jtag, .page _ _ => false
  | .ma, _ => s.pairRuns false
  | .mb, _ => s.pairRuns true
  | .dma _, _ => true

/-! ## The management address map (R445) -/

/-- What an access of `n` bytes meets. -/
inductive Region where
  | rom
  /-- Own SRAM: of the active pair; and the SRAM of one pair. -/
  | own (off : Nat)
  | pair (mb : Bool) (off : Nat)
  | regs (l : Loc)
  | peripheral
  | nor
  | none
  deriving DecidableEq, Repr

/-- The access lies in a range. -/
def within (a n base size : Nat) : Bool := decide (base ≤ a) && decide (a + n ≤ base + size)

def regionOf (a n : Nat) : Region :=
  if within a n 0 0x10000 then .rom
  else if within a n 0x10000000 0x100000 then .own (a - 0x10000000)
  else if within a n 0x11000000 0x100000 then .pair false (a - 0x11000000)
  else if within a n 0x12000000 0x100000 then .pair true (a - 0x12000000)
  else if within a n 0x20000000 0x2000000 then .regs (.mgr (a - 0x20000000))
  else if within a n 0x24000000 0x1000000 then .regs (.page ((a - 0x24000000) / 65536) ((a - 0x24000000) % 65536))
  else if within a n 0x30000000 0x6000 then .peripheral
  else if within a n 0x40000000 0x8000000 then .nor
  else .none

/-! ## BARs (R80, R81) -/

/-- The page slot of a slice; slice 0 has slot 0 (R81, R106). -/
def State.slSlot (s : State) (i : Nat) : Nat := if i = 0 then 0 else s.getF (.slcHost i) SLC_HOST.SLOT

/-- What an access of a requester finds: a location of the register spaces, a dword of an MSI-X table entry or of a PBA, a
place of a BAR that holds nothing, an Unsupported Request, or no path; for a management core also the SRAM of a pair, a
memory or device whose contents the spec does not give, or an address that the map does not list (R445). -/
inductive Spot where
  | reg (l : Loc)
  | vector (p fn v dw : Nat)
  | pba (p fn k : Nat)
  /-- A byte of the SRAM of MB (`mb`) or MA, through the own-SRAM alias or not. -/
  | sram (mb own : Bool) (off : Nat)
  /-- The boot ROM or the NOR (`rom`), or a peripheral. -/
  | device (rom : Bool) (a : Nat)
  | unlisted
  | empty
  | ur
  | none
  deriving DecidableEq, Repr

/-- A slice window: the page of the slice bound with that slot; a slot without one holds nothing (R81). -/
def State.windowPlace (s : State) (p fn off : Nat) : Spot :=
  match (List.range 256).find? (fun i => s.boundTo i p fn && s.slSlot i == off / 65536) with
  | some i => .reg (.page i (off % 65536))
  | none => .empty

/-- A BAR4: the MSI-X table at 0, the PBA right behind it (Table 3 of chapter 3). -/
def msixPlace (p fn off : Nat) : Spot :=
  let n := vecCount fn
  if off < 16 * n then .vector p fn (off / 16) (off % 16 / 4)
  else if off < 16 * n + n / 8 then .pba p fn ((off - 16 * n) / 4)
  else .empty

/-- Size of BAR `k` of PF0 of the manager port, or of another PF0 (Table 3 of chapter 3); 0 where the function has none. -/
def barSize (mgr : Bool) (k : Nat) : Nat :=
  match k with
  | 0 => if mgr then 0x2000000 else 0x1000000
  | 2 => if mgr then 0x1000000 else 0
  | 4 => 0x10000
  | _ => 0

/-- Size of VF BAR `k`, rounded up to the System Page Size (R80); 0 where there is none. -/
def vfBarSize (f : Func) (k : Nat) : Nat :=
  match k with
  | 0 => max 0x100000 f.sysPage
  | 4 => max 0x2000 f.sysPage
  | _ => 0

/-- The offset of an address in a range. -/
def offIn (base size a : Nat) : Option Nat := if base ≤ a ∧ a < base + size then some (a - base) else none

/-- Where an address lies in the BARs of a function (Table 3 of chapter 3); an address in none of them is no place of the
function. -/
def State.barPlace (s : State) (p fn a : Nat) : Spot :=
  let f := s.func (fKey p 0)
  let mgr := p == s.mgrPort
  let bar (k : Nat) := offIn (FMap.find 0 k f.bars) (barSize mgr k) a
  let vfBar (k : Nat) :=
    let size := vfBarSize f k
    offIn (FMap.find 0 k f.vfBars / size * size + (fn - 1) * size) size a
  if fn = 0 then
    match bar 0, bar 2, bar 4 with
    | some off, _, _ => if mgr then .reg (.mgr off) else s.windowPlace p fn off
    | none, some off, _ => s.windowPlace p fn off
    | none, none, some off => msixPlace p fn off
    | none, none, none => .ur
  else match vfBar 0, vfBar 4 with
    | some off, _ => if off < 0x100000 then s.windowPlace p fn off else .empty
    | none, some off => msixPlace p fn off
    | none, none => .ur

/-- What a management core finds at an address of the map (R445, R447); `mb` is its pair. -/
def corePlace (mb : Bool) (a : Nat) : Spot :=
  match regionOf a 1 with
  | .rom => .device true a
  | .own off => .sram mb true off
  | .pair b off => .sram b false off
  | .regs l => .reg l
  | .peripheral => .device false a
  | .nor => .device true (norPlace (a - 0x40000000))
  | .none => .unlisted

/-- What an access finds. A host's page of a slice that is not bound to the function is a slot that holds no slice; with
Memory Space Enable 0, or without the function, a host's request is unsupported (R81, R82, R100). -/
def State.place (s : State) (q : Requester) (l : Loc) : Spot :=
  if s.reaches q l then .reg l
  else match q with
    | .func p fn =>
      if s.barOn p fn then
        match l with
        | .mem a => s.barPlace p fn a
        | .page _ _ => .empty
        | .mgr _ => .none
      else if s.present p && s.dlUp p then .ur
      else .none
    | .ma => match l with
      | .mem a => if s.pairRuns false then corePlace false a else .none
      | _ => .none
    | .mb => match l with
      | .mem a => if s.pairRuns true then corePlace true a else .none
      | _ => .none
    | _ => .none

/-- A request ends with Unsupported Request, logged in the function, or in PF0 where the function is absent. -/
def State.unsupported (s : State) (p fn : Nat) : State :=
  let f := if s.fnExists p fn then fn else 0
  (s.upErr p f aerUr).emit (.unsupported p f)

/-- A request that is no access: Unsupported Request (R82), a bus error of a core (R445), or nothing. -/
def State.noAccess (s : State) (q : Requester) (x : Spot) : State :=
  match q, x with
  | .func p fn, .ur => s.unsupported p fn
  | _, .unlisted => s.emit .busError
  | _, _ => s

/-- The write is refused whatever it writes, and is an access violation of the writer: a host's write to manager space
without the claim (R82), a page write of a management requester other than the active pair (R446). -/
def State.barred (s : State) : Requester → Loc → Bool
  | .func _ _, .mgr off => decide (off ≠ 0x410) && decide (s.claim ≠ claimHost)
  | .func _ _, _ => false
  | .jtag, _ => false
  | q, .page _ _ => !(s.isActive q)
  | _, _ => false

/-- Page writes are ignored during a slice reset (R132), and where no slice is bound (R81, R446). -/
def State.pageShut (s : State) : Loc → Bool
  | .page i _ => s.inReset i || !(s.flag (.slcCsr i) SLC_CSR.ACTIVE)
  | _ => false

/-! ## Domains of registers (R391) -/

/-- The domain a register belongs to. The spec itemises the save list of the port sequencers alone; the registers of
every other domain are taken to be on their domain's save list (log entry 15). -/
def Reg.domain : Reg → Option Nat
  | .portSts n => some (80 + n)
  | .portCtl n => some (80 + n)
  | .portCfg n => some (80 + n)
  | .portOc n => some (80 + n)
  | .portLink n => some (80 + n)
  | .portDefr n => some (80 + n)
  | .portSeqCfg n => some (80 + n)
  | .portPrfCfg n => some (80 + n)
  | .portPrfSts n => some (80 + n)
  | .portPrfNote n => some (80 + n)
  | .portPrfLoss n => some (80 + n)
  | .portXerr n => some (80 + n)
  | .portDet n => some (80 + n)
  | .portGmbCnt n => some (80 + n)
  | .portGmbOrph n => some (80 + n)
  | .portTstCtl n => some (80 + n)
  | .portTstSts n => some (80 + n)
  | .portTstBits n => some (80 + n)
  | .portTstErrs n => some (80 + n)
  | .portTstWord n => some (80 + n)
  | .glbHpCtl p => some (136 + p)
  | _ => none

/-- The register is on its domain's save list. -/
def Reg.saved : Reg → Bool
  | .portCtl _ => true
  | .portCfg _ => true
  | .portOc _ => true
  | .portPrfCfg _ => true
  | .portSeqCfg _ => true
  | .glbHpCtl _ => true
  | _ => false

/-- The register's domain is ON, or the register is read from and written to the saved copy. -/
def State.regLive (s : State) (r : Reg) : Bool :=
  r.saved || match r.domain with
    | some d => s.domOn d
    | none => true

/-- The registers of a domain's save list. -/
def savedRegs (d : Nat) : List Reg :=
  if 80 ≤ d ∧ d < 100 then
    [.portCfg (d - 80), .portOc (d - 80), .portPrfCfg (d - 80), .portSeqCfg (d - 80), .portCtl (d - 80)]
  else if 136 ≤ d ∧ d < 140 then [.glbHpCtl (d - 136)]
  else []

/-- What the saved copy holds of a register, where there is a copy; and the value that software sees. -/
def State.savedCopy (s : State) (r : Reg) : Option Word64 :=
  match r.domain with
  | some d => if r.saved then (s.dom d).copy.map (fun m => FMap.find 0 r.addr m) else none
  | none => none
def State.shown (s : State) (r : Reg) : Word64 := (s.savedCopy r).getD (s.rd r)

/-- The save list is copied (step 2 of Table 2 of chapter 13). -/
def State.takeCopy (s : State) (d : Nat) : State :=
  s.modDom d (fun x => { x with copy := some ((savedRegs d).foldl (fun m r => FMap.put 0 r.addr (s.rd r) m) []) })

/-! ## The gate -/

/-- A write to a location, with its effect at the location of the register spaces that it reaches, where it is accepted. -/
def State.gateLoc (s : State) (q : Requester) (l : Loc) (f : Loc → State → State) : State :=
  match s.place q l with
  | .reg l =>
    if s.barred q l then s.violation q l
    else if s.pageShut l then s
    else f l s
  | x => s.noAccess q x

/-- A write to a register through its usual address. -/
def State.gate (s : State) (q : Requester) (r : Reg) (f : State → State) : State :=
  s.gateLoc q r.loc (fun _ s => if s.regLive r then f s else s)

/-! ## Fields by access type (R8) -/

/-- One field of a stored value after a write of `v`. -/
def Access.apply (a : Access) (f : Fld) (v old : Word64) : Word64 :=
  match a with
  | .rw => f.put (f.get v) old
  | .w1c => old &&& ~~~(v &&& f.mask)
  | .w1s => old ||| (v &&& f.mask)
  | .ro => old
  | .wo => old

/-- Every field of a stored value after a write. -/
def applyFields (v : Word64) : List (Fld × Access) → Word64 → Word64
  | [], old => old
  | (f, a) :: t, old => applyFields v t (a.apply f v old)

/-- The mask of the fields of an access type. -/
def maskOf (a : Access) (l : List (Fld × Access)) : Word64 :=
  l.foldl (fun m p => if p.2 = a then m ||| p.1.mask else m) 0

/-- The value that a write works with, where `hw` has the bits that hardware sets in the cycle of the write: a W1C bit of
them stays 1 (R11). -/
def raced (r : Reg) (v hw : Word64) : Word64 := v &&& ~~~(hw &&& maskOf .w1c r.fields)

/-- The SuperSpeed fields of `PORT_CFG`, which read 0 on P16 to P19 (R47). -/
def usb2Only : Word64 :=
  [PORT_CFG.SS_EN, PORT_CFG.U1_EN, PORT_CFG.U2_EN, PORT_CFG.UX_ACC].foldl (fun m f => m ||| f.mask) 0
def maskedFor (r : Reg) (v : Word64) : Word64 :=
  match r with
  | .portCfg n => if 16 ≤ n then v &&& ~~~usb2Only else v
  | _ => v

/-- A write to the saved copy: it acts when the copy is restored (R391). -/
def State.copyWrite (s : State) (r : Reg) (v : Word64) : State :=
  match r.domain with
  | some d => s.modDom d (fun x => { x with copy := x.copy.map (fun m =>
      FMap.put 0 r.addr (applyFields (maskedFor r v) r.fields (FMap.find 0 r.addr m)) m) })
  | none => s

/-- A write with no effect beyond the register's own fields; bits that hardware has set in this cycle stay (R11). -/
def State.plainWrite (s : State) (r : Reg) (v : Word64) : State :=
  s.wr r (applyFields (raced r v (s.roseIn r)) r.fields (s.rd r))

/-- A write of a word whose other bits keep their values. -/
def State.plainBits (s : State) (r : Reg) (f : Fld) (x : Nat) : State := s.wr r (f.put x (s.rd r))

end Sys2Proof.Machine
end

