-- ==== Sys2Proof/Machine/Operands.lean ====
section
/-!
DEFINITION. Operand forms of Kwarvo (chapter 7): the instruction word of every format (R191, Tables 1 and 2),
immediates, access sizes, pad and host addresses, and the packed operands of bus instructions (R212, R214, R226).
-/
namespace Sys2Proof.Machine

/-! ## Instruction words (R191) -/

/-- A word from its opcode and its bits [25:0]. -/
def opWord (op low : Nat) : Word32 := BitVec.ofNat 32 (op * 2 ^ 26 + low % 2 ^ 26)

def wordR (op d a b : Nat) : Word32 := opWord op (d * 2 ^ 22 + a * 2 ^ 18 + b * 2 ^ 14)
def wordI (op d a x : Nat) (imm : BitVec 16) : Word32 := opWord op (d * 2 ^ 22 + a * 2 ^ 18 + x * 2 ^ 16 + imm.toNat)
def wordS (op hi lo : Nat) : Word32 := opWord op (hi * 2 ^ 22 + lo * 2 ^ 18)
def wordC (op imm : Nat) : Word32 := opWord op imm
def wordJ (op cond target : Nat) : Word32 := opWord op (cond * 2 ^ 22 + target)
def wordN (op : Nat) : Word32 := opWord op 0
def wordM (op d a size : Nat) (off : BitVec 16) : Word32 :=
  opWord op (d * 2 ^ 22 + a * 2 ^ 18 + size * 2 ^ 16 + off.toNat)
def wordX (op : Nat) (async : Bool) (a b : Nat) : Word32 :=
  opWord op ((if async then 2 ^ 25 else 0) + a * 2 ^ 18 + b * 2 ^ 14)
def wordW (op d t mask : Nat) : Word32 := opWord op (d * 2 ^ 22 + t * 2 ^ 18 + mask * 2 ^ 14)
def wordU (op a : Nat) : Word32 := opWord op (a * 2 ^ 18)
def wordP (op prog a h off : Nat) : Word32 := opWord op (prog * 2 ^ 18 + a * 2 ^ 14 + h * 2 ^ 10 + off * 4)
def wordK (op mode a : Nat) : Word32 := opWord op (mode * 2 ^ 24 + a * 2 ^ 18)

/-- Bits [hi:lo] of an instruction word. -/
def wordBits (w : Word32) (hi lo : Nat) : Nat := w.toNat / 2 ^ lo % 2 ^ (hi + 1 - lo)

/-! ## Sizes and addresses -/

/-- Bytes of an access by its size field (R191). -/
def accessBytes (size : Nat) : Nat := 2 ^ size

/-- The pad address of LDP and STP: modulo 256, aligned down to the access size (R166, R201). -/
def padAddr (base : Word64) (off size : Nat) : Nat :=
  let a := (base.toNat + off) % 256
  a - a % accessBytes size

/-- The host address of HLD and HST (R202). -/
def hostAddr (base : Word64) (off : BitVec 16) : Nat := (base + sext16 off).toNat

/-- The address is aligned to the access size (R202). -/
def accessAligned (addr size : Nat) : Bool := addr % accessBytes size = 0

/-! ## Immediates of the move instructions (R196) -/

/-- MOVI: zext(imm) shifted left by 16 × x. -/
def moviValue (x : Nat) (imm : BitVec 16) : Word64 := zext16 imm <<< (16 * x)

/-- MOVK: bits [16x + 15:16x] replaced. -/
def movkValue (old : Word64) (x : Nat) (imm : BitVec 16) : Word64 :=
  (old &&& ~~~((0xFFFF#64) <<< (16 * x))) ||| (zext16 imm <<< (16 * x))

/-! ## Packed operands of bus instructions -/

/-- A field [hi:lo] of a register operand. -/
def opBits (v : Word64) (hi lo : Nat) : Nat := v.toNat / 2 ^ lo % 2 ^ (hi + 1 - lo)

/-- A request with nothing but its kind, its A bit and its handle. -/
def busReq (kind : BusKind) (async : Bool) (handle : Nat) : BusReq :=
  { kind := kind, async := async, handle := handle, setup := 0, addr := 0, len := 0, sid := 0, zlp := false,
    mode := 0, count := 0, first := 0, results := 0 }

/-- STREAM, GATHER and SCATTER: address, and the packed word of R212. -/
def moverReq (kind : BusKind) (async : Bool) (handle : Nat) (addr packed : Word64) : BusReq :=
  { busReq kind async handle with
    addr := addr.toNat, len := opBits packed 31 0, sid := opBits packed 42 32, zlp := opBits packed 48 48 = 1,
    mode := opBits packed 57 56 }

/-- ISOIN and ISOOUT: the four registers of R214; `len` is the bytes per interval. -/
def isoReq (kind : BusKind) (async : Bool) (handle : Nat) (addr cnt first res : Word64) : BusReq :=
  { busReq kind async handle with
    addr := addr.toNat, count := opBits cnt 15 0, len := opBits cnt 63 32, first := opBits first 31 0,
    results := res.toNat }

/-- The request of a bus instruction with operand registers `a` and `b`, in a context whose registers are `g` and whose
`ep` is `handle` (Table 6 of chapter 7). -/
def busReqOf (g : Nat → Word64) (handle : Nat) (kind : BusKind) (async : Bool) (a b : Nat) : BusReq :=
  let r := busReq kind async handle
  let mover := moverReq kind async handle (g a) (g (a + 1))
  let iso := isoReq kind async handle (g a) (g (a + 1)) (g (a + 2)) (g (a + 3))
  let data := { r with addr := (g a).toNat, len := (g b).toNat }
  match kind with
  | .setup => { r with setup := g a }
  | .inn => data
  | .out => data
  | .ping => r
  | .status => r
  | .isoin => iso
  | .isoout => iso
  | .stream => mover
  | .gather => mover
  | .scatter => mover

/-- wLength and bit 7 of bmRequestType of a SETUP packet (R206, R207). -/
def setupLen (p : Word64) : Nat := opBits p 63 48
def setupIn (p : Word64) : Bool := opBits p 7 7 = 1

/-- The filters of R123 block the SETUP: SET_ADDRESS always; SET_CONFIGURATION, SET_INTERFACE, standard SET_FEATURE
and CLEAR_FEATURE, and class and vendor requests by filter bit. -/
def setupBlocked (filter : Nat) (p : Word64) : Bool :=
  let typ := opBits p 6 5
  let req := opBits p 15 8
  if typ = 0 then
    req == 5 || (req == 9 && filter % 2 == 1) || (req == 11 && filter / 2 % 2 == 1) ||
      ((req == 1 || req == 3) && filter / 4 % 2 == 1)
  else (typ == 1 || typ == 2) && filter / 8 % 2 == 1

/-- The 64-byte parameter block of SEAL (Table 10 of chapter 7), from its bytes. -/
structure SealBlock where
  slot : Nat
  rsv : Nat
  len : Nat
  src : Nat
  dst : Nat
  aadLen : Nat
  aad : Nat
  deriving DecidableEq, Repr

def sealBlock (b : List Byte) : SealBlock :=
  let f (lo n : Nat) := leValue ((b.drop lo).take n)
  ⟨f 0 1, f 1 3, f 4 4, f 8 8, f 16 8, f 36 4, f 56 8⟩

/-- Every field of the block is in range and every reserved byte is 0 (R226). -/
def SealBlock.ok (b : SealBlock) : Bool :=
  decide (b.slot < 32) && b.rsv == 0 && decide (1 ≤ b.len) && decide (b.len ≤ 65536) && decide (b.aadLen ≤ 4096)

/-- Bytes combined with the key stream. -/
def gcmText (key : List Word32) (nonce d : List Byte) : List Byte :=
  d.zipIdx.map (fun p => p.1 ^^^ Config.gcmStream key nonce p.2)

end Sys2Proof.Machine
end

