-- ==== Sys2Proof/Machine/Flags.lean ====
section
/-!
DEFINITION. Results and flags of the arithmetic, logic and compare instructions (R196, R198), computed on naturals
and integers and narrowed at the end, and the branch conditions (R199).
-/
namespace Sys2Proof.Machine

/-- A result with the flags that go with it. -/
structure Alu where
  val : Word64
  z : Bool
  c : Bool
  n : Bool
  deriving DecidableEq, Repr

/-- A result whose Z and N follow from it, with a carry. -/
def aluOf (v : Word64) (c : Bool) : Alu := ⟨v, v == 0, c, v.getLsbD 63⟩

/-- ADD: C is the carry out of bit 63. -/
def aluAdd (a b : Word64) : Alu := aluOf (a + b) (decide (2 ^ 64 ≤ a.toNat + b.toNat))
/-- SUB: C is 1 if the minuend is below the subtrahend unsigned. -/
def aluSub (a b : Word64) : Alu := aluOf (a - b) (decide (a.toNat < b.toNat))
def aluAnd (a b : Word64) : Alu := aluOf (a &&& b) false
def aluOr (a b : Word64) : Alu := aluOf (a ||| b) false
def aluXor (a b : Word64) : Alu := aluOf (a ^^^ b) false
/-- SHL: C is bit 64 − k of the operand, 0 if k = 0. -/
def aluShl (a : Word64) (k : Nat) : Alu := aluOf (a <<< k) (decide (k ≠ 0) && a.getLsbD (64 - k))
/-- SHR and SAR: C is bit k − 1 of the operand, 0 if k = 0. -/
def aluShr (a : Word64) (k : Nat) : Alu := aluOf (a >>> k) (decide (k ≠ 0) && a.getLsbD (k - 1))
def aluSar (a : Word64) (k : Nat) : Alu := aluOf (a.sshiftRight k) (decide (k ≠ 0) && a.getLsbD (k - 1))
/-- MUL: C is 1 if the high 64 bits of the product are not 0. -/
def aluMul (a b : Word64) : Alu := aluOf (a * b) (decide (2 ^ 64 ≤ a.toNat * b.toNat))

/-- The three flags. -/
structure Flags where
  z : Bool
  c : Bool
  n : Bool
  deriving DecidableEq, Repr

/-- CMP: equal, below unsigned, below signed (R198). -/
def cmpFlags (a b : Word64) : Flags := ⟨a == b, decide (a.toNat < b.toNat), decide (a.toInt < b.toInt)⟩
/-- TST. -/
def tstFlags (a b : Word64) : Flags := ⟨(a &&& b) == 0, false, (a &&& b).getLsbD 63⟩
/-- BTST of bit `k`. -/
def btstFlags (a : Word64) (k : Nat) : Flags := ⟨!(a.getLsbD k), false, a.getLsbD k⟩
/-- STCMP of the code in `st`. -/
def stcmpFlags (st : Word64) (imm : BitVec 8) : Flags :=
  ⟨st.toNat % 256 == imm.toNat, false, st.toNat % 256 != 0⟩

/-- Shift amount: bits [5:0] (R196). -/
def shiftOf (b : Word64) : Nat := b.toNat % 64

/-- Table 5 of chapter 7; the reserved conditions are refused at load. -/
def condHolds (cond : Nat) (z c n : Bool) : Bool :=
  match cond with
  | 0 => true
  | 1 => z
  | 2 => !z
  | 3 => c
  | 4 => !c
  | 5 => n
  | 6 => !n
  | 7 => c || z
  | 8 => !c && !z
  | 9 => n || z
  | 10 => !n && !z
  | _ => false

end Sys2Proof.Machine
end

