-- ==== Sys2Proof/Machine/Rom.lean ====
section
/-!
DEFINITION. The ROM library (R188, R189, Table 8 of chapter 6). The instructions of its programs are not in the spec, so a
command names the one that is issued (log entry 7); this file says which instructions a program may issue: its bus
instructions in the order of Table 8 with the operands that its arguments give, its time limits, the host memory that it
may write, and the codes that it posts. Argument 0 of `Ctx.args` is the handle, arguments 1 to 6 are g1 to g6 at the start.
-/
namespace Sys2Proof.Machine

/-- BAD_ARGUMENT (R188). -/
def stBadArgument : Nat := 0x80

/-- An argument as the activation began with it. -/
def Ctx.arg (x : Ctx) (k : Nat) : Word64 := FMap.find 0 k x.args
/-- The handle that the activation was started on. -/
def Ctx.home (x : Ctx) : Nat := (x.arg 0).toNat

/-- g1 to g6 and the handle, as `Ctx.args` keeps them. -/
def argsOf (handle : Nat) (g : FMap Word64) : FMap Word64 := FMap.put 0 0 (BitVec.ofNat 64 handle) g

/-- The request of a bus instruction with operand registers `a` and `b` (R205). -/
def Ctx.bus (x : Ctx) (kind : BusKind) (async : Bool) (a b : Nat) : BusReq := busReqOf x.reg x.ep kind async a b

/-! ## Starting (R188) -/

/-- A named argument is outside its range. -/
def romBadArgs (prog : Nat) (g : Nat → Word64) : Bool :=
  match prog with
  | 129 => decide (1024 < opBits (g 5) 10 0)
  | 130 => decide (1024 < opBits (g 5) 10 0) || opBits (g 6) 1 0 == 0 || opBits (g 6) 1 0 == 3
  | 131 => opBits (g 2) 15 0 == 0 || decide (3072 < opBits (g 2) 15 0)
  | 132 => decide (3072 < opBits (g 2) 15 0)
  | 133 => opBits (g 2) 15 0 == 0
  | 134 => decide (3 < opBits (g 1) 7 0) || opBits (g 2) 7 0 == 0 || decide (15 < opBits (g 2) 7 0)
  | 135 => opBits (g 4) 15 0 == 0
  | 136 => decide (opBits (g 2) 15 0 < 16) || decide (1024 < opBits (g 2) 15 0) || opBits (g 5) 63 48 == 0 ||
      decide (1024 < opBits (g 5) 63 48)
  | _ => false

/-- The device sits at tier 7: five hubs stand between it and the root port (R45). -/
def Dev.tier7 (d : Dev) : Bool := decide (5 ≤ d.route.length)

/-- The code with which a ROM program ends before it has sent anything: a reserved program, an argument out of range (of
ISO_STREAM also more bytes per interval than the reservation gives), a hub at tier 7 (R45, R188). -/
def State.romStart (s : State) (i handle prog : Nat) (g : FMap Word64) : Option Nat :=
  if prog < 128 then none
  else if 137 ≤ prog then some stAborted
  else if romBadArgs prog (fun k => FMap.find 0 k g) then some stBadArgument
  else if prog = 133 ∧ (s.rsvE (hKey i handle)).live ∧ (s.rsvE (hKey i handle)).bytes < opBits (FMap.find 0 3 g) 31 0 then
    some stBadArgument
  else if prog = 134 ∧ (s.epDev (s.attCfg i handle).ep).tier7 then some stAborted
  else none

/-! ## Bus instructions (Table 8, "Steps") -/

/-- A result after which a program goes on to its next step. -/
def romGoes (code : Nat) : Bool := code == stOk || code == stShort

/-- A SETUP, a data stage or an interrupt transfer, and a STATUS, with exactly these operands. -/
def BusReq.isSetup (r : BusReq) (h : Nat) (p : Word64) : Bool := r.kind == .setup && r.handle == h && r.setup == p
def BusReq.isData (r : BusReq) (h : Nat) (dirIn : Bool) (addr len : Nat) : Bool :=
  r.kind == (if dirIn then .inn else .out) && r.handle == h && r.addr == addr && r.len == len
def BusReq.isStatus (r : BusReq) (h : Nat) : Bool := r.kind == .status && r.handle == h
/-- A bulk mover with these operands; `kind` is the mover of the direction. -/
def BusReq.isMover (r : BusReq) (h : Nat) (kind : BusKind) (addr len sid : Nat) : Bool :=
  r.kind == kind && r.handle == h && r.addr == addr && r.len == len && r.sid == sid

/-- Control requests of HUB_PORT and DESC_FETCH. The codes of the standard and hub class requests are those of USB 2.0
(PRESUMED, log entry 7). -/
def hubSetup (op port sel : Nat) : Word64 :=
  let w (typ req val len : Nat) : Word64 := BitVec.ofNat 64 (typ + req * 2 ^ 8 + val * 2 ^ 16 + port * 2 ^ 32 + len * 2 ^ 48)
  match op with
  | 0 => w 0xA3 0 0 4
  | 1 => w 0x23 3 sel 0
  | 2 => w 0x23 1 sel 0
  | _ => w 0x23 3 4 0
def descSetup (typ idx lang len : Nat) : Word64 :=
  BitVec.ofNat 64 (0x80 + 6 * 2 ^ 8 + idx * 2 ^ 16 + typ * 2 ^ 24 + lang * 2 ^ 32 + len * 2 ^ 48)

/-- The three stages of a control read: `k` counts them from 0. -/
def BusReq.readStage (r : BusReq) (h : Nat) (k : Nat) (p : Word64) (addr : Nat) : Bool :=
  match k with
  | 0 => r.isSetup h p
  | 1 => r.isData h true addr (setupLen p)
  | _ => r.isStatus h

/-- The 4-byte port status read last shows C_PORT_RESET: bit 4 of the change bits (PRESUMED: USB 2.0, log entry 7). -/
def Ctx.hubWasReset (x : Ctx) : Bool := ((x.romData[2]?).map (fun b => b.getLsbD 4)).getD false

/-- The next bus instruction of HUB_PORT after `k` steps; RESET sets PORT_RESET and reads the port status until
C_PORT_RESET is set. -/
def Ctx.hubNext (x : Ctx) (r : BusReq) (k : Nat) : Bool :=
  let op := opBits (x.arg 1) 7 0
  let port := opBits (x.arg 2) 7 0
  let h := x.home
  let p := hubSetup op port (opBits (x.arg 3) 15 0)
  let q := hubSetup 0 port 0
  match op with
  | 0 => decide (k < 3) && r.readStage h k q (x.arg 4).toNat
  | 3 => if k = 0 then r.isSetup h p else if k = 1 then r.isStatus h
    else !(decide (5 ≤ k) && k % 3 == 2 && x.hubWasReset) && r.readStage h ((k - 2) % 3) q (x.arg 4).toNat
  | _ => if k = 0 then r.isSetup h p else decide (k = 1) && r.isStatus h

/-- The total length that the first bytes of a descriptor give: wTotalLength, bytes 2 and 3, of a configuration and of BOS,
else bLength, byte 0; `none` where the device sent too few of them (the descriptor types and the layout are those of USB
2.0 and USB 3.1, PRESUMED, log entry 7). -/
def Ctx.descTotal (x : Ctx) : Option Nat :=
  let typ := opBits (x.arg 1) 7 0
  if typ = 2 ∨ typ = 15 then
    match x.romData[2]?, x.romData[3]? with
    | some l, some h => some (l.toNat + 256 * h.toNat)
    | _, _ => none
  else (x.romData[0]?).map BitVec.toNat

/-- The next bus instruction of DESC_FETCH: 8 bytes of the descriptor, then its whole length or the maximum, whichever is
smaller; where the device sent too few bytes to tell, the command's operands show the length. -/
def Ctx.descNext (x : Ctx) (r : BusReq) (k : Nat) : Bool :=
  let h := x.home
  let n := opBits (x.arg 4) 15 0
  let p (len : Nat) := descSetup (opBits (x.arg 1) 7 0) (opBits (x.arg 1) 15 8) (opBits (x.arg 2) 15 0) len
  let len := if k = 3 then setupLen r.setup else ((x.seq.find? (fun q => q.handle == h)).map (fun q => setupLen q.setup)).getD 0
  if k < 3 then r.readStage h k (p (min 8 n)) (x.arg 3).toNat
  else decide (k < 6) &&
    (if k = 3 then (match x.descTotal with
      | some t => len == min t n
      | none => decide (len ≤ n)) else true) && r.readStage h (k - 3) (p len) (x.arg 3).toNat

/-- The next bus instruction of UAS: command, data, status. -/
def Ctx.uasNext (x : Ctx) (r : BusReq) (k : Nat) : Bool :=
  let len := opBits (x.arg 4) 31 0
  let pipe := if opBits (x.arg 4) 32 32 = 1 then opBits (x.arg 5) 31 16 else opBits (x.arg 5) 47 32
  match k, decide (0 < len) with
  | 0, _ => r.isData x.home false (x.arg 1).toNat (opBits (x.arg 2) 15 0)
  | 1, true => r.isMover pipe .stream (x.arg 3).toNat len (opBits (x.arg 5) 63 48)
  | k, b => k == (if b then 2 else 1) && r.kind == .inn && r.handle == opBits (x.arg 5) 15 0 &&
      r.addr == (x.arg 6).toNat && decide (r.len ≤ 256)

/-- `r` is the next bus instruction of the ROM program after the results `x.rom`; `dirIn` is the direction of the
endpoint that the handle names. The layout of ISO_STREAM's result array: log entry 95. -/
def Ctx.romNext (x : Ctx) (dirIn : Bool) (r : BusReq) : Bool :=
  let k := x.rom.length
  let h := x.home
  x.op.isNone && x.rom.all (fun q => match q with
    | some code => romGoes code || (x.prog == 136 && code == stOrphanData)
    | none => false) &&
  match x.prog with
  | 128 =>
    let n := setupLen (x.arg 1)
    match k, decide (0 < n) with
    | 0, _ => r.isSetup h (x.arg 1)
    | 1, true => r.isData h (setupIn (x.arg 1)) (x.arg 2).toNat n
    | k, b => k == (if b then 2 else 1) && r.isStatus h
  | 129 => k == 0 && r.isMover h .stream (x.arg 1).toNat (opBits (x.arg 2) 31 0) (opBits (x.arg 5) 10 0) &&
      (dirIn || r.zlp == (opBits (x.arg 3) 0 0 == 1))
  | 130 => k == 0 && r.isMover h (if dirIn then .scatter else .gather) (x.arg 1).toNat (opBits (x.arg 2) 31 0)
      (opBits (x.arg 5) 10 0) && (dirIn || r.zlp == (opBits (x.arg 3) 0 0 == 1)) && r.mode == opBits (x.arg 6) 1 0
  | 131 => k == 0 && r.isData h true (x.arg 1).toNat (opBits (x.arg 2) 15 0)
  | 132 => k == 0 && r.isData h false (x.arg 1).toNat (opBits (x.arg 2) 15 0)
  | 133 => k == 0 && r.kind == (if dirIn then .isoin else .isoout) && r.handle == h && r.addr == (x.arg 1).toNat &&
      r.count == opBits (x.arg 2) 15 0 && r.len == opBits (x.arg 3) 31 0 && r.first == opBits (x.arg 4) 31 0 &&
      r.results == (x.arg 5).toNat
  | 134 => x.hubNext r k
  | 135 => x.descNext r k
  | 136 => x.uasNext r k
  | _ => false

/-! ## Result codes -/

/-- The steps that the program makes when nothing goes wrong have been made. -/
def Ctx.romWhole (x : Ctx) : Bool :=
  let k := x.rom.length
  match x.prog with
  | 128 => k == (if setupLen (x.arg 1) = 0 then 2 else 3)
  | 134 =>
    match opBits (x.arg 1) 7 0 with
    | 0 => k == 3
    | 3 => decide (5 ≤ k) && k % 3 == 2 && x.hubWasReset
    | _ => k == 2
  | 135 => k == 6
  | 136 => k == (if opBits (x.arg 4) 31 0 = 0 then 2 else 3)
  | _ => k == 1

/-- The codes that the status IU of UAS leads to, of which `good` is that of GOOD: a sense IU with its status, or a response
IU (the IU codes and places are those of USB Attached SCSI, PRESUMED, log entry 7); any of them where the IU is neither or
is cut short. -/
def Ctx.uasCodes (x : Ctx) (good : Nat) : List Nat :=
  match x.romData[0]?, x.romData[6]? with
  | some 0x03#8, some st => if st = 0 then [good] else [0x81]
  | some 0x04#8, _ => [0x82]
  | _, _ => [good, 0x81, 0x82]

/-- The code of a program that has made all its steps: `codes` are those of its results. Of UAS the IU that the status pipe
brought decides. -/
def Ctx.romCodes (x : Ctx) (codes : List Nat) : List Nat :=
  let short := if codes.any (· == stShort) then stShort else stOk
  match x.prog with
  | 128 => [short]
  | 129 => [if opBits (x.arg 3) 1 1 = 1 then stOk else short]
  | 130 => [if opBits (x.arg 3) 1 1 = 1 then stOk else short]
  | 135 => [if codes[4]? = some stShort then stShort else stOk]
  | 136 => x.uasCodes (if codes[1]? = some stShort ∧ codes.length = 3 then stShort else stOk)
  | _ => [stOk]

/-- The program may post `code`: TIMEOUT after a CANCEL that cut; the code of the step that failed; else the code of a
program that has made all its steps. -/
def Ctx.romPost (x : Ctx) (code : Nat) : Bool :=
  x.op.isNone &&
  match x.rom.getLast? with
  | none => false
  | some none => code == stTimeout
  | some (some k) =>
    if x.prog = 133 then code == (if k = stMissed then stMissed else stOk)
    else if romGoes k ∨ (x.prog = 136 ∧ k = stOrphanData) then
      x.romWhole && (x.romCodes (x.rom.map (fun q => q.getD stOk))).any (· == code)
    else code == k

/-! ## Time limits and host writes (R188, R189) -/

/-- The time limit in µs that the arguments give; 0 for no limit, which ISO_STREAM, DESC_FETCH and UAS always have, since
they take no such argument (R189). -/
def Ctx.romLimit (x : Ctx) : Nat :=
  let ms (k dflt : Nat) := 1000 * (if opBits (x.arg k) 31 0 = 0 then dflt else opBits (x.arg k) 31 0)
  match x.prog with
  | 128 => ms 3 5000
  | 129 => ms 4 0
  | 130 => ms 4 0
  | 131 => ms 3 0
  | 132 => ms 3 0
  | 134 => ms 5 500
  | _ => 0

/-- A bus instruction under a time limit runs beside the WAIT that holds the limit. -/
def Ctx.romAsync (x : Ctx) (async : Bool) : Bool := x.romLimit == 0 || async

/-- The WAIT of a program: for the operation's end, of a bulk mover also for its boundaries, at each of which the time
restarts; with what is left of the time limit. A limit above the 32 bits of a WAIT's timeout takes several WAITs (DESIGN
CHOICE, log entry 92). -/
def Ctx.romWait (x : Ctx) (us mask : Nat) : Bool :=
  (x.op.isSome || x.evOp) && mask == (if x.prog = 129 ∨ x.prog = 130 then 9 else 1) &&
    if x.romLimit = 0 then us == 0
    else decide (x.romUs < x.romLimit) && us == min (x.romLimit - x.romUs) 0xFFFFFFFF

/-- CANCEL follows the WAITs once the time limit has expired. -/
def Ctx.romCancel (x : Ctx) : Bool := decide (0 < x.romLimit) && decide (x.romLimit ≤ x.romUs)

/-- The host buffers that the arguments name: address and length. -/
def Ctx.romBuffers (x : Ctx) : List (Nat × Nat) :=
  let a (k : Nat) := (x.arg k).toNat
  match x.prog with
  | 128 => [(a 2, setupLen (x.arg 1))]
  | 129 => [(a 1, opBits (x.arg 2) 31 0)]
  | 131 => [(a 1, opBits (x.arg 2) 15 0)]
  | 132 => [(a 1, opBits (x.arg 2) 15 0)]
  | 133 => [(a 1, opBits (x.arg 2) 15 0 * opBits (x.arg 3) 31 0), (a 5, if a 5 = 0 then 0 else 8 * opBits (x.arg 2) 15 0)]
  | 134 => [(a 4, if opBits (x.arg 1) 7 0 = 0 ∨ opBits (x.arg 1) 7 0 = 3 then 4 else 0)]
  | 135 => [(a 3, opBits (x.arg 4) 15 0)]
  | 136 => [(a 3, opBits (x.arg 4) 31 0), (a 6, 256)]
  | _ => []

/-- A host write of the program lies in one of those buffers. -/
def Ctx.romHst (x : Ctx) (addr n : Nat) : Bool :=
  x.romBuffers.any (fun p => decide (p.1 ≤ addr) && decide (addr + n ≤ p.1 + p.2))

/-! ## The instructions of a program -/

/-- The kinds of bus instruction by opcode (Table 2 of chapter 7). -/
def busKinds : List (Nat × BusKind) :=
  [(0x21, .setup), (0x22, .inn), (0x23, .out), (0x24, .ping), (0x25, .status), (0x26, .isoin), (0x27, .isoout),
   (0x28, .stream), (0x29, .gather), (0x2A, .scatter)]

/-- The ROM program of context `x` may issue the instruction `w`. -/
def State.romAllows (s : State) (x : Ctx) (w : Word32) : Bool :=
  let a := wordBits w 21 18
  let op := wordBits w 31 26
  match busKinds.find? (fun p => p.1 == op) with
  | some p =>
    let async := wordBits w 25 25 == 1
    x.romAsync async && x.romNext (s.epInfo (s.attCfg x.slice x.home).ep).dirIn (x.bus p.2 async a (wordBits w 17 14))
  | none =>
    match op with
    | 0x1C => !x.stack.isEmpty || x.romPost stOk
    | 0x20 => x.romHst (hostAddr (x.reg a) (BitVec.ofNat 16 (wordBits w 15 0))) (accessBytes (wordBits w 17 16))
    | 0x2B => x.romCancel
    | 0x2C => x.romWait (opBits (x.reg a) 31 0) (wordBits w 17 14)
    | 0x31 => x.romPost (wordBits w 7 0)
    | _ => decide (op < 0x2B) || op == 0x32 || op == 0x34

end Sys2Proof.Machine
end

