-- ==== Sys2Proof/Machine/Kwarvo.lean ====
section
/-!
DEFINITION. The instructions that finish on the engine (R196 to R201): arithmetic, logic, moves, compares, branches,
calls, pad access. Every command here is the issue of one instruction by the activation of context `c`.
-/
namespace Sys2Proof.Machine

/-! ## When the block acts at all -/

/-- The cold reset is held: VDD_AON or a rail is down, or RESET_N is low (R472 to R478). -/
def State.coldHeld (s : State) : Bool := !(s.aon.vddAon && s.aon.railsGood && s.aon.resetN)

/-- A command's effect on everything but the always-on island's own state and the queue; nothing while the cold reset
is held. -/
def onDevice (f : State → State) (s : State) : Host.Outcome State Fault Refusal :=
  .next (if s.coldHeld then s else { f s with aon := s.aon, pending := s.pending })

/-! ## Issuing an instruction -/

/-- The word at `pc` of a Library program is the one that the command names. The instructions of the ROM programs are
not in the spec: for them the command says which instruction is issued, within what Table 8 allows (log entry 7). -/
def State.wordAt (s : State) (x : Ctx) (w : Word32) : Bool :=
  if x.prog < 64 then (s.prog (x.slice * 64 + x.prog)).words[x.pc]? == some w else s.romAllows x w

/-- The item goes back to the head of its ready list, and its engine is freed (R243, R368). -/
def State.toHead (s : State) (c : Nat) : State :=
  (s.leaveEng c).enlist c true

/-- At an instruction boundary of the Running activation `c`: an end condition acts (R182); a slice that is being frozen
stops (R368); fuel 0 ends the activation (R176); else one unit of fuel is charged (R175) and the instruction runs. The
command has no effect where the activation is not Running, where it is in the middle of DOZE, or where its program has
another word at `pc`. -/
def State.issue (s : State) (c : Nat) (w : Word32) (f : State → State) : State :=
  let x := s.ctx c
  match x.act with
  | .running te =>
    match x.endCode with
    | some k => if (s.eng te).doze then s else s.jobs [.asks c k]
    | none =>
      if (s.eng te).doze then s
      else if s.frozen x.slice then s.toHead c
      else if s.wordAt x w then
        if x.fuel = 0 then s.jobs [.asks c stFuel]
        else f (s.modCtx c (fun x => { x with fuel := x.fuel - 1 }))
      else s
  | _ => s

/-- The next instruction follows. -/
def Ctx.step1 (x : Ctx) : Ctx := { x with pc := x.pc + 1 }

/-- An instruction that only changes its context. -/
def kwarvo (c : Nat) (w : Word32) (g : Ctx → Ctx) (s : State) : Host.Outcome State Fault Refusal :=
  onDevice (fun s => s.issue c w (fun s => s.modCtx c g)) s

/-- A result and its flags written to the context. -/
def Ctx.putAlu (x : Ctx) (d : Nat) (r : Alu) : Ctx := { (x.setReg d r.val).step1 with z := r.z, c := r.c, n := r.n }

/-- Flags written. -/
def Ctx.putFlags (x : Ctx) (f : Flags) : Ctx := { x.step1 with z := f.z, c := f.c, n := f.n }

/-- The special register `sp` (R164, R197), with the value of `clk`. -/
def Ctx.special (x : Ctx) (clk : Word64) (sp : Nat) : Word64 :=
  match sp with
  | 0 => BitVec.ofNat 64 x.pc
  | 1 => x.st
  | 2 => BitVec.ofNat 64 x.fuel
  | 3 => x.prg
  | 4 => BitVec.ofNat 64 x.ep
  | 5 => BitVec.ofNat 64 x.slice
  | 6 => clk
  | _ => 0

/-! ## Arithmetic, logic and moves (R196, R197) -/

def execAdd (c d a b : Nat) (s : State) : Host.Outcome State Fault Refusal :=
  kwarvo c (wordR 0x01 d a b) (fun x => x.putAlu d (aluAdd (x.reg a) (x.reg b))) s
def execSub (c d a b : Nat) (s : State) : Host.Outcome State Fault Refusal :=
  kwarvo c (wordR 0x02 d a b) (fun x => x.putAlu d (aluSub (x.reg a) (x.reg b))) s
def execAndd (c d a b : Nat) (s : State) : Host.Outcome State Fault Refusal :=
  kwarvo c (wordR 0x03 d a b) (fun x => x.putAlu d (aluAnd (x.reg a) (x.reg b))) s
def execOrr (c d a b : Nat) (s : State) : Host.Outcome State Fault Refusal :=
  kwarvo c (wordR 0x04 d a b) (fun x => x.putAlu d (aluOr (x.reg a) (x.reg b))) s
def execXor (c d a b : Nat) (s : State) : Host.Outcome State Fault Refusal :=
  kwarvo c (wordR 0x05 d a b) (fun x => x.putAlu d (aluXor (x.reg a) (x.reg b))) s
def execShl (c d a b : Nat) (s : State) : Host.Outcome State Fault Refusal :=
  kwarvo c (wordR 0x06 d a b) (fun x => x.putAlu d (aluShl (x.reg a) (shiftOf (x.reg b)))) s
def execShr (c d a b : Nat) (s : State) : Host.Outcome State Fault Refusal :=
  kwarvo c (wordR 0x07 d a b) (fun x => x.putAlu d (aluShr (x.reg a) (shiftOf (x.reg b)))) s
def execSar (c d a b : Nat) (s : State) : Host.Outcome State Fault Refusal :=
  kwarvo c (wordR 0x08 d a b) (fun x => x.putAlu d (aluSar (x.reg a) (shiftOf (x.reg b)))) s
def execMul (c d a b : Nat) (s : State) : Host.Outcome State Fault Refusal :=
  kwarvo c (wordR 0x09 d a b) (fun x => x.putAlu d (aluMul (x.reg a) (x.reg b))) s
def execAddi (c d a : Nat) (imm : BitVec 16) (s : State) : Host.Outcome State Fault Refusal :=
  kwarvo c (wordI 0x0A d a 0 imm) (fun x => x.putAlu d (aluAdd (x.reg a) (sext16 imm))) s
def execAndi (c d a : Nat) (imm : BitVec 16) (s : State) : Host.Outcome State Fault Refusal :=
  kwarvo c (wordI 0x0B d a 0 imm) (fun x => x.putAlu d (aluAnd (x.reg a) (zext16 imm))) s
def execOri (c d a : Nat) (imm : BitVec 16) (s : State) : Host.Outcome State Fault Refusal :=
  kwarvo c (wordI 0x0C d a 0 imm) (fun x => x.putAlu d (aluOr (x.reg a) (zext16 imm))) s
def execXori (c d a : Nat) (imm : BitVec 16) (s : State) : Host.Outcome State Fault Refusal :=
  kwarvo c (wordI 0x0D d a 0 imm) (fun x => x.putAlu d (aluXor (x.reg a) (zext16 imm))) s
def execShli (c d a : Nat) (imm : BitVec 16) (s : State) : Host.Outcome State Fault Refusal :=
  kwarvo c (wordI 0x0E d a 0 imm) (fun x => x.putAlu d (aluShl (x.reg a) (imm.toNat % 64))) s
def execShri (c d a : Nat) (imm : BitVec 16) (s : State) : Host.Outcome State Fault Refusal :=
  kwarvo c (wordI 0x0F d a 0 imm) (fun x => x.putAlu d (aluShr (x.reg a) (imm.toNat % 64))) s
def execSari (c d a : Nat) (imm : BitVec 16) (s : State) : Host.Outcome State Fault Refusal :=
  kwarvo c (wordI 0x10 d a 0 imm) (fun x => x.putAlu d (aluSar (x.reg a) (imm.toNat % 64))) s
def execMovi (c d x : Nat) (imm : BitVec 16) (s : State) : Host.Outcome State Fault Refusal :=
  kwarvo c (wordI 0x11 d 0 x imm) (fun y => (y.setReg d (moviValue x imm)).step1) s
def execMovk (c d x : Nat) (imm : BitVec 16) (s : State) : Host.Outcome State Fault Refusal :=
  kwarvo c (wordI 0x12 d 0 x imm) (fun y => (y.setReg d (movkValue (y.reg d) x imm)).step1) s
def execMfs (c d sp : Nat) (s : State) : Host.Outcome State Fault Refusal :=
  kwarvo c (wordS 0x13 d sp) (fun x => (x.setReg d (x.special s.clk sp)).step1) s
/-- MTS writes only `ep`; the other numbers are refused at load (R192). -/
def execMts (c sp a : Nat) (s : State) : Host.Outcome State Fault Refusal :=
  kwarvo c (wordS 0x14 sp a)
    (fun x => if sp = 4 then { x.step1 with ep := (x.reg a).toNat % 65536 } else x.step1) s

/-! ## Compare and branch (R198 to R200) -/

def execCmp (c a b : Nat) (s : State) : Host.Outcome State Fault Refusal :=
  kwarvo c (wordR 0x15 0 a b) (fun x => x.putFlags (cmpFlags (x.reg a) (x.reg b))) s
def execCmpi (c a : Nat) (imm : BitVec 16) (s : State) : Host.Outcome State Fault Refusal :=
  kwarvo c (wordI 0x16 0 a 0 imm) (fun x => x.putFlags (cmpFlags (x.reg a) (sext16 imm))) s
def execTst (c a b : Nat) (s : State) : Host.Outcome State Fault Refusal :=
  kwarvo c (wordR 0x17 0 a b) (fun x => x.putFlags (tstFlags (x.reg a) (x.reg b))) s
def execBtst (c a : Nat) (imm : BitVec 16) (s : State) : Host.Outcome State Fault Refusal :=
  kwarvo c (wordI 0x18 0 a 0 imm) (fun x => x.putFlags (btstFlags (x.reg a) (imm.toNat % 64))) s
def execStcmp (c : Nat) (imm : BitVec 8) (s : State) : Host.Outcome State Fault Refusal :=
  kwarvo c (wordC 0x19 imm.toNat) (fun x => x.putFlags (stcmpFlags x.st imm)) s
def execB (c cond target : Nat) (s : State) : Host.Outcome State Fault Refusal :=
  kwarvo c (wordJ 0x1A cond target)
    (fun x => if condHolds cond x.z x.c x.n then { x with pc := target } else x.step1) s
/-- CALL pushes the index of the next instruction; load checks bound the depth (R167). -/
def execCall (c target : Nat) (s : State) : Host.Outcome State Fault Refusal :=
  kwarvo c (wordJ 0x1B 0 target) (fun x => { x with stack := (x.pc + 1) :: x.stack, pc := target }) s
/-! ## The pad (R201) -/

def execLdp (c d a size off : Nat) (s : State) : Host.Outcome State Fault Refusal :=
  kwarvo c (wordM 0x1D d a size (BitVec.ofNat 16 off)) (fun x =>
    (x.setReg d (BitVec.ofNat 64 (leValue (x.padBytes (padAddr (x.reg a) off size) (accessBytes size))))).step1) s
def execStp (c d a size off : Nat) (s : State) : Host.Outcome State Fault Refusal :=
  kwarvo c (wordM 0x1E d a size (BitVec.ofNat 16 off)) (fun x =>
    (x.padWrite (padAddr (x.reg a) off size) (leBytes (accessBytes size) (x.reg d).toNat)).step1) s

end Sys2Proof.Machine
end

