-- ==== Sys2Proof/Machine/Slices.lean ====
section
/-!
DEFINITION. Slices (chapter 4): binding, quotas, fence and reset commands, mailboxes, and what becomes effective at the
tick.
-/
namespace Sys2Proof.Machine

/-! ## Binding (R103 to R106) -/

/-- A write to the slice's block is refused: `REJ`. -/
def State.rej (s : State) (i : Nat) : State := s.set1 (.slcCsr i) SLC_CSR.REJ

/-- The slice's `VALID` is 1; slice 0's always is (R106). -/
def State.bound (s : State) (i : Nat) : Bool := i == 0 || s.flag (.slcBind i) SLC_BIND.VALID

/-- Vectors of a function (R103). -/
def vecMax (fn : Nat) : Nat := if fn = 0 then 2048 else 256

/-- Two vector windows overlap: an empty one overlaps none. -/
def winClash (b n b' n' : Nat) : Bool :=
  decide (0 < n) && decide (0 < n') && decide (b < b' + n') && decide (b' < b + n)

/-- A slice other than `i` that is bound to function `fn` of port `p`. -/
def State.mate (s : State) (i p fn j : Nat) : Bool := j != i && s.bound j && s.slPort j == p && s.slFunc j == fn

/-- A vector window that does not fit its function, or overlaps that of another slice (R88, R103). -/
def State.vecBad (s : State) (i p fn base n : Nat) : Bool :=
  decide (vecMax fn < base + n) || (List.range 256).any (fun j => s.mate i p fn j &&
    winClash base n (s.getF (.slcHost j) SLC_HOST.VBASE) (s.getF (.slcHost j) SLC_HOST.VCOUNT))

/-- The conditions of R103 under which a binding is refused. -/
def State.bindRefused (s : State) (i : Nat) (v : Word64) : Bool :=
  let p := SLC_BIND.PORT.get v
  let fn := SLC_BIND.FUNC.get v
  let pasid := if SLC_BIND.PEN.get v != 0 then some (SLC_BIND.PASID.get v) else none
  let slot := s.getF (.slcHost i) SLC_HOST.SLOT
  !(s.present p) || (decide (fn ≠ 0) && decide (15 < slot)) ||
    (List.range 256).any (fun j => s.mate i p fn j && (s.slSlot j == slot || s.slPasid j == pasid)) ||
    s.vecBad i p fn (s.getF (.slcHost i) SLC_HOST.VBASE) (s.getF (.slcHost i) SLC_HOST.VCOUNT)

/-- A write to `SLC_BIND` (R103, R106). -/
def State.wrSlcBind (s : State) (i : Nat) (v : Word64) : State :=
  if s.bound i then s.rej i
  else if SLC_BIND.VALID.get v != 0 && s.bindRefused i v then s.rej i
  else s.plainWrite (.slcBind i) v

def execSlcBindWrite (q : Requester) (i : Nat) (v : Word32) (s : State) : Host.Outcome State Fault Refusal :=
  onDevice (fun s => s.gate q (.slcBind i) (fun s => s.wrSlcBind i (v.setWidth 64))) s

/-- A write to `SLC_HOST` (R103, R106): slice 0's slot is fixed, its window is writable. -/
def State.wrSlcHost (s : State) (i : Nat) (v : Word64) : State :=
  if i = 0 then
    let s := if SLC_HOST.SLOT.get v = 0 then s else s.rej 0
    if s.vecBad 0 s.mgrPort 0 (SLC_HOST.VBASE.get v) (SLC_HOST.VCOUNT.get v) then s.rej 0
    else s.plainWrite (.slcHost 0) (SLC_HOST.SLOT.put 0 v)
  else if s.bound i then s.rej i
  else s.plainWrite (.slcHost i) v

/-! ## Quotas and windows (R107 to R112) -/

/-- The register that a quota command writes. -/
def quotaReg (i : Nat) : QuotaReg → Reg
  | .qeng => .slcQeng i
  | .qmem => .slcQmem i
  | .qper => .slcQper i
  | .qep => .slcQep i
  | .winBase w => .slcWinBase i w
  | .winSize w => .slcWinSize i w
  | .host => .slcHost i

/-- Sum of a pending field over the slices other than `i`. -/
def State.sumOthers (s : State) (i : Nat) (r : Nat → Reg) (f : Fld) : Nat :=
  sumSlices (fun j => if j = i then 0 else s.getF (r j) f)

/-- A field out of its range, or a sum above its limit (Table 2). Sums use pending values (R112). -/
def State.quotaBad (s : State) (i : Nat) (r : QuotaReg) (v : Word64) : Bool :=
  match r with
  | .qeng => decide (160 < SLC_QENG.TE.get v) || decide (64 < SLC_QENG.RINGS.get v) ||
      decide (1024 < s.sumOthers i .slcQeng SLC_QENG.LIB + SLC_QENG.LIB.get v)
  | .qmem => decide (16384 < s.sumOthers i .slcQmem SLC_QMEM.CTX + SLC_QMEM.CTX.get v) ||
      decide (4096 - s.getF .portGpool PORT_GPOOL.SIZE < s.sumOthers i .slcQmem SLC_QMEM.LB + SLC_QMEM.LB.get v)
  | .qper => false
  | .qep => decide (65536 < SLC_QEP.HANDLES.get v)
  | .winBase w => decide (2 ^ 64 < v.toNat / 4096 * 4096 + (s.rd (.slcWinSize i w)).toNat)
  | .winSize w =>
    let n := SLC_WIN_SIZE.SIZE.get v * 4096
    decide (2 ^ 48 < n) || decide (2 ^ 64 < (s.rd (.slcWinBase i w)).toNat + n)
  | .host => false

/-- A write to a quota or window register; it takes effect at the tick (R107, R110). -/
def State.wrQuota (s : State) (i : Nat) (r : QuotaReg) (v : Word64) : State :=
  match r with
  | .host => s.wrSlcHost i v
  | _ => if s.quotaBad i r v then s.rej i else s.plainWrite (quotaReg i r) v

def execSlcQuotaWrite (q : Requester) (i : Nat) (r : QuotaReg) (v : Word64) (s : State) :
    Host.Outcome State Fault Refusal :=
  onDevice (fun s => s.gate q (quotaReg i r) (fun s => s.wrQuota i r v)) s

/-- The sum of the slice's admitted reservations (R108): those of the pending set (R287). -/
def State.periodUse (s : State) (i : Nat) : Nat :=
  (s.resvP.map (fun q => if q.1 / 65536 = i ∧ q.2.live then ceilDiv q.2.bytes (16 * q.2.interval) else 0)).sum
def State.handleUse (s : State) (i : Nat) : Nat := FMap.count (fun k a => k / 65536 == i && a.cfg.live) s.att
def State.ringUse (s : State) (i : Nat) : Nat :=
  ((List.range 64).filter (fun r => s.flag (.ringCtl i r) RING_CTL.EN)).length
def State.perCap (s : State) (i : Nat) : Option Nat :=
  let v := s.getE (.slcQper i) SLC_QPER.PER
  if v = 0xFFFFF then none else some v
/-- Some use of the slice exceeds its effective quota (`DRAIN`, R111). -/
def State.drain (s : State) (i : Nat) : Bool :=
  decide (s.getE (.slcQeng i) SLC_QENG.TE < s.occupied i) || decide (s.getE (.slcQeng i) SLC_QENG.RINGS < s.ringUse i) ||
    (List.range 3).any (fun k => decide (s.capQuota k i < s.capUse k i)) ||
    decide (s.getE (.slcQep i) SLC_QEP.HANDLES < s.handleUse i) ||
    match s.perCap i with
    | some n => decide (n < s.periodUse i)
    | none => false

/-! ## `SLC_CSR` and `SL_CSR` (R105, R106, R131 to R133) -/

/-- UNBIND: a slice reset; `VALID` and `ACTIVE` clear at the first tick after it (R105). -/
def State.unbindCmd (s : State) (i : Nat) : State :=
  { s with unbind := if i ∈ s.unbind then s.unbind else i :: s.unbind }.resetStart i

/-- A write to `SLC_CSR`. -/
def State.wrSlcCsr (s : State) (i : Nat) (v : Word64) : State :=
  let s := if SLC_CSR.REJ.get v != 0 then s.clr1 (.slcCsr i) SLC_CSR.REJ else s
  let cmd := SLC_CSR.CMD.get v
  if cmd = 0 then s
  else if i = 0 then s.rej 0
  else match cmd with
    | 1 => s.fence i 2
    | 2 => s.resetStart i
    | 3 => s.unbindCmd i
    | _ => s.rej i

/-- The word of a command. -/
def csrWord (cmd : Nat) : Word64 := BitVec.ofNat 64 (cmd * 2 ^ 28)

def execSlcFence (q : Requester) (i : Nat) (s : State) : Host.Outcome State Fault Refusal :=
  onDevice (fun s => s.gate q (.slcCsr i) (fun s => s.wrSlcCsr i (csrWord 1))) s
def execSlcReset (q : Requester) (i : Nat) (s : State) : Host.Outcome State Fault Refusal :=
  onDevice (fun s => s.gate q (.slcCsr i) (fun s => s.wrSlcCsr i (csrWord 2))) s
def execSlcUnbind (q : Requester) (i : Nat) (s : State) : Host.Outcome State Fault Refusal :=
  onDevice (fun s => s.gate q (.slcCsr i) (fun s => s.wrSlcCsr i (csrWord 3))) s

/-- A write to `SL_CSR`. -/
def State.wrSlCsr (s : State) (i : Nat) (v : Word64) : State :=
  if SL_CSR.RESET.get v != 0 then s.resetStart i else s

def execSlCsrReset (q : Requester) (i : Nat) (s : State) : Host.Outcome State Fault Refusal :=
  onDevice (fun s => s.gate q (.slCsr i) (fun s => s.wrSlCsr i (BitVec.ofNat 64 (2 ^ 31)))) s

def execSliceResetComplete (i : Nat) (s : State) : Host.Outcome State Fault Refusal :=
  onDevice (fun s => s.resetDone i) s

/-! ## Mailboxes (R89, R128, R129) -/

/-- Words written by the slice are ignored while `OUT_BUSY`, and set `OVR`; words written by the manager are ignored
while `IN_FULL` (Table 9). -/
def State.wrMbxOut (s : State) (i k : Nat) (v : Word64) : State :=
  if s.flag (.mbxCsr i) MBX_CSR.OUT_BUSY then s.set1 (.mbxCsr i) MBX_CSR.OVR else s.plainWrite (.mbxOut i k) v
def State.wrMbxIn (s : State) (i k : Nat) (v : Word64) : State :=
  if s.flag (.mbxCsr i) MBX_CSR.IN_FULL then s else s.plainWrite (.mbxIn i k) v

/-- The slice's doorbell: step 1 of R128. -/
def State.mbxDb (s : State) (i : Nat) : State :=
  if s.flag (.mbxCsr i) MBX_CSR.OUT_BUSY then s.set1 (.mbxCsr i) MBX_CSR.OVR
  else (s.set1 (.mbxCsr i) MBX_CSR.OUT_BUSY).mgrIrq i

/-- `IE` and `VEC` of a write that would enable a vector outside the window keep their values (R89). -/
def State.mbxVec (s : State) (i : Nat) (v : Word64) : State :=
  if MBX_CSR.IE.get v != 0 && decide (s.getE (.slcHost i) SLC_HOST.VCOUNT ≤ MBX_CSR.VEC.get v) then s
  else (s.setF (.mbxCsr i) MBX_CSR.IE (MBX_CSR.IE.get v)).setF (.mbxCsr i) MBX_CSR.VEC (MBX_CSR.VEC.get v)

/-- The write-1-to-clear bits of `MBX_CSR`, [5:1]. -/
def mbxW1c : Word64 := 0x3E#64

/-- A write to `MBX_CSR`; slice 0 has no mailbox. -/
def State.wrMbxCsr (s : State) (i : Nat) (v : Word64) : State :=
  if i = 0 then s
  else
    let s := s.wr (.mbxCsr i) (s.rd (.mbxCsr i) &&& ~~~(v &&& mbxW1c))
    let s := s.mbxVec i v
    let s := if MBX_CSR.IN_ACK.get v != 0 then s.clr1 (.mbxCsr i) MBX_CSR.IN_FULL else s
    if MBX_CSR.DB.get v != 0 then s.mbxDb i else s

/-- A write to `MBX_s_CSR`: ACK, then DB (steps 2 and 3 of R128). -/
def State.wrMbxSCsr (s : State) (i : Nat) (v : Word64) : State :=
  if i = 0 then s
  else
    let s := if MBX_S_CSR.ACK.get v != 0 && s.flag (.mbxCsr i) MBX_CSR.OUT_BUSY then
        (s.clr1 (.mbxCsr i) MBX_CSR.OUT_BUSY).mbxFlag i MBX_CSR.OUT_DONE else s
    if MBX_S_CSR.DB.get v != 0 && !(s.flag (.mbxCsr i) MBX_CSR.IN_FULL) then
      (s.set1 (.mbxCsr i) MBX_CSR.IN_FULL).mbxFlag i MBX_CSR.IN_NEW
    else s

/-- The word that leaves `IE` and `VEC` as they are. -/
def State.mbxWord (s : State) (i : Nat) (f : Fld) : Word64 :=
  f.put 1 (MBX_CSR.IE.put (s.getF (.mbxCsr i) MBX_CSR.IE) (MBX_CSR.VEC.put (s.getF (.mbxCsr i) MBX_CSR.VEC) 0))

def execMbxSliceDb (q : Requester) (i : Nat) (s : State) : Host.Outcome State Fault Refusal :=
  onDevice (fun s => s.gate q (.mbxCsr i) (fun s => s.wrMbxCsr i (s.mbxWord i MBX_CSR.DB))) s
def execMbxInAck (q : Requester) (i : Nat) (s : State) : Host.Outcome State Fault Refusal :=
  onDevice (fun s => s.gate q (.mbxCsr i) (fun s => s.wrMbxCsr i (s.mbxWord i MBX_CSR.IN_ACK))) s
def execMbxMgrDb (q : Requester) (i : Nat) (s : State) : Host.Outcome State Fault Refusal :=
  onDevice (fun s => s.gate q (.mbxSCsr i) (fun s => s.wrMbxSCsr i (MBX_S_CSR.DB.put 1 0))) s
def execMbxMgrAck (q : Requester) (i : Nat) (s : State) : Host.Outcome State Fault Refusal :=
  onDevice (fun s => s.gate q (.mbxSCsr i) (fun s => s.wrMbxSCsr i (MBX_S_CSR.ACK.put 1 0))) s

/-! ## The tick's part (R104, R105, R110, R111) -/

/-- Registers whose written values are pending until the tick: quotas, windows, vector windows, the pool's size,
`PLN_FOUT`. -/
def tickReg (a : Nat) : Bool :=
  (decide (0x100000 ≤ a) && decide (a < 0x110000) && (a % 256 == 4 || (decide (0x10 ≤ a % 256) && decide (a % 256 < 0x40)))) ||
    a == (Reg.portGpool).addr || a == (Reg.plnFout).addr

/-- Set-aside capacity is kept only while some slice drains, and only up to what the slice is short of. -/
def State.asideTrim (s : State) : State :=
  { s with aside := s.aside.mapVals 0 (fun k n =>
      if s.capOver (k % 4) then min n (s.capQuota (k % 4) (k / 4) - s.capUse (k % 4) (k / 4)) else 0) }

/-- A slice whose UNBIND's reset is over is no longer bound; a slice that is bound becomes active. -/
def State.bindTick (s : State) (i : Nat) : State :=
  if i ∈ s.unbind ∧ s.inReset i = false then
    (({ s with unbind := s.unbind.filter (· != i) }.clr1 (.slcBind i) SLC_BIND.VALID).clr1 (.slcCsr i) SLC_CSR.ACTIVE)
  else if s.bound i then s.set1 (.slcCsr i) SLC_CSR.ACTIVE
  else s

/-- Pending values of all slices become effective together, and bindings with them. -/
def State.slicesTick (s : State) : State :=
  let s := { s with eff := s.regs.filter (fun q => tickReg q.1) }.asideTrim
  forN 256 (fun i s => s.bindTick i) s

end Sys2Proof.Machine
end

