-- ==== Sys2Proof/Machine/Assign.lean ====
section
/-!
DEFINITION. Endpoint assignment (R114 to R120), the handle view and its operations, secure-input claims (R124 to R127),
and what becomes effective at the tick.
-/
namespace Sys2Proof.Machine

/-! ## Checks against the pending table (Table 6) -/

/-- The endpoint's type suits the mode (Table 5). -/
def modeSuits (mode : Nat) (e : Ep) : Bool :=
  match mode with
  | 0 => true
  | 1 => e.typ == 3 && e.dirIn
  | 2 => e.typ == 0 || e.typ == 2
  | _ => false

/-- Pending attachments of endpoint context `e` other than the one at `k`. -/
def State.pendOthers (s : State) (e k : Nat) : FMap AttCfg :=
  s.attP.filter (fun q => q.2.live && q.2.ep == e && q.1 != k)

/-- The semaphore of an arbitrated attachment conflicts. -/
def State.semClash (s : State) (e k sem : Nat) : Bool :=
  (s.pendOthers e k).any (fun q => q.2.mode == 2 && q.2.sem != sem) ||
    s.attP.any (fun q => q.2.live && q.2.mode == 2 && q.2.sem == sem && q.2.ep != e && q.1 != k)

/-- The first of the conditions of an attachment to `e` that fails, in the order of their codes (log entry 18). -/
def State.attBad (s : State) (k e mode sem : Nat) : Option Nat :=
  let o := s.pendOthers e k
  if modeSuits mode (s.epc e) = false ∨ o.any (fun q => q.2.mode != mode || (mode == 0 && q.1 / 65536 != k / 65536)) then
    some 5
  else if mode = 1 ∧ 8 ≤ o.length then some 6
  else if mode = 2 ∧ s.semClash e k sem then some 9
  else if o.any (fun q => q.1 / 65536 == k / 65536) then some 12
  else none

/-- Attachments in the pending table, of a slice or of all (R109). -/
def State.pendCount (s : State) (i : Nat) : Nat := FMap.count (fun k a => k / 65536 == i && a.live) s.attP

/-- The settings that an assignment command names. -/
def State.epaCfg (s : State) : AttCfg :=
  let e := s.getF .slcEpaA SLC_EPA_A.EPCTX
  { live := true, ep := e, mode := s.getF .slcEpaB SLC_EPA_B.MODE, gsafeM := s.flag .slcEpaB SLC_EPA_B.GSAFE,
    secok := s.flag .slcEpaB SLC_EPA_B.SECOK, filter := s.getF .slcEpaB SLC_EPA_B.FILTER,
    fodepth := s.getF .slcEpaB SLC_EPA_B.FODEPTH, sem := s.getF .slcEpaB SLC_EPA_B.SEM,
    detached := (s.epDev e).detached }

/-- ASSIGN: a code, 0 for accepted. -/
def State.assignCode (s : State) (k : Nat) (c : AttCfg) : Nat :=
  if (s.epc c.ep).live = false then 2
  else if (s.atp k).live then 3
  else match s.attBad k c.ep c.mode c.sem with
    | some 5 => 5
    | some 6 => 6
    | x =>
      if s.getF (.slcQep (k / 65536)) SLC_QEP.HANDLES ≤ s.pendCount (k / 65536) then 7
      else if 65536 ≤ FMap.count (fun _ a => a.live) s.attP then 8
      else x.getD 0

/-- RETARGET: a code, 0 for accepted (R118). -/
def State.retargetCode (s : State) (k e : Nat) : Nat :=
  let a := s.atp k
  if (s.epc e).live = false then 2
  else if a.live = false then 4
  else match s.attBad k e a.mode a.sem with
    | some 5 => 5
    | some 6 => 6
    | some 9 => 9
    | x =>
      if a.detached = false then 10
      else if (s.epc e).typ ≠ (s.epc a.ep).typ ∨ (s.epc e).dirIn ≠ (s.epc a.ep).dirIn then 11
      else x.getD 0

/-- The slice and handle that a command names, as a key. -/
def State.epaKey (s : State) : Nat := hKey (s.getF .slcEpaB SLC_EPA_B.SLICE) (s.getF .slcEpaA SLC_EPA_A.HANDLE)

/-- The handle names a default pipe of slice 0 (R490). -/
def defKey (k : Nat) : Bool := decide (0xFFC0 ≤ k) && decide (k < 0xFFD4)

/-- The result of a command and its change (Table 6). A reserved command or mode goes before every other cause (DEDUCED, log
entry 18). -/
def State.epaCheck (s : State) (cmd : Nat) : Nat × Option EpaOp :=
  let k := s.epaKey
  let c := s.epaCfg
  if 5 < cmd ∨ (cmd = 1 ∧ c.mode = 3) then (13, none)
  else if defKey k then (3, none)
  else if s.bound (k / 65536) = false then (1, none)
  else match cmd with
    | 1 => let r := s.assignCode k c
           (r, if r = 0 then some (.assign k c) else none)
    | 4 => let r := s.retargetCode k c.ep
           (r, if r = 0 then some (.retarget k c.ep) else none)
    | _ =>
      if (s.atp k).live = false then (4, none)
      else if cmd = 2 then (0, some (.unassign k))
      else if cmd = 3 then (0, some (.update k c))
      else (0, some (.secEnd k true))

/-- UPDATE's fields over an attachment (R116). -/
def AttCfg.upd (a c : AttCfg) : AttCfg :=
  { a with gsafeM := c.gsafeM, secok := c.secok, filter := c.filter, fodepth := c.fodepth }

/-- An accepted change in the pending table. -/
def State.pendApply (s : State) (o : EpaOp) : State :=
  match o with
  | .assign k c => s.setAtp k c
  | .unassign k => s.setAtp k AttCfg.empty
  | .update k c => s.modAtp k (fun a => a.upd c)
  | .retarget k e => s.modAtp k (fun a => { a with ep := e, detached := (s.epDev e).detached })
  | _ => s

/-- A write to `SLC_EPA_CS`: the command is checked and `BUSY` set (R115). -/
def State.wrEpaCs (s : State) (v : Word64) : State :=
  let cmd := SLC_EPA_CS.CMD.get v
  if s.flag .slcEpaCs SLC_EPA_CS.BUSY ∨ cmd = 0 then s
  else
    let p := s.epaCheck cmd
    let s := { s.set1 .slcEpaCs SLC_EPA_CS.BUSY with epaCmd := some p }
    match p.2 with
    | some o => s.pendApply o
    | none => s

/-- `SLC_EPA_A` and `SLC_EPA_B` are ignored while `BUSY` (R115). -/
def State.wrEpaAB (s : State) (r : Reg) (v : Word64) : State :=
  if s.flag .slcEpaCs SLC_EPA_CS.BUSY then s else s.plainWrite r v

/-- The word of a command. -/
def epaWord (cmd : Nat) : Word64 := BitVec.ofNat 64 (cmd % 16 * 2 ^ 28)

def execEpaAssign (q : Requester) (s : State) : Host.Outcome State Fault Refusal :=
  onDevice (fun s => s.gate q .slcEpaCs (fun s => s.wrEpaCs (epaWord 1))) s
def execEpaUnassign (q : Requester) (s : State) : Host.Outcome State Fault Refusal :=
  onDevice (fun s => s.gate q .slcEpaCs (fun s => s.wrEpaCs (epaWord 2))) s
def execEpaUpdate (q : Requester) (s : State) : Host.Outcome State Fault Refusal :=
  onDevice (fun s => s.gate q .slcEpaCs (fun s => s.wrEpaCs (epaWord 3))) s
def execEpaRetarget (q : Requester) (s : State) : Host.Outcome State Fault Refusal :=
  onDevice (fun s => s.gate q .slcEpaCs (fun s => s.wrEpaCs (epaWord 4))) s
def execEpaSecRevoke (q : Requester) (s : State) : Host.Outcome State Fault Refusal :=
  onDevice (fun s => s.gate q .slcEpaCs (fun s => s.wrEpaCs (epaWord 5))) s
def execEpaBadCommand (q : Requester) (code : Nat) (s : State) : Host.Outcome State Fault Refusal :=
  onDevice (fun s => s.gate q .slcEpaCs (fun s => s.wrEpaCs (epaWord code))) s

/-- `BUSY` clears with the result; an accepted change waits for the tick, in the order of issue (R115). -/
def execEpaCommandDone (s : State) : Host.Outcome State Fault Refusal :=
  onDevice (fun s =>
    match s.epaCmd with
    | some (r, o) =>
      let s := (s.clr1 .slcEpaCs SLC_EPA_CS.BUSY).setF .slcEpaCs SLC_EPA_CS.RESULT r
      { s with epaCmd := none, epaOps := s.epaOps ++ o.toList }
    | none => s) s

/-! ## The handle view (R119, R124, R127, R446) -/

/-- The register that holds a requester's selection: the management pairs have their own. -/
def epvSel (q : Requester) (i : Nat) : Reg := if isPair q then .epvCsrMgt i else .epvCsr i

/-- The change that an operation asks for. -/
def epvOp (op k : Nat) : Option EpaOp :=
  match op with
  | 1 => some (.gsafe k true)
  | 2 => some (.gsafe k false)
  | 3 => some (.secClaim k)
  | 4 => some (.secEnd k false)
  | 5 => some (.lostClr k)
  | _ => none

/-- A write to `EPV_CSR`: the handle is selected; an operation waits for the tick, and is ignored on an unassigned
handle and while the slice is fenced or in reset (R119). -/
def State.wrEpvCsr (s : State) (q : Requester) (i : Nat) (v : Word64) : State :=
  let h := EPV_CSR.HANDLE.get v
  let s := s.setF (epvSel q i) EPV_CSR.HANDLE h
  let k := hKey i h
  if (s.atE k).cfg.live = false ∨ s.fenced i ∨ s.inReset i then s
  else { s with epaOps := s.epaOps ++ (epvOp (EPV_CSR.OP.get v) k).toList }

/-- The word of an operation. -/
def epvWord (op h : Nat) : Word64 := BitVec.ofNat 64 (op * 2 ^ 28 + h % 65536)

def execGsafeSet (q : Requester) (i h : Nat) (s : State) : Host.Outcome State Fault Refusal :=
  onDevice (fun s => s.gate q (.epvCsr i) (fun s => s.wrEpvCsr q i (epvWord 1 h))) s
def execGsafeClr (q : Requester) (i h : Nat) (s : State) : Host.Outcome State Fault Refusal :=
  onDevice (fun s => s.gate q (.epvCsr i) (fun s => s.wrEpvCsr q i (epvWord 2 h))) s
def execSecClaim (q : Requester) (i h : Nat) (s : State) : Host.Outcome State Fault Refusal :=
  onDevice (fun s => s.gate q (.epvCsr i) (fun s => s.wrEpvCsr q i (epvWord 3 h))) s
def execSecRelease (q : Requester) (i h : Nat) (s : State) : Host.Outcome State Fault Refusal :=
  onDevice (fun s => s.gate q (.epvCsr i) (fun s => s.wrEpvCsr q i (epvWord 4 h))) s
def execLostClr (q : Requester) (i h : Nat) (s : State) : Host.Outcome State Fault Refusal :=
  onDevice (fun s => s.gate q (.epvCsr i) (fun s => s.wrEpvCsr q i (epvWord 5 h))) s

/-! ## Changes at the tick (R115 to R118, R120, R260, R289, R323, R329) -/

/-- The first arbitrated attachment of an endpoint makes its semaphore arbitrated (R260). -/
def State.arbOn (s : State) (e mode sem : Nat) : State :=
  if mode = 2 then (s.modSem sem (fun m => { m with guard := some e })).set1 (.semCfg sem) SEM_CFG.ARB else s

/-- With the endpoint's last arbitrated attachment gone, its semaphore is an ordinary one (R260). -/
def State.arbOff (s : State) (e sem : Nat) : State :=
  if s.att.any (fun q => q.2.cfg.live && q.2.cfg.mode == 2 && q.2.cfg.ep == e) then s
  else (s.modSem sem (fun m => { m with guard := none })).clr1 (.semCfg sem) SEM_CFG.ARB

/-- A reservation is removed from the pending and the effective set (R117, R289). -/
def State.resvOut (s : State) (k : Nat) : State := (s.setRsvP k Resv.empty).setRsvE k Resv.empty

/-- The activation names handle `h`: as its handle register, current handle, operation or instruction that waits. -/
def Ctx.names (x : Ctx) (h : Nat) : Bool :=
  x.ep == h || x.cur == some h ||
  (match x.op with
    | some o => o.req.handle == h
    | none => false) ||
  (match x.go with
    | some r => r.handle == h
    | none => false) ||
  match x.act with
  | .parked (.token r) => r.handle == h
  | .parked (.prior r) => r.handle == h
  | _ => false

/-- The slice's items that name an unassigned handle end with ABORTED; its RESERVE entries that wait on it complete
with ABORTED (R117). -/
def State.unassignItems (s : State) (k : Nat) : State :=
  let i := k / 65536
  let cs := s.ctxsOf i (fun x => x.going && x.names (k % 65536))
  let os := s.deciding.filter (fun c => (s.ctx c).slice == i && (s.ctx c).ep == k % 65536)
  let now := s.reservedNow k
  let pumps := os.map (fun c => Job.pump i (s.ctx c).ring)
  let s := forL os (fun c s => s.finish c stAborted 0 now)
    { s with deciding := s.deciding.filter (fun c => decide (c ∉ os)) }
  s.jobs (cs.map (fun c => Job.asks c stAborted) ++ pumps)

/-- A claim on endpoint context `e` by the handle `k` ends. -/
def State.secOut (s : State) (k : Nat) (lost : Bool) : State × Bool :=
  let e := (s.atE k).cfg.ep
  if s.secOf e = some k then
    ((if lost then (s.setSecOf e none).mbxFlag (k / 65536) MBX_CSR.SEC_LOST else s.setSecOf e none), true)
  else (s, false)

/-- Gambit data owed to the old endpoint context goes to the new one as orphan data (R329). -/
def State.orphMove (s : State) (a b : Nat) : State :=
  if a = b then s
  else
    let x := s.epc a
    (s.modEpc a (fun e => { e with pend := [], orph := [] })).modEpc b (fun e => { e with orph := e.orph ++ x.orph ++ x.pend })

/-- One change at the tick, with the slices it counts for (R120). An endpoint whose device is already detached is accepted, and
the handle is, or stays, detached (R118; DESIGN CHOICE, log entry 89). -/
def State.epaApply (s : State) (o : EpaOp) : State × List Nat :=
  match o with
  | .assign k c =>
    let s := s.setAtE k { Att.empty with cfg := { c with detached := (s.epDev c.ep).detached } }
    let s := s.modEpc c.ep (fun e => { e with hist := 0 })
    (s.arbOn c.ep c.mode c.sem, [k / 65536])
  | .unassign k =>
    let a := (s.atE k).cfg
    if a.live then
      let p := s.secOut k true
      let s := p.1.unassignItems k
      let s := (s.resvOut k).orphanize a.ep
      let g := ((s.atE k).queue.map (fun p => granules p.data.length)).sum
      let s := (s.setAtE k Att.empty).capFreed 1 0 g
      ((if a.mode = 2 then s.arbOff a.ep a.sem else s), [k / 65536] ++ (if p.2 then [k / 65536] else []))
    else (s, [])
  | .update k c =>
    if (s.atE k).cfg.live then
      let p := if c.secok then (s, false) else s.secOut k true
      (p.1.modAtE k (fun a => { a with cfg := a.cfg.upd c }), [k / 65536] ++ (if p.2 then [k / 65536] else []))
    else (s, [])
  | .retarget k e =>
    let a := (s.atE k).cfg
    if a.live then
      let s := (s.resvOut k).orphMove a.ep e
      let s := s.modAtE k (fun x => { x with cfg := { x.cfg with ep := e, detached := (s.epDev e).detached } })
      let s := s.modEpc e (fun x => { x with hist := 0 })
      (if a.mode = 2 then ((s.arbOff a.ep a.sem).arbOn e 2 a.sem, [k / 65536]) else (s, [k / 65536]))
    else (s, [])
  | .gsafe k b =>
    let a := (s.atE k).cfg
    let e := s.epc a.ep
    if a.live && (!b || (a.mode == 0 && e.typ == 2 && e.dirIn)) then
      (s.modAtE k (fun x => { x with gsafeS := b }), [])
    else (s, [])
  | .lostClr k => (s.modAtE k (fun a => { a with folost := 0 }), [])
  | .secClaim _ => (s, [])
  | .secEnd k lost =>
    let p := s.secOut k lost
    (p.1, if p.2 then [k / 65536] else [])
  | .detach k => (s, [k / 65536])

/-- A claim is granted (R124). -/
def State.secGrant (s : State) (k : Nat) : State × List Nat :=
  let a := (s.atE k).cfg
  let e := s.epc a.ep
  let i := k / 65536
  if a.live && e.typ == 3 && e.dirIn && (a.mode == 0 || a.mode == 1) && a.secok && s.getE (.slcQper i) SLC_QPER.SEN != 0 &&
      s.secOf a.ep == none && !(s.fenced i) && !(s.inReset i) then
    (s.setSecOf a.ep (some k), [i])
  else (s, [])

/-- Claims waiting for the tick, lowest slice number first. -/
def claimsOf (l : List EpaOp) : List Nat :=
  (List.range 256).flatMap (fun i => l.filterMap (fun o => match o with
    | .secClaim k => if k / 65536 = i then some k else none
    | _ => none))

/-- Changes in order, collecting the slices that they count for. -/
def State.epaRun (s : State) : List EpaOp → State × List Nat
  | [] => (s, [])
  | o :: t =>
    let p := s.epaApply o
    let q := p.1.epaRun t
    (q.1, p.2 ++ q.2)

def State.grantRun (s : State) : List Nat → State × List Nat
  | [] => (s, [])
  | k :: t =>
    let p := s.secGrant k
    let q := p.1.grantRun t
    (q.1, p.2 ++ q.2)

/-- `GEN` rises by the slice's changes, and `ASSIGN_CHG` is set once (R120). -/
def State.genRise (s : State) (i n : Nat) : State :=
  if n = 0 then s else (s.addF (.epvCsr i) EPV_CSR.GEN n).mbxFlag i MBX_CSR.ASSIGN_CHG

/-- The tick's part: changes in the order they were issued, then claims (R110, R115, R119, R124). -/
def State.assignTick (s : State) : State :=
  let ops := s.epaOps
  let p := { s with epaOps := [], secOver := [] }.epaRun ops
  let q := p.1.grantRun (claimsOf ops)
  let l := p.2 ++ q.2
  (forN 256 (fun i s => s.genRise i (l.count i)) q.1).freeDevs

end Sys2Proof.Machine
end

