-- ==== Sys2Proof/Machine/Firmware.lean ====
section
/-!
DEFINITION. Firmware images and the directory of the NOR (R380, R467, R487): pure functions of the bytes.
-/
namespace Sys2Proof.Machine

/-! ## Firmware images (R380) -/

/-- The fused key hash that the key in an image matches; of several, the one named, or the lowest. -/
def fwKey (img : List Byte) (key : Nat) : Option Nat :=
  (key :: List.range 4).find? (fun k => decide (k < 4) && Config.fusedKeyHash k == Config.fwKeyHash img)

/-- The checks of an image in their order: `SEAL_FW_STS.RESULT`, and the key hash that matched. -/
def fwCheck (img : List Byte) (key : Nat := 0) : Nat × Option Nat :=
  if Config.fwParses img then
    match fwKey img key with
    | some k =>
      (if Config.revokedKeys.getLsbD k then 3
        else if Config.fwVersion img < Config.fusedMinVersion then 4
        else if Config.fwSigOk img then 0
        else 5, some k)
    | none => (2, none)
  else (1, none)

/-! ## Directory copies (R467) -/

/-- A field of a directory copy. -/
def dirField (d : List Byte) (lo n : Nat) : Nat := leValue ((d.drop lo).take n)

/-- A directory copy is valid: "RFHD", and the CRC-32 of its first 60 bytes. -/
def dirOk (d : List Byte) : Bool :=
  d.take 4 == [0x52#8, 0x46#8, 0x48#8, 0x44#8] && dirField d 60 4 == (Config.crc32 (d.take 60)).toNat

/-- The copy that governs: the valid one with the higher sequence; of two with one sequence, copy 0 (log entry 98). -/
def dirOf (c0 c1 : List Byte) : Option (List Byte) :=
  match dirOk c0, dirOk c1 with
  | true, true => some (if dirField c0 4 4 < dirField c1 4 4 then c1 else c0)
  | true, false => some c0
  | false, true => some c1
  | false, false => none

/-- State and image length of a slot (`slotB`: B, else A); an image of the slot is not read beyond 262,144 B. -/
def slotState (d : List Byte) (slotB : Bool) : Nat := dirField d (8 + slotB.toNat) 1
def slotLen (d : List Byte) (slotB : Bool) : Nat := min 262144 (dirField d (16 + 4 * slotB.toNat) 4)

/-! ## What the boot ROM does with them (R487) -/

/-- The image of a slot, as its length in the directory says. -/
def slotImg (b : Boot) (d : List Byte) (slotB : Bool) : List Byte := (if slotB then b.imgB else b.imgA).take (slotLen d slotB)

/-- The order of the slots: TRIAL, GOOD, OLD (R467, R487); of two in one state, A first. -/
def bootOrder (d : List Byte) : List Bool :=
  [2, 1, 3].flatMap (fun st => [false, true].filter (fun x => slotState d x = st))

/-- The slots tried, with their results: in order, to the first that passes. -/
def slotsTried (b : Boot) (d : List Byte) : List Bool → List (Bool × Nat)
  | [] => []
  | x :: t =>
    let r := (fwCheck (slotImg b d x)).1
    (x, r) :: if r = 0 then [] else slotsTried b d t

end Sys2Proof.Machine
end

