-- ==== Sys2Proof/Machine/Mem.lean ====
section
/-!
DEFINITION. Host memory as the data plane reaches it (R83 to R87, R334 to R350): windows, non-posted requests and
their failures, posted writes, list positions. Contents of host memory are not state of the block: reads carry their
data in the commands. In local-manager mode slice 0's addresses are addresses in the active pair's SRAM (R30, R470).
-/
namespace Sys2Proof.Machine

/-! ## Where a slice's requests go -/

/-- Slice `i`'s host addresses are addresses in the active pair's SRAM (requests made before: log entry 91). -/
def State.inSram (s : State) (i : Nat) : Bool := i = 0 && s.isLocal

/-- The key of a slice's function. -/
def State.slFn (s : State) (i : Nat) : Nat := fKey (s.slPort i) (s.slFunc i)

/-- The range lies wholly inside effective window `w` of the slice (R83, R107). -/
def State.winHas (s : State) (i w addr len : Nat) : Bool :=
  let base := (s.rdE (.slcWinBase i w)).toNat
  let size := (s.rdE (.slcWinSize i w)).toNat
  decide (size ≠ 0) && decide (base ≤ addr) && decide (addr + len ≤ base + size)

/-- The checks of R83 that need no translation: one window holds the range, which for slice 0 in LOCAL is one of own SRAM
(R470), and the function's PASID Enable is set when the slice has a PASID. -/
def State.hostOk (s : State) (i addr len : Nat) : Bool :=
  (len == 0 || ((s.winHas i 0 addr len || s.winHas i 1 addr len) && (!(s.inSram i) || ownRange addr len))) &&
    (s.inSram i || s.slPasid i == none || (s.func (s.slFn i)).pasidEn)

/-- The slice is fenced and has delivered its last completion: nothing more is issued for it (R131). -/
def State.fencedOut (s : State) (i : Nat) : Bool :=
  s.fenced i && !(s.ctxs.any (fun q => q.2.slice == i)) && !(s.rings.any (fun q => q.1 / 64 == i && q.2.taken != []))

/-- Requests of the slice may be issued: its function's bus mastering is on, in D0 (R85), on a link that is not in L2 (R77), and
the slice is not done for (R131). -/
def State.mayIssue (s : State) (i : Nat) : Bool :=
  !(s.fencedOut i) && (s.inSram i || ((s.func (s.slFn i)).on &&
    decide (s.getF (.glbHpSts (s.slPort i)) GLB_HP_STS.LTSSM ≠ ltL2)))

/-- A record in `DSP_MV_FADDR` and `DSP_MV_FSTS`: `FINAL` rises by 1, and it is an event of the MOVER source
(R350, R422). -/
def State.failRec (s : State) (i c cause addr : Nat) : State :=
  let k := if c < 16384 then c else 0
  let v := DSP_MV_FSTS.CTX.put k (DSP_MV_FSTS.SLICE.put i (DSP_MV_FSTS.PORT.put (s.slPort i)
    (DSP_MV_FSTS.CAUSE.put cause (DSP_MV_FSTS.VALID.put 1 0))))
  (((((s.wr .dspMvFaddr (BitVec.ofNat 64 addr)).wr .dspMvFsts v).noteRise .dspMvFsts DSP_MV_FSTS.VALID.mask).addF .dspMvFcnt DSP_MV_FCNT.FINAL 1).irqWake
    315).faultEvent 54 i (cause * 65536 + k) false

/-! ## Address translation (R86, R87) -/

/-- The function translates. -/
def State.atsOn (s : State) (i : Nat) : Bool := !(s.inSram i) && (s.func (s.slFn i)).atsEn

/-- The page that the cache gives for a page of the slice, where it grants the access. -/
def State.atcTo (s : State) (i page : Nat) (write : Bool) : Option Nat :=
  (s.atc.find? (fun a => a.port == s.slPort i && a.func == s.slFunc i && a.pasid == s.slPasid i && a.page == page &&
    (a.write || !write))).map Atc.dest

/-- The cache grants the access to the page. -/
def State.atcHit (s : State) (i page : Nat) (write : Bool) : Bool := (s.atcTo i page write).isSome

/-- The pages of a range. -/
def pagesOf (addr len : Nat) : List Nat :=
  (List.range ((addr + (len - 1)) / 4096 + 1 - addr / 4096)).map (· + addr / 4096)

/-- The first page of a range that has no translation. -/
def State.missing (s : State) (i addr len : Nat) (write : Bool) : Option Nat :=
  if s.atsOn i then (pagesOf addr len).find? (fun p => !(s.atcHit i p write)) else none

/-- The access may go out as far as translation is concerned. -/
def State.translated (s : State) (i addr len : Nat) (write : Bool) : Bool := s.missing i addr len write == none

/-- The translations that an access uses: page and page given; none where nothing is translated. -/
def State.xlatOf (s : State) (i addr len : Nat) (write : Bool) : List (Nat × Nat) :=
  if s.atsOn i then (pagesOf addr len).filterMap (fun p => (s.atcTo i p write).map (fun t => (p, t))) else []

/-- An address under some translations, and whether it has been translated (R86). -/
def xlated (xl : List (Nat × Nat)) (addr : Nat) : Nat × Bool :=
  match xl.find? (fun p => p.1 == addr / 4096) with
  | some p => (p.2 * 4096 + addr % 4096, true)
  | none => (addr, false)

/-- A Translation Request for the page is already on its way. -/
def State.translating (s : State) (i page : Nat) (write : Bool) : Bool :=
  s.reqs.any (fun q => q.slice == i && q.addr == page * 4096 && q.purpose == .translate write)

/-! ## Non-posted requests -/

/-- How long a read at an address may be: Max Read Request Size, and not across a 4 KiB boundary (R83). -/
def State.readMax (s : State) (i a : Nat) : Nat := min (max 128 (s.func (s.slFn i)).mrrs) (4096 - a % 4096)

/-- Requests issued for a function, and on a port (R84). -/
def State.issuedFn (s : State) (k : Nat) : Nat :=
  (s.reqs.filter (fun q => q.phase == .issued && !(s.inSram q.slice) && s.slFn q.slice == k)).length
def State.issuedPort (s : State) (p : Nat) : Nat :=
  (s.reqs.filter (fun q => q.phase == .issued && !(s.inSram q.slice) && s.slPort q.slice == p)).length

/-- The limit of a function (R84). -/
def fnLimit (f : Func) : Nat := if f.tag10 then 512 else if f.extTag then 256 else 32

def State.limitOk (s : State) (i : Nat) : Bool :=
  s.inSram i || (decide (s.issuedFn (s.slFn i) < fnLimit (s.func (s.slFn i))) && decide (s.issuedPort (s.slPort i) < 512))

/-- An HLD waits until every earlier write of its activation has left the port, but for those of an operation that is
outstanding (R203). -/
def State.orderOk (s : State) (q : HostReq) : Bool :=
  match q.purpose with
  | .hld _ _ => !(s.writes.any (fun w => w.ctx == q.ctx && !w.cur))
  | _ => true

/-- The request can be issued now; the checks of R83 are those of this moment. -/
def State.canIssue (s : State) (q : HostReq) : Bool :=
  q.phase == .waiting && s.mayIssue q.slice && s.limitOk q.slice && s.orderOk q &&
    match q.purpose with
    | .translate _ => true
    | _ => s.hostOk q.slice q.addr q.len && s.translated q.slice q.addr q.len false

/-- The request with a number, issued now with a completion timeout. -/
def setIssued (tag now cto : Nat) (l : List HostReq) : List HostReq :=
  l.map (fun q => if q.tag = tag then { q with phase := .issued, since := now, cto := cto } else q)

/-- The completion timeout of a port in µs: the values outside 50 to 50,000 act as the nearer of the two (R350). -/
def State.ctoOf (s : State) (p : Nat) : Nat := max 50 (min 50000 (s.getF (.dspMvCto p) DSP_MV_CTO.CTO))

/-- The TLP of a non-posted request: reads carry Relaxed Ordering and ID-Based Ordering clear (R203; log entry 77). -/
def State.readTlp (s : State) (q : HostReq) : Output :=
  let p := s.slPort q.slice
  let f := s.slFunc q.slice
  match q.purpose with
  | .translate w => .translate p f q.tag (s.slPasid q.slice) (q.addr / 4096) w
  | _ =>
    let x := xlated (s.xlatOf q.slice q.addr q.len false) q.addr
    .read p f q.tag ⟨s.slPasid q.slice, false, x.2, (s.func (s.slFn q.slice)).ecrcGen⟩ x.1 q.len

/-- A request issued, where it can be. -/
def State.tryIssue (s : State) (q : HostReq) : State :=
  if s.canIssue q then
    let s := { s with reqs := setIssued q.tag s.now (s.ctoOf (s.slPort q.slice)) s.reqs }
    if s.inSram q.slice then s else (s.hostTraffic (s.slPort q.slice)).emit (s.readTlp q)
  else s

/-- A posted write issued, with the translations it uses, where its function may issue it, R83 allows it, and they are there
(R83 to R87). It then waits for nothing but the order of its port and flow-control credit. -/
def State.tryWrite (s : State) (w : PWrite) : State :=
  if !w.issued && s.mayIssue w.slice && s.hostOk w.slice w.addr w.bytes.length && s.translated w.slice w.addr w.bytes.length true then
    let v := { w with issued := true, xlat := s.xlatOf w.slice w.addr w.bytes.length true }
    { s with writes := s.writes.map (fun u => if u.tag = w.tag then v else u) }
  else s

/-- A Translation Request added for an access that needs one (R86). -/
def State.askTranslation (s : State) (i c addr len : Nat) (write : Bool) : State :=
  match s.missing i addr len write with
  | none => s
  | some page =>
    if s.translating i page write then s
    else
      let q : HostReq := ⟨s.tag, i, c, page * 4096, 4096, .translate write, .waiting, 0, 0, 0⟩
      { s with reqs := s.reqs ++ [q], tag := s.tag + 1 }.tryIssue q

/-- A write that has not been issued is issued where it can be, or asks for its translation. -/
def State.pumpWrite (s : State) (w : PWrite) : State :=
  if w.issued then s
  else (if s.mayIssue w.slice then s.askTranslation w.slice w.ctx w.addr w.bytes.length true else s).tryWrite w

/-- Every write that has not been issued, in original order. -/
def State.pumpWrites (s : State) : State := forL s.writes (fun w s => s.pumpWrite w) s

/-- A waiting request with a completion is issued where it can be, or asks for its translation. -/
def State.pumpRead (s : State) (q : HostReq) : State :=
  let s := if q.phase == .waiting && s.mayIssue q.slice then
      match q.purpose with
      | .translate _ => s
      | _ => s.askTranslation q.slice q.ctx q.addr q.len false
    else s
  s.tryIssue q

/-- Every waiting request of the block, posted writes and requests with completions, in original order (R85). -/
def State.pumpReqs (s : State) : State :=
  forL (sortUp id (s.writes.map PWrite.tag ++ s.reqs.map HostReq.tag)) (fun t s =>
    let s := match s.writes.find? (fun w => w.tag == t) with
      | some w => s.pumpWrite w
      | none => s
    match s.reqs.find? (fun q => q.tag == t) with
    | some q => s.pumpRead q
    | none => s) s

/-- A new request, issued at once where it can be. -/
def State.newReq (s : State) (i c addr len : Nat) (p : Purpose) : State :=
  let q : HostReq := ⟨s.tag, i, c, addr, len, p, .waiting, 0, 0, 0⟩
  { s with reqs := s.reqs ++ [q], tag := s.tag + 1 }.pumpReqs

def State.findReq (s : State) (tag : Nat) : Option HostReq := s.reqs.find? (fun q => q.tag == tag)
def State.dropReq (s : State) (tag : Nat) : State := { s with reqs := s.reqs.filter (fun q => q.tag != tag) }

/-- The data of a completed read: from the SRAM in local-manager mode, else what the completion carried; a byte that the
command does not give stands as 0. -/
def State.reqData (s : State) (q : HostReq) (data : List Byte) : List Byte :=
  if s.inSram q.slice then s.localRead q.addr q.len else (data ++ List.replicate q.len 0).take q.len

/-! ## Posted writes (R38, R338) -/

/-- A write into pieces of at most `mps` bytes that cross no 4 KiB boundary. -/
def splitWrite (mps : Nat) : Nat → Nat → List Byte → List (Nat × List Byte)
  | 0, _, _ => []
  | _ + 1, _, [] => []
  | f + 1, a, b :: t =>
    let n := max 1 (min mps (4096 - a % 4096))
    (a, (b :: t).take n) :: splitWrite mps f (a + n) ((b :: t).drop n)

/-- The TLPs of a write put on its port, in ascending order, with Relaxed Ordering or without, under the translations given;
in local-manager mode the bytes go to the SRAM. -/
def State.putWrite (s : State) (i : Nat) (ro : Bool) (xl : List (Nat × Nat)) (addr : Nat) (bytes : List Byte) : State :=
  if s.inSram i then s.localWrite addr bytes
  else
    forL (splitWrite (s.func (s.slFn i)).mps bytes.length addr bytes)
      (fun p s => s.emit (.write (s.slPort i) (s.slFunc i)
        ⟨s.slPasid i, ro, (xlated xl p.1).2, (s.func (s.slFn i)).ecrcGen⟩ (xlated xl p.1).1 p.2))
      (s.hostTraffic (s.slPort i))

/-- A write of a publication, or of a record: Relaxed Ordering clear (R38). -/
def State.sendWrite (s : State) (i addr : Nat) (bytes : List Byte) : State :=
  s.putWrite i false (s.xlatOf i addr bytes.length true) addr bytes

/-- Writes that carry data of a packet or of a SEAL: Relaxed Ordering is their function's (R338). -/
def WriteKind.isData : WriteKind → Bool
  | .data _ => true
  | .gambit _ _ _ => true
  | .sealOut => true
  | _ => false
def State.relaxed (s : State) (w : PWrite) : Bool := w.kind.isData && (s.func (s.slFn w.slice)).relaxed

/-- A posted write made for the item of context `c`, of the packet whose first write has number `pkt` (R334, R338). -/
def State.postPiece (s : State) (c pkt addr : Nat) (bytes : List Byte) (k : WriteKind) : State :=
  let x := s.ctx c
  let y := s.ctx (x.root c)
  let cl := match x.op with
    | some o => if k.ofOp then o.mover else x.cluster
    | none => x.cluster
  let w : PWrite := ⟨s.tag, x.slice, c, x.ring, y.idx, y.lap, addr, bytes, k, k.ofOp, cl, pkt, false, []⟩
  ({ s with writes := s.writes ++ [w], tag := s.tag + 1 }).pumpWrites

/-- A posted write that is a packet, or a value, by itself. -/
def State.postWrite (s : State) (c addr : Nat) (bytes : List Byte) (k : WriteKind) : State :=
  s.postPiece c s.tag addr bytes k

/-- A write that the sequence behind it may not pass: of the same packet, or issued for the same function, or of the same
item, unless the later one has Relaxed Ordering set (R38, R203, R338). -/
def State.holdsBack (s : State) (v w : PWrite) : Bool :=
  v.pkt == w.pkt || (s.slFn v.slice == s.slFn w.slice && (v.issued || v.ctx == w.ctx) && !(s.relaxed w))

/-- No issued write of the slice's function is still to leave: a write without Relaxed Ordering may go out (R38). -/
def State.fnClear (s : State) (i : Nat) : Bool :=
  s.inSram i || !(s.writes.any (fun v => v.issued && s.slFn v.slice == s.slFn i && !(s.inSram v.slice)))

/-- The writes made before a write. -/
def before (w : PWrite) : List PWrite → List PWrite
  | [] => []
  | v :: t => if v.tag = w.tag then [] else v :: before w t

/-- An issued write can leave: no write before it holds it back, and one of the two movers of its cluster has got to it
(R334). -/
def State.canLeave (s : State) (w : PWrite) : Bool :=
  let l := before w s.writes
  w.issued && !(l.any (fun v => s.holdsBack v w)) &&
    decide ((l.filter (fun v => v.issued && v.cl == w.cl && v.kind != .hst)).length < 2)

/-- The item of a ring position has writes that have not left. -/
def State.itemWrites (s : State) (i r idx lap : Nat) : Bool :=
  s.writes.any (fun w => w.slice == i && w.ring == r && w.idx == idx && w.lap == lap)

/-! ## Positions in a buffer or list (R339 to R344) -/

/-- Bytes that the resolved segments still hold. -/
def segSum (l : List (Nat × Nat)) : Nat := (l.map Prod.snd).sum

/-- The piece of the resolved segments at an offset: address and bytes that follow it in its segment. -/
def segAt : List (Nat × Nat) → Nat → Option (Nat × Nat)
  | [], _ => none
  | (a, n) :: t, off => if off < n then some (a + off, n - off) else segAt t (off - n)

/-- `n` bytes passed: segments used up, elements counted (R344). -/
def ListPos.pass (p : ListPos) : List (Nat × Nat) → Nat → ListPos
  | [], _ => { p with segs := [] }
  | (a, m) :: t, n =>
    if n < m then { p with segs := (a + n, m - n) :: t, byte := p.byte + n }
    else ListPos.pass { p with elem := min (2 ^ 24 - 1) (p.elem + 1), byte := 0, ats := p.ats.drop 1 } t (n - m)

def ListPos.advance (p : ListPos) (n : Nat) : ListPos := p.pass p.segs n

/-- A segment resolved, of the element at `at_`: it follows the others, and elements of length 0 with nothing before them are
passed over (R340). -/
def ListPos.add (p : ListPos) (at_ addr len : Nat) : ListPos :=
  { p with segs := p.segs ++ [(addr, len)], ats := p.ats ++ [at_] }.advance 0

/-- The segments resolved ahead of the byte at `off`. -/
def segsPast : List (Nat × Nat) → Nat → List (Nat × Nat)
  | [], _ => []
  | (a, m) :: t, off => if m ≤ off then segsPast t (off - m) else (a, m) :: t

/-- How many further list elements may be resolved: up to 16 ahead of the bytes that are read or received (R336). -/
def Op.ahead (o : Op) : Nat := 16 - (segsPast o.pos.segs o.buf.length).length

/-- The pieces of the buffer or list that `n` bytes from the current position fill. -/
def pieces : List (Nat × Nat) → List Byte → List (Nat × List Byte)
  | _, [] => []
  | [], _ => []
  | (a, m) :: t, b => if m = 0 then pieces t b else (a, b.take m) :: pieces t (b.drop m)

/-- The whole list is resolved. -/
def ListPos.ended (p : ListPos) : Bool := p.next == none

/-- Bytes that the transfer still has to move, as far as its list is known (R342). -/
def Op.remain (o : Op) : Nat :=
  if o.req.kind = .isoin ∨ o.req.kind = .isoout then segSum o.pos.segs
  else if o.pos.ended then min (o.req.len - o.moved) (segSum o.pos.segs) else o.req.len - o.moved

/-- The kind of an operation that sends data to the device (R337). -/
def BusKind.sends (k : BusKind) (dirIn : Bool) : Bool :=
  match k with
  | .out => true
  | .isoout => true
  | .gather => true
  | .stream => !dirIn
  | _ => false

/-! ### Reading ahead -/

/-- A context's operation changed. -/
def State.modOp (s : State) (c : Nat) (f : Op → Op) : State := s.modCtx c (fun x => x.modOp f)

/-- Some read of the given purpose is under way for the context. -/
def State.reading (s : State) (c : Nat) (p : Purpose) : Bool := s.reqs.any (fun q => q.ctx == c && q.purpose == p)

/-- An end condition of a mover: recorded with its cause, and asked for (R350). -/
def State.moverFail (s : State) (c cause addr code : Nat) : State :=
  (s.failRec (s.ctx c).slice c cause addr).jobs [.asks c code]

/-- The next list element, table header or block of offsets, read up to 16 elements ahead (R336, R340, R341); none once the
operation is to end, and of a slice that is being frozen only for data that has been received (R368). -/
def State.fetchList (s : State) (c : Nat) : State :=
  let x := s.ctx c
  match x.op with
  | none => s
  | some o =>
    match o.pos.next with
    | none => s
    | some a =>
      if 0 < o.ahead ∧ o.result = none ∧ o.cut = false ∧ x.endCode = none ∧ s.reading c .listElem = false ∧
          (s.frozen x.slice = false ∨ 0 < o.hold) then
        let n := if o.req.mode = 1 then 16
          else match o.pos.table with
            | none => min (32 - o.pos.part.length) (s.readMax x.slice a)
            | some t => min (min 256 (4 * min t.left o.ahead)) (s.readMax x.slice a)
        if s.hostOk x.slice a n then s.newReq x.slice c a n .listElem
        else s.moverFail c 1 a stDmaFault
      else s

/-- Bytes up to the end of the packet that is being read ahead; an interval ends its last packet. -/
def Op.chunk (o : Op) (m : Nat) : Nat :=
  if o.req.kind = .isoout then
    let k := (o.ivBytes + o.buf.length) % max 1 o.req.len
    min (o.req.len - k) (m - k % m)
  else m - o.buf.length % m

/-- Data for the next packet of an OUT operation read ahead, at most 16 packets, within the slice's landing-buffer
share (R109, R337): one read at a time, no longer than Max Read Request Size, crossing no 4 KiB boundary (R83). -/
def State.fetchData (s : State) (c : Nat) : State :=
  let x := s.ctx c
  match x.op with
  | none => s
  | some o =>
    let e := s.epInfo o.ep
    let m := max 1 e.mps
    let ahead := o.buf.length
    let left := o.remain - ahead
    match segAt o.pos.segs ahead with
    | none => s
    | some (a, run) =>
      let n := min (min (min left run) (o.chunk m)) (s.readMax x.slice a)
      let g := o.outGran m (o.buf.length + n) - o.outGran m o.buf.length
      if o.req.kind.sends e.dirIn ∧ o.result = none ∧ o.stage = .queued ∧ o.outPkts m (o.buf.length + n) ≤ 16 ∧ 0 < n ∧
          s.reading c .outData = false ∧ s.capRoom 1 x.slice g then
        (s.lbTake x.slice g).newReq x.slice c a n .outData
      else s

/-- Movers look ahead for the operation of `c`. -/
def State.lookAhead (s : State) (c : Nat) : State := (s.fetchList c).fetchData c

/-- Every operation that is queued is looked after: a place in the queue or landing-buffer room may have come free. -/
def State.lookAheadAll (s : State) : State :=
  forL (FMap.keys s.ctxs) (fun c s => if (s.ctx c).op = none then s else s.lookAhead c) s

end Sys2Proof.Machine
end

