-- ==== Sys2Proof/Machine/Flow.lean ====
section
/-!
DEFINITION. Instructions that may park, and work control (R202, R203, R216 to R226): host access, waiting,
semaphores, POST, YIELD, SPAWN, FENCE, and the commands that end their waits.
-/
namespace Sys2Proof.Machine

/-! ## Shared operations -/

/-- A park of `c` has ended: an end condition acts, once its operation stands at a boundary, or the item joins its ready list
(R182, R183, R258). -/
def State.wake (s : State) (c : Nat) : State :=
  match (s.ctx c).endCode with
  | some k => (s.modCtx c (fun x => { x with act := .parked .ending })).jobs [.asks c k]
  | none => s.joinTail c

/-- An instruction is refused: C = 1, `st` OK with 0 bytes, nothing else (R194). -/
def Ctx.refuse (x : Ctx) : Ctx := { (x.setSt stOk 0).step1 with c := true }

/-- An instruction is performed with a status and 0 bytes: C = 0. -/
def Ctx.perform (x : Ctx) (code bytes : Nat) : Ctx := { x.setSt code bytes with c := false }

/-- Issue of an instruction with an effect on more than its context. -/
def kwarvoS (c : Nat) (w : Word32) (g : State → State) (s : State) : Host.Outcome State Fault Refusal :=
  onDevice (fun s => s.issue c w g) s

/-! ## Host access (R202, R203) -/

/-- A refused or misaligned access: recorded, and the activation ends with DMA_FAULT (R202, R350). -/
def State.accessFault (s : State) (c addr : Nat) : State :=
  (s.failRec (s.ctx c).slice c 1 addr).jobs [.asks c stDmaFault]

/-- HLD reads its operands, makes its request and parks. -/
def State.doHld (s : State) (c d a size : Nat) (off : BitVec 16) : State :=
  let x := s.ctx c
  let addr := hostAddr (x.reg a) off
  if accessAligned addr size && s.hostOk x.slice addr (accessBytes size) then
    ((s.modCtx c Ctx.step1).newReq x.slice c addr (accessBytes size) (.hld d size)).park c (.hld d size)
  else s.accessFault c addr

def execHld (c d a size : Nat) (off : BitVec 16) (s : State) : Host.Outcome State Fault Refusal :=
  kwarvoS c (wordM 0x1F d a size off) (fun s => s.doHld c d a size off) s

/-- HST makes its write and parks until it has left the port. -/
def State.doHst (s : State) (c d a size : Nat) (off : BitVec 16) : State :=
  let x := s.ctx c
  let addr := hostAddr (x.reg a) off
  if accessAligned addr size && s.hostOk x.slice addr (accessBytes size) then
    ((s.modCtx c Ctx.step1).postWrite c addr (leBytes (accessBytes size) (x.reg d).toNat) .hst).park c (.hst s.tag)
  else s.accessFault c addr

def execHst (c d a size : Nat) (off : BitVec 16) (s : State) : Host.Outcome State Fault Refusal :=
  kwarvoS c (wordM 0x20 d a size off) (fun s => s.doHst c d a size off) s

/-- The data of an HLD has arrived: g[d], `st` OK with the access size, C = 0. -/
def State.hldDone (s : State) (q : HostReq) (data : List Byte) : State :=
  match (s.ctx q.ctx).act with
  | .parked (.hld d size) =>
    let v := BitVec.ofNat 64 (leValue (s.reqData q data))
    (((s.dropReq q.tag).modCtx q.ctx (fun x => (x.setReg d v).perform stOk (accessBytes size))).pumpReqs).wake q.ctx
  | _ => (s.dropReq q.tag).pumpReqs

/-- The completion of the HLD that context `c` is parked on. -/
def execHldCompletion (c : Nat) (data : Word64) (s : State) : Host.Outcome State Fault Refusal :=
  onDevice (fun s =>
    match s.reqs.find? (fun q => q.ctx == c && q.phase == .issued && match q.purpose with
        | .hld _ _ => true
        | _ => false) with
    | some q => s.hldDone q (leBytes q.len data.toNat)
    | none => s) s

/-- What the departure of a write brings about: an HST returns; granules are freed; pool space is freed with the
write. -/
def State.writeLeft (s : State) (w : PWrite) : State :=
  match w.kind with
  | .hst =>
    match (s.ctx w.ctx).act with
    | .parked (.hst t) =>
      if t = w.tag then (s.modCtx w.ctx (fun x => x.perform stOk w.bytes.length)).wake w.ctx else s
    | _ => s
  | .data g => s.lbFree w.slice g
  | _ => s

/-- A posted write leaves its port (R338). -/
def State.depart (s : State) (t : Nat) : State :=
  match s.writes.find? (fun w => w.tag == t) with
  | some w =>
    if s.canLeave w then
      let s := s.putWrite w.slice (s.relaxed w) w.xlat w.addr w.bytes
      let s := { s with writes := s.writes.filter (fun v => v.tag != t), invals := invalLeft t s.invals }
      let s := if w.ctx < 16384 then s.modCtx w.ctx (fun x => { x with rptLeft := s.now }) else s
      ((s.writeLeft w).latLeft t).pumpReqs.lookAheadAll
    else s.pumpReqs
  | none => s

/-! ## Waiting (R216 to R218) -/

/-- A Clock tick occurs in this cycle. -/
def State.atTick (s : State) : Bool :=
  s.aon.refRunning && decide (s.aon.refCycle = 0) && decide (s.aon.clockCount ≠ 0)

/-- WAIT: at once when a masked event is set, a tick in the issue cycle included, at once with mask 0 and no timeout, else
it parks (R217). -/
def State.doWait (s : State) (c d t mask : Nat) : State :=
  let x := s.ctx c
  let us := opBits (x.reg t) 31 0
  let got := (x.events + (if s.atTick && x.tickSeen != s.aon.clockCount then 4 else 0)) &&& mask
  if got ≠ 0 then
    s.modCtx c (fun x => { (x.waitReturn d got).step1 with tickSeen := if got / 4 % 2 = 1 then s.aon.clockCount else x.tickSeen })
  else if mask = 0 ∧ us = 0 then s.modCtx c (fun x => (x.waitReturn d 0).step1)
  else (s.modCtx c Ctx.step1).park c (.wait d mask (if us = 0 then none else some (s.now + 25 * us)))

def execWait (c d t : Nat) (mask : BitVec 4) (s : State) : Host.Outcome State Fault Refusal :=
  kwarvoS c (wordW 0x2C d t mask.toNat) (fun s => s.doWait c d t mask.toNat) s

/-- A WAIT's timeout expires with no masked event set: g[d] = 0, `st` TIMEOUT. -/
def execWaitTimeout (c : Nat) (s : State) : Host.Outcome State Fault Refusal :=
  onDevice (fun s =>
    let x := s.ctx c
    match x.act with
    | .parked (.wait d _ (some dl)) =>
      if dl ≤ s.now ∧ s.frozen x.slice = false then
        (s.modCtx c (fun x =>
          { (x.setReg d 0).perform stTimeout 0 with romUs := x.romUs + (dl - x.since) / 25 })).wake c
      else s
    | _ => s) s

/-- `clk` has reached the target: the difference as a signed value is 0 or below (R218). -/
def clkReached (target clk : Word64) : Bool := decide ((target - clk).toInt ≤ 0)

def execWaitclk (c a : Nat) (s : State) : Host.Outcome State Fault Refusal :=
  kwarvoS c (wordU 0x2D a) (fun s =>
    let t := (s.ctx c).reg a
    if clkReached t s.clk then s.modCtx c (fun x => (x.perform stOk 0).step1)
    else (s.modCtx c Ctx.step1).park c (.waitclk t)) s

def execWaitclkReached (c : Nat) (s : State) : Host.Outcome State Fault Refusal :=
  onDevice (fun s =>
    let x := s.ctx c
    match x.act with
    | .parked (.waitclk t) =>
      if clkReached t s.clk ∧ s.frozen x.slice = false then (s.modCtx c (fun x => x.perform stOk 0)).wake c else s
    | _ => s) s

/-! ## Semaphores (R220, R221, R259 to R263) -/

/-- The slice may use semaphore `i` (R259). -/
def State.semUsable (s : State) (i sl : Nat) : Bool :=
  s.flag (.semCfg i) SEM_CFG.EN && s.getF (.semCfg i) SEM_CFG.SLICE == sl && !(s.flag (.semCfg i) SEM_CFG.ARB)

/-- The activation holds semaphore `i` by LOCK or TRYLOCK. -/
def State.semHeld (s : State) (c i : Nat) : Bool := decide (i ∈ (s.ctx c).locks) && (s.sem i).owner == some c

/-- The refusals that LOCK and TRYLOCK share (R220). -/
def State.lockRefused (s : State) (c i : Nat) : Bool :=
  decide (1023 < i) || !(s.semUsable i (s.ctx c).slice) ||
    (decide (4 ≤ (s.ctx c).locks.length) && !(s.semHeld c i))

/-- A free semaphore taken by `c`; the status says whether it was abandoned. -/
def State.semTake (s : State) (c i : Nat) : State :=
  let code := if (s.sem i).abn then stLockAbandoned else stOk
  (s.semOwn i c).modCtx c (fun x => { (x.perform code 0).step1 with locks := i :: x.locks })

def State.doLock (s : State) (c i : Nat) : State :=
  if s.lockRefused c i then s.modCtx c Ctx.refuse
  else if s.semHeld c i then s.modCtx c (fun x => (x.perform stOk 0).step1)
  else if (s.sem i).owner = none then s.semTake c i
  else ((s.modCtx c Ctx.step1).semWait i c).park c (.lock i)

def execLock (c a : Nat) (s : State) : Host.Outcome State Fault Refusal :=
  kwarvoS c (wordU 0x2E a) (fun s => s.doLock c ((s.ctx c).reg a).toNat) s

def State.doTrylock (s : State) (c i : Nat) : State :=
  if s.lockRefused c i then s.modCtx c Ctx.refuse
  else if s.semHeld c i then s.modCtx c (fun x => { (x.perform stOk 0).step1 with z := true })
  else if (s.sem i).owner = none then (s.semTake c i).modCtx c (fun x => { x with z := true })
  else s.modCtx c (fun x => { (x.perform stOk 0).step1 with z := false })

def execTrylock (c a : Nat) (s : State) : Host.Outcome State Fault Refusal :=
  kwarvoS c (wordU 0x2F a) (fun s => s.doTrylock c ((s.ctx c).reg a).toNat) s

def State.doUnlock (s : State) (c i : Nat) : State :=
  if 1023 < i ∨ s.semUsable i (s.ctx c).slice = false ∨ s.semHeld c i = false then s.modCtx c Ctx.refuse
  else
    let s := s.modCtx c (fun x => { (x.perform stOk 0).step1 with locks := x.locks.filter (· != i) })
    let p := s.semDrop i false
    p.1.jobs p.2

def execUnlock (c a : Nat) (s : State) : Host.Outcome State Fault Refusal :=
  kwarvoS c (wordU 0x30 a) (fun s => s.doUnlock c ((s.ctx c).reg a).toNat) s

/-- The manager releases semaphore `i`, held by an owner that goes on believing it holds it (R262). -/
def State.semForce (s : State) (i : Nat) : State :=
  match (s.sem i).owner with
  | none => s
  | some c =>
    let s := s.modCtx c (fun x => { x with locks := x.locks.filter (· != i), arbs := x.arbs.filter (· != i) })
    let p := s.semDrop i true
    p.1.jobs p.2

/-! ## Work control (R222 to R225) -/

/-- POST: the activation ends with its code, once its operation has stopped at a boundary. -/
def State.doPost (s : State) (c code : Nat) : State :=
  if s.underWay c then (s.modOp c (fun o => { o with cut := true })).park c (.post code)
  else s.jobs [.posts c code]

def execPost (c code : Nat) (s : State) : Host.Outcome State Fault Refusal :=
  kwarvoS c (wordC 0x31 code) (fun s => s.doPost c code) s

/-- RET pops, or ends the activation as POST 0x00 would (R200). -/
def execRet (c : Nat) (s : State) : Host.Outcome State Fault Refusal :=
  kwarvoS c (wordN 0x1C) (fun s =>
    match (s.ctx c).stack with
    | r :: t => s.modCtx c (fun x => { x with pc := r, stack := t })
    | [] => s.doPost c stOk) s

/-- Some other item of level `pri` or above in the cluster's ready lists is eligible (R223). -/
def State.eligibleFrom (s : State) (k pri : Nat) : Bool :=
  (List.range 8).any (fun lv => decide (pri ≤ lv) && (s.rlist (k * 8 + lv)).any (fun c => s.eligible c))

def State.doYield (s : State) (c : Nat) : State :=
  let x := s.ctx c
  let s := s.modCtx c Ctx.step1
  if s.eligibleFrom x.cluster x.pri then
    (s.leaveEng c).enlist c false
  else s

def execYield (c : Nat) (s : State) : Host.Outcome State Fault Refusal :=
  kwarvoS c (wordN 0x32) (fun s => s.doYield c) s

/-- Declared fuel of the ROM programs (Table 8 of chapter 6). -/
def romFuel (prog : Nat) : Nat :=
  match prog with
  | 128 => 1500
  | 129 => 1000
  | 130 => 1200
  | 131 => 600
  | 132 => 600
  | 133 => 2000
  | 134 => 5000
  | 135 => 3000
  | 136 => 4000
  | _ => 1

/-- The declared fuel of a program of slice `i`. -/
def State.fuelOf (s : State) (i prog : Nat) : Nat := if prog < 64 then (s.prog (i * 64 + prog)).fuel else romFuel prog

/-- A program of slice `i` can be started: loaded and not being unloaded, or in the ROM library (R168, R172). -/
def State.progOk (s : State) (i prog : Nat) : Bool :=
  if prog < 64 then (s.prog (i * 64 + prog)).live && !(s.prog (i * 64 + prog)).unloading
  else decide (128 ≤ prog) && decide (prog < 192)

/-- The free context that the context store gives: the one the command names, or the lowest free one. -/
def State.pickCtx (s : State) (k : Nat) : Option Nat :=
  if k < 16384 ∧ (s.ctx k).act = .free then some k
  else (List.range 16384).find? (fun j => (s.ctx j).act == .free)

/-- The argument registers of a child: g1 to g6 from g[a] to g[a + 5]; all 0 for a = 0 (R224). -/
def Ctx.childArgs (x : Ctx) (a : Nat) : FMap Word64 :=
  if a = 0 then []
  else (List.range 6).foldl (fun m j => FMap.put 0 (j + 1) (x.reg (a + j)) m) []

/-- The refusals of R184. -/
def State.spawnRefused (s : State) (c prog : Nat) : Bool :=
  let x := s.ctx c
  decide (4 ≤ x.kids.length) || !(s.capRoom 0 x.slice 1) || x.parent != none || !(s.progOk x.slice prog)

/-- SPAWN starts a child in its parent's cluster at its parent's priority (R184, R224, R230, R231). -/
def State.doSpawn (s : State) (c prog a h off k : Nat) : State :=
  let x := s.ctx c
  match s.pickCtx k with
  | none => s.modCtx c Ctx.refuse
  | some j =>
    if s.spawnRefused c prog then s.modCtx c Ctx.refuse
    else
      let y : Ctx := { Ctx.free with
        slice := x.slice, ring := x.ring, parent := some (c, off - off % 8), prog := prog, pri := x.pri, tag := x.tag,
        cluster := x.cluster, g := x.childArgs a, args := argsOf ((x.reg h).toNat % 65536) (x.childArgs a), fuel := s.fuelOf x.slice prog, ep := (x.reg h).toNat % 65536 }
      let s := s.modCtx c (fun x => { (x.perform stOk 0).step1 with kids := j :: x.kids })
      let s := ((s.capTake 0 x.slice 1).setCtx j y).joinTail j
      match s.romStart x.slice y.ep prog y.g with
      | some code => s.jobs [.posts j code]
      | none => s

def execSpawn (c prog a h off k : Nat) (s : State) : Host.Outcome State Fault Refusal :=
  kwarvoS c (wordP 0x33 prog a h off) (fun s => s.doSpawn c prog a h off k) s

/-- Every host write that the activation has issued has left, but for those of an operation that is outstanding
(R225). -/
def State.writesGone (s : State) (c : Nat) : Bool := !(s.writes.any (fun w => w.ctx == c && !w.cur))

def execFence (c : Nat) (s : State) : Host.Outcome State Fault Refusal :=
  kwarvoS c (wordN 0x34) (fun s =>
    let s := s.modCtx c Ctx.step1
    if s.writesGone c then s else s.park c .fence) s

def execInstructionFenceDone (c : Nat) (s : State) : Host.Outcome State Fault Refusal :=
  onDevice (fun s =>
    match (s.ctx c).act with
    | .parked .fence => if s.writesGone c then s.wake c else s
    | _ => s) s

end Sys2Proof.Machine
end

