-- ==== Sys2Proof/Machine/BusOps.lean ====
section
/-!
DEFINITION. Bus instructions and their operations (R204 to R215, R219): the checks at issue, tokens, the taking of
gambit data and of queued reports, boundaries, suspension, the end of an operation, CANCEL.
-/
namespace Sys2Proof.Machine

/-! ## The checks at issue -/

/-- The endpoint suits the instruction (Table 6 of chapter 7); `speed` is the device's, at which the endpoint's type is listed
(R41). -/
def suits (k : BusKind) (e : Ep) (speed : Nat) : Bool :=
  !(unlisted speed e.typ) &&
  let ctl := e.typ == 0
  let bulk := e.typ == 2
  let intr := e.typ == 3
  match k with
  | .setup => ctl
  | .status => ctl
  | .inn => ctl || ((bulk || intr) && e.dirIn)
  | .out => ctl || ((bulk || intr) && !e.dirIn)
  | .ping => decide (speed = 4) || (decide (speed = 3) && (ctl || (bulk && !e.dirIn)))
  | .isoin => e.typ == 1 && e.dirIn
  | .isoout => e.typ == 1 && !e.dirIn
  | .stream => bulk
  | .gather => bulk && !e.dirIn
  | .scatter => bulk && e.dirIn

/-- The open control sequence of the activation on a handle (R207). -/
def Ctx.seqOn (x : Ctx) (h : Nat) : Option Word64 :=
  (x.seq.find? (fun q => q.handle == h)).map CtlSeq.setup

/-- A control data stage is refused (Table 7): no sequence, the other direction, or wLength 0. -/
def dataRefused (x : Ctx) (r : BusReq) (isIn : Bool) : Bool :=
  match x.seqOn r.handle with
  | none => true
  | some p => setupIn p != isIn || setupLen p == 0

/-- IN and OUT: the length and reservation conditions of Table 7. -/
def lenRefused (e : Ep) (mode : Nat) (rsv : Bool) (r : BusReq) (isIn : Bool) : Bool :=
  (isIn && r.len == 0) ||
    (if e.typ = 3 then decide (3072 < r.len) || (!rsv && mode != 1) else decide (65535 < r.len))

/-- The conditions on streams, length and list mode of the bulk movers (Table 7). -/
def moverRefused (e : Ep) (r : BusReq) : Bool :=
  decide (1024 < r.sid) || (e.streams && r.sid == 0) || (!e.streams && r.sid != 0) || (e.dirIn && r.len == 0) ||
    (r.kind != .stream && (r.mode == 0 || r.mode == 3))

/-- The refusal conditions of Table 7 (R206). -/
def State.busRefused (s : State) (c : Nat) (r : BusReq) : Bool :=
  let x := s.ctx c
  let a := s.attCfg x.slice r.handle
  let e := s.epInfo a.ep
  let sp := (s.epDev a.ep).speed
  let v := s.rsvE (hKey x.slice r.handle)
  !(suits r.kind e sp) ||
    match r.kind with
    | .inn => (e.typ == 0 && dataRefused x r true) || lenRefused e a.mode v.live r true
    | .out => (e.typ == 0 && dataRefused x r false) || lenRefused e a.mode v.live r false
    | .ping => decide (sp < 3)
    | .status => (x.seqOn r.handle).isNone
    | .isoin => r.count == 0 || r.len == 0 || !v.live || decide (v.bytes < r.len)
    | .isoout => r.count == 0 || r.len == 0 || !v.live || decide (v.bytes < r.len)
    | .stream => moverRefused e r
    | .gather => moverRefused e r
    | .scatter => moverRefused e r
    | .setup => false

/-- The code with which checks 1 and 2 of R204 end the activation, if they do. -/
def State.busEnds (s : State) (c : Nat) (r : BusReq) : Option Nat :=
  let x := s.ctx c
  let a := s.attCfg x.slice r.handle
  if !a.live then some stAborted
  else if a.detached || (s.epDev a.ep).detached then some stDetached
  else if (s.epInfo a.ep).dirty && a.mode == 2 && r.kind != .setup && !(decide (a.ep ∈ x.begun)) then
    some stEndpointDirty
  else if r.kind == .setup && x.slice != 0 && setupBlocked a.filter r.setup then some stStall
  else none

/-- The buffer that the operands name, and the result array (R204 check 4). -/
def BusReq.ranges (r : BusReq) : List (Nat × Nat) :=
  match r.kind with
  | .inn => [(r.addr, r.len)]
  | .out => [(r.addr, r.len)]
  | .stream => [(r.addr, r.len)]
  | .isoin => [(r.addr, r.len * r.count), (r.results, if r.results = 0 then 0 else 8 * r.count)]
  | .isoout => [(r.addr, r.len * r.count), (r.results, if r.results = 0 then 0 else 8 * r.count)]
  | _ => []

/-- The first range that R83 refuses, or an unaligned list address (R339): cause and address. -/
def State.busFault (s : State) (c : Nat) (r : BusReq) : Option (Nat × Nat) :=
  let i := (s.ctx c).slice
  if (r.kind = .gather ∨ r.kind = .scatter) ∧ r.addr % (if r.mode = 1 then 16 else 8) ≠ 0 then some (7, r.addr)
  else (r.ranges.find? (fun p => !(s.hostOk i p.1 p.2))).map (fun p => (1, p.1))

/-- A refused instruction of an item that is parked makes it ready again; a ROM program ends at once with BAD_ARGUMENT
(R188). -/
def State.refuseNow (s : State) (c : Nat) : State :=
  let s := s.modCtx c (fun x => { x.setSt stOk 0 with c := true })
  if 128 ≤ (s.ctx c).prog then s.jobs [.posts c stBadArgument]
  else match (s.ctx c).act with
  | .running _ => s
  | _ => s.wake c

/-- The instruction goes to the sequencer with C = 0: at once for a Running item, after dispatch for one that was
parked (R209, R210). -/
def State.busGo (s : State) (c : Nat) (r : BusReq) : State :=
  let s := s.modCtx c (fun x => { x with c := false })
  match (s.ctx c).act with
  | .running te => if r.async then (s.opStart c r).runOrPlace te c else (s.opStart c r).parkOp te c
  | _ => (s.modCtx c (fun x => { x with go := some r })).wake c

/-- The token of the handle, taken at once or waited for (R240). -/
def State.busToken (s : State) (c : Nat) (r : BusReq) : State :=
  let x := s.ctx c
  if x.cur = some r.handle then s.busGo c r
  else
    let s := (s.tokenDrop c).settle
    let k := hKey x.slice r.handle
    if s.famHolds (x.root c) c r.handle then
      (s.modCtx c (fun x => { x with cur := some r.handle })).busGo c r
    else if (s.token k).fam = none ∧ (s.token k).queue = [] then
      ((s.modToken k (fun t => { t with fam := some (x.root c) })).modCtx c
        (fun x => { x with cur := some r.handle })).busGo c r
    else (s.modToken k (fun t => { t with queue := t.queue ++ [c] })).park c (.token r)

/-- A bus instruction issued for a segment, the root port (R44), ends L1 (R66). -/
def State.l1Exit (s : State) (e : Nat) : State := s.linkUp (s.epDev e).port false

/-- The hub port of the device at a default pipe is disabled: the root port's path, or the port of the hub that is last on
its route (R46). -/
def State.hubPortOff (s : State) (n : Nat) : State :=
  let d := s.devInfo (65536 + n)
  if d.route = [] then s.setPath n d.ss pDisabled true else s.emit (.hubPortOff n d.route)

/-- The checks of R204 in their order, then the token. The semaphores of an activation that a blocked SETUP ends: log entry
96. -/
def State.busCheck (s : State) (c : Nat) (r : BusReq) : State :=
  match s.busEnds c r with
  | some k => s.jobs [.ends c k]
  | none =>
    if r.kind = .setup ∧ s.noContext (s.attCfg (s.ctx c).slice r.handle).ep r.setup then
      (s.jobs [.ends c stAborted]).hubPortOff ((s.attCfg (s.ctx c).slice r.handle).ep - 32768)
    else if s.busRefused c r then s.refuseNow c
    else
      let s := s.l1Exit (s.attCfg (s.ctx c).slice r.handle).ep
      match s.busFault c r with
      | some (cause, addr) => (s.failRec (s.ctx c).slice c cause addr).jobs [.ends c stDmaFault]
      | none => s.busToken c r

/-- A bus instruction issues: the step index rises; with an operation outstanding the activation parks until that has
ended (R178, R210). -/
def State.busIssue (s : State) (c : Nat) (r : BusReq) : State :=
  let hops := s.getF .dspMvCfg DSP_MV_CFG.HOPS
  let s := s.modCtx c (fun x => { x.step1 with step := min 65535 (x.step + 1), hops := hops, romUs := 0 })
  if (s.ctx c).op = none then s.busCheck c r else s.park c (.prior r)

/-- Issue of a bus instruction whose request is built from the context's registers. -/
def kwarvoBus (c op : Nat) (kind : BusKind) (async : Bool) (a b : Nat) (s : State) : Host.Outcome State Fault Refusal :=
  kwarvoS c (wordX op async a b) (fun s => s.busIssue c ((s.ctx c).bus kind async a b)) s

def execSetup (c : Nat) (async : Bool) (a : Nat) (s : State) : Host.Outcome State Fault Refusal :=
  kwarvoBus c 0x21 .setup async a 0 s
def execInn (c : Nat) (async : Bool) (a b : Nat) (s : State) : Host.Outcome State Fault Refusal :=
  kwarvoBus c 0x22 .inn async a b s
def execOut (c : Nat) (async : Bool) (a b : Nat) (s : State) : Host.Outcome State Fault Refusal :=
  kwarvoBus c 0x23 .out async a b s
def execPing (c : Nat) (async : Bool) (s : State) : Host.Outcome State Fault Refusal :=
  kwarvoBus c 0x24 .ping async 0 0 s
def execStatus (c : Nat) (async : Bool) (s : State) : Host.Outcome State Fault Refusal :=
  kwarvoBus c 0x25 .status async 0 0 s
def execIsoin (c : Nat) (async : Bool) (a : Nat) (s : State) : Host.Outcome State Fault Refusal :=
  kwarvoBus c 0x26 .isoin async a 0 s
def execIsoout (c : Nat) (async : Bool) (a : Nat) (s : State) : Host.Outcome State Fault Refusal :=
  kwarvoBus c 0x27 .isoout async a 0 s
def execStream (c : Nat) (async : Bool) (a : Nat) (s : State) : Host.Outcome State Fault Refusal :=
  kwarvoBus c 0x28 .stream async a 0 s
def execGather (c : Nat) (async : Bool) (a : Nat) (s : State) : Host.Outcome State Fault Refusal :=
  kwarvoBus c 0x29 .gather async a 0 s
def execScatter (c : Nat) (async : Bool) (a : Nat) (s : State) : Host.Outcome State Fault Refusal :=
  kwarvoBus c 0x2A .scatter async a 0 s

/-! ## Data that is already on the chip (R121, R211, R327) -/

/-- The kind of a write that is not the last of its packet: the packet's space is freed with the last (R325, R338). -/
def WriteKind.part : WriteKind → WriteKind
  | .data _ => .data 0
  | .gambit _ e short => .gambit 0 e short
  | k => k

/-- Bytes moved into the operation's buffer: written piece by piece, counted, the position advanced. -/
def State.opWrite (s : State) (c : Nat) (bytes : List Byte) (k : WriteKind) : State :=
  match (s.ctx c).op with
  | none => s
  | some o =>
    let l := pieces o.pos.segs bytes
    let pkt := o.pkt.getD s.tag
    let s := forL (l.take (l.length - 1)) (fun p s => s.postPiece c pkt p.1 p.2 k.part) s
    let s := match l.getLast? with
      | some p => s.postPiece c pkt p.1 p.2 k
      | none => s.lbFree (s.ctx c).slice (match k with
        | .data g => g
        | _ => 0)
    let s := s.modCtx c (fun x => { x with romData := (if o.moved = 0 then bytes else x.romData ++ bytes).take 8 })
    s.modOp c (fun o => { o with moved := o.moved + bytes.length, pos := o.pos.advance bytes.length })

/-- The operation has come to its end with a code. -/
def State.opResult (s : State) (c code : Nat) : State := s.modOp c (fun o => { o with result := some code })

/-- The instruction takes data of gambits: an IN, STREAM or SCATTER on a bulk-IN endpoint (R326). -/
def Op.inClass (o : Op) (e : Ep) : Bool :=
  e.typ == 2 && e.dirIn && (o.req.kind == .inn || o.req.kind == .stream || o.req.kind == .scatter)

/-- A gambit on the endpoint has a transaction on the wire; one between two transactions ends once a request is there
(R324). -/
def State.gambitOn (s : State) (e : Nat) : Bool :=
  (s.port (s.epDev e).port).lines.any (fun l => match l.txn with
    | some t => t.gambit && t.ep == e
    | none => false)

/-- The resolved bytes, within the length operand. -/
def Op.ready (o : Op) : Nat := min (o.req.len - o.moved) (segSum o.pos.segs)

/-- One held packet passed to the operation, as far as it fits: the bytes, and the packet that stays, if any. -/
def takePkt (p : GPkt) (room : Nat) : List Byte × Option GPkt :=
  if p.data.length ≤ room then (p.data, none) else (p.data.take room, some { p with data := p.data.drop room })

/-- The kind of the write of a held packet of endpoint `e`, or of its head where the packet `rest` stays: the rest keeps the
pool space and the short mark (R327). -/
def heldKind (e : Nat) (p : GPkt) (rest : Option GPkt) : WriteKind :=
  if rest = none then .gambit p.space e p.short else .gambit 0 e false

/-- Orphan data delivered up to the room in the buffer, as far as its list is resolved; then the instruction ends with
ORPHAN_DATA (R211). -/
def State.takeOrphans (s : State) (c e : Nat) : Nat → State
  | 0 => s
  | f + 1 =>
    match (s.epc e).orph, (s.ctx c).op with
    | p :: t, some o =>
      if o.remain = 0 then s.opResult c stOrphanData
      else if o.ready = 0 then s
      else
        let q := takePkt p o.ready
        let s := s.opWrite c q.1 (heldKind e p q.2)
        (s.modEpc e (fun x => { x with orph := match q.2 with
            | some r => r :: t
            | none => t })).takeOrphans c e f
    | [], some _ => s.opResult c stOrphanData
    | _, none => s

/-- Pending packets taken in order as the first packets of the instruction, as far as its list is resolved: a packet that
is whole in the buffer is a boundary, and one that fills the buffer ends the instruction (R327). -/
def State.takePending (s : State) (c e : Nat) : Nat → State
  | 0 => s
  | f + 1 =>
    match (s.epc e).pend, (s.ctx c).op with
    | p :: t, some o =>
      if o.result ≠ none ∨ (o.ready = 0 ∧ p.data ≠ [] ∧ o.remain ≠ 0) then s
      else
        let q := takePkt p o.ready
        let full := o.remain - q.1.length = 0
        let whole := q.2 = none ∨ full
        let s := s.opWrite c q.1 (heldKind e p q.2)
        let s := if whole then s.modOp c (fun o => { o with pkts := o.pkts + 1, bnd := true }) else s
        let s := s.modEpc e (fun x => { x with pend := match q.2 with
            | some r => r :: t
            | none => t })
        let s := if full then s.opResult c stOk else if whole ∧ p.short then s.opResult c stShort else s
        s.takePending c e f
    | _, _ => s

/-- The operation is the first IN-class one of its endpoint in the queue (R327). -/
def State.firstIn (s : State) (c : Nat) (o : Op) : Bool :=
  !(s.ctxs.any (fun q => q.1 != c && match q.2.op with
    | some p => p.ep == o.ep && p.stage == .queued && p.result == none && p.inClass (s.epc p.ep) && decide (p.order < o.order)
    | none => false))

/-- Gambit data held for the endpoint goes first to an instruction that has no transaction of its own yet (R211,
R324, R327). -/
def State.takeHeld (s : State) (c : Nat) : State :=
  match (s.ctx c).op with
  | none => s
  | some o =>
    let e := s.epc o.ep
    if o.inClass e ∧ o.stage = .queued ∧ o.result = none ∧ o.asked = 0 ∧ s.gambitOn o.ep = false ∧ s.firstIn c o then
      if o.orphan ∨ (e.orph ≠ [] ∧ o.moved = 0) then
        (s.modOp c (fun o => { o with orphan := true })).takeOrphans c o.ep (e.orph.length + 17)
      else s.takePending c o.ep (e.pend.length + 17)
    else s

/-- A report of `g` granules delivered to an interrupt IN: cut to its length with BABBLE, SHORT if it is shorter; a sealed
block that does not fit is discarded (R208). -/
def State.giveReport (s : State) (c g : Nat) (p : Report) : State :=
  match (s.ctx c).op with
  | none => s
  | some o =>
    let n := p.data.length
    let s := s.modCtx c (fun x => { x with rptAt := some p.time })
    if o.req.len < n then
      if p.sealed then (s.lbFree (s.ctx c).slice g).opResult c stBabble
      else (s.opWrite c (p.data.take o.req.len) (.data g)).opResult c stBabble
    else (s.opWrite c p.data (.data g)).opResult c (if n < o.req.len then stShort else stOk)

/-- What `f` lets go of slice 0's landing-buffer granules in all is free (R111, R121). -/
def State.fanLess (s : State) (f : State → State) : State :=
  let t := f s
  t.capFreed 1 0 (s.capUse 1 0 - t.capUse 1 0)

/-- An interrupt IN on a fan-out attachment, or of the secure-input claimant, takes the oldest queued report
(R121). -/
def State.giveQueued (s : State) (c : Nat) : State :=
  let x := s.ctx c
  match x.op with
  | none => s
  | some o =>
    let k := hKey x.slice o.req.handle
    if o.req.kind = .inn ∧ o.result = none ∧ o.stage = .queued ∧ (s.epInfo o.ep).typ = 3 then
      match (s.atE k).queue with
      | [] => s
      | p :: q =>
        (s.modAtE k (fun a => { a with queue := q })).giveReport c 0 p
    else s
def State.takeReport (s : State) (c : Nat) : State := s.fanLess (fun s => s.giveQueued c)

/-- IN data that has been received moves into the resolved segments (R208, R336): the instruction ends when its buffer
is full or a short packet has been placed; what does not fit is discarded, with BABBLE. The writes of one packet are one (R338). -/
def State.inFlush (s : State) (c : Nat) : State :=
  match (s.ctx c).op with
  | none => s
  | some o =>
    if (o.hold = 0 ∧ o.buf = [] ∧ o.shortIn = false) ∨ o.result ≠ none then s
    else
      let n := min o.buf.length o.ready
      let rest := o.buf.drop n
      let full := o.remain - n = 0
      if rest = [] ∨ full then
        let s := (s.opWrite c (o.buf.take n) (.data o.hold)).modOp c (fun o => { o with buf := [], hold := 0, pkt := none })
        if rest ≠ [] then s.opResult c stBabble
        else if full then s.opResult c stOk
        else if o.shortIn then s.opResult c stShort
        else s
      else
        let pkt := if n = 0 then o.pkt else some (o.pkt.getD s.tag)
        (s.opWrite c (o.buf.take n) (.data 0)).modOp c (fun o => { o with buf := rest, pkt := pkt })

/-- What an operation can take without the wire. -/
def State.takeOnChip (s : State) (c : Nat) : State :=
  let s := match (s.ctx c).op with
    | some o => if o.lands (s.epInfo o.ep) then s.inFlush c else s
    | none => s
  (s.takeHeld c).takeReport c

/-! ## Boundaries (R186, R213, R215, R245) -/

/-- The instruction is resumable (R186). -/
def Op.resumable (o : Op) : Bool :=
  match o.req.kind with
  | .stream => true
  | .gather => true
  | .scatter => true
  | .isoin => decide (1 < o.req.count)
  | .isoout => decide (1 < o.req.count)
  | _ => false

/-- The cluster holds an item of priority above `pri` in a ready list or Running (R245). -/
def State.higherWork (s : State) (k pri : Nat) : Bool :=
  (List.range 8).any (fun lv => decide (pri < lv) && s.rlist (k * 8 + lv) != []) ||
    (List.range 8).any (fun j => match (s.eng (8 * k + j)).hold with
      | some c => decide (pri < (s.ctx c).pri)
      | none => false)

/-- `prog` of an operation (Table 7 of chapter 6). -/
def Op.progress (o : Op) : Word64 :=
  match o.req.kind with
  | .stream => BitVec.ofNat 64 (o.pkts * 2 ^ 32 + o.moved)
  | .gather => BitVec.ofNat 64 (o.pos.elem * 2 ^ 40 + o.moved)
  | .scatter => BitVec.ofNat 64 (o.pos.elem * 2 ^ 40 + o.moved)
  | _ => BitVec.ofNat 64 (o.ivs * 2 ^ 32 + o.moved)

/-- The operation leaves its context: its final progress goes to `prog` (R186), its bytes to the activation's count. -/
def State.opOut (s : State) (c : Nat) : State :=
  match (s.ctx c).op with
  | none => s
  | some o => (s.modCtx c (fun x => if o.resumable then { x with prg := o.progress } else x)).dropOp c

/-- A ROM program notes the result of a bus operation, `none` for one that CANCEL cut (R188). -/
def Ctx.romNote (x : Ctx) (k : Option Nat) : Ctx := if 128 ≤ x.prog then { x with rom := x.rom ++ [k] } else x

/-- CANCEL has stopped the operation: `st` OK with the bytes moved, OP and PKT cleared, C = 1 (R219). -/
def State.cancelled (s : State) (c : Nat) : State :=
  match (s.ctx c).op with
  | none => s
  | some o =>
    (((s.semLeave c).opOut c).modCtx c (fun x =>
      { (x.romNote none).setSt stOk o.moved with c := true, evOp := false, evPkt := false, opRes := none })).wake c

/-- OUT data leaves the landing buffer, sent or discarded (R337). -/
def State.outGone (s : State) (c k : Nat) : State :=
  match (s.ctx c).op with
  | none => s
  | some o =>
    let m := max 1 (s.epInfo o.ep).mps
    let n := s.coming c
    let g := o.outGran m (o.buf.length + n) - { o with ivBytes := o.ivBytes + k }.outGran m ((o.buf.drop k).length + n)
    (s.lbFree (s.ctx c).slice g).modOp c (fun o => { o with buf := o.buf.drop k })

/-- The request of `c` ends with XACT_ERR, which is counted (R321). -/
def State.xactEnd (s : State) (n c : Nat) : State := (s.opResult c stXactErr).addF (.portXerr n) PORT_XERR.ENDED 1

/-- An isochronous run ends with its final code (R215). -/
def State.runEnd (s : State) (c : Nat) : State :=
  match (s.ctx c).op with
  | none => s
  | some o =>
    if o.missed then s.opResult c stMissed else if o.xact then s.xactEnd o.port c else s.opResult c stOk

/-- An interval ends with a code: result word, position, count, PKT; OUT data of it that was not sent is discarded; the
run ends with its last interval (R214, R215). -/
def State.ivEnd (s : State) (c code : Nat) : State :=
  match (s.ctx c).op with
  | none => s
  | some o =>
    let w := code + (o.ivAt - 1) % 65536 * 65536 + o.ivBytes * 2 ^ 32
    let s := if o.req.results = 0 then s
      else s.postWrite c (o.req.results + 8 * o.ivs) (leBytes 8 w) .intervalResult
    let s := if o.req.kind = .isoout then s.outGone c (o.req.len - o.ivBytes) else s
    let s := s.modOp c (fun o => { o with
      ivs := o.ivs + 1, pos := o.pos.advance (o.req.len - o.ivBytes), ivOpen := false, ivBytes := 0, ivCode := 0, bnd := true,
      missed := o.missed || decide (code = stMissed), xact := o.xact || decide (code = stXactErr) })
    match (s.ctx c).op with
    | some o =>
      if o.ivs ≠ o.req.count then s else s.runEnd c
    | none => s

/-- The operation is held at a boundary; for a freeze its request also leaves the sequencer's queue (R245, R368, R369). -/
def State.hold (s : State) (c : Nat) (o : Op) : State :=
  let frozen := s.frozen (s.ctx c).slice
  let s := s.modOp c (fun o => { o with held := true, stage := if frozen then .place else o.stage })
  if o.req.async || frozen then s
  else (s.modCtx c (fun x => { x with act := .suspended }))

/-- The operation sets PKT at its boundaries: a bulk mover at each packet, a run at the end of each interval (R213,
R215). -/
def Op.marks (o : Op) : Bool :=
  match o.req.kind with
  | .stream => true
  | .gather => true
  | .scatter => true
  | .isoin => true
  | .isoout => true
  | _ => false

/-- A boundary that the operation has passed is taken note of: PKT. -/
def State.markPkt (s : State) (c : Nat) : State :=
  s.modCtx c (fun x => match x.op with
    | some o => { x.modOp (fun o => { o with bnd := false }) with evPkt := x.evPkt || (o.bnd && o.marks) }
    | none => x)

/-- A data write of the operation has not been issued (R219). -/
def State.unissued (s : State) (c : Nat) : Bool := s.writes.any (fun w => w.ctx == c && w.cur && !w.issued)

/-- Something stops the operation at a boundary: an end condition, CANCEL or POST; the state after the stop (R183, R219,
R222). -/
def State.stops (s : State) (c : Nat) : Option State :=
  let x := s.ctx c
  match x.endCode, x.act with
  | some k, a => if s.midWay a then none else some (s.jobs [.ends c k])
  | none, .parked .cancel => some (if s.unissued c then s else s.cancelled c)
  | none, .parked (.post code) => some (s.jobs [.posts c code])
  | none, _ => none

/-- Something is to stop the operation at a boundary. -/
def State.stopping (s : State) (c : Nat) : Bool :=
  match (s.ctx c).endCode, (s.ctx c).act with
  | some _, a => !(s.midWay a)
  | none, .parked .cancel => true
  | none, .parked (.post _) => true
  | none, _ => false

/-- An interrupt IN that stops within a report hands on the packets that it has received (R208, R219); those of a report that is
to be sealed stay secret (R125). -/
def State.partFlush (s : State) (c : Nat) : State :=
  match (s.ctx c).op with
  | none => s
  | some o =>
    if s.inReport c then
      let e := s.epc o.ep
      let s := s.modEpc o.ep (fun e => { e with part := [], partGran := 0 })
      if (s.secOf o.ep).isSome then s.lbFree (s.ctx c).slice e.partGran
      else s.opWrite c (e.part.take o.req.len) (.data e.partGran)
    else s

/-- A freeze ends the interval of a run that is in progress, once no packet of it is on the wire, as MISSED (R369). -/
def State.freezeIv (s : State) (c : Nat) : State :=
  match (s.ctx c).op with
  | none => s
  | some o =>
    if s.frozen (s.ctx c).slice ∧ o.ivOpen ∧ s.onWire c = false ∧ o.result = none then s.ivEnd c stMissed else s

/-- The operation of `c` at a boundary: PKT where it has passed one; then what stops it acts, once nothing is under way;
else it is held for higher-priority work, at a boundary that it has passed, or by a freeze (R186, R245, R369). -/
def State.boundary (s : State) (c : Nat) : State :=
  let s := s.freezeIv c
  match (s.ctx c).op with
  | none => s
  | some o =>
    let s := if o.bnd then ((s.markPkt c).eventAt c 0).settle else s
    let s := if s.stopping c && !(s.onWire c) then s.partFlush c else s
    match s.stops c with
    | some t => if s.underWay c then s else t
    | none =>
      let x := s.ctx c
      if o.result ≠ none ∨ o.held then s
      else if s.frozen x.slice ∧ (o.bnd ∨ s.underWay c = false) then s.hold c o
      else if o.bnd ∧ o.resumable ∧ s.higherWork x.cluster x.pri then s.hold c o
      else s.lookAhead c

def execBusOperationBoundary (c : Nat) (s : State) : Host.Outcome State Fault Refusal :=
  onDevice (fun s => (s.takeOnChip c).boundary c) s

/-! ## The end of an operation (R216) -/

/-- The history count of the endpoint after a result (R323). -/
def histAfter (o : Op) (e : Ep) (code : Nat) : Nat :=
  if code = stStall ∨ code = stBabble ∨ code = stXactErr then 0
  else if o.inClass e ∧ (code = stOk ∨ code = stShort) then min 64 (e.hist + 1) else e.hist

/-- The operation is the STATUS of a SET_ADDRESS that has succeeded, which finds no context for the device (R46). -/
def State.unaddressed (s : State) (c : Nat) (o : Op) (code : Nat) : Bool :=
  o.req.kind == .status && code == stOk && !o.cut && match (s.ctx c).seqOn o.req.handle with
    | some p => s.noContext o.ep p
    | none => false

/-- What a result changes at the endpoint and in the control sequence: history, the dirty state that a SETUP clears
(R266), the sequence that a STATUS closes (R207). -/
def State.opClose (s : State) (c : Nat) (o : Op) (code : Nat) : State :=
  let s := s.modEpc o.ep (fun e =>
    { e with hist := histAfter o e code,
             dirty := if o.req.kind = .setup ∧ code = stOk then false else e.dirty })
  let s := s.modCtx c (fun x => x.romNote (if o.cut then none else some code))
  if o.req.kind = .status then
    let s := match (s.ctx c).seqOn o.req.handle with
      | some p => if isSetAddress p ∧ code = stOk ∧ o.cut = false then s.addressed o.ep p else s
      | none => s
    s.modCtx c (fun x => x.closeSeq o.req.handle)
  else s

/-- The outstanding operation ends: an end condition that waits for it acts (R182); else its result goes to `st` of an item
that is parked on it, which becomes ready, or it sets OP (R209, R210, R216). A suspended item: log entry 96. -/
def State.opEnd (s : State) (c code : Nat) : State :=
  let x := s.ctx c
  match x.op with
  | none => s
  | some o =>
    let lost := s.unaddressed c o code
    let s := (s.opClose c o code).opOut c
    if lost then (s.jobs [.asks c stAborted]).hubPortOff (o.ep - 32768) else
    let done (s : State) : State := match x.endCode with
      | some k => s.jobs [.ends c k]
      | none => s
    match x.act with
    | .parked .op => (s.modCtx c (fun y => y.setSt code o.moved)).wake c
    | .parked (.prior r) =>
      let s := s.modCtx c (fun y => { y.setSt code o.moved with evOp := false, evPkt := false, opRes := none })
      if x.endCode = none then s.busCheck c r else done s
    | .parked .cancel =>
      (s.modCtx c (fun y => { y.setSt (if o.cut then stOk else code) o.moved with
        c := o.cut, evOp := false, evPkt := false, opRes := none })).wake c
    | .parked (.post k) => if x.endCode = none then s.jobs [.posts c k] else done s
    | .parked .ending => done s
    | .suspended => (s.modCtx c (fun y => y.setSt code o.moved)).wake c
    | _ => (s.modCtx c (fun y => { y with opRes := some (code, o.moved), evOp := true })).eventAt c 0 |>.settle

def execBusOperationEnd (c : Nat) (s : State) : Host.Outcome State Fault Refusal :=
  onDevice (fun s =>
    let s := s.takeOnChip c
    match (s.ctx c).op with
    | some o => match o.result with
      | some code => if s.onWire c then s else (s.markPkt c).opEnd c code
      | none => s
    | none => s) s

/-! ## CANCEL (R219) -/

/-- CANCEL: an operation that has ended gives its own result; one that is outstanding stops at its next boundary; with
none, nothing changes but C. -/
def State.doCancel (s : State) (c : Nat) : State :=
  let s := s.modCtx c (fun x => { x.step1 with c := false })
  let x := s.ctx c
  match x.op with
  | none =>
    match x.opRes with
    | some r => s.modCtx c (fun x => { x.setSt r.1 r.2 with evOp := false, evPkt := false, opRes := none })
    | none => s
  | some o =>
    match o.result with
    | some code =>
      let lost := s.unaddressed c o code
      let s := ((s.opClose c o code).opOut c).modCtx c (fun x =>
        { x.setSt code o.moved with evOp := false, evPkt := false, opRes := none })
      if lost then (s.jobs [.asks c stAborted]).hubPortOff (o.ep - 32768) else s
    | none =>
      let s := (s.modOp c (fun o => { o with cut := true })).park c .cancel
      if s.underWay c ∨ s.unissued c then s else s.cancelled c

def execCancel (c : Nat) (s : State) : Host.Outcome State Fault Refusal :=
  kwarvoS c (wordN 0x2B) (fun s => s.doCancel c) s

end Sys2Proof.Machine
end

