-- ==== Sys2Proof/Machine/Engines.lean ====
section
/-!
DEFINITION. Engines and dispatch (R228 to R258), work stealing, the semaphore registers (R259 to R263), stalemates
(R267 to R270).
-/
namespace Sys2Proof.Machine

/-! ## Engines (R235, R242 to R246, R385) -/

/-- A doze item is placed on a free engine of a pair whose domain is PENDING (R385). -/
def State.dozePlace (s : State) (te : Nat) : State :=
  if s.getF (.pwrSts (te / 2)) PWR_STS.STATE = 1 ∧ s.eng te = Eng.free then s.setEng te ⟨none, true, false, false⟩ else s

/-- The engine has written its activation back, and is free (R235). Every cluster dispatches: the occupancy of the slice
has fallen too, which may have made an item eligible in another cluster (R233, R234; log entry 85). -/
def execEngineFree (te : Nat) (s : State) : Host.Outcome State Fault Refusal :=
  onDevice (fun s =>
    if (s.eng te).wb then ((s.setEng te Eng.free).dozePlace te).dispatchAll else s) s

/-- Eligible items of priority above `pri` in the cluster's ready lists (R243). -/
def State.eligibleAbove (s : State) (k pri : Nat) : Nat :=
  ((List.range 8).map (fun lv => if pri < lv then ((s.rlist (k * 8 + lv)).filter (fun c => s.eligible c)).length else 0)).sum

/-- Engines of the cluster that have been handed to waiting items: those of preempted activations, on their write-back. -/
def State.handedN (s : State) (k : Nat) : Nat := ((List.range 8).filter (fun j => (s.eng (8 * k + j)).handed)).length

/-- The item that runs on the engine gives it up at its quantum: higher work waits to which no engine of the cluster has been
handed, and none is free (R243); or the engine's domain is PENDING (R385). -/
def State.preempts (s : State) (te c : Nat) : Bool :=
  s.getF (.pwrSts (te / 2)) PWR_STS.STATE == 1 ||
    (decide (s.handedN (te / 8) < s.eligibleAbove (te / 8) (s.ctx c).pri) && (s.freeEng (te / 8)).isNone)

def execQuantumPreempt (te : Nat) (s : State) : Host.Outcome State Fault Refusal :=
  onDevice (fun s =>
    match (s.eng te).hold with
    | some c =>
      if (s.eng te).doze = false ∧ s.preempts te c then
        let w := s.getF (.pwrSts (te / 2)) PWR_STS.STATE == 1
        (s.toHead c).modEng te (fun e => { e with handed := !w })
      else s
    | none => s) s

/-- No item of higher priority is left in the cluster: a suspended item joins the head of its level; an operation held
for an item that was not parked on it goes on (R246). -/
def execSuspendLeave (c : Nat) (s : State) : Host.Outcome State Fault Refusal :=
  onDevice (fun s =>
    let x := s.ctx c
    if s.higherWork x.cluster x.pri ∨ s.frozen x.slice then s
    else match x.act, x.op with
      | .suspended, _ => s.join c true
      | _, some o => if o.held ∧ o.req.async then (s.modOp c (fun o => { o with held := false })).lookAhead c else s
      | _, none => s) s

/-! ## Stealing (R247 to R255) -/

/-- Eligible items in a cluster's ready lists. -/
def State.eligibleN (s : State) (k : Nat) : Nat :=
  ((List.range 8).map (fun lv => ((s.rlist (k * 8 + lv)).filter (fun c => s.eligible c)).length)).sum

/-- The cluster is idle (R247). -/
def State.clIdle (s : State) (k : Nat) : Bool :=
  s.flag .dspCtl DSP_CTL.STEAL_EN && (s.freeEng k).isSome && s.eligibleN k == 0

/-- Entry `j` of a cluster's neighbour order. -/
def State.neighbour (s : State) (k j : Nat) : Nat := (s.rd (.dspClNbr k)).toNat / 32 ^ j % 32

/-- The candidate victims of a thief, in its neighbour order (R248). -/
def State.victims (s : State) (k : Nat) : List Nat :=
  ((List.range (s.getF .dspCtl DSP_CTL.SPAN + 1)).map (s.neighbour k)).filter (fun v =>
    (s.freeEng v).isNone && s.eligibleN v != 0)

/-- The earliest element with the greatest value. -/
def bestBy (f : Nat → Nat) : List Nat → Option Nat
  | [] => none
  | a :: t => match bestBy f t with
    | none => some a
    | some b => if f a < f b then some b else some a

/-- One steal by cluster `k` (R248, R249, R254). -/
def State.steal (s : State) (k : Nat) : State :=
  match bestBy s.eligibleN (s.victims k) with
  | none => s
  | some v =>
    match s.topItem v 8 with
    | none => s
    | some c =>
      let s := (s.addF (.dspClSteal k) DSP_CL_STEAL.IN 1).addF (.dspClSteal v) DSP_CL_STEAL.OUT 1
      let s := s.modStolenOf (k * 32 + v) (· + 1)
      ((s.unready c).modCtx c (fun x => { x with cluster := k })).joinTail c

def execSteal (k : Nat) (s : State) : Host.Outcome State Fault Refusal :=
  onDevice (fun s => if s.clIdle k then s.steal k else s) s

/-- A cluster put in its place: most stolen first, ties in the order given. -/
def rankIn (f : Nat → Nat) (a : Nat) : List Nat → List Nat
  | [] => [a]
  | b :: t => if f b ≤ f a then a :: b :: t else b :: rankIn f a t
def rankAll (f : Nat → Nat) : List Nat → List Nat
  | [] => []
  | a :: t => rankIn f a (rankAll f t)

/-- The neighbour order of a cluster by what it has stolen in the period (R255). -/
def State.resort (s : State) (k : Nat) : State :=
  let f := fun v => s.stolenOf (k * 32 + v)
  s.wr (.dspClNbr k) (BitVec.ofNat 64 (packOrder (rankAll f (staticOrder k))))

/-- The end of a re-sort period: what has been stolen in it counts, and the next period begins (R255). -/
def execNeighbourResort (s : State) : Host.Outcome State Fault Refusal :=
  onDevice (fun s =>
    { (if s.flag .dspCtl DSP_CTL.ADAPT then forN 20 (fun k s => s.resort k) s else s) with stolen := [] }) s

/-- A write to `DSP_CTL`; `ADAPT` going to 0 restores the static order at the next tick (R255), which the effective
copy remembers. -/
def State.wrDspCtl (s : State) (v : Word64) : State :=
  let was := s.flag .dspCtl DSP_CTL.ADAPT
  let s := s.plainWrite .dspCtl v
  if was && !(s.flag .dspCtl DSP_CTL.ADAPT) then s.wrE .dspCtl (s.rd .dspCtl) else s

/-- The tick's part: the static order restored (R255). -/
def State.enginesTick (s : State) : State :=
  if s.getE .dspCtl DSP_CTL.ADAPT = 0 then
    (forN 20 (fun k s => s.resetReg (.dspClNbr k)) s).wrE .dspCtl (Reg.resetVal .dspCtl)
  else s

/-! ## Semaphore registers (R259, R262) -/

/-- A write to `SEM_CFGi`: at once; an access violation while the semaphore is held, waited for or arbitrated. -/
def State.wrSemCfg (s : State) (q : Requester) (i : Nat) (v : Word64) : State :=
  if (s.sem i).owner ≠ none ∨ (s.sem i).queue ≠ [] ∨ s.flag (.semCfg i) SEM_CFG.ARB then s.violation q (Reg.loc (.semCfg i))
  else s.plainWrite (.semCfg i) v

def execSemCfgWrite (q : Requester) (i : Nat) (v : Word32) (s : State) : Host.Outcome State Fault Refusal :=
  onDevice (fun s => s.gate q (.semCfg i) (fun s => s.wrSemCfg q i (v.setWidth 64))) s

/-- A write to `SEM_CTL`: RELEASE, or nothing but the field `SEM`. -/
def State.wrSemCtl (s : State) (v : Word64) : State :=
  let s := s.setF .semCtl SEM_CTL.SEM (SEM_CTL.SEM.get v)
  if SEM_CTL.CMD.get v = 1 then s.semForce (SEM_CTL.SEM.get v) else s

def execSemCtlRelease (q : Requester) (i : Nat) (s : State) : Host.Outcome State Fault Refusal :=
  onDevice (fun s => s.gate q .semCtl (fun s => s.wrSemCtl (BitVec.ofNat 64 (2 ^ 28 + i % 1024)))) s

/-! ## Stalemates (R267 to R269) -/

/-- The members of the family that holds a token, as far as the token's handle is their current one. -/
def State.tokenHolders (s : State) (k : Nat) : List Nat :=
  match (s.token k).fam with
  | none => []
  | some f => (s.ctxs.filter (fun p => p.2.going && p.2.root p.1 == f && p.2.slice == k / 65536 &&
      p.2.cur == some (k % 65536))).map Prod.fst

/-- The contexts that a parked context waits for, if it is parked in one of the ways of R267. -/
def State.waitsFor (s : State) (c : Nat) : Option (List Nat) :=
  let x := s.ctx c
  match x.act with
  | .parked w =>
    match w with
    | .lock i => some (s.sem i).owner.toList
    | .token r => some (s.tokenHolders (hKey x.slice r.handle))
    | _ =>
      match x.op, s.opSem c with
      | some o, some i => if o.stage = .semaphore then some (s.sem i).owner.toList else none
      | _, _ => none
  | _ => none

/-- The wait has begun more than 1 ms ago. -/
def State.longWait (s : State) (c : Nat) : Bool := decide ((s.ctx c).since + 25000 < s.now)

/-- Contexts reached from a list through waits; `none` if one of them is not in a long wait. -/
def State.reachWaits (s : State) : Nat → List Nat → List Nat → Option (List Nat)
  | 0, _, seen => some seen
  | _ + 1, [], seen => some seen
  | f + 1, c :: t, seen =>
    if c ∈ seen then s.reachWaits f t seen
    else match s.waitsFor c with
      | some l => if s.longWait c then s.reachWaits f (l ++ t) (c :: seen) else none
      | none => none

/-- The stalemate that context `c` belongs to: everything it reaches waits, and reaches it back. -/
def State.stalemateOf (s : State) (c : Nat) : Option (List Nat) :=
  match s.waitsFor c with
  | none => none
  | some l =>
    match s.reachWaits 20000 l [] with
    | none => none
    | some set =>
      if c ∈ set ∧ s.longWait c ∧ set.all (fun d => match s.waitsFor d with
          | some m => match s.reachWaits 20000 m [] with
            | some r => decide (c ∈ r)
            | none => false
          | none => false) then some set
      else none

/-- The member whose wait started last; of several, the one with the highest number. -/
def State.victimOf (s : State) (set : List Nat) : Option Nat := bestBy (fun d => (s.ctx d).since * 16384 + d) set

/-- The victims of all stalemates: one of each disjoint set; their order: log entry 96. -/
def State.staleVictims (s : State) : List Nat :=
  (((FMap.keys s.ctxs).filterMap (fun c => (s.stalemateOf c).bind s.victimOf)).eraseDups)

/-- The semaphores of a victim whose end waits for its operation are released at once, as abandoned (R262, R269). -/
def State.staleFree (s : State) (c : Nat) : State :=
  let x := s.ctx c
  if x.going then
    let p := (s.modCtx c (fun x => { x with locks := [], arbs := [] })).semDrops true (x.locks ++ x.arbs)
    p.1.jobs p.2
  else s

/-- A victim of slice `sl` is recorded (R269). -/
def State.staleNote (s : State) (c sl : Nat) : State :=
  let s := ((s.setF .dspStale DSP_STALE.SLICE sl).setF .dspStale DSP_STALE.CTX c).set1 .dspStale DSP_STALE.VALID
  ((s.addF .dspStaleCnt DSP_STALE_CNT.COUNT 1).irqWake 314).faultEvent 53 sl c false

/-- The dispatcher looks for stalemates: at a Clock tick, once (R268, R270). Victims and their slices are noted before any
of them ends, all of them are asked to end, as any activation whose operation may be on the wire, and then they are recorded
(R183, R269). -/
def execStalemateDetection (s : State) : Host.Outcome State Fault Refusal :=
  onDevice (fun s =>
    if s.atTick ∧ s.staleSeen ≠ s.aon.clockCount then
      let l := s.staleVictims.map (fun c => (c, (s.ctx c).slice))
      let s := { s with staleSeen := s.aon.clockCount }.jobs (l.map (fun (q : Nat × Nat) => Job.asks q.1 stStalemate))
      forL l (fun q s => s.staleNote q.1 q.2) (forL l (fun q s => s.staleFree q.1) s)
    else s) s

end Sys2Proof.Machine
end

