-- ==== Sys2Proof/Machine/Board.lean ====
section
/-!
DEFINITION. The Board (R275 to R295): costs and limits, frame plans of transaction translators, admission of
reservations, the building of a file, commit and replay. Times are in units of 1/240 ns (R282), loads in the units of
Table 5.
-/
namespace Sys2Proof.Machine

/-! ## Costs (R282) -/

/-- S(b). -/
def sCost (b : Nat) : Nat := (7 * b + 5) / 6

/-- Units of 1/240 ns: a high-speed and a full-speed byte time, a rank, a microframe. -/
def hsByte : Nat := 4000
def fsByte : Nat := 160000
def rankTime : Nat := 468750
def mfTime : Nat := 30000000

/-- A SuperSpeed byte by `PORT_STS.SSPEED`. -/
def ssByte (gen : Nat) : Nat :=
  match gen with
  | 2 => 198
  | 3 => 240
  | 4 => 99
  | _ => 480

/-- SuperSpeed limit per bus interval, in SS bytes (R283). -/
def ssLimit (gen : Nat) : Nat :=
  match gen with
  | 2 => 136363
  | 3 => 112500
  | 4 => 272727
  | _ => 56250

/-- A burst of `k` packets totalling `b` bytes. -/
def burstCost (b k : Nat) : Nat := b + 32 * k + 64

/-- Cost on a full-speed bus or in a TT. -/
def fsCost (iso low : Bool) (b : Nat) : Nat :=
  if iso then 12 + sCost b else if low then 8 * (14 + sCost b) else 14 + sCost b

/-- Cost of a high-speed transaction. -/
def hsCost (iso : Bool) (b : Nat) : Nat := (if iso then 38 else 55) + sCost b

/-! ## What a reservation puts on the bus -/

/-- How a device is reached: 0 SuperSpeed, 1 high speed, 2 behind a TT, 3 on a full-speed or low-speed segment. -/
def Dev.way (d : Dev) : Nat := if d.ss then 0 else if d.speed = 3 then 1 else if d.ttHub = none then 3 else 2

/-- A reservation with its key and all that placements need of its endpoint. -/
structure Booked where
  key : Nat
  ep : Nat
  way : Nat
  iso : Bool
  dirIn : Bool
  low : Bool
  mps : Nat
  tt : Nat
  bytes : Nat
  interval : Nat
  phase : Nat
  gen : Nat
  deriving DecidableEq, Repr

/-- Handled interval (R280). -/
def handled (way i : Nat) : Nat := if 2 ≤ way ∧ i < 8 then 8 else i

/-- The TT of a device as one number: hub device ID, then hub port. -/
def Dev.ttOf (d : Dev) : Nat := d.ttHub.getD 0 * 64 + d.ttPort

/-- A reservation as booked. -/
def State.booked (s : State) (k : Nat) (v : Resv) : Booked :=
  let e := s.epInfo v.ep
  let d := s.epDev v.ep
  ⟨k, v.ep, d.way, e.typ == 1, e.dirIn, d.speed == 1, max 1 e.mps, d.ttOf, v.bytes, handled d.way v.interval, v.phase,
    v.gen⟩

/-- The reservations of a set on port `n`: isochronous first, then interrupt, each in ascending endpoint context. -/
def State.bookedOn (s : State) (m : FMap Resv) (n : Nat) : List Booked :=
  sortUp (fun b => (if b.iso then 0 else 2 ^ 20) + b.ep)
    ((m.filter (fun q => q.2.live && (s.epDev q.2.ep).port == n)).map (fun q => s.booked q.1 q.2))

/-- Due in microframe `m` with offset `o`, at interval `i` (R279). -/
def dueAt (m : Nat) (o : Int) (phase i : Nat) : Bool := (m - o - phase : Int) % (max 1 i : Nat) == 0

/-- The payloads of the transactions of a high-bandwidth interval. -/
def txnBytes (m : Nat) : Nat → Nat → List Nat
  | 0, _ => []
  | f + 1, b => if b ≤ m then [b] else m :: txnBytes m f (b - m)

/-- A placement before it has its rank: its reservation, kind, offset, cost in units of Table 5, payload, duration. -/
structure Place where
  book : Booked
  kind : Nat
  ofs : Nat
  cost : Nat
  bytes : Nat
  dur : Nat
  deriving DecidableEq, Repr

/-- A placement on the 2.0 line of a high-speed segment. -/
def hsPlace (b : Booked) (kind ofs cost bytes : Nat) : Place := ⟨b, kind, ofs, cost, bytes, cost * hsByte⟩

/-- Kind of a transaction (Table 3). -/
def txnKind (b : Booked) : Nat := (if b.iso then 0 else 2) + (if b.dirIn then 0 else 1)

/-- The transactions of a high-speed reservation in one service microframe. -/
def hsPlaces (b : Booked) : List Place :=
  (txnBytes b.mps 64 b.bytes).map (fun n => hsPlace b (txnKind b) 1 (hsCost b.iso n) n)

/-- Packets of a burst. -/
def Booked.packets (b : Booked) : Nat := ceilDiv b.bytes b.mps

/-- The burst of a SuperSpeed reservation in one service interval; `COST` in units of 32 B. -/
def ssPlace (gen : Nat) (b : Booked) : Place :=
  let c := burstCost b.bytes b.packets
  ⟨b, if b.dirIn then 0xA else 0xB, 1, ceilDiv c 32, b.bytes, c * ssByte gen⟩

/-- The transaction of a reservation on a full-speed or low-speed segment. -/
def fsPlace (b : Booked) : Place :=
  let c := fsCost b.iso b.low b.bytes
  ⟨b, txnKind b, 1, c, b.bytes, c * fsByte⟩

/-! ### Frame plans (R284, R285) -/

/-- Positions of the transactions of a TT in a frame: reservation, start, cost. -/
def planFrom : Nat → List Booked → List (Booked × Nat × Nat)
  | _, [] => []
  | p, b :: t =>
    let c := fsCost b.iso b.low b.bytes
    (b, p, c) :: planFrom (p + c) t

/-- A TT's reservations that frame `f` of the cycle plans for; one of an interval above 256 counts in every cycle. -/
def planOf (l : List Booked) (tt f : Nat) : List (Booked × Nat × Nat) :=
  planFrom 0 (l.filter (fun b => b.way == 2 && b.tt == tt && dueAt (8 * f) 0 b.phase (min 256 b.interval)))

/-- The end of a plan. -/
def planEnd (p : List (Booked × Nat × Nat)) : Nat := (p.map (fun x => x.2.1 + x.2.2)).foldl max 0

/-- The split placements of one transaction (Table 7), with `OFS` = offset + 1. -/
def splitPlaces (x : Booked × Nat × Nat) : List Place :=
  let b := x.1
  let ys := x.2.1 / 188
  let ye := (x.2.1 + x.2.2 - 1) / 188
  let cs (last kind cost n : Nat) : List Place :=
    (List.range (last - ys)).map (fun j => hsPlace b kind (ys + 2 + j) cost n)
  if b.iso then
    if b.dirIn then hsPlace b 6 ys 42 0 :: cs (ye + 2) 8 (59 + sCost 188) 188
    else (List.range (ceilDiv b.bytes 188)).map (fun j =>
      let n := min 188 (b.bytes - 188 * j)
      hsPlace b 7 (ys + j) (42 + sCost n) n)
  else if b.dirIn then hsPlace b 4 ys 59 0 :: cs (ye + 3) 8 (59 + sCost (min b.bytes 188)) (min b.bytes 188)
  else hsPlace b 5 ys (59 + sCost b.bytes) b.bytes :: cs (ye + 3) 9 59 0

/-- The TTs of a list of reservations, in ascending hub device ID and then hub port. -/
def ttsOf (l : List Booked) : List Nat := sortUp id (((l.filter (fun b => b.way == 2)).map Booked.tt).eraseDups)

/-- The split placements due in microframe `o − 1` of frame `f` (`OFS` = `o`), with the position of their transaction. -/
def splitsAt (l : List Booked) (f o : Nat) : List (Nat × Place) :=
  (ttsOf l).flatMap (fun tt => (planOf l tt f).flatMap (fun x =>
    ((splitPlaces x).filter (fun p => p.ofs == o)).map (fun p => (x.2.1, p))))

/-- The frames that have split placements in microframe `m`, with their `OFS`: `none` for the frame before frame 0. -/
def splitFrames (m : Nat) : List (Nat × Nat) :=
  [(m / 8, m % 8 + 1)] ++ (if m % 8 = 7 then [(m / 8 + 1, 0)] else []) ++
    (if m % 8 < 2 ∧ 8 ≤ m then [(m / 8 - 1, m % 8 + 9)] else [])

/-! ## Admission (R281, R283, R287) -/

/-- Whether a reservation breaks the packet limits of its endpoint (R281). -/
def packetsBad (b : Booked) : Bool :=
  if b.way = 0 then decide ((if b.iso then 48 else 3) < b.packets)
  else if b.way = 1 then decide (3 < b.packets)
  else decide (b.mps < b.bytes)

/-- Load of the 2.0 line in microframe `m` of the cycle, in HS byte times, and its placements. -/
def hsLoad (l : List Booked) (m : Nat) : Nat × Nat :=
  let own := (l.filter (fun b => b.way == 1 && dueAt m 0 b.phase (min 256 b.interval))).flatMap hsPlaces
  let spl := (splitFrames (m + 256)).flatMap (fun p => (splitsAt l (p.1 % 32) p.2).map Prod.snd)
  let all := own ++ spl
  ((all.map Place.cost).sum, all.length)

/-- Load of a SuperSpeed line in microframe `m` of the cycle, in SS bytes, and its placements. -/
def ssLoad (l : List Booked) (dirIn : Bool) (m : Nat) : Nat × Nat :=
  let own := l.filter (fun b => b.way == 0 && b.dirIn == dirIn && dueAt m 0 b.phase (min 256 b.interval))
  ((own.map (fun b => burstCost b.bytes b.packets)).sum, own.length)

/-- Load of a full-speed or low-speed segment in frame `f` of the cycle, in FS byte times. -/
def fsLoad (l : List Booked) (f : Nat) : Nat :=
  ((l.filter (fun b => b.way == 3 && dueAt (8 * f) 0 b.phase (min 256 b.interval))).map
    (fun b => fsCost b.iso b.low b.bytes)).sum

/-- The highest of a list of loads. -/
def peak (l : List Nat) : Nat := l.foldl max 0

/-- A line over the cycle against its limit: its highest load, or `none` where a microframe breaks a limit. -/
def lineFits (limit : Nat) (f : Nat → Nat × Nat) : Option Nat :=
  let l := (List.range 256).map f
  let p := peak (l.map Prod.fst)
  if p ≤ limit ∧ peak (l.map Prod.snd) ≤ 64 then some p else none

/-- Of two ratios the higher. -/
def ratioMax (a b : Nat × Nat) : Nat × Nat := if a.1 * b.2 < b.1 * a.2 then b else a

/-- The score of a set as the reservation `r` touches it: its highest load over limit, or `none` (R287). -/
def scoreOf (gen : Nat) (l : List Booked) (r : Booked) : Option (Nat × Nat) :=
  match r.way with
  | 0 => (lineFits (ssLimit gen) (ssLoad l r.dirIn)).map (fun p => (p, ssLimit gen))
  | 1 => (lineFits 6000 (hsLoad l)).map (fun p => (p, 6000))
  | 2 =>
    let e := peak ((List.range 32).map (fun f => planEnd (planOf l r.tt f)))
    if e ≤ 1316 then (lineFits 6000 (hsLoad l)).map (fun p => ratioMax (p, 6000) (e, 1316)) else none
  | _ =>
    let p := peak ((List.range 32).map (fsLoad l))
    if p ≤ 1350 then some (p, 1350) else none

/-- The phases that are tried. -/
def phases (r : Booked) : List Nat :=
  let n := min 256 r.interval
  if 2 ≤ r.way then (List.range (n / 8)).map (· * 8) else List.range n

/-- The best phase: the lowest score, ties to the lower phase. -/
def bestPhase (score : Nat → Option (Nat × Nat)) : List Nat → Option (Nat × (Nat × Nat))
  | [] => none
  | p :: t =>
    match score p, bestPhase score t with
    | none, b => b
    | some v, none => some (p, v)
    | some v, some (q, w) => if w.1 * v.2 < v.1 * w.2 then some (q, w) else some (p, v)

/-- The slice's sum of period units with the new reservation is within `PER` (R109). -/
def State.perFits (s : State) (k bytes interval : Nat) : Bool :=
  match s.perCap (k / 65536) with
  | none => true
  | some n =>
    let others := (s.resvP.map (fun q => if q.1 / 65536 = k / 65536 ∧ q.1 ≠ k ∧ q.2.live then
        ceilDiv q.2.bytes (16 * q.2.interval) else 0)).sum
    decide (others + ceilDiv bytes (16 * interval) ≤ n)

/-- The port's SuperSpeed generation. -/
def State.ssGen (s : State) (n : Nat) : Nat := s.getF (.portSts n) PORT_STS.SSPEED

/-- The phase at which a reservation is admitted, `none` for BANDWIDTH (R287). -/
def State.admitAt (s : State) (k : Nat) (v : Resv) : Option Nat :=
  let n := (s.epDev v.ep).port
  let b := s.booked k v
  let others := s.bookedOn (s.setRsvP k Resv.empty).resvP n
  let withR (p : Nat) : List Booked :=
    sortUp (fun b => (if b.iso then 0 else 2 ^ 20) + b.ep) ({ b with phase := p } :: others)
  if s.perFits k v.bytes v.interval = false ∨ packetsBad b then none
  else (bestPhase (fun p => scoreOf (s.ssGen n) (withR p) { b with phase := p }) (phases b)).map Prod.fst

/-- One RESERVE decided (R140, R287, R288). -/
def State.decideOne (s : State) (c : Nat) : State :=
  let x := s.ctx c
  let k := hKey x.slice x.ep
  let old := s.rsvP k
  let s := { s with deciding := s.deciding.filter (· != c) }
  let v : Resv := ⟨true, (s.attCfg x.slice x.ep).ep, (x.reg 1).toNat, (x.reg 2).toNat, 0,
    if old.live then (old.gen + 1) % 256 else 0⟩
  let s := match s.admitAt k v with
    | some p => (s.setRsvP k { v with phase := p }).finish c stOk 0 v.bytes
    | none => s.finish c stBandwidth 0 (s.reservedNow k)
  s.jobs [.pump x.slice x.ring]

/-- The planner pair that serves the endpoint of a waiting RESERVE. -/
def State.pairOf (s : State) (c : Nat) : Nat :=
  (s.epDev (s.attCfg (s.ctx c).slice (s.ctx c).ep).ep).port / 5

/-- The pair's domain is on (R295). -/
def State.pairOn (s : State) (j : Nat) : Bool := s.domLive (140 + j)

/-- Of the entries that reached the pair in one cycle, the one of the lowest slice (R288). -/
def State.firstOf (s : State) (c : Nat) (l : List Nat) : Nat :=
  l.foldl (fun a d => if (s.ctx d).slice < (s.ctx a).slice then d else a) c

def execReserveDecision (j : Nat) (s : State) : Host.Outcome State Fault Refusal :=
  onDevice (fun s =>
    if s.pairOn j then
      match s.deciding.filter (fun c => s.pairOf c == j) with
      | [] => s
      | c :: l => s.decideOne (s.firstOf c (l.filter (fun d => (s.ctx d).since == (s.ctx c).since)))
    else s) s

/-! ## Building a file (R290) -/

/-- The placement word of Table 2. -/
def placeWord (p : Place) (rank : Nat) : Word64 :=
  BitVec.ofNat 64 (p.book.ep % 2 ^ 15 * 2 ^ 49 + p.kind % 16 * 2 ^ 45 + rank % 64 * 2 ^ 39 + p.book.gen % 256 * 2 ^ 31 +
    p.ofs % 16 * 2 ^ 27 + p.cost % 2 ^ 11 * 2 ^ 16 + p.bytes % 2 ^ 16)

/-- Placements laid end to end from time `t`. -/
def layOut : Nat → List Place → List (Nat × Place)
  | _, [] => []
  | t, p :: l => (t, p) :: layOut (t + p.dur) l

/-- A line from its placements, each in the rank in which it starts, from rank 1 on. -/
def lineOf (l : List Place) : List (Word64 × Nat) :=
  (layOut rankTime l).map (fun q => (placeWord q.2 (q.1 / rankTime), q.2.book.key))

/-- The reservations from which the splits and segment placements of frame `f` are built, seen from tick `t`: the latest
set fixed belongs to frame (t + 3) / 8 (R286). -/
def State.frameSet (s : State) (t f : Nat) : FMap Resv := if f = (t + 3) / 8 then s.resvF else s.resvG

/-- Due in frame `f` at the interval at which it is really served (R280). -/
def inFrame (f : Nat) (b : Booked) : Bool := dueAt (8 * f) 0 b.phase b.interval

/-- The 2.0 line of port `n` in microframe `m`, built from tick `m − 2`. A placement of a full-speed or low-speed segment
has the offset of the microframe in which it starts (R277, R279). Splits stand by TT and position, start-splits of a transaction
before its complete-splits. -/
def State.build20 (s : State) (n m : Nat) : List (Word64 × Nat) :=
  let l := s.bookedOn s.resvE n
  let own := (l.filter (fun b => b.way == 1 && dueAt m 0 b.phase b.interval)).flatMap hsPlaces
  let spl := (splitFrames m).flatMap (fun p =>
    (splitsAt (s.bookedOn (s.frameSet (m - 2) p.1) n) (p.1 % 32) p.2).filter (fun x => inFrame p.1 x.2.book))
  let f := m / 8
  let seg := ((s.bookedOn (s.frameSet (m - 2) f) n).filter (fun b => b.way == 3 && inFrame f b)).map fsPlace
  let mine := (layOut rankTime seg).filter (fun q => q.1 / mfTime == m % 8)
  let place (x : Nat × Place) : Nat := (x.2.book.tt * 2048 + x.1) * 2 + (if 8 ≤ x.2.kind then 1 else 0)
  (lineOf (own ++ (sortUp place spl).map Prod.snd)).take 64 ++
    mine.map (fun q => (placeWord { q.2 with ofs := 1 + q.1 / mfTime } (q.1 % mfTime / rankTime), q.2.book.key))

/-- A SuperSpeed line of port `n` in microframe `m`. -/
def State.buildSS (s : State) (n m : Nat) (dirIn : Bool) : List (Word64 × Nat) :=
  lineOf (((s.bookedOn s.resvE n).filter (fun b => b.way == 0 && b.dirIn == dirIn && dueAt m 0 b.phase b.interval)).map
    (ssPlace (s.ssGen n)))

/-- Keys of a line and of a group's header in a slot. -/
def lineKey (m n line : Nat) : Nat := m % 16 * 64 + n * 3 + line
def hdrKey (m j : Nat) : Nat := m % 16 * 4 + j

/-- The builder of pair `j` writes its five files of the Board for `m`. -/
def State.buildGroup (s : State) (j m : Nat) : State :=
  forN 5 (fun f s =>
    let n := 5 * j + f
    let s := s.setBline (lineKey m n 0) (s.build20 n m)
    if n < 16 then (s.setBline (lineKey m n 1) (s.buildSS n m false)).setBline (lineKey m n 2) (s.buildSS n m true) else s) s

/-- `ROLEj`. -/
def State.role (s : State) (j : Nat) : Nat := s.getF .plnSts (PLN_STS.ROLE j)

/-- Planner `pl` is the builder, or the checker, of its pair. -/
def State.builder (s : State) (pl : Nat) : Bool := s.role (pl / 2) % 4 == (if pl % 2 = 0 then 0 else 1) ||
  s.role (pl / 2) == (if pl % 2 = 0 then 3 else 2)
def State.checker (s : State) (pl : Nat) : Bool := s.role (pl / 2) == (if pl % 2 = 0 then 1 else 0)

/-- A planner finishes the build under way; the checker has compared the copies, which are equal or not (R291). After a
mismatch the checker's copy is the one that will be executed (R294). -/
def execBoardBuildDone (pl : Nat) (equal : Bool) (s : State) : Host.Outcome State Fault Refusal :=
  onDevice (fun s =>
    let j := pl / 2
    let m := s.aon.clockCount + 2
    if (s.plan j).going ∧ s.pairOn j then
      if s.builder pl ∧ (s.plan j).built = false then
        (s.buildGroup j m).modPlan j (fun p => { p with built := true })
      else if s.checker pl ∧ (s.plan j).joined ∧ (s.plan j).checked = false then
        (if (s.plan j).swap then s.buildGroup j m else s).modPlan j (fun p => { p with checked := true, equal := equal })
      else s
    else s) s

/-! ## Commit, replay and roles at a tick (R292 to R295) -/

/-- The header of a group's Board. -/
def State.setHead (s : State) (j m : Nat) (replay unchk : Bool) : State :=
  s.setHdr (hdrKey m j) ⟨true, replay, unchk, m % 65536⟩

/-- The lines of a group, as file and line. -/
def groupLines (j : Nat) : List (Nat × Nat) :=
  (List.range 5).flatMap (fun f => (List.range (if 5 * j + f < 16 then 3 else 1)).map (fun l => (5 * j + f, l)))

/-- A placement of the Board 8 microframes earlier is kept in `m` (R293). -/
def State.keeps (s : State) (m : Nat) (q : Word64 × Nat) : Bool :=
  let v := s.rsvE q.2
  v.live && v.gen % 256 == opBits q.1 38 31 &&
    dueAt m ((opBits q.1 30 27 : Int) - 1) v.phase (handled (s.epDev v.ep).way v.interval)

/-- Replay of `m`: the filtered Board of `m − 8`, or empty files (R293). -/
def State.replayGroup (s : State) (j m : Nat) : State :=
  let h := s.hdr (hdrKey (m + 8) j)
  let has := h.valid && h.mf == (m + 65536 - 8) % 65536
  (forL (groupLines j) (fun p s =>
    s.setBline (lineKey m p.1 p.2)
      (if has then (s.bline (lineKey (m + 8) p.1 p.2)).filter (s.keeps m) else [])) s).setHead j m true false

/-- A group whose pair's domain is not on has empty Boards (R295). -/
def State.emptyGroup (s : State) (j m : Nat) : State :=
  (forL (groupLines j) (fun p s => s.setBline (lineKey m p.1 p.2) []) s).setHdr (hdrKey m j) BoardHdr.empty

/-- The pair's domain is no longer on: its Boards are empty from now on, and nothing that was built is executed (R295). -/
def State.pairStop (s : State) (j : Nat) : State :=
  (s.emptyGroup j s.aon.clockCount).modPlan j (fun p => { p with going := false, built := false, checked := false, replay := true })

/-- Roles move at the tick after a mismatch, and at the tick after REINSTATE (R294). -/
def State.roleTick (s : State) (j : Nat) : State :=
  let p := s.plan j
  if p.swap then
    (s.setF .plnSts (PLN_STS.ROLE j) (if s.role j = 0 then 2 else if s.role j = 1 then 3 else s.role j)).modPlan j
      (fun p => { p with swap := false, built := p.checked, checked := false })
  else if p.rejoin ∧ 2 ≤ s.role j then s.setF .plnSts (PLN_STS.ROLE j) (if s.role j = 2 then 1 else 0)
  else s

/-- The fault that the outcome of Table 10 raises, if one: 50 where the builder was late, 51 for a mismatch. -/
def State.commitFault (s : State) (j : Nat) : Option Nat :=
  let p := s.plan j
  if p.going = false ∨ s.pairOn j = false then none
  else if p.built = false then some 50
  else if 2 ≤ s.role j ∨ p.joined = false ∨ p.checked = false ∨ p.equal then none
  else some 51

/-- The outcome of Table 10 for the Board of `m`, at the tick starting `m − 1`, but for its fault. -/
def State.commitTick (s : State) (j m : Nat) : State :=
  let p := s.plan j
  if p.going = false ∨ s.pairOn j = false then s.modPlan j (fun p => { p with replay := true })
  else if p.built = false then (s.addF .plnCnt PLN_CNT.OVR 1).modPlan j (fun p => { p with replay := true })
  else if 2 ≤ s.role j ∨ p.joined = false then
    (s.setHead j m false true).modPlan j (fun p => { p with replay := false })
  else if p.checked = false then
    ((s.satF .plnCnt PLN_CNT.CHKL 1).setHead j m false true).modPlan j (fun p => { p with replay := false })
  else if p.equal then (s.setHead j m false false).modPlan j (fun p => { p with replay := false })
  else
    (s.satF .plnCnt PLN_CNT.MIS 1).modPlan j (fun p => { p with replay := true, swap := true })

/-- A build starts for the Board of `m`: its slot is no longer valid (R278). A planner that has just come back is not
part of the comparison of this build (R294). -/
def State.startBuild (s : State) (j m : Nat) : State :=
  if s.pairOn j then
    ((s.traffic (140 + j)).modPlan j (fun p => { p with
      going := true, built := false, checked := false, equal := false, rejoin := false,
      joined := !p.rejoin && decide (s.role j < 2) })).modHdr (hdrKey m j) (fun h => { h with valid := false })
  else s.modPlan j (fun p => { p with going := false, built := false, checked := false, rejoin := false })

/-- Pair `j` at the tick that starts microframe `t`: replay or emptiness of `t`, roles. -/
def State.pairTick (s : State) (t j : Nat) : State :=
  let s := if s.pairOn j = false then s.emptyGroup j t
    else if (s.plan j).replay then s.replayGroup j t else s
  s.roleTick j

/-- The pending reservations become effective (R288, R289). -/
def State.resvTick (s : State) : State := { s with resvE := s.resvP.filter (fun q => q.2.live) }

/-- The set that is effective at the tick that starts microframe 8f − 3, after the changes of that tick, is the one from which
frame f is built (R286). -/
def State.resvFix (s : State) (t : Nat) : State :=
  if t % 8 = 5 then { s with resvG := s.resvF, resvF := s.resvE } else s

/-- The planners' part of the tick that starts microframe `t`: every pair commits `t + 1` and starts to build `t + 2`; the
faults come by ascending source (R436). -/
def State.boardTick (s : State) (t : Nat) : State :=
  let s := forN 4 (fun j s => s.pairTick t j) s
  let f (i : Nat) := (List.range 4).filter (fun j => s.commitFault j == some i)
  let raise (i : Nat) (s' : State) : State := forL (f i) (fun j s => s.faultEvent i j ((t + 1) % 2 ^ 32) false) s'
  forN 4 (fun j s => s.startBuild j (t + 2)) (raise 51 (raise 50 (forN 4 (fun j s => s.commitTick j (t + 1)) s)))

/-- REINSTATE acts at the next tick; it changes nothing where no planner is retired (R294). -/
def State.wrPlnCtl (s : State) (v : Word64) : State :=
  if PLN_CTL.CMD.get v = 1 ∧ 2 ≤ s.role (PLN_CTL.PAIR.get v) then
    s.modPlan (PLN_CTL.PAIR.get v) (fun p => { p with rejoin := true })
  else s

def execPlnReinstate (q : Requester) (j : Nat) (s : State) : Host.Outcome State Fault Refusal :=
  onDevice (fun s => s.gate q .plnCtl (fun s => s.wrPlnCtl (BitVec.ofNat 64 (2 ^ 28 + j % 4 * 2 ^ 26)))) s

end Sys2Proof.Machine
end

