-- ==== Sys2Proof/Machine/Idle.lean ====
section
/-!
DEFINITION. What happens while no command is waiting: one REF cycle passes (log entry 1).
-/
namespace Sys2Proof.Machine

/-- One word falls by one stage wherever the stage in front is empty, from the output end on (R315). -/
def fallOnce : List (Option (Word64 × Bool)) → List (Option (Word64 × Bool))
  | [] => []
  | [a] => [a]
  | none :: b :: t => b :: fallOnce (none :: t)
  | some a :: b :: t => some a :: fallOnce (b :: t)

/-- PCLK cycles in the REF cycle after `now`: 312.5 MHz are 25 in 2 REF cycles, 240 MHz are 48 in 5 (R31). -/
def pclkCycles (fast : Bool) (now : Nat) : Nat :=
  if fast then (now + 1) * 25 / 2 - now * 25 / 2 else (now + 1) * 48 / 5 - now * 48 / 5

/-- The port's PCLK runs at 312.5 MHz: its SuperSpeed link is in U0, U1 or U2, which P16 to P19 do not have (R31). -/
def State.pclkFast (s : State) (n : Nat) : Bool := decide (n < 16) && decide (s.pathSt n true = pEnabled)

/-- The words of a FIFO fall by one stage in each PCLK cycle (R315). -/
def fallCycle (k : Nat) (f : Fifo) : Fifo := { f with stages := (List.range k).foldl (fun l _ => fallOnce l) f.stages }

/-- The sources that are enabled for a pair: their registers are not at their reset value. -/
def State.enabledIrqs (s : State) : List Nat :=
  (s.regs.map (fun q => (q.1 - (Reg.icSrc 0).addr) / 4)).filter (fun i => decide (i < 412) && (s.irqEnabled false i || s.irqEnabled true i))

/-- Every pair in WFI that has an enabled source pending is woken (R421). -/
def State.wakeAll (s : State) : State := forL s.enabledIrqs (fun i s => s.irqWake i) s

/-- One REF cycle passes: the cycle within the microframe counts up to 3,124, where it stays until the tick
(R150, R271); words fall in the Packet Return FIFOs; movers look ahead (R336, R337); WFI wakes. -/
def State.idle (s : State) : State :=
  let s := if s.aon.refRunning then
      { s with aon := { s.aon with refCycle := min 3124 (s.aon.refCycle + 1) } } else s
  let s := { s with ports := s.ports.mapVals Port.init (fun n p =>
    { p with fifo := fallCycle (pclkCycles (s.pclkFast n) s.now) p.fifo }) }
  s.lookAheadAll.wakeAll

end Sys2Proof.Machine
end

