-- ==== Sys2Proof/Machine/Ports.lean ====
section
/-!
DEFINITION. Root ports (chapter 2): `PORT_CTL` requests and the path transitions of Table 3, over-current, gangs, link
power events, battery charging, test modes (R496).
-/
namespace Sys2Proof.Machine

/-! ## Shared operations -/

/-- The reset of a path: link-state fields of the path (R528), device addresses on its segment and `PORT_DEFR`, the
dirty state and the gambit history of its devices' endpoints (R266, R323). Which devices those are: log entry 90. -/
def State.pathReset (s : State) (n : Nat) (ss : Bool) : State :=
  let s := if ss then s else
    ((s.setF (.portLink n) PORT_LINK.BESL 0).setF (.portLink n) PORT_LINK.LPM_RESP 0).setF (.portLink n)
      PORT_LINK.LSTATE 0
  let ds := (s.devs.filter (fun q => q.2.live && q.2.port == n && q.2.ss == ss)).map Prod.fst
  let s := { s with
    eps := s.eps.mapVals Ep.empty (fun _ e => if e.dev ∈ ds then { e with dirty := false, hist := 0 } else e),
    devs := s.devs.mapVals Dev.empty (fun k d => if k ∈ ds then { d with addr := 0, ident := [], fresh := s.now } else d) }
  ((s.modEpc (32768 + n) (fun e => { e with dirty := false })).resetReg (.portDefr n)).dropHalves
    (fun a => a == (Reg.portDefr n).addr)

/-- A path enters RESETTING: bus reset, hot reset or warm reset (R51). -/
def State.startReset (s : State) (n : Nat) (ss warm : Bool) : State :=
  let s := (s.setPath n ss pResetting true).pathReset n ss
  s.modPath n ss (fun x => { x with warm := warm, chirp := false, l1Stall := false })

/-- The path's predictor returns to its defaults (R401). -/
def State.predReset (s : State) (n : Nat) (ss : Bool) : State :=
  let p := PWR_LPST.PRED.get (Reg.resetVal (.pwrLpst n ss.toNat))
  (((s.setF (.pwrLpst n ss.toNat) PWR_LPST.PRED p).clr1 (.pwrLpst n ss.toNat) PWR_LPST.WARM).setF (.pwrLpcnt n ss.toNat) PWR_LPCNT.INTERVALS 0).setPred (pKey n ss) Pred.init

/-- A path enters ENABLED from RESETTING or RESUMING; on USB 2.0 nothing but SOF is sent for 10 ms (R55). -/
def State.enterEnabled (s : State) (n : Nat) (ss : Bool) : State :=
  let s := if s.pathSt n ss = pResetting then s.predReset n ss else s
  let s := s.setPath n ss pEnabled true
  if ss then s.modPath n ss (fun x => { x with pollFails := 0 })
  else s.modPath n ss (fun x => { x with quiet := true })

/-- A path whose USB 2.0 side lies between QUALIFY and DISABLED (Table 3). -/
def pathAttached (st : Nat) : Bool := decide (2 ≤ st) && decide (st ≤ 8)

/-! ## `PORT_CTL` (R48, R51, R53, R496) -/

/-- The path that a request bit acts on, and the state it takes the path to: Table 3's software requests. Bits: 0
RESET, 1 WRESET, 2 SUSPEND, 3 RESUME, 4 DISABLE. -/
def reqTarget (bit : Nat) (ss : Bool) (st : Nat) : Option Nat :=
  match bit with
  | 0 =>
    if ss then (if st = pEnabled then some pResetting else none)
    else if st = pAttached ∨ st = pEnabled ∨ st = pSuspended ∨ st = pDisabled then some pResetting else none
  | 1 => if st = pQualify ∨ st = pEnabled ∨ st = pDisabled then some pResetting else none
  | 2 => if st = pEnabled then some pSuspended else none
  | 3 => if st = pSuspended then some pResuming else none
  | _ => if st = pEnabled then some pDisabled else none

/-- The state in which a software request is judged: the one that a condition of another precedence has moved the path out
of in this cycle, since they are decided together; else the present one (R52). -/
def State.judgedSt (s : State) (n : Nat) (ss : Bool) : Nat :=
  let x := s.path n ss
  if s.movedNow n ss ∧ x.prec ≠ precSw then x.was else s.pathSt n ss

/-- A software request that the path's state lists makes its transition `f`; one that a condition of higher precedence has
moved the path before is not taken, and has no change bit, and one of lower precedence is not taken after all (R52). -/
def State.softMove (s : State) (n : Nat) (ss : Bool) (f : State → State) : State :=
  let x := s.path n ss
  let was := s.judgedSt n ss
  if s.movedNow n ss ∧ x.prec < precSw then s
  else (f (if s.movedNow n ss ∧ precSw < x.prec then s.unmove n ss else s)).noteMove n ss was precSw

/-- A request that Table 3 lists for the state is taken; any other sets `REQ_IGN` (R47, R48). -/
def State.portReq (s : State) (n bit : Nat) (path : Bool) : State :=
  let ss := path || decide (bit = 1)
  match if ss && decide (16 ≤ n) then none else reqTarget bit ss (s.judgedSt n ss) with
  | none => s.set1 (.portSts n) PORT_STS.REQ_IGN
  | some t => s.softMove n ss (fun s =>
      if t = pResetting then s.startReset n ss (decide (bit = 1)) else s.setPath n ss t true)

/-- The path that a TEST code names: USB 2.0 for 1 to 5, SuperSpeed for 6 and 7 (Table 2 of chapter 18). -/
def testPath (code : Nat) : Option Bool :=
  if code = 0 ∨ 7 < code then none else some (decide (6 ≤ code))

/-- SuperSpeed link state of a test mode: Loopback, Compliance. -/
def testLink (code : Nat) : Nat := if code = 6 then 11 else 10

/-- A write of a TEST code other than 0 (R496). -/
def State.portTest (s : State) (n code : Nat) : State :=
  match testPath code with
  | none => s.set1 (.portSts n) PORT_STS.REQ_IGN
  | some ss =>
    let st := s.judgedSt n ss
    if ss && decide (16 ≤ n) then s.set1 (.portSts n) PORT_STS.REQ_IGN
    else if st = pEnabled ∨ st = pSuspended ∨ st = pDisabled ∨ st = pTest then
      s.softMove n ss (fun s =>
        let s := if ss ∧ s.pathSt n ss = pTest then s.checkerOff n else s
        let s := (s.setPath n ss pTest true).modPath n ss (fun x => { x with mode := code })
        if ss then s.setF (.portLink n) PORT_LINK.SLSTATE (testLink code) else s)
    else s.set1 (.portSts n) PORT_STS.REQ_IGN

/-- A root-port loopback stops where its stop has no count of its own (R493, R495). -/
def State.tstHalt (s : State) (n : Nat) : State :=
  if s.flag (.portTstSts n) PORT_TST_STS.RUN then
    (s.checkerOff n).clr1 (.portTstSts n) PORT_TST_STS.RUN
  else s

/-- `PP` stored, with what it brings about: 0 takes the paths to OFF, 1 stops a loopback; PWREN follows (R51, R53,
R495). -/
def State.portPp (s : State) (n : Nat) (pp : Bool) : State :=
  let s := s.setF (.portCtl n) PORT_CTL.PP pp.toNat
  let s := if pp then s.tstHalt n else s.toOff n true
  s.pwrMates n

/-- The request bits of a written word. -/
def reqBits (v : Word64) : List Nat := (List.range 5).filter (fun i => v.toNat.testBit i)

/-- A write to `PORT_CTL`: `PP` and `TEST` are stored; with `PP` = 0 the paths go to OFF and a request is judged only
for `REQ_IGN`; more than one request bit is ignored (R48, R52, R53). -/
def State.portCtlNow (s : State) (n : Nat) (v : Word64) : State :=
  let pp := PORT_CTL.PP.get v != 0
  let code := PORT_CTL.TEST.get v
  let s := s.setF (.portCtl n) PORT_CTL.TEST code
  let s := s.portPp n pp
  let s := if code = 0 then s else s.portTest n code
  match reqBits v with
  | [] => s
  | [b] => s.portReq n b (PORT_CTL.PATH.get v != 0)
  | _ => s.set1 (.portSts n) PORT_STS.REQ_IGN

/-- A write to `PORT_CTL`: of the register, whose request bits act only while the domain is ON, or of the saved copy (R391). -/
def State.wrPortCtl (s : State) (n : Nat) (v : Word64) : State :=
  if (s.savedCopy (.portCtl n)).isSome then s.copyWrite (.portCtl n) v
  else if s.domOn (80 + n) then s.portCtlNow n v
  else s.portCtlNow n (v &&& (PORT_CTL.PP.mask ||| PORT_CTL.TEST.mask))

/-- The word that leaves `PP` and `TEST` as they are, with other bits set. -/
def State.ctlWord (s : State) (n bits : Nat) : Word64 :=
  let v := s.shown (.portCtl n)
  BitVec.ofNat 64 (bits + PORT_CTL.PP.get v * 256 + PORT_CTL.TEST.get v * 65536)

def execPortCtlPpWrite (q : Requester) (n : Nat) (pp : Bool) (s : State) : Host.Outcome State Fault Refusal :=
  onDevice (fun s => s.gate q (.portCtl n) (fun s =>
    s.wrPortCtl n (BitVec.ofNat 64 (pp.toNat * 256 + PORT_CTL.TEST.get (s.shown (.portCtl n)) * 65536)))) s
def execPortCtlReset (q : Requester) (n : Nat) (ss : Bool) (s : State) : Host.Outcome State Fault Refusal :=
  onDevice (fun s => s.gate q (.portCtl n) (fun s => s.wrPortCtl n (s.ctlWord n (1 + 32 * ss.toNat)))) s
def execPortCtlSuspend (q : Requester) (n : Nat) (ss : Bool) (s : State) : Host.Outcome State Fault Refusal :=
  onDevice (fun s => s.gate q (.portCtl n) (fun s => s.wrPortCtl n (s.ctlWord n (4 + 32 * ss.toNat)))) s
def execPortCtlResume (q : Requester) (n : Nat) (ss : Bool) (s : State) : Host.Outcome State Fault Refusal :=
  onDevice (fun s => s.gate q (.portCtl n) (fun s => s.wrPortCtl n (s.ctlWord n (8 + 32 * ss.toNat)))) s
def execPortCtlDisable (q : Requester) (n : Nat) (ss : Bool) (s : State) : Host.Outcome State Fault Refusal :=
  onDevice (fun s => s.gate q (.portCtl n) (fun s => s.wrPortCtl n (s.ctlWord n (16 + 32 * ss.toNat)))) s
def execPortCtlWreset (q : Requester) (n : Nat) (s : State) : Host.Outcome State Fault Refusal :=
  onDevice (fun s => s.gate q (.portCtl n) (fun s => s.wrPortCtl n (s.ctlWord n 2))) s
def execPortCtlTestWrite (q : Requester) (n code : Nat) (s : State) : Host.Outcome State Fault Refusal :=
  onDevice (fun s => s.gate q (.portCtl n) (fun s =>
    s.wrPortCtl n (BitVec.ofNat 64 (PORT_CTL.PP.get (s.shown (.portCtl n)) * 256 + code % 16 * 65536)))) s

/-- What a path's PHY half senses on its lines; a half that is off holds them at high impedance, without terminations (R399).
A disconnect or a resume that wakes it is sensed once it is back (R398). -/
def State.senses (s : State) (n : Nat) (ss : Bool) (f : State → State) : State :=
  let d := if ss then 100 + n else 116 + n
  if (ss = false ∨ n < 16) ∧ (s.domSt d = dOff ∨ s.domSt d = dReturning) ∧ (s.dom d).target = 2 then s else f s

/-! ## Leaving OFF, attach and reset (R49, R51, R55, R56, R58) -/

/-- The wait of PGOOD ends: the path takes `SS_EN`, `DEBOUNCE` and `BC_MODE`, and leaves OFF (R49, R51, R71). -/
def State.leaveOff (s : State) (n : Nat) (ss : Bool) : State :=
  let bc := s.getF (.portCfg n) PORT_CFG.BC_MODE
  let en := s.flag (.portCfg n) PORT_CFG.SS_EN && decide (n < 16)
  if s.pathSt n ss = pOff ∧ s.ppEff n ∧ s.flag (.portTstSts n) PORT_TST_STS.RUN = false ∧ (ss = false ∨ (en ∧ bc ≠ 2)) then
    let s := (s.setPath n ss (if bc = 2 then pDcp else pDisconnected) true).noteMove n ss pOff precTimer
    s.modPath n ss (fun x => { x with ssEn := en, debounce := s.getF (.portCfg n) PORT_CFG.DEBOUNCE, bcMode := bc })
  else s

def execPgoodElapsed (n : Nat) (ss : Bool) (s : State) : Host.Outcome State Fault Refusal :=
  onDevice (fun s => s.leaveOff n ss) s

/-- An action on a path in one of some states. -/
def State.whenPath (s : State) (n : Nat) (ss : Bool) (ok : Nat → Bool) (f : State → State) : State :=
  if ok (s.pathSt n ss) then f s else s

def execUsb2Connect (n : Nat) (low : Bool) (s : State) : Host.Outcome State Fault Refusal :=
  onDevice (fun s => s.senses n false fun s => s.cond n false precTimer (· = pDisconnected) (fun s => s.set1 (.portSts n) PORT_STS.CSC) (fun s =>
    ((s.setPath n false pQualify true).modPath n false (fun x => { x with low := low })).set1 (.portSts n)
      PORT_STS.CSC)) s

def execDebounceExpiry (n : Nat) (s : State) : Host.Outcome State Fault Refusal :=
  onDevice (fun s => s.cond n false precTimer (· = pQualify) (fun s => s) (fun s =>
    s.setPath n false pAttached true)) s

/-- A device with a full-speed pull-up chirps during bus reset (R56). -/
def execDeviceChirp (n : Nat) (s : State) : Host.Outcome State Fault Refusal :=
  onDevice (fun s => s.whenPath n false (· = pResetting) (fun s =>
    s.modPath n false (fun x => if x.low then x else { x with chirp := true }))) s

/-- Speed code at the end of a bus reset: low by its pull-up, high by chirp, else full (R56). -/
def Path.speed (x : Path) : Nat := if x.low then 1 else if x.chirp then 3 else 2

def execBusResetEnd (n : Nat) (s : State) : Host.Outcome State Fault Refusal :=
  onDevice (fun s => s.cond n false precTimer (· = pResetting) (fun s => s.set1 (.portSts n) PORT_STS.RSC) (fun s =>
    ((s.enterEnabled n false).setF (.portSts n) PORT_STS.SPEED (s.path n false).speed).set1 (.portSts n)
      PORT_STS.RSC)) s

def execTrafficHoldEnd (n : Nat) (s : State) : Host.Outcome State Fault Refusal :=
  onDevice (fun s => s.modPath n false (fun x => { x with quiet := false })) s

/-! ## Suspend and resume (R51) -/

def execSuspendIdleL2 (n : Nat) (s : State) : Host.Outcome State Fault Refusal :=
  onDevice (fun s => s.whenPath n false (· = pSuspended) (fun s => s.setF (.portLink n) PORT_LINK.LSTATE 3)) s

def execDeviceResumeK (n : Nat) (s : State) : Host.Outcome State Fault Refusal :=
  onDevice (fun s => s.senses n false fun s => s.cond n false precTimer (· = pSuspended) (fun s => s.set1 (.portSts n) PORT_STS.LSC) (fun s =>
    (s.setPath n false pResuming false).set1 (.portSts n) PORT_STS.LSC)) s

def execResumeEnd (n : Nat) (s : State) : Host.Outcome State Fault Refusal :=
  onDevice (fun s => s.cond n false precTimer (· = pResuming) (fun s => s) (fun s => s.enterEnabled n false)) s

def execSsU3Wake (n : Nat) (s : State) : Host.Outcome State Fault Refusal :=
  onDevice (fun s => s.senses n true fun s => s.cond n true precTimer (· = pSuspended) (fun s => s.set1 (.portSts n) PORT_STS.SLSC) (fun s =>
    (s.setPath n true pResuming false).set1 (.portSts n) PORT_STS.SLSC)) s

def execSsResumeTimeout (n : Nat) (s : State) : Host.Outcome State Fault Refusal :=
  onDevice (fun s => s.cond n true precTimer (· = pResuming) (fun s => s.set1 (.portSts n) PORT_STS.SCSC) (fun s =>
    (s.setPath n true pDisconnected false).set1 (.portSts n) PORT_STS.SCSC)) s

/-! ## Disconnects (R51, R57) -/

/-- The SuperSpeed path returns to DISCONNECTED from QUALIFY to DISABLED. -/
def State.ssGone (s : State) (n : Nat) : State :=
  s.cond n true precGone pathAttached (fun s => s.set1 (.portSts n) PORT_STS.SCSC)
    (fun s => (s.setPath n true pDisconnected false).set1 (.portSts n) PORT_STS.SCSC)

/-- Test_Force_Enable reports a disconnect in `CSC` only (Table 2 of chapter 18). -/
def State.testGone (s : State) (n : Nat) : State :=
  if s.pathSt n false = pTest ∧ (s.path n false).mode = 5 then s.set1 (.portSts n) PORT_STS.CSC else s

def execUsb2Disconnect (n : Nat) (s : State) : Host.Outcome State Fault Refusal :=
  onDevice (fun s => s.senses n false fun s =>
    if pathAttached (s.pathSt n false) || ((s.path n false).moved == s.now + 1 && pathAttached (s.path n false).was) then
      (s.cond n false precGone pathAttached (fun s => s.set1 (.portSts n) PORT_STS.CSC) (fun s =>
        ((s.setPath n false pDisconnected false).modPort n (fun p => { p with vdm := false })).set1 (.portSts n)
          PORT_STS.CSC)).ssGone n
    else s.testGone n) s

def execFrameBabble (n : Nat) (s : State) : Host.Outcome State Fault Refusal :=
  onDevice (fun s => s.cond n false precBabble (· = pEnabled) (fun s => s.set1 (.portSts n) PORT_STS.PEC) (fun s =>
    (s.setPath n false pDisabled false).set1 (.portSts n) PORT_STS.PEC)) s

def execSsTerminationsAbsent (n : Nat) (s : State) : Host.Outcome State Fault Refusal :=
  onDevice (fun s => s.senses n true fun s => s.ssGone n) s

/-- The filtered FLIP input changes; P16 to P19 have none (R58). -/
def execFlipChange (n : Nat) (level : Bool) (s : State) : Host.Outcome State Fault Refusal :=
  onDevice (fun s =>
    if 16 ≤ n ∨ (s.port n).flip = level ∨ s.pinsOn 167 = false then s
    else
      let s := (s.traffic 167).modPort n (fun p => { p with flip := level })
      let st := s.pathSt n true
      if st = pOff ∨ st = pDisconnected then s else (s.set1 (.portSts n) PORT_STS.FLC).ssGone n) s

/-! ## The SuperSpeed link (R51) -/

def execSsTerminationsDetected (n : Nat) (s : State) : Host.Outcome State Fault Refusal :=
  onDevice (fun s => s.senses n true fun s => s.cond n true precTimer (· = pDisconnected) (fun s => s.set1 (.portSts n) PORT_STS.SCSC) (fun s =>
    (s.setPath n true pQualify true).set1 (.portSts n) PORT_STS.SCSC)) s

/-- The link reaches U0 from Polling, a reset or a resume. -/
def execSsLinkU0 (n speed : Nat) (s : State) : Host.Outcome State Fault Refusal :=
  onDevice (fun s =>
    let up (s : State) : State := (s.enterEnabled n true).setF (.portSts n) PORT_STS.SSPEED speed
    let rsc (s : State) : State := s.set1 (.portSts n) PORT_STS.SRSC
    let st := if (s.path n true).moved = s.now + 1 then (s.path n true).was else s.pathSt n true
    if st = pResetting ∨ s.pathSt n true = pResetting then
      s.cond n true precTimer (· = pResetting) rsc (fun s => rsc (up s))
    else if s.pathSt n true = pQualify then s.cond n true precTimer (· = pQualify) (fun s => s) up
    else s.cond n true precTimer (· = pResuming) (fun s => s) (fun s => s.enterEnabled n true)) s

/-- Polling fails: the third failure in a row leaves the path DISABLED. The count is kept over a disconnect (log entry 82). -/
def execSsPollingFail (n : Nat) (s : State) : Host.Outcome State Fault Refusal :=
  onDevice (fun s => s.cond n true precTimer (· = pQualify) (fun s => s) (fun s =>
    if 2 ≤ (s.path n true).pollFails then
      (s.setPath n true pDisabled false).modPath n true (fun x => { x with pollFails := 0 })
    else (s.setPath n true pDisconnected false).modPath n true (fun x => { x with pollFails := x.pollFails + 1 }))) s

def execHotResetEscalate (n : Nat) (s : State) : Host.Outcome State Fault Refusal :=
  onDevice (fun s => s.whenPath n true (· = pResetting) (fun s =>
    s.modPath n true (fun x => { x with warm := true }))) s

def execWarmResetTimeout (n : Nat) (s : State) : Host.Outcome State Fault Refusal :=
  onDevice (fun s =>
    if (s.path n true).warm then
      s.cond n true precTimer (· = pResetting) (fun s => s.set1 (.portSts n) PORT_STS.SCSC)
        (fun s => (s.setPath n true pDisconnected false).set1 (.portSts n) PORT_STS.SCSC)
    else s) s

/-- Recovery fails: the link is in SS.Inactive. -/
def execSsRecoveryFail (n : Nat) (s : State) : Host.Outcome State Fault Refusal :=
  onDevice (fun s => s.cond n true precTimer (· = pEnabled) (fun s => s.set1 (.portSts n) PORT_STS.SPEC) (fun s =>
    ((s.setPath n true pDisabled false).setF (.portLink n) PORT_LINK.SLSTATE 8).set1 (.portSts n) PORT_STS.SPEC)) s

/-- The link enters Recovery by itself and returns to U0: no transaction error is counted (R312). -/
def execSsLinkRecovery (n : Nat) (s : State) : Host.Outcome State Fault Refusal :=
  onDevice (fun s => s.whenPath n true (· = pEnabled) (fun s => s.setF (.portLink n) PORT_LINK.SLSTATE 1)) s

/-! ## Over-current and gangs (R60 to R64) -/

/-- `OCA` of a port follows the filter that counts for it; `OCC` records the change (R62). -/
def State.ocaSet (s : State) (n : Nat) (b : Bool) : State :=
  if s.flag (.portSts n) PORT_STS.OCA = b then s
  else (s.setF (.portSts n) PORT_STS.OCA b.toNat).set1 (.portSts n) PORT_STS.OCC

/-- A count ends: the filtered indication takes the sample. -/
def State.ocFilter (s : State) (n : Nat) (b : Bool) : State :=
  let s := s.modPort n (fun p => { p with oc := { p.oc with counting := false, active := b } })
  forL (s.ocPorts n) (fun k s => s.ocaSet k b) s

/-- An active count ends: a decision, where PWREN is asserted (R61, R62). -/
def State.ocActive (s : State) (n : Nat) : State :=
  let s := s.ocFilter n true
  if (s.port n).pwren ∧ s.ocPorts n ≠ [] then
    (forL (s.ocPorts n) (fun k s => s.set1 (.portSts k) PORT_STS.OCC) s).ocDecide n
  else s

/-- The synchronised sample changes; a count towards it starts, its filter time fixed. A filter time of 0 decides on the
sample alone (R60). -/
def execOciChange (n : Nat) (active : Bool) (s : State) : Host.Outcome State Fault Refusal :=
  onDevice (fun s =>
    let p := s.port n
    if p.oc.sample = active ∨ s.pinsOn 167 = false then s
    else
      let go := decide (active ≠ p.oc.active)
      let t := s.ocTime n
      let s := (s.traffic 167).modPort n (fun p => { p with oc := { p.oc with sample := active, counting := go, time := t } })
      if go = false ∨ t ≠ 0 then s else if active then s.ocActive n else s.ocFilter n false) s

/-- An active count expires (R61, R62). -/
def execOcFilterExpiry (n : Nat) (s : State) : Host.Outcome State Fault Refusal :=
  onDevice (fun s => if (s.port n).oc.counting ∧ (s.port n).oc.sample then s.ocActive n else s) s

def execOcInactiveFilterExpiry (n : Nat) (s : State) : Host.Outcome State Fault Refusal :=
  onDevice (fun s =>
    if (s.port n).oc.counting ∧ (s.port n).oc.sample = false then s.ocFilter n false else s) s

/-- A member list overlaps that of another enabled gang. -/
def State.gangClash (s : State) (g m : Nat) : Bool :=
  (List.range 4).any (fun h => h != g && s.flag (.portGang h) PORT_GANG.EN &&
    (gangMembers (s.getF (.portGang h) PORT_GANG.MEMBERS)).any (fun n => m.testBit n))

/-- Both paths of a port are OFF. -/
def State.portOff (s : State) (n : Nat) : Bool := s.pathSt n false = pOff && s.pathSt n true = pOff

/-- The conditions under which a gang write is refused (R64). -/
def State.gangRefused (s : State) (g : Nat) (v : Word64) : Bool :=
  let en := PORT_GANG.EN.get v != 0
  let src := PORT_GANG.SRC.get v
  let m := PORT_GANG.MEMBERS.get v
  let m0 := s.getF (.portGang g) PORT_GANG.MEMBERS
  let changes := en != s.flag (.portGang g) PORT_GANG.EN || m != m0
  (en && (decide (20 ≤ src) || !(m.testBit src))) || (en && s.gangClash g m) ||
    (changes && !((gangMembers m ++ gangMembers m0).all s.portOff))

/-- A write to `PORT_GANGg` (R64). -/
def State.wrPortGang (s : State) (q : Requester) (g : Nat) (v : Word64) : State :=
  if s.gangRefused g v then s.violation q (Reg.portGang g).loc
  else
    let s := s.plainWrite (.portGang g) v
    (forN 20 (fun n s => s.ocaSet n (s.port (s.ocSource n)).oc.active) s).pwrAll

def execPortGangWrite (q : Requester) (g : Nat) (v : Word32) (s : State) : Host.Outcome State Fault Refusal :=
  onDevice (fun s => s.gate q (.portGang g) (fun s => s.wrPortGang q g (v.setWidth 64))) s

/-! ## Link power (R65 to R67) -/

/-- The device's answer to the L1 request that the predictor has sent (R65). -/
def execLpmL1Response (n : Nat) (resp : LpmResponse) (s : State) : Host.Outcome State Fault Refusal :=
  onDevice (fun s =>
    match (s.pred (pKey n false)).lpm with
    | none => s
    | some besl =>
      let s := s.modPred (pKey n false) (fun p => { p with lpm := none })
      match resp with
      | .ack => ((s.setF (.portLink n) PORT_LINK.LPM_RESP 1).setF (.portLink n) PORT_LINK.BESL besl).setF (.portLink n)
          PORT_LINK.LSTATE 2
      | .nyet => s.setF (.portLink n) PORT_LINK.LPM_RESP 2
      | .stall => (s.setF (.portLink n) PORT_LINK.LPM_RESP 3).modPath n false (fun x => { x with l1Stall := true })
      | .none => s.setF (.portLink n) PORT_LINK.LPM_RESP 4) s

def execL1RemoteWake (n : Nat) (s : State) : Host.Outcome State Fault Refusal :=
  onDevice (fun s =>
    if s.getF (.portLink n) PORT_LINK.LSTATE = 2 then
      (s.setF (.portLink n) PORT_LINK.LSTATE 1).set1 (.portSts n) PORT_STS.LSC
    else s) s

/-- A device-initiated U1 or U2: LAU where `UX_ACC` and the matching enable are set, else LXU (R67). -/
def execDeviceLgoUx (n : Nat) (u2 : Bool) (s : State) : Host.Outcome State Fault Refusal :=
  onDevice (fun s =>
    if s.pathSt n true = pEnabled ∧ s.getF (.portLink n) PORT_LINK.SLSTATE = 1 ∧ s.cfgFlag n PORT_CFG.UX_ACC ∧
        s.cfgFlag n (if u2 then PORT_CFG.U2_EN else PORT_CFG.U1_EN) then
      s.setF (.portLink n) PORT_LINK.SLSTATE (if u2 then 3 else 2)
    else s) s

/-! ## Battery charging (R71) -/

/-- A CDP port answers VDP_SRC in DISCONNECTED and QUALIFY (R71). -/
def execCdpVdpSrc (n : Nat) (on : Bool) (s : State) : Host.Outcome State Fault Refusal :=
  onDevice (fun s =>
    let st := s.pathSt n false
    if on then
      if (st = pDisconnected ∨ st = pQualify) ∧ (s.path n false).bcMode = 1 then
        s.modPort n (fun p => { p with vdm := true })
      else s
    else s.modPort n (fun p => { p with vdm := false })) s

end Sys2Proof.Machine
end

