-- ==== Sys2Proof/Machine/Load.lean ====
section
/-!
DEFINITION. Loading and unloading programs (R168 to R174): the checks of R170 over an image, and the commands.
-/
namespace Sys2Proof.Machine

/-! ## The checks of an instruction word (R170, R192, Table 2 of chapter 7) -/

def opOf32 (w : Word32) : Nat := wordBits w 31 26

/-- The bits [hi:lo] are 0. -/
def zeroBits (w : Word32) (hi lo : Nat) : Bool := wordBits w hi lo == 0

/-- Undefined opcode, a reserved or unused field that is not 0, or a reserved name (OPCODE). -/
def opcodeBad (w : Word32) : Bool :=
  let op := opOf32 w
  !(if 0x01 ≤ op ∧ op ≤ 0x09 then zeroBits w 13 0
    else if 0x0A ≤ op ∧ op ≤ 0x10 then zeroBits w 17 16
    else if op = 0x11 ∨ op = 0x12 then zeroBits w 21 18
    else if op = 0x13 then zeroBits w 17 0 && decide (wordBits w 21 18 ≤ 6)
    else if op = 0x14 then zeroBits w 17 0 && decide (wordBits w 25 22 ≤ 6)
    else if op = 0x15 ∨ op = 0x17 then zeroBits w 13 0 && zeroBits w 25 22
    else if op = 0x16 ∨ op = 0x18 then zeroBits w 25 22 && zeroBits w 17 16
    else if op = 0x19 ∨ op = 0x31 then zeroBits w 25 8
    else if op = 0x1A then zeroBits w 21 14 && decide (wordBits w 25 22 ≤ 10)
    else if op = 0x1B then zeroBits w 25 14
    else if op = 0x1C ∨ op = 0x2B ∨ op = 0x32 ∨ op = 0x34 ∨ op = 0x36 then zeroBits w 25 0
    else if 0x1D ≤ op ∧ op ≤ 0x20 then true
    else if op = 0x22 ∨ op = 0x23 then zeroBits w 24 22 && zeroBits w 13 0
    else if op = 0x24 ∨ op = 0x25 then zeroBits w 24 0
    else if 0x21 ≤ op ∧ op ≤ 0x2A then zeroBits w 24 22 && zeroBits w 17 0
    else if op = 0x2C then zeroBits w 13 0
    else if 0x2D ≤ op ∧ op ≤ 0x30 then zeroBits w 25 22 && zeroBits w 17 0
    else if op = 0x33 then zeroBits w 1 0
    else if op = 0x35 then zeroBits w 23 22 && zeroBits w 17 0 && decide (wordBits w 25 24 ≤ 1)
    else false)

/-- Privileged: SEAL and DOZE (PRIVILEGED). -/
def privileged (w : Word32) : Bool := opOf32 w == 0x35 || opOf32 w == 0x36

/-- B and CALL, and their target. -/
def isB (w : Word32) : Bool := opOf32 w == 0x1A
def isCall (w : Word32) : Bool := opOf32 w == 0x1B
def targetOf (w : Word32) : Nat := wordBits w 13 0

/-- The target lies outside a program of `n` instructions (BRANCH). -/
def branchBad (n : Nat) (w : Word32) : Bool := (isB w || isCall w) && decide (n ≤ targetOf w)

/-- POST, RET or an unconditional branch: nothing follows it. -/
def stops (w : Word32) : Bool := opOf32 w == 0x31 || opOf32 w == 0x1C || (isB w && wordBits w 25 22 == 0)

/-- An immediate operand outside its range (OPERAND). -/
def operandBad (w : Word32) : Bool :=
  let op := opOf32 w
  let a := wordBits w 21 18
  if op = 0x0E ∨ op = 0x0F ∨ op = 0x10 ∨ op = 0x18 then !(zeroBits w 15 6)
  else if op = 0x14 then wordBits w 25 22 != 4
  else if op = 0x1D ∨ op = 0x1E then !(zeroBits w 15 8)
  else if op = 0x26 ∨ op = 0x27 then decide (a < 1) || decide (12 < a)
  else if op = 0x28 ∨ op = 0x29 ∨ op = 0x2A then decide (a < 1) || decide (14 < a)
  else if op = 0x31 then
    let k := wordBits w 7 0
    decide (0x13 < k) && decide (k < 0x80)
  else if op = 0x33 then
    let p := wordBits w 25 18
    (decide (64 ≤ p) && decide (p < 128)) || decide (192 ≤ p) || decide (10 < wordBits w 17 14)
  else false

/-! ## The call graph (R170, check 8) -/

/-- Where execution goes on in the same routine after the instruction at `i`. -/
def nextOf (i : Nat) (w : Word32) : List Nat :=
  if isB w then (if wordBits w 25 22 = 0 then [targetOf w] else [targetOf w, i + 1])
  else if stops w then []
  else [i + 1]

/-- Instructions reached from a list of places without entering a called routine; `seen` as a bit mask. -/
def reachB (ws : List Word32) : Nat → List Nat → Nat → Nat
  | 0, _, seen => seen
  | _ + 1, [], seen => seen
  | f + 1, i :: t, seen =>
    match ws[i]? with
    | none => reachB ws f t seen
    | some w => if seen.testBit i then reachB ws f t seen else reachB ws f (nextOf i w ++ t) (seen ||| 2 ^ i)

/-- The CALL instructions of the routine that starts at `e`: index and target. -/
def callsOf (ws : List Word32) (e : Nat) : List (Nat × Nat) :=
  let m := reachB ws (3 * ws.length + 3) [e] 0
  (List.range ws.length).filterMap (fun i => match ws[i]? with
    | some w => if m.testBit i && isCall w then some (i, targetOf w) else none
    | none => none)

/-- Routines: instruction 0 and every CALL target. -/
def routines (ws : List Word32) : List Nat :=
  (0 :: (ws.filter isCall).map targetOf).eraseDups

/-- Routines reached through calls from a list of routines; `seen` as a bit mask. -/
def reachCalls (g : List (Nat × List (Nat × Nat))) : Nat → List Nat → Nat → Nat
  | 0, _, seen => seen
  | _ + 1, [], seen => seen
  | f + 1, e :: t, seen =>
    if seen.testBit e then reachCalls g f t seen
    else reachCalls g f (((FMap.find [] e g).map Prod.snd) ++ t) (seen ||| 2 ^ e)

/-- CALLs that lie on a cycle of the call graph. -/
def cycleCalls (g : List (Nat × List (Nat × Nat))) (n : Nat) : List Nat :=
  g.flatMap (fun p => (p.2.filter (fun c => (reachCalls g (n + 1) [c.2] 0).testBit p.1)).map Prod.fst)

/-- Routines `k` calls deep from a list of routines. -/
def deepRoutines (g : List (Nat × List (Nat × Nat))) : Nat → List Nat → List Nat
  | 0, l => l
  | k + 1, l => deepRoutines g k ((l.flatMap (fun e => (FMap.find [] e g).map Prod.snd)).eraseDups)

/-- The first CALL that closes a cycle, or nests a fifth call (CALL_DEPTH). -/
def callBad (ws : List Word32) : Option Nat :=
  let g := (routines ws).map (fun e => (e, callsOf ws e))
  let edges := (g.map (fun p => p.2.length)).sum + g.length
  let bad := cycleCalls g edges ++ (deepRoutines g 4 [0]).flatMap (fun e => (FMap.find [] e g).map Prod.fst)
  (List.range ws.length).find? (fun i => decide (i ∈ bad))

/-! ## The image (Table 4, Table 5) -/

/-- "KWV1" as a little-endian word. -/
def magic : Word32 := 0x3156574B#32

/-- The first instruction that fails a check. -/
def firstBad (p : Word32 → Bool) (ws : List Word32) : Option Nat := ws.findIdx? p

/-- The instruction checks in their order: result and detail (R170, checks 4 to 9). -/
def verifyBody (sl : Nat) (ws : List Word32) : Nat × Nat :=
  match firstBad opcodeBad ws with
  | some i => (0x08, i)
  | none =>
    match (if sl = 0 then none else firstBad privileged ws) with
    | some i => (0x09, i)
    | none =>
      match firstBad (branchBad ws.length) ws with
      | some i => (0x0A, i)
      | none =>
        if (ws.getLast?.map stops).getD false = false then (0x0B, ws.length - 1)
        else match callBad ws with
          | some i => (0x0C, i)
          | none =>
            match firstBad operandBad ws with
            | some i => (0x0D, i)
            | none => (0, 0)

/-- Instruction count and declared fuel of an image. -/
def imageCount (ws : List Word32) : Nat := (ws[3]?.getD 0).toNat
def imageFuel (ws : List Word32) : Nat := (ws[2]?.getD 0).toNat

/-- Blocks of 1 KiB that an image of `n` instructions takes. -/
def imageBlocks (n : Nat) : Nat := ceilDiv (16 + 4 * n) 1024

/-- Checks 3 to 9 of R170. -/
def verifyImage (sl fuelMax : Nat) (ws : List Word32) : Nat × Nat :=
  let n := imageCount ws
  let body := (ws.drop 4).take n
  if ws[0]? ≠ some magic ∨ ws[1]? ≠ some 1 ∨ n < 1 ∨ 16380 < n ∨ body.length < n then (0x06, 0)
  else if imageFuel ws = 0 ∨ 2 ^ 20 ≤ imageFuel ws ∨ fuelMax < imageFuel ws then (0x07, 0)
  else verifyBody sl body

/-! ## Commands (R170 to R172) -/

def State.ldBusy (s : State) : Bool := s.flag .dspLdSts DSP_LD_STS.BUSY

/-- A command ends: `BUSY` falls, which is an event of source 311. -/
def State.ldFinish (s : State) (code detail : Nat) : State :=
  let s := { s with ldCmd := none }
  let s := ((s.clr1 .dspLdSts DSP_LD_STS.BUSY).setF .dspLdSts DSP_LD_STS.RESULT code).setF .dspLdSts DSP_LD_STS.DETAIL detail
  s.irqEvent 311

/-- The address of the image. -/
def State.ldSrc (s : State) : Nat := (s.rd .dspLdSrc).toNat / 4 * 4

/-- The next piece of an image read: within Max Read Request Size and a 4 KiB page (R83). -/
def State.imageRead (s : State) (a left : Nat) : State :=
  let n := min left (s.readMax 0 a)
  s.newReq 0 noCtx a n (.image (some (left - n)))

/-- A write to `DSP_LD_CTL`; ignored while `BUSY` (R171). A LOAD that passes its first checks fetches the header. -/
def State.wrLdCtl (s : State) (v : Word64) : State :=
  if s.ldBusy then s
  else
    let s := s.plainWrite .dspLdCtl v
    let sl := DSP_LD_CTL.SLICE.get v
    let id := DSP_LD_CTL.PROG.get v
    match DSP_LD_CTL.CMD.get v with
    | 0 => s
    | 1 =>
      let s := { s.set1 .dspLdSts DSP_LD_STS.BUSY with ldCmd := some (1, sl, id) }
      if s.flag (.slcBind sl) SLC_BIND.VALID ∧ (s.prog (sl * 64 + id)).live = false ∧ s.hostOk 0 s.ldSrc 16 then
        s.newReq 0 noCtx s.ldSrc 16 (.image none)
      else s
    | 2 => { s.set1 .dspLdSts DSP_LD_STS.BUSY with ldCmd := some (2, sl, id) }
    | _ => s.ldFinish 0x0E 0

/-- A write to `DSP_LD_SRC` or `DSP_FUEL_MAX` (R171). -/
def State.wrLdReg (s : State) (r : Reg) (v : Word64) : State := if s.ldBusy then s else s.plainWrite r v

/-- The word of a load command. -/
def ldWord (cmd sl id : Nat) : Word64 := BitVec.ofNat 64 (cmd % 16 * 2 ^ 28 + sl % 256 * 2 ^ 16 + id % 64)

def execDspLoad (q : Requester) (sl id : Nat) (s : State) : Host.Outcome State Fault Refusal :=
  onDevice (fun s => s.gate q .dspLdCtl (fun s => s.wrLdCtl (ldWord 1 sl id))) s
def execDspUnload (q : Requester) (sl id : Nat) (s : State) : Host.Outcome State Fault Refusal :=
  onDevice (fun s => s.gate q .dspLdCtl (fun s => s.wrLdCtl (ldWord 2 sl id))) s
def execDspLdBadCommand (q : Requester) (code : Nat) (s : State) : Host.Outcome State Fault Refusal :=
  onDevice (fun s => s.gate q .dspLdCtl (fun s => s.wrLdCtl (ldWord code 0 0))) s

/-- Library blocks that no program holds. -/
def State.freeBlock (s : State) (b : Nat) : Bool := decide (b < 1024) && !(s.progs.any (fun p => decide (b ∈ p.2.blocks)))

/-- The blocks of a loaded image: those that the command names where they are free, else the lowest free ones. -/
def State.pickBlocks (s : State) (n : Nat) (l : List Nat) : List Nat :=
  if l.length = n ∧ l.all s.freeBlock ∧ l.eraseDups = l then l
  else ((List.range 1024).filter s.freeBlock).take n

/-- The words of an image in the active pair's SRAM. -/
def State.sramImage (s : State) : List Word32 :=
  let w (k : Nat) : Word32 := BitVec.ofNat 32 (leValue (s.localRead (s.ldSrc + 4 * k) 4))
  (List.range (4 + min 16380 (w 3).toNat)).map w

/-- Result and detail of a LOAD (R170): `image` is what its reads brought, `none` where one was refused or failed. -/
def State.loadResult (s : State) (sl id : Nat) (image : Option (List Word32)) : Nat × Nat :=
  if s.bound sl = false then (0x01, 0)
  else if (s.prog (sl * 64 + id)).live then (0x02, 0)
  else if s.hostOk 0 s.ldSrc 16 = false then (0x05, 0)
  else match image with
    | none => (0x05, 0)
    | some ws =>
      if s.capRoom 2 sl (imageBlocks (imageCount ws)) = false then (0x04, 0)
      else if s.hostOk 0 s.ldSrc (16 + 4 * imageCount ws) = false then (0x05, 0)
      else verifyImage sl (s.getF .dspFuelMax DSP_FUEL_MAX.MAX) ws

/-- A refused read of the image is recorded (R350). -/
def State.loadRecord (s : State) (sl id : Nat) (image : Option (List Word32)) : State :=
  let bad := s.bound sl && !(s.prog (sl * 64 + id)).live &&
    (!(s.hostOk 0 s.ldSrc 16) || match image with
      | some ws => s.capRoom 2 sl (imageBlocks (imageCount ws)) && !(s.hostOk 0 s.ldSrc (16 + 4 * imageCount ws))
      | none => false)
  if bad then s.failRec 0 noCtx 1 s.ldSrc else s

/-- The request belongs to the image read. -/
def isImage (p : Purpose) : Bool :=
  match p with
  | .image _ => true
  | _ => false

/-- The checks of a LOAD end (R170, R171). Reads that wait to be issued,
for the first time or again, hold it back. -/
def State.loadDone (s : State) (image : Option (List Word32)) (blocks : List Nat) : State :=
  match s.ldCmd with
  | some (1, sl, id) =>
    if s.reqs.any (fun q => isImage q.purpose && q.phase != .issued && q.fails != 4) then s
    else
      let image := if s.inSram 0 then some s.sramImage
        else if s.reqs.any (fun q => isImage q.purpose && q.fails == 4) then none else image
      let s := { s with reqs := s.reqs.filter (fun q => !(isImage q.purpose)) }
      let p := s.loadResult sl id image
      let s := s.loadRecord sl id image
      let s := if p.1 = 0 then
          match image with
          | some ws =>
            let n := imageCount ws
            (s.capTake 2 sl (imageBlocks n)).setProg (sl * 64 + id)
              ⟨true, false, imageFuel ws, ws.take 4, (ws.drop 4).take n, s.pickBlocks (imageBlocks n) blocks⟩
          | none => s
        else s
      s.ldFinish p.1 p.2
  | _ => s

def execLoadComplete (image : Option (List Word32)) (blocks : List Nat) (s : State) : Host.Outcome State Fault Refusal :=
  onDevice (fun s => s.loadDone image blocks) s

/-- An UNLOAD ends (R172). -/
def execUnloadComplete (s : State) : Host.Outcome State Fault Refusal :=
  onDevice (fun s =>
    match s.ldCmd with
    | some (2, sl, id) =>
      let k := sl * 64 + id
      if s.bound sl = false then s.ldFinish 0x01 0
      else if (s.prog k).live = false ∨ (s.prog k).unloading then s.ldFinish 0x03 0
      else (((s.modProg k (fun p => { p with unloading := true })).progDrop k).ldFinish 0 0)
    | _ => s) s

end Sys2Proof.Machine
end

