-- ==== Sys2Proof/Machine/Rings.lean ====
section
/-!
DEFINITION. Submission rings (chapter 5): the scanner, the taking of entries, malformed entries, publication, shutdown
and interrupt moderation.
-/
namespace Sys2Proof

/-! ## Entries (R139 to R142) -/

open Machine

/-- Fields of an entry header (Table 1). -/
def Entry.bits (e : Entry) (hi lo : Nat) : Nat := opBits e.hdr hi lo
def Entry.handle (e : Entry) : Nat := e.bits 47 32
def Entry.tag (e : Entry) : Nat := e.bits 31 20
def Entry.ioc (e : Entry) : Bool := e.bits 19 19 = 1
def Entry.pri (e : Entry) : Nat := e.bits 18 16
def Entry.prog (e : Entry) : Nat := e.bits 15 8
def Entry.opcode (e : Entry) : Nat := e.bits 7 1
def Entry.phase (e : Entry) : Nat := e.bits 0 0

/-- The arguments as g1 to g6. -/
def Entry.args (e : Entry) : FMap Word64 :=
  FMap.put 0 1 e.a0 (FMap.put 0 2 e.a1 (FMap.put 0 3 e.a2 (FMap.put 0 4 e.a3 (FMap.put 0 5 e.a4 (FMap.put 0 6 e.a5 [])))))

/-- Argument bits that R141 requires to be 0. -/
def Entry.argsBad (e : Entry) : Bool :=
  let rest := e.a2 != 0 || e.a3 != 0 || e.a4 != 0 || e.a5 != 0
  match e.opcode with
  | 1 => false
  | 4 => decide (2 ^ 13 ≤ e.a0.toNat) || e.a1 != 0 || rest
  | 5 => decide (2 ^ 32 ≤ e.a0.toNat) || decide (2 ^ 16 ≤ e.a1.toNat) || rest
  | _ => e.a0 != 0 || e.a1 != 0 || rest

end Sys2Proof

namespace Sys2Proof.Machine

/-- An entry from its 64 bytes (R139), with the context that the context store gives. -/
def entryOf (b : List Byte) (ctx : Nat) : Entry :=
  let w (k : Nat) : Word64 := BitVec.ofNat 64 (leValue ((b.drop (8 * k)).take 8))
  ⟨w 0, w 1, w 2, w 3, w 4, w 5, w 6, ctx⟩

/-- A power of two from 1 to 32,768. -/
def intervalOk (i : Nat) : Bool := (List.range 16).any (fun k => i == 2 ^ k)

/-- The cause for which an entry is malformed, 0 for none (Table 4); of several, the lowest (log entry 94). -/
def State.validate (s : State) (i : Nat) (e : Entry) : Nat :=
  if e.opcode = 0 ∨ 6 < e.opcode then 1
  else if e.bits 63 48 ≠ 0 then 2
  else if e.opcode = 1 ∧ ((64 ≤ e.prog ∧ e.prog < 128) ∨ 192 ≤ e.prog) then 3
  else if e.opcode = 1 ∧ e.prog < 64 ∧ s.progOk i e.prog = false then 4
  else if e.argsBad then 5
  else if e.opcode = 5 ∧ (e.a0 = 0 ∨ intervalOk e.a1.toNat = false) then 6
  else 0

/-! ## Taking an entry (R140, R160, R230, R238) -/

/-- The cluster that an item starts in: that of its device's root port, or the first in the neighbour order that is not
dark (R230, R253). -/
def State.homeCluster (s : State) (k : Nat) : Nat :=
  if s.dark k then
    (((List.range 8).map (fun j => (s.rd (.dspClNbr k)).toNat / 32 ^ j % 32)).find? (fun j => !(s.dark j))).getD k
  else k

/-- The code with which an INVOKE completes without running: an unassigned or detached handle, a ROM program that ends
before it sends anything (R117, R118, R140, R188). -/
def State.invokeCode (s : State) (i : Nat) (e : Entry) : Option Nat :=
  let a := s.attCfg i e.handle
  if a.live = false then some stAborted
  else if a.detached then some stDetached
  else s.romStart i e.handle e.prog e.args

/-- The context of an entry that is taken at a position. -/
def State.entryCtx (s : State) (i r idx lap : Nat) (e : Entry) : Ctx :=
  let n := (s.attCfg i e.handle).ep
  let b : Ctx := { Ctx.free with
    slice := i, ring := r, idx := idx, lap := lap, pri := min e.pri (s.getE (.slcQeng i) SLC_QENG.MAXPRI),
    tag := e.tag, g := e.args, ep := e.handle, prog := 64, act := .other }
  if e.opcode = 1 then
    match s.invokeCode i e with
    | some k => { b with code := k }
    | none => { b with act := .ready, prog := e.prog, args := argsOf e.handle e.args, fuel := s.fuelOf i e.prog,
                       cluster := s.homeCluster (s.epDev n).port }
  else b

/-- A taken INVOKE joins the token queue of its handle, and is granted a token that is free (R238). -/
def State.tokenJoin (s : State) (c k : Nat) : State :=
  if (s.token k).fam = none ∧ (s.token k).queue = [] then
    (s.modToken k (fun t => { t with fam := some c })).modCtx c (fun x => { x with cur := some (k % 65536) })
  else s.modToken k (fun t => { t with queue := t.queue ++ [c] })

/-- SCAN moves past an entry; the expected phase flips with the lap (R142, R145). -/
def State.scanNext (s : State) (i r : Nat) : State :=
  let k := s.getF (.ringSts i r) RING_STS.SCAN + 1
  if k = s.ringN i r then
    (s.setF (.ringSts i r) RING_STS.SCAN 0).modRing (rKey i r) (fun g => { g with lap := g.lap + 1 })
  else s.setF (.ringSts i r) RING_STS.SCAN k

/-- An entry is taken: a context, its place in the ring, a token for INVOKE; then the ring's entries are looked at in
order (R140). -/
def State.take (s : State) (i r : Nat) (e : Entry) : State :=
  match s.pickCtx e.ctx with
  | none => s
  | some c =>
    let idx := s.getF (.ringSts i r) RING_STS.SCAN
    let lap := (s.ring (rKey i r)).lap
    let x := s.entryCtx i r idx lap e
    let t : Taken := ⟨idx, lap, e.opcode, e.tag, e.ioc, some c, [], 0, false, none, false⟩
    let s := (s.capTake 0 i 1).setCtx c x
    let s := (s.modRing (rKey i r) (fun g => { g with taken := g.taken ++ [t] })).scanNext i r
    let s := if x.act = .ready then s.tokenJoin c (hKey i e.handle) else s
    s.jobs [.pump i r]

/-! ## Malformed entries (R154 to R156) -/

/-- `MAL` and `MCAUSE`, with the index that `SCAN` shows. -/
def State.markMal (s : State) (i r cause idx : Nat) : State :=
  ((s.set1 (.ringSts i r) RING_STS.MAL).setF (.ringSts i r) RING_STS.MCAUSE cause).setF (.ringSts i r) RING_STS.SCAN idx

/-- The malformed entry among the taken ones, with its result: it is published once the earlier ones are. In slice 0
only where every earlier entry has been published (R155, R156). Its timestamp: log entry 94. -/
def State.malTaken (s : State) (i r cause idx : Nat) (e : Option Entry) : State :=
  match e with
  | none => s
  | some e =>
    let g := s.ring (rKey i r)
    if 7 ≤ cause ∨ (i = 0 ∧ g.taken ≠ []) then s
    else s.setRing (rKey i r) { g with taken := g.taken ++
      [⟨idx, g.lap, e.opcode, e.tag, e.ioc, none, [], 0, true, some ⟨stMalformed, 0, 0, s.clk.toNat⟩, true⟩] }

/-- A malformed entry fences its slice, or halts the device (R155, R156). -/
def State.malformed (s : State) (i r cause idx : Nat) (e : Option Entry) : State :=
  let s := (s.markMal i r cause idx).malTaken i r cause idx e
  let s := s.modRing (rKey i r) (fun g => { g with scanning := false, stopped := decide (cause = 8) })
  if i = 0 then s.faultEvent 48 r cause false else s.fence i 1

/-! ## The scanner (R144, R145) -/

/-- The ring takes entries: enabled and not shut down. -/
def State.ringOn (s : State) (i r : Nat) : Bool := s.flag (.ringCtl i r) RING_CTL.EN && !(s.ring (rKey i r)).shut

/-- The scanner may go on: the ring is on, the slice not barred and not being adjourned. -/
def State.scanOk (s : State) (i r : Nat) : Bool := s.ringOn i r && !(s.scanBarred i) && !(s.frozen i)

/-- Room for one more entry in the ring and one more context in the slice (R109, R144). -/
def State.scanRoom (s : State) (i r : Nat) : Bool :=
  decide ((s.ring (rKey i r)).taken.length < s.ringN i r) && s.capRoom 0 i 1

/-- A read of up to 8 entries that does not cross the ring's end (R145), within the limits of a read. -/
def State.scanFetch (s : State) (i r : Nat) : State :=
  let k := s.getF (.ringSts i r) RING_STS.SCAN
  let a := (s.rd (.ringBase i r)).toNat + 64 * k
  let n := min (min 8 (s.ringN i r - k)) (max 1 (s.readMax i a / 64))
  if s.hostOk i a (64 * n) then
    s.newReq i noCtx a (64 * n) (.ringFetch r)
  else (s.malformed i r 7 k none).failRec i noCtx 1 a

/-- The scan ends, or is repeated for a doorbell that came meanwhile: the loop of R145. -/
def State.scanEnd (s : State) (i r : Nat) (blocked : Bool) : State :=
  let g := s.ring (rKey i r)
  if g.rescan ∧ s.scanOk i r ∧ s.scanRoom i r then
    (s.setRing (rKey i r) { g with rescan := false, blocked := false }).scanFetch i r
  else s.setRing (rKey i r) { g with
    rescan := s.frozen i, scanning := false, blocked := blocked || (g.rescan && s.scanOk i r) }

/-- The top of the loop: a fetch, or the end of the scan. -/
def State.scanTop (s : State) (i r : Nat) : State :=
  if s.scanOk i r = false then s.scanEnd i r false
  else if s.scanRoom i r then s.scanFetch i r
  else s.scanEnd i r true

/-- A scan starts. -/
def State.scanStart (s : State) (i r : Nat) : State :=
  (s.modRing (rKey i r) (fun g => { g with scanning := true, rescan := false, blocked := false })).scanTop i r

/-- A doorbell: ignored on a ring that is not on, and on a fenced slice or halted device; in a slice being
adjourned it only sets `rescan` (R145, R157, R368). -/
def State.doorbell (s : State) (i r : Nat) : State :=
  if s.ringOn i r = false ∨ s.scanBarred i then s
  else if (s.ring (rKey i r)).scanning ∨ s.frozen i then s.modRing (rKey i r) (fun g => { g with rescan := true })
  else s.scanStart i r

/-- The offset of a doorbell in its page. -/
def dbOff (r : Nat) : Nat := 0x2000 + 8 * r

def execDoorbell (q : Requester) (i r : Nat) (s : State) : Host.Outcome State Fault Refusal :=
  onDevice (fun s => s.gateLoc q (.page i (dbOff r)) (fun _ s => s.doorbell i r)) s

/-- The entries of a batch in order, until one is not owned, is malformed, or finds no room (R145). -/
def State.scanBatch (i r : Nat) : List Entry → State → State
  | [], s => s.scanTop i r
  | e :: t, s =>
    if s.scanOk i r = false then s.scanEnd i r false
    else if s.scanRoom i r = false then s.scanEnd i r true
    else if e.phase ≠ ((s.ring (rKey i r)).lap + 1) % 2 then s.scanEnd i r false
    else
      let cause := s.validate i e
      if cause ≠ 0 then s.malformed i r cause (s.getF (.ringSts i r) RING_STS.SCAN) (some e)
      else State.scanBatch i r t (s.take i r e)

/-- The scan goes on by itself once the done head has advanced or a context is free (R109, R144). -/
def execScanResume (i r : Nat) (s : State) : Host.Outcome State Fault Refusal :=
  onDevice (fun s =>
    let g := s.ring (rKey i r)
    if g.blocked && !g.scanning && s.scanOk i r && s.scanRoom i r then s.scanStart i r else s) s

/-! ## Ring control (R136 to R138, R157) -/

/-- Rings of all slices with `EN` = 1 or `IDLE` = 0 (R137): `IDLE` is 0 from enable on. -/
def State.ringsBusy (s : State) : Nat :=
  FMap.count (fun a v => decide (0x100000000 ≤ a) && decide (0x900 ≤ a % 65536) && decide (a % 65536 < 0xD00) &&
    a % 16 == 8 && RING_STS.IDLE.get v == 0) s.regs

/-- A region lies wholly inside one of the slice's windows. -/
def State.inWindow (s : State) (i a n : Nat) : Bool := s.winHas i 0 a n || s.winHas i 1 a n

/-- The ring's regions lie in the slice's windows (R137, R378). -/
def State.ringRegions (s : State) (i r : Nat) : Bool :=
  let n := s.ringN i r
  s.inWindow i (s.rd (.ringBase i r)).toNat (64 * n) && s.inWindow i (s.rd (.ringDha i r)).toNat 8 &&
    (!(s.flag (.ringTsa i r) RING_TSA.TSE) ||
      s.inWindow i ((s.rd (.ringTsa i r)).toNat / 8 * 8) (8 * n))

/-- The conditions under which an enable is refused (R137). -/
def State.enRefused (s : State) (i r : Nat) : Bool :=
  let size := s.getF (.ringCtl i r) RING_CTL.SIZE
  decide (s.getE (.slcQeng i) SLC_QENG.RINGS ≤ r) ||
    decide (s.getE (.slcHost i) SLC_HOST.VCOUNT ≤ s.getF (.ringCtl i r) RING_CTL.VEC) ||
    decide (size < 4) || decide (16 < size) ||
    decide ((s.rd (.ringBase i r)).toNat % min 4096 (64 * s.ringN i r) ≠ 0) ||
    !(s.flag (.ringSts i r) RING_STS.IDLE) || s.fenced i || s.inReset i || decide (4096 ≤ s.ringsBusy) || !(s.ringRegions i r)

/-- An accepted enable: index 0 of lap 0 (R138). -/
def State.ringStart (s : State) (i r : Nat) : State :=
  let s := ((s.set1 (.ringCtl i r) RING_CTL.EN).wr (.ringDone i r) 0).setF (.ringSts i r) RING_STS.SCAN 0
  let g := s.ring (rKey i r)
  (s.clr1 (.ringSts i r) RING_STS.IDLE).setRing (rKey i r) { Ring.init with pend := g.pend, timer := g.timer }

/-- A ring that is shut down and has nothing outstanding, neither an entry nor the event of its moderation timer, is idle; a
pending count without a timer (`MTIME` = 0) raises no final event (R153; DEDUCED, log entry 34).
`EN` is cleared where the 7120 has shut it down (R113, R157, R158), but stands as software has written it in this cycle (R11). In a slice reset `IDLE` waits for the end
of the reset (R135). -/
def State.ringIdle (s : State) (i r : Nat) : State :=
  let g := s.ring (rKey i r)
  if s.ringOn i r = false ∧ g.taken = [] ∧ g.timer = false ∧ s.inReset i = false then
    let s := if g.shut then
        (if s.wroteNow (.ringCtl i r) then s else s.clr1 (.ringCtl i r) RING_CTL.EN).setRing (rKey i r) { g with shut := false }
      else s
    s.set1 (.ringSts i r) RING_STS.IDLE
  else s

/-- Shutdown: nothing more is taken (R157). `sw` says that software has cleared `EN`. -/
def State.ringStop (s : State) (i r : Nat) (sw : Bool) : State :=
  let s := s.fetchDrop i (· == r)
  let s := if sw then s.clr1 (.ringCtl i r) RING_CTL.EN else s
  (s.modRing (rKey i r) (fun g => { g with scanning := false, rescan := false, blocked := false, shut := !sw })).ringIdle i r

/-- The pending count is cleared and the timer stopped (R136, R153). -/
def State.modClear (s : State) (i r : Nat) : State :=
  s.modRing (rKey i r) (fun g => { g with pend := 0, timer := false })

/-- Fields of a ring that only an idle ring takes (R136). -/
def State.ringOpen (s : State) (i r : Nat) : Bool :=
  !(s.flag (.ringCtl i r) RING_CTL.EN) && s.flag (.ringSts i r) RING_STS.IDLE

/-- A write to `RING_CTL` (R136, R137, R157). -/
def State.wrRingCtl (s : State) (i r : Nat) (v : Word64) : State :=
  let s := s.noteWrite (.ringCtl i r)
  let ie := RING_CTL.IE.get v
  let s := if ie = s.getF (.ringCtl i r) RING_CTL.IE then s
    else ((s.setF (.ringCtl i r) RING_CTL.IE ie).modClear i r).ringIdle i r
  let s := if s.ringOpen i r then
      (s.setF (.ringCtl i r) RING_CTL.SIZE (RING_CTL.SIZE.get v)).setF (.ringCtl i r) RING_CTL.VEC (RING_CTL.VEC.get v)
    else s
  let en := RING_CTL.EN.get v != 0
  if en = s.flag (.ringCtl i r) RING_CTL.EN then s
  else if en then (if s.enRefused i r then s.set1 (.ringSts i r) RING_STS.ENREJ else s.ringStart i r)
  else s.ringStop i r true

/-- A write to `RING_BASE`, `RING_DHA` or `RING_TSA` (R136). -/
def State.wrRingAddr (s : State) (i r : Nat) (g : Reg) (v : Word64) : State :=
  if s.ringOpen i r then s.plainWrite g v else s

def execRingEnable (q : Requester) (i r : Nat) (v : Word32) (s : State) : Host.Outcome State Fault Refusal :=
  onDevice (fun s => s.gate q (.ringCtl i r) (fun s => s.wrRingCtl i r (RING_CTL.EN.put 1 (v.setWidth 64)))) s
def execRingShutdown (q : Requester) (i r : Nat) (s : State) : Host.Outcome State Fault Refusal :=
  onDevice (fun s => s.gate q (.ringCtl i r) (fun s => s.wrRingCtl i r (RING_CTL.EN.put 0 (s.rd (.ringCtl i r))))) s
def execRingIeChange (q : Requester) (i r : Nat) (s : State) : Host.Outcome State Fault Refusal :=
  onDevice (fun s => s.gate q (.ringCtl i r) (fun s =>
    s.wrRingCtl i r (RING_CTL.IE.put (1 - s.getF (.ringCtl i r) RING_CTL.IE) (s.rd (.ringCtl i r))))) s

/-- The enabled rings: slice and ring. -/
def State.ringsOn (s : State) : List (Nat × Nat) :=
  (s.regs.filter (fun q => decide (0x100000000 ≤ q.1) && decide (0x118 ≤ q.1 % 65536) && decide (q.1 % 65536 < 0x918) &&
    q.1 % 32 == 24 && RING_CTL.EN.get q.2 != 0)).map (fun q => ((q.1 - 0x100000000) / 65536, (q.1 % 65536 - 0x118) / 32))

/-- The tick's part: where `RINGS` of a slice has fallen, in relation to the state `old` before the tick, and is below the
number of its enabled rings, those at or above it are shut down (R113, R158). -/
def State.ringsTick (s old : State) : State :=
  let l := s.ringsOn
  forL l (fun q s =>
    let n := s.getE (.slcQeng q.1) SLC_QENG.RINGS
    if n < old.getE (.slcQeng q.1) SLC_QENG.RINGS ∧ n < (l.filter (fun p => p.1 == q.1)).length ∧ n ≤ q.2 ∧
        s.ringOn q.1 q.2 then s.ringStop q.1 q.2 false else s) s

/-! ## Publication (R146 to R153) -/

/-- The lap tag of an entry (R146). -/
def lapTag (lap : Nat) : Nat := lap % 255 + 1

/-- The status area of a result (Table 3). -/
def statusWord (lap : Nat) (r : Result) : Nat :=
  r.code % 256 + lapTag lap * 2 ^ 8 + r.step % 65536 * 2 ^ 16 + r.bytes * 2 ^ 32

/-- Addresses of an entry's timestamp word and status area, and of the done head. -/
def State.tsAddr (s : State) (i r idx : Nat) : Nat := (s.rd (.ringTsa i r)).toNat / 8 * 8 + 8 * idx
def State.stAddr (s : State) (i r idx : Nat) : Nat := (s.rd (.ringBase i r)).toNat + 64 * idx + 56
def State.dhAddr (s : State) (i r : Nat) : Nat := (s.rd (.ringDha i r)).toNat

/-- The writes of an entry pass the checks of R83. -/
def State.pubOk (s : State) (i r idx : Nat) : Bool :=
  s.hostOk i (s.stAddr i r idx) 8 && (!(s.flag (.ringTsa i r) RING_TSA.TSE) || s.hostOk i (s.tsAddr i r idx) 8)

/-- The entry's writes and that of the done head have their translations. -/
def State.pubTranslated (s : State) (i r idx : Nat) : Bool :=
  (!(s.hostOk i (s.dhAddr i r) 8) || s.translated i (s.dhAddr i r) 8 true) && s.translated i (s.stAddr i r idx) 8 true &&
    (!(s.flag (.ringTsa i r) RING_TSA.TSE) || s.translated i (s.tsAddr i r idx) 8 true)

/-- The entry can be published: finished, its data written, every write issued before for the function gone (R38), nothing held
back. -/
def State.pubReady (s : State) (i r : Nat) (t : Taken) : Bool :=
  t.result != none && !(s.itemWrites i r t.idx t.lap) && s.fnClear i && (!(s.pubOk i r t.idx) || s.pubTranslated i r t.idx)

/-- Publication goes on in this ring: not stopped, not frozen, not in reset; in a halted device only for the malformed
entry (R156). -/
def State.pubOpen (s : State) (i r : Nat) : Bool :=
  let g := s.ring (rKey i r)
  !g.stopped && !(s.frozen i) && !(s.inReset i) && s.mayIssue i &&
    (!(s.flag .fltHold FLT_HOLD.HALT) || match g.taken with
      | t :: _ => t.mal
      | [] => false)

/-- Timestamp word of one entry written, where the ring has timestamps (R146). -/
def State.pubStamp (s : State) (i r : Nat) (t : Taken) : State :=
  match t.result with
  | none => s
  | some v => if s.flag (.ringTsa i r) RING_TSA.TSE then s.sendWrite i (s.tsAddr i r t.idx) (leBytes 8 v.stamp) else s

/-- Status area of one entry written (R146). -/
def State.pubStatus (s : State) (i r : Nat) (t : Taken) : State :=
  match t.result with
  | none => s
  | some v => s.sendWrite i (s.stAddr i r t.idx) (leBytes 8 (statusWord t.lap v))

/-- An interrupt event, or the start of the moderation timer, after a done-head write (R153). -/
def State.pubEvent (s : State) (i r : Nat) (ioc : Bool) : State :=
  let g := s.ring (rKey i r)
  let quiet := !(s.ringOn i r) && g.taken == [] && decide (0 < g.pend)
  if s.flag (.ringCtl i r) RING_CTL.IE then
    if ioc || decide (max 1 (s.getF (.ringMod i r) RING_MOD.MCNT) ≤ g.pend) || quiet then (s.modClear i r).ringIrq i r
    else if s.getF (.ringMod i r) RING_MOD.MTIME = 0 then s
    else s.setRing (rKey i r) { g with timer := true }
  else s

/-- The done head after the last of the published entries: one write covers them all (R147, R148). -/
def State.pubHead (s : State) (i r : Nat) (l : List Taken) : State :=
  match l.getLast? with
  | none => s
  | some t =>
    let n := s.ringN i r
    let p := t.pos n + 1
    let v := p / n * 65536 + p % n
    let s := (s.sendWrite i (s.dhAddr i r) (leBytes 8 v)).wr (.ringDone i r) (BitVec.ofNat 64 v)
    let s := s.modRing (rKey i r) (fun g => { g with taken := g.taken.drop l.length, pend := g.pend + l.length })
    (s.pubEvent i r (l.any (fun t => t.ioc))).ringIdle i r

/-- A publication write is refused or has failed at an entry (R151, R155): later results are not published. -/
def State.pubFail (s : State) (i r : Nat) (t : Taken) (cause addr : Nat) : State :=
  (s.malformed i r 8 t.idx none).failRec i noCtx cause addr

/-- Every result ready in ring order is published. -/
def State.publish (s : State) (i r : Nat) : State :=
  if s.pubOpen i r then
    let l := (s.ring (rKey i r)).taken.takeWhile (s.pubReady i r)
    let l := if s.flag .fltHold FLT_HOLD.HALT then l.take 1 else l
    let good := l.takeWhile (fun t => s.pubOk i r t.idx)
    let bad := (l.drop good.length).head?
    let s := forL good (fun t s => s.pubStatus i r t) (forL good (fun t s => s.pubStamp i r t) s)
    match good.head? with
    | some t =>
      if s.hostOk i (s.dhAddr i r) 8 then
        let s := s.pubHead i r good
        match bad with
        | some b => s.pubFail i r b 1 (s.stAddr i r b.idx)
        | none => s
      else s.pubFail i r t 1 (s.dhAddr i r)
    | none =>
      match bad with
      | some b => s.pubFail i r b 1 (s.stAddr i r b.idx)
      | none => s
  else s

/-- Translations that the results in order still need are asked for (R86). -/
def State.pubAsk (s : State) (i r : Nat) : State :=
  if s.pubOpen i r then
    match (s.ring (rKey i r)).taken.head? with
    | some t => if t.result = none then s
      else
        let s := if s.flag (.ringTsa i r) RING_TSA.TSE then s.askTranslation i noCtx (s.tsAddr i r t.idx) 8 true else s
        (s.askTranslation i noCtx (s.stAddr i r t.idx) 8 true).askTranslation i noCtx (s.dhAddr i r) 8 true
    | none => s
  else s

def execWorkItemFinish (i r : Nat) (s : State) : Host.Outcome State Fault Refusal :=
  onDevice (fun s => (s.publish i r).pubAsk i r) s

/-- The moderation timer has run (R153). -/
def execModerationTimerExpiry (i r : Nat) (s : State) : Host.Outcome State Fault Refusal :=
  onDevice (fun s => if (s.ring (rKey i r)).timer then ((s.modClear i r).ringIrq i r).ringIdle i r else s) s

end Sys2Proof.Machine
end

