-- ==== Sys2Proof/Machine/Upstream.lean ====
section
/-!
DEFINITION. Upstream ports (chapter 3): link training as software sees it, function resets, configuration requests,
error reports, address translation invalidation, MSI-X release, and the manager claim (R93 to R96).
-/
namespace Sys2Proof.Machine

/-! ## The claim timer and the claim state (R93 to R95) -/

/-- The claim timer starts or restarts (R94). -/
def State.claimStart (s : State) : State := { s with claimTimer := some s.now }

/-- The claim timer runs in WAITING and ABANDONED only (R94). -/
def State.claimOpen (s : State) : Bool := s.claim = claimWaiting || s.claim = claimAbandoned

/-- `LTE` has gone to 1, or the data link layer has come up, on a port: the manager port restarts the timer (R94). -/
def State.claimKick (s : State) (p : Nat) : State := if s.mgrPort = p ∧ s.claimOpen then s.claimStart else s

/-- The claim state changed; the timer stops outside WAITING and ABANDONED. -/
def State.setClaim (s : State) (st token : Nat) : State :=
  { (s.setF .glbMgrSts GLB_MGR_STS.STATE st).setF .glbMgrSts GLB_MGR_STS.TOKEN token with claimTimer := none }

/-- A command is ignored (R93). -/
def State.claimIgn (s : State) : State := s.set1 .glbMgrSts GLB_MGR_STS.IGN

/-- CLAIM (Table 4). -/
def State.claimCmd (s : State) (q : Requester) (token : Nat) : State :=
  if s.isMgrFunc q = false ∨ token = 0 then s.claimIgn
  else if s.claimOpen then s.setClaim claimHost token
  else if s.isLocal then
    ((s.set1 .glbMgrSts GLB_MGR_STS.HREQ).setF .glbMgrSts GLB_MGR_STS.TOKEN token).irqEvent 300
  else s.claimIgn

/-- RELEASE with the holder's token (Table 4). -/
def State.releaseCmd (s : State) (q : Requester) (token : Nat) : State :=
  if s.isMgrFunc q ∧ s.claim = claimHost ∧ token = s.getF .glbMgrSts GLB_MGR_STS.TOKEN then
    (s.setClaim claimWaiting 0).claimStart
  else s.claimIgn

/-- A host claim waits in LOCAL. -/
def State.hreq (s : State) : Bool := s.isLocal && s.flag .glbMgrSts GLB_MGR_STS.HREQ

/-- LOCAL_RELEASE: the pending token becomes the holder's (Table 4). -/
def State.localReleaseCmd (s : State) (q : Requester) : State :=
  if isPair q && s.hreq then
    (s.setClaim claimHost (s.getF .glbMgrSts GLB_MGR_STS.TOKEN)).clr1 .glbMgrSts GLB_MGR_STS.HREQ
  else s.claimIgn

/-- The pending claim is discarded (Table 4). -/
def State.hreqDrop (s : State) : State :=
  (s.clr1 .glbMgrSts GLB_MGR_STS.HREQ).setF .glbMgrSts GLB_MGR_STS.TOKEN 0

/-- LOCAL_DECLINE (Table 4). -/
def State.localDeclineCmd (s : State) (q : Requester) : State :=
  if isPair q && s.hreq then s.hreqDrop else s.claimIgn

/-- A write to `GLB_MGR_CLAIM` (R93). One by the standby pair, which may not write it (R444), is an access violation, and
its command is ignored. -/
def State.wrMgrClaim (s : State) (q : Requester) (v : Word64) : State :=
  if isPair q && !(s.isActive q) then
    let s := s.violation q (Reg.loc .glbMgrClaim)
    if GLB_MGR_CLAIM.CMD.get v = 0 then s else s.claimIgn
  else match GLB_MGR_CLAIM.CMD.get v with
    | 0 => s
    | 1 => s.claimCmd q (GLB_MGR_CLAIM.TOKEN.get v)
    | 2 => s.releaseCmd q (GLB_MGR_CLAIM.TOKEN.get v)
    | 3 => s.localReleaseCmd q
    | 4 => s.localDeclineCmd q
    | _ => s.claimIgn

/-- The word of a claim command. -/
def claimWord (cmd token : Nat) : Word64 := BitVec.ofNat 64 (cmd * 2 ^ 24 + token % 65536)

def execMgrClaim (q : Requester) (token : Nat) (s : State) : Host.Outcome State Fault Refusal :=
  onDevice (fun s => s.gate q .glbMgrClaim (fun s => s.wrMgrClaim q (claimWord 1 token))) s
def execMgrRelease (q : Requester) (token : Nat) (s : State) : Host.Outcome State Fault Refusal :=
  onDevice (fun s => s.gate q .glbMgrClaim (fun s => s.wrMgrClaim q (claimWord 2 token))) s
def execLocalRelease (q : Requester) (s : State) : Host.Outcome State Fault Refusal :=
  onDevice (fun s => s.gate q .glbMgrClaim (fun s => s.wrMgrClaim q (claimWord 3 0))) s
def execLocalDecline (q : Requester) (s : State) : Host.Outcome State Fault Refusal :=
  onDevice (fun s => s.gate q .glbMgrClaim (fun s => s.wrMgrClaim q (claimWord 4 0))) s

/-- The timer has run for `TIMEOUT` × 10 ms, read live (R94). -/
def State.claimDue (s : State) : Bool :=
  match s.claimTimer with
  | some t => decide (t + s.getF .glbMgrTmo GLB_MGR_TMO.TIMEOUT * 250000 ≤ s.now)
  | none => false

/-- The timer expires: LOCAL (Table 4). -/
def execClaimTimerExpiry (s : State) : Host.Outcome State Fault Refusal :=
  onDevice (fun s => if s.claimOpen && s.claimDue then (s.setClaim claimLocal 0).irqEvent 300 else s) s

/-- A write to `GLB_MGR_TMO` is read live (R94). -/
def execMgrTmoWrite (q : Requester) (v : Word32) (s : State) : Host.Outcome State Fault Refusal :=
  onDevice (fun s => s.gate q .glbMgrTmo (fun s => s.plainWrite .glbMgrTmo (v.setWidth 64))) s

/-- FLR of the manager function, or port function reset of the manager port (Table 4). -/
def State.claimLost (s : State) : State :=
  if s.claim = claimHost then
    (((s.setClaim claimAbandoned 0).set1 .glbMgrSts GLB_MGR_STS.ABN).claimStart).irqEvent 300
  else if s.hreq then s.hreqDrop
  else s

/-! ## Function resets (R97 to R99) -/

/-- The slice is bound to a function that the reset covers, and is not slice 0 in LOCAL (R97). -/
def State.resetCovers (s : State) (p : Nat) (fns : Nat → Bool) (i : Nat) : Bool :=
  !(i == 0 && s.isLocal) && (i == 0 || s.flag (.slcBind i) SLC_BIND.VALID) && s.slPort i == p && fns (s.slFunc i)

/-- The functions of port `p` that `fns` names are reset: configuration space and vectors, their slices, their cached
translations, their requests (R97; those of slice 0 in LOCAL: log entry 91). -/
def State.funcsReset (s : State) (p : Nat) (fns : Nat → Bool) : State :=
  let mine := fun k => k / 64 == p && fns (k % 64)
  let s := { s with
    funcs := s.funcs.filter (fun q => !(mine q.1)),
    vecs := s.vecs.filter (fun q => !(mine (q.1 / 2048))),
    atc := s.atc.filter (fun a => !(a.port == p && fns a.func)),
    invals := s.invals.filter (fun v => !(v.1 == p && fns v.2.1)) }
  forN 256 (fun i s => if s.resetCovers p fns i then s.resetStart i else s) s

/-- A reset of functions, with the claim's part in it (R95, R97): slice 0 is judged by the claim state before. -/
def State.functionReset (s : State) (p : Nat) (fns : Nat → Bool) : State :=
  let s := s.funcsReset p fns
  if s.mgrPort = p ∧ fns 0 then s.claimLost else s

/-- PME_Turn_Off is answered once nothing is outstanding on the port, and no issued write is still to leave it; the link then goes to L2/L3 Ready (R77), in which the
port sends nothing more. -/
def State.pmeAck (s : State) (p : Nat) : State :=
  if (s.hp p).turnOff && s.issuedPort p == 0 &&
      !(s.writes.any (fun w => w.issued && !(s.inSram w.slice) && s.slPort w.slice == p)) then
    ((s.modHp p (fun h => { h with turnOff := false })).setF (.glbHpSts p) GLB_HP_STS.LTSSM ltL2).emit (.pmeToAck p)
  else s

/-- Every port looks whether it can answer. -/
def State.pmeAcks (s : State) : State := forN 4 (fun p s => s.pmeAck p) s

/-- Where the link goes: its state, with the data link layer down. -/
def State.linkOff (s : State) (p ltssm : Nat) : State :=
  let s := (s.setF (.glbHpSts p) GLB_HP_STS.LTSSM ltssm).setF (.glbHpSts p) GLB_HP_STS.DL_UP 0
  (s.setF (.glbHpSts p) GLB_HP_STS.SPEED 0).setF (.glbHpSts p) GLB_HP_STS.WIDTH 0

/-- The port takes SRIS as it enters Detect (R76). -/
def State.takeSris (s : State) (p : Nat) : State :=
  s.modHp p (fun h => { h with sris := s.flag (.glbHpCtl p) GLB_HP_CTL.SRIS })

/-- The link has left Detect, where it takes `SRIS`: with Enter Compliance in Link Control 2, for Polling.Compliance (R76, R499;
log entry 78). -/
def State.toPolling (s : State) (p : Nat) : State :=
  let v := (s.hp p).lnkCtl2
  if v.testBit 4 ∧ s.lte p then
    ((s.takeSris p).setF (.glbHpSts p) GLB_HP_STS.LTSSM ltPolling).emit
      (.compliance p (v.testBit 10) (min (v % 16) (s.maxSpeed p)) (v / 128))
  else s

/-- A port function reset of port `p`, whose link goes to `ltssm` (R97). -/
def State.portFunctionReset (s : State) (p ltssm : Nat) : State :=
  let s := s.functionReset p (fun _ => true)
  let s := (s.linkOff p ltssm).modHp p (fun h => { h with turnOff := false })
  ((s.set1 (.glbHpSts p) GLB_HP_STS.FRC).set1 (.glbHpSts p) GLB_HP_STS.LDC).satF (.glbHpSts p) GLB_HP_STS.LDOWN_CNT 1

def execLinkDown (p : Nat) (s : State) : Host.Outcome State Fault Refusal :=
  onDevice (fun s =>
    if s.present p && s.dlUp p then ((s.portFunctionReset p ltDetect).takeSris p).toPolling p else s) s

def execHotResetReceived (p : Nat) (disabled : Bool) (s : State) : Host.Outcome State Fault Refusal :=
  onDevice (fun s =>
    if s.present p && s.lte p then
      if disabled then s.portFunctionReset p ltDisabled else (s.portFunctionReset p ltHotReset).toPolling p
    else s) s

/-- The router leads the link into Loopback (R498). -/
def execRouterLoopbackEntry (p : Nat) (s : State) : Host.Outcome State Fault Refusal :=
  onDevice (fun s => if s.present p && s.lte p then s.portFunctionReset p ltLoopback else s) s

/-- FLR of a PF covers its VFs (R98). -/
def execFlr (p fn : Nat) (s : State) : Host.Outcome State Fault Refusal :=
  onDevice (fun s =>
    if s.fnExists p fn then s.functionReset p (fun f => decide (fn = 0) || decide (f = fn)) else s) s

/-! ## Link training (R74 to R79) -/

/-- Training is enabled or disabled: Detect, with `SRIS` taken and 32 GT/s tried again; or Disabled, which takes the
data link layer down (R74 to R76; one that is down already: log entry 91). -/
def State.setLte (s : State) (p : Nat) (on : Bool) : State :=
  if s.lte p = on then s
  else
    let s := s.setF (.glbHpCtl p) GLB_HP_CTL.LTE on.toNat
    if on then
      let s := (s.modHp p (fun h => { h with held16 := false })).takeSris p
      ((s.setF (.glbHpSts p) GLB_HP_STS.LTSSM ltDetect).claimKick p).toPolling p
    else if s.dlUp p then s.portFunctionReset p ltDisabled
    else s.linkOff p ltDisabled

/-- RETRAIN: 32 GT/s is tried again; a link in L0 goes through Recovery (R75). -/
def State.retrain (s : State) (p : Nat) : State :=
  let s := s.modHp p (fun h => { h with held16 := false })
  if s.getF (.glbHpSts p) GLB_HP_STS.LTSSM = ltL0 then s.setF (.glbHpSts p) GLB_HP_STS.LTSSM ltRecovery else s

/-- A write to `GLB_HPp_CTL`; a port that does not exist ignores it (R72). -/
def State.hpCtlNow (s : State) (p : Nat) (v : Word64) : State :=
  if s.present p then
    let s := (s.setF (.glbHpCtl p) GLB_HP_CTL.SRIS (GLB_HP_CTL.SRIS.get v)).setF (.glbHpCtl p) GLB_HP_CTL.MAX_SPEED
      (GLB_HP_CTL.MAX_SPEED.get v)
    let s := s.setLte p (GLB_HP_CTL.LTE.get v != 0)
    if GLB_HP_CTL.RETRAIN.get v != 0 then s.retrain p else s
  else s

/-- A write to it: of the register or of the saved copy (R391). -/
def State.wrHpCtl (s : State) (p : Nat) (v : Word64) : State :=
  if (s.savedCopy (.glbHpCtl p)).isSome then s.copyWrite (.glbHpCtl p) v else s.hpCtlNow p v

def execHpLteWrite (q : Requester) (p : Nat) (on : Bool) (s : State) : Host.Outcome State Fault Refusal :=
  onDevice (fun s => s.gate q (.glbHpCtl p) (fun s =>
    s.wrHpCtl p (GLB_HP_CTL.LTE.put on.toNat (s.shown (.glbHpCtl p))))) s
def execHpRetrain (q : Requester) (p : Nat) (s : State) : Host.Outcome State Fault Refusal :=
  onDevice (fun s => s.gate q (.glbHpCtl p) (fun s =>
    s.wrHpCtl p (GLB_HP_CTL.RETRAIN.put 1 (s.shown (.glbHpCtl p))))) s

/-- The port accepts the width: x8 to x1 on an x8 port, x4 to x1 on an x4 port (R72, R74). -/
def State.widthOk (s : State) (w : Nat) : Bool := decide (1 ≤ w) && decide (w ≤ if s.aon.straps.linkCfg = 1 then 4 else 3)

/-- Training ends in L0; a link that comes from L2 has passed Detect, which took its data link layer down. `eqFail`:
equalisation at 32 GT/s has failed in 3 consecutive attempts (R75). A data link layer that comes up restarts the claim
timer of the manager port (R94). A link that comes from a state other than those of training has passed Detect, where it
takes `SRIS` (R76). -/
def execDlUp (p speed width : Nat) (eqFail : Bool) (s : State) : Host.Outcome State Fault Refusal :=
  onDevice (fun s =>
    if s.present p && s.lte p && s.widthOk width && decide (1 ≤ speed) then
      let l := s.getF (.glbHpSts p) GLB_HP_STS.LTSSM
      let s := if s.dlUp p && l == ltL2 then s.portFunctionReset p ltDetect else s
      let fresh := !(s.dlUp p)
      let s := if fresh && (l == ltL2 || l == ltDisabled || l == ltLoopback || l == ltHotReset) then s.takeSris p else s
      let s := if eqFail && s.maxSpeed p = 5 then
          (s.modHp p (fun h => { h with held16 := true })).set1 (.glbHpSts p) GLB_HP_STS.SDG else s
      let sp := min speed (if (s.hp p).held16 then min 4 (s.maxSpeed p) else s.maxSpeed p)
      let s := ((s.setF (.glbHpSts p) GLB_HP_STS.SPEED sp).setF (.glbHpSts p) GLB_HP_STS.WIDTH width).setF (.glbHpSts p)
        GLB_HP_STS.LTSSM ltL0
      let s := s.set1 (.glbHpSts p) GLB_HP_STS.DL_UP
      if fresh then s.claimKick p else s
    else s) s

def execPmeTurnOff (p : Nat) (s : State) : Host.Outcome State Fault Refusal :=
  onDevice (fun s =>
    if s.present p && s.dlUp p then (s.modHp p (fun h => { h with turnOff := true })).pmeAck p else s) s

/-! ## Requests of the host (R78 to R82, R100) -/

/-- VFs above `n` of a port no longer exist: their configuration space and vectors are as after reset when they exist
again (PRESUMED, log entry 17). -/
def State.vfsCut (s : State) (p n : Nat) : State :=
  let gone := fun k => k / 64 == p && decide (n < k % 64)
  { s with funcs := s.funcs.filter (fun q => !(gone q.1)), vecs := s.vecs.filter (fun q => !(gone (q.1 / 2048))) }

/-- A translation is cached only while ATS is enabled (PRESUMED, log entry 17). -/
def State.atcCut (s : State) (p fn : Nat) : State :=
  { s with atc := s.atc.filter (fun a => !(a.port == p && a.func == fn)) }

/-- NumVFs and VF Enable written: NumVFs while VF Enable is 0, and no value above TotalVFs (R78; log entry 79). -/
def Func.vfWrite (f : Func) (enable : Bool) (num : Nat) : Func :=
  { f with numVfs := if f.vfEnable ∨ 63 < num then f.numVfs else num, vfEnable := enable }

/-- A base address written to BAR `k` of `size` bytes, of which the address bits are kept; a BAR of size 0 does not exist
(R80). -/
def barPut (k size base : Nat) (m : FMap Nat) : FMap Nat := FMap.put 0 k (if size = 0 then 0 else base / size * size) m

/-- What a BAR of `size` bytes reads as: its base, and its type, 64-bit and non-prefetchable (R80). -/
def barRead (k size : Nat) (m : FMap Nat) : Nat := if size = 0 then 0 else FMap.find 0 k m / size * size + 4

/-- Bus mastering or D-state changed: the function's completion timers stand still while it may issue nothing (R85, R347). -/
def State.funcOn (s : State) (k : Nat) (g : Func → Func) : State :=
  let was := (s.func k).on
  let t := s.modFunc k g
  if was = (t.func k).on then t
  else if was then t.modFunc k (fun f => { f with offAt := s.now })
  else
    let gap := s.now - (s.func k).offAt
    { t with reqs := t.reqs.map (fun (q : HostReq) =>
        if q.phase = .issued ∧ s.slFn q.slice = k ∧ s.inSram q.slice = false then { q with since := q.since + gap } else q) }

/-- Bits cleared in an AER status, whose bits stand at `lo` and above in `aer`. -/
def aerCut (lo v : Nat) (l : List Nat) : List Nat := l.filter (fun e => !(decide (lo ≤ e ∧ e < lo + 32) && v.testBit (e - lo)))

/-- A write to the MSI-X table, which lies behind a BAR (R80, R82). -/
def State.vecWrite (s : State) (p fn v : Nat) (f : Vec → Vec) : State :=
  if s.barOn p fn then (if v < vecCount fn then s.modVec (vKey p fn v) f else s) else s.unsupported p fn

/-- Bits of an AER status register. -/
def aerBits (lo : Nat) (l : List Nat) : Nat := ((List.range 32).map (fun j => if lo + j ∈ l then 2 ^ j else 0)).sum

/-- What a configuration request reads (Tables 1 to 3 of chapter 3). The encodings are those of the fields that PCI Express
names; a capability that Table 2 does not list is absent (log entry 79). -/
def State.configVal (s : State) (p fn : Nat) (x : ConfigField) : Word64 :=
  let k := fKey p fn
  let f := s.func k
  let pf0 := fn = 0
  let own := BitVec.ofNat 64 ∘ Bool.toNat
  let n (v : Nat) : Word64 := BitVec.ofNat 64 v
  match x with
  | .vendorId => if pf0 then Config.vendorId.setWidth 64 else 0xFFFF
  | .deviceId => if pf0 then (if p = s.mgrPort then 0x7122 else 0x7120) else 0x7121
  | .classCode => 0x0C0380
  | .revisionId => Config.revision.setWidth 64
  | .subsystemVendor => Config.subsystemVendor.setWidth 64
  | .subsystemId => Config.subsystemId.setWidth 64
  | .interruptPin => 0
  | .mse => own f.mse
  | .bme => own f.bme
  | .d3hot => own f.d3hot
  | .d1d2Support => 0
  | .pmeSupport => 8
  | .pmeEn => own f.pmeEn
  | .pmeStatus => own f.pme
  | .noSoftReset => 1
  | .mpsSupported => 512
  | .mps => n f.mps
  | .mrrs => n f.mrrs
  | .extTagSupported => 1
  | .extTag => own f.extTag
  | .tag10Supported => 1
  | .tag10 => own f.tag10
  | .flrSupported => 1
  | .ctoRanges => 0
  | .ctoDisable => 0
  | .transactionsPending => own (s.issuedFn k != 0)
  | .relaxedOrd => own f.relaxed
  | .aspmSupported => 2
  | .aspmL1 => own f.aspmL1
  | .lnkCtl2 => n (s.hp p).lnkCtl2
  | .msixSize => n (vecCount fn)
  | .msixEn => own f.msixEn
  | .fmask => own f.fmask
  | .aerStatus => n (aerBits 0 f.aer)
  | .aerMask => n f.aerMask
  | .aerSeverity => n f.aerSev
  | .aerCorStatus => n (aerBits 32 f.aer)
  | .aerCorMask => n f.aerCorMask
  | .ecrcGenCap => 1
  | .ecrcGen => own f.ecrcGen
  | .ecrcCheckCap => 1
  | .ecrcCheck => own f.ecrcCheck
  | .totalVfs => if pf0 then 63 else 0
  | .numVfs => n f.numVfs
  | .vfEnable => own f.vfEnable
  | .firstVf => if pf0 then 1 else 0
  | .vfStride => if pf0 then 1 else 0
  | .vfDeviceId => if pf0 then 0x7121 else 0
  | .pageSizes => if pf0 then 0x1FF else 0
  | .systemPage => if pf0 then n (f.sysPage / 4096) else 0
  | .bar j => n (if pf0 then barRead j (barSize (p == s.mgrPort) j) f.bars else 0)
  | .vfBar j => n (if pf0 then barRead j (vfBarSize f j) f.vfBars else 0)
  | .ari => 1
  | .atsQueueDepth => 32
  | .atsPageAligned => 1
  | .atsGlobal => 1
  | .atsEn => own f.atsEn
  | .pasidWidth => 20
  | .pasidEn => own f.pasidEn
  | .pasidExec => 0
  | .pasidPriv => 0
  | .secondary => own pf0
  | .serial => if pf0 then Config.serial else 0
  | .otherCapability => 0

/-- A field of PF0 alone: the SR-IOV capability, and the BARs. -/
def pfOnly (fn : Nat) (g : Func → Func) (f : Func) : Func := if fn = 0 then g f else f

/-- What a configuration request reads or changes. -/
def State.config (s : State) (p fn : Nat) (op : ConfigOp) : State :=
  let k := fKey p fn
  match op with
  | .read x => { s with readData := [(s.configVal p fn x).lo, (s.configVal p fn x).hi] }
  | .mse b => s.modFunc k (fun f => { f with mse := b })
  | .bme b => s.funcOn k (fun f => { f with bme := b })
  | .d3hot b => s.funcOn k (fun f => { f with d3hot := b, pme := f.pme && b })
  | .pmeEn b => s.modFunc k (fun f => { f with pmeEn := b })
  | .msixEn b => s.modFunc k (fun f => { f with msixEn := b })
  | .fmask b => s.modFunc k (fun f => { f with fmask := b })
  | .vf enable num =>
    if fn = 0 then
      let s := s.modFunc k (fun f => f.vfWrite enable num)
      s.vfsCut p (s.func k).vfs
    else s
  | .extTag b => s.modFunc k (fun f => { f with extTag := b })
  | .tag10 b => s.modFunc k (fun f => { f with tag10 := b })
  | .mps n => s.modFunc k (fun f => { f with mps := n })
  | .mrrs n => s.modFunc k (fun f => { f with mrrs := n })
  | .pasidEn b => s.modFunc k (fun f => { f with pasidEn := b })
  | .atsEn b =>
    let s := s.modFunc k (fun f => { f with atsEn := b })
    if b then s else s.atcCut p fn
  | .relaxedOrd b => s.modFunc k (fun f => { f with relaxed := b })
  | .vectorMask v b => s.vecWrite p fn v (fun x => { x with masked := b })
  | .vectorEntry v a d => s.vecWrite p fn v (fun x => { x with addr := a, data := d })
  | .captureBus b => s.modFunc k (fun f => { f with bus := b })
  | .bar j b => s.modFunc k (pfOnly fn (fun f => { f with bars := barPut j (barSize (p == s.mgrPort) j) b f.bars }))
  | .vfBar j b => s.modFunc k (pfOnly fn (fun f => { f with vfBars := barPut j (vfBarSize f j) b f.vfBars }))
  | .systemPage b => s.modFunc k (pfOnly fn (fun f => { f with sysPage := b }))
  | .aspmL1 b => s.modFunc k (fun f => { f with aspmL1 := b })
  | .lnkCtl2 v => if fn = 0 then s.modHp p (fun h => { h with lnkCtl2 := v }) else s
  | .ecrcGen b => s.modFunc k (fun f => { f with ecrcGen := b })
  | .ecrcCheck b => s.modFunc k (fun f => { f with ecrcCheck := b })
  | .aerClear v => s.modFunc k (fun f => { f with aer := aerCut 0 v f.aer })
  | .aerCorClear v => s.modFunc k (fun f => { f with aer := aerCut 32 v f.aer })
  | .aerMask v => s.modFunc k (fun f => { f with aerMask := v })
  | .aerCorMask v => s.modFunc k (fun f => { f with aerCorMask := v })
  | .aerSeverity v => s.modFunc k (fun f => { f with aerSev := v })

/-- A configuration request is answered while the link is up; an absent function answers Unsupported Request
(R79, R100). -/
def execConfigRequest (p fn : Nat) (op : ConfigOp) (s : State) : Host.Outcome State Fault Refusal :=
  onDevice (fun s =>
    if s.present p && s.dlUp p then (if s.fnExists p fn then s.config p fn op else s.unsupported p fn) else s) s

/-- A host's request that is unsupported: with Memory Space Enable 0 or to no function, with a PASID prefix, or a message
(R82, Table 6). -/
def execHostRequestUr (p fn : Nat) (why : UrCause) (s : State) : Host.Outcome State Fault Refusal :=
  onDevice (fun s => if s.present p && (decide (why ≠ .mseOff) || !(s.barOn p fn)) then s.unsupported p fn else s) s

/-- A poisoned write to a register or doorbell is discarded and logged (Table 6). -/
def execPoisonedWrite (q : Requester) (l : Loc) (s : State) : Host.Outcome State Fault Refusal :=
  onDevice (fun s =>
    match q with
    | .func p fn => match s.place q l with
      | .none => s
      | .ur => s.unsupported p fn
      | _ => s.upErr p fn aerPoisoned
    | _ => s) s

/-- AER number of an error that the link detects (Table 6, log entry 14). -/
def upErrorBit : UpstreamError → Nat
  | .receiver => 32
  | .badTlp => 38
  | .badDllp => 39
  | .replayRollover => 40
  | .replayTimeout => 44
  | .dlProtocol => aerDlp
  | .flowControl => aerFcp
  | .overflow => aerRxOf
  | .malformed => aerMalformed
  | .ecrc => aerEcrc

/-- Link errors are logged in PF0, an ECRC error in its target while ECRC checking is enabled there (Table 6); uncorrectable
ones are fault events. -/
def execUpstreamErrorDetected (p fn : Nat) (err : UpstreamError) (s : State) : Host.Outcome State Fault Refusal :=
  onDevice (fun s =>
    let f := if err = .ecrc ∧ s.fnExists p fn then fn else 0
    if s.present p && (decide (err ≠ .ecrc) || (s.func (fKey p f)).ecrcCheck) then
      (if upErrorBit err < 32 then s.upErr p f (upErrorBit err) else s.aer p f (upErrorBit err))
    else s) s

/-! ## Bus mastering, translation, MSI-X (R85 to R92) -/

/-- A cached translation that an Invalidate Request names. -/
def Atc.hit (a : Atc) (p fn : Nat) (pasid : Option Nat) (page pages : Nat) (glob : Bool) : Bool :=
  a.port == p && a.func == fn && (glob || a.pasid == pasid) && decide (page ≤ a.page) && decide (a.page < page + pages)

/-- Every matching entry is dropped at once. Writes issued with one of them that have not left the port are what the
completion waits for; writes not issued yet need a fresh translation (R87). -/
def execAtsInvalidateRequest (p fn : Nat) (pasid : Option Nat) (page pages : Nat) (glob : Bool) (s : State) :
    Host.Outcome State Fault Refusal :=
  onDevice (fun s =>
    if s.fnExists p fn then
      let used := s.writes.filter (fun w => w.issued && s.slPort w.slice == p && s.slFunc w.slice == fn &&
        w.xlat.any (fun x => (Atc.mk p fn (s.slPasid w.slice) x.1 true x.2).hit p fn pasid page pages glob))
      { s with atc := s.atc.filter (fun a => !(a.hit p fn pasid page pages glob)),
               invals := s.invals ++ [(p, fn, used.map PWrite.tag)] }
    else s) s

/-- The oldest invalidation of a function removed, where nothing it waits for is left: completions of one function go out in
the order of their requests (DESIGN CHOICE, log entry 80). -/
def invalDone (p fn : Nat) : List (Nat × Nat × List Nat) → Option (List (Nat × Nat × List Nat))
  | [] => none
  | v :: t =>
    if v.1 = p ∧ v.2.1 = fn then (if v.2.2 = [] then some t else none)
    else (invalDone p fn t).map (fun l => v :: l)

def execAtsInvalidateCompletion (p fn : Nat) (s : State) : Host.Outcome State Fault Refusal :=
  onDevice (fun s =>
    match invalDone p fn s.invals with
    | some l => { s with invals := l }.emit (.invalidateDone p fn)
    | none => s) s

/-- One message for a pending vector once every condition of R92 has ended; MSI-X Enable has returned to 1 (R91). -/
def execMsixPendingRelease (p fn vec : Nat) (s : State) : Host.Outcome State Fault Refusal :=
  onDevice (fun s =>
    if (s.func (fKey p fn)).msixEn && (s.vec (vKey p fn vec)).pba && !(s.vecHeld p fn vec) then
      ((s.hostTraffic p).modVec (vKey p fn vec) (fun x => { x with pba := false })).emit (.msix p fn vec)
    else s) s

end Sys2Proof.Machine
end

