-- ==== Sys2Proof/Machine/Requests.lean ====
section
/-!
DEFINITION. Completions of non-posted requests and their failures (R346 to R350): what the data of each kind of request
brings about, retries, final failures; and the entries that a ring fetch brings (R145).
-/
namespace Sys2Proof.Machine

/-! ## The end of a transfer whose list is known (R212, R213, R342) -/

/-- A zero-length packet is still to be sent: the only packet of an OUT or STREAM of length 0, or the ZLP of R212. -/
def Op.wantZlp (o : Op) (mps : Nat) : Bool :=
  !o.zlpDone && match o.req.kind with
    | .out => o.req.len == 0
    | .stream => o.req.len == 0 || (o.req.zlp && o.moved % max 1 mps == 0)
    | .gather => o.req.zlp && o.moved != 0 && o.moved % max 1 mps == 0
    | _ => false

/-- Nothing of the transfer is left to move. -/
def Op.drained (o : Op) (e : Ep) : Bool :=
  o.remain == 0 && o.flight.isNone && o.asked == 0 && !(o.req.kind.sends e.dirIn && o.wantZlp e.mps)

/-- A GATHER or SCATTER with nothing left to move, since its list has come to its end or its length is 0, ends with OK
(R342). -/
def State.opSettle (s : State) (c : Nat) : State :=
  match (s.ctx c).op with
  | none => s
  | some o =>
    if (o.req.kind = .gather ∨ o.req.kind = .scatter) ∧ o.result = none ∧ o.drained (s.epInfo o.ep) then
      s.opResult c stOk
    else s

/-! ## List elements and tables (R340 to R343) -/

/-- A position of the operation's list changed. -/
def State.modPos (s : State) (c : Nat) (f : ListPos → ListPos) : State := s.modOp c (fun o => { o with pos := f o.pos })

/-- A format error (R340, R341). -/
def State.listBad (s : State) (c addr : Nat) : State := s.moverFail c 7 addr stDmaFault

/-- A link followed, within the hop budget; `at_` is where the link stands (R343). -/
def State.hop (s : State) (c at_ target : Nat) (p : ListPos) : State :=
  if p.hops + 1 ≤ p.budget then
    s.modPos c (fun p => { p with next := some target, table := none, hops := p.hops + 1 })
  else s.moverFail c 6 at_ stChainLimit

/-- A segment resolved: checked under R83 (R342), unless it has length 0 and is passed over (R340). -/
def State.segment (s : State) (c at_ addr len : Nat) : State :=
  if len = 0 ∨ s.hostOk (s.ctx c).slice addr len then s.modPos c (fun p => p.add at_ addr len)
  else s.moverFail c 1 addr stDmaFault

/-- A scatter-gather element read at `a` (R340). -/
def State.sgElement (s : State) (c a : Nat) (b : List Byte) (p : ListPos) : State :=
  let addr := leValue (b.take 8)
  let len := leValue ((b.drop 8).take 4)
  let flags := leValue ((b.drop 12).take 4)
  if 4 ≤ flags ∨ flags = 3 then s.listBad c a
  else if flags % 2 = 1 then
    if len ≠ 0 ∨ addr % 16 ≠ 0 then s.listBad c a else s.hop c a addr p
  else
    (s.modPos c (fun p => { p with next := if flags = 2 then none else some (a + 16) })).segment c a addr len

/-- After the last offset of a table (R341). -/
def State.tableEnd (s : State) (c : Nat) (t : TableHdr) (p : ListPos) : State :=
  if t.next = 0 then s.modPos c (fun p => { p with next := none, table := none })
  else s.hop c (t.at_ + 16) t.next p

/-- An index table header, the last of its bytes read, which begins at `a` (R341). -/
def State.tableHeader (s : State) (c a : Nat) (b : List Byte) (p : ListPos) : State :=
  let t : TableHdr := ⟨leValue (b.take 8), leValue ((b.drop 8).take 4), leValue ((b.drop 12).take 4),
    leValue ((b.drop 16).take 8), a⟩
  if t.seg = 0 ∨ 65536 < t.seg ∨ 65535 < t.left ∨ t.next % 8 ≠ 0 ∨ leValue ((b.drop 24).take 8) ≠ 0 then s.listBad c a
  else if t.left = 0 then s.tableEnd c t p
  else s.modPos c (fun p => { p with next := some (a + 32), table := some t })

/-- The segments that `k` offsets of a table name. -/
def tableSegs (t : TableHdr) (k : Nat) (b : List Byte) : List (Nat × Nat) :=
  (List.range k).map (fun j => ((t.base + leValue ((b.drop (4 * j)).take 4)) % 2 ^ 64, t.seg))

/-- A block of `k` offsets of a table read at `a` (R341): its segments up to the first that is refused (R342). -/
def State.tableBlock (s : State) (c a k : Nat) (b : List Byte) (t : TableHdr) (p : ListPos) : State :=
  let t' := { t with left := t.left - k }
  let l := tableSegs t k b
  let good := l.takeWhile (fun q => s.hostOk (s.ctx c).slice q.1 q.2)
  let s := s.modPos c (fun p => { p with
    next := some (a + 4 * k), table := some t', segs := p.segs ++ good,
    ats := p.ats ++ (List.range good.length).map (fun j => a + 4 * j) })
  match (l.drop good.length).head? with
  | some q => s.moverFail c 1 q.1 stDmaFault
  | none => if t'.left = 0 then s.tableEnd c t' p else s

/-- What a read of the list brings. -/
def State.listData (s : State) (c a : Nat) (b : List Byte) : State :=
  match (s.ctx c).op with
  | none => s
  | some o =>
    let s := if o.req.mode = 1 then s.sgElement c a b o.pos
      else match o.pos.table with
        | none =>
          let h := o.pos.part ++ b
          if h.length < 32 then s.modPos c (fun p => { p with next := some (a + b.length), part := h })
          else (s.modPos c (fun p => { p with part := [] })).tableHeader c (a - o.pos.part.length) h o.pos
        | some t => s.tableBlock c a (b.length / 4) b t o.pos
    ((s.takeOnChip c).opSettle c).lookAhead c

/-! ## Data that completions bring -/

/-- OUT data goes to the landing buffer (R337); data of an interval that has passed meanwhile is discarded. -/
def State.outArrived (s : State) (c addr : Nat) (b : List Byte) : State :=
  match (s.ctx c).op with
  | none => s
  | some o =>
    if (segAt o.pos.segs o.buf.length).map Prod.fst = some addr then
      (s.modOp c (fun o => { o with buf := o.buf ++ b })).lookAhead c
    else
      let m := max 1 (s.epInfo o.ep).mps
      (s.lbFree (s.ctx c).slice (o.outGran m (o.buf.length + b.length) - o.outGran m o.buf.length)).lookAhead c

/-- The next piece of an image is read, once the header has passed the checks that hold reads back (R170). -/
def State.imageNext (s : State) (q : HostReq) (rest : Option Nat) (b : List Byte) : State :=
  match rest, s.ldCmd with
  | none, some (1, sl, _) =>
    let n := leValue ((b.drop 12).take 4)
    if s.capRoom 2 sl (imageBlocks n) && s.hostOk 0 s.ldSrc (16 + 4 * n) && decide (n ≠ 0) then
      s.imageRead (s.ldSrc + 16) (4 * n) else s
  | some 0, _ => s
  | some left, _ => s.imageRead (q.addr + q.len) left
  | _, _ => s

/-- The operation of the seal unit that works for context `c`. -/
def SealOp.isFor (o : SealOp) (c : Nat) : Bool :=
  match o.use with
  | .instr d _ _ _ _ => d == c
  | _ => false

/-- The parameter block of a SEAL in the pad of its context (R226). -/
def State.blockOf (s : State) (c block : Nat) : SealBlock := sealBlock ((s.ctx c).padBytes block 64)

/-- The nonce of a SEAL, its tag over a ciphertext, and the tag that its block gives (Table 10 of chapter 7). -/
def SealOp.nonce (o : SealOp) : List Byte := (o.blk.drop 24).take 12
def SealOp.tag (o : SealOp) (d : List Byte) : List Byte := leBytes 16 (Config.gcmTag o.key o.nonce o.aad d).toNat

/-- An open whose tag does not match (R226). -/
def SealOp.mismatch (o : SealOp) : Bool :=
  match o.use with
  | .instr _ opening _ _ _ => opening && (o.blk.drop 40).take 16 != o.tag o.src
  | _ => false

/-- Everything that a SEAL reads is there: its output is made, and its write asked for, unless it is an open whose tag does
not match (R226, R364). -/
def State.sealEmit (s : State) (c : Nat) (o : SealOp) : State :=
  let s := { s with sealOps := s.sealOps.map (fun (v : SealOp) => if v.isFor c then { v with out := true } else v) }
  if o.mismatch then s else s.postWrite c (sealBlock o.blk).dst (gcmText o.key o.nonce o.src) .sealOut

/-- The next read that a SEAL still needs: of its source, then of its additional data (R83, R226); then its output. -/
def State.sealRead (s : State) (c : Nat) : State :=
  match s.sealOps.find? (fun o => o.isFor c) with
  | some o => match o.use with
    | .instr _ _ _ _ _ =>
      let b := sealBlock o.blk
      let read (a left : Nat) (p : Purpose) : State :=
        s.newReq (s.ctx c).slice c a (min left (s.readMax (s.ctx c).slice a)) p
      if o.src.length < b.len then read (b.src + o.src.length) (b.len - o.src.length) .sealSource
      else if o.aad.length < b.aadLen then read (b.aad + o.aad.length) (b.aadLen - o.aad.length) .sealAad
      else s.sealEmit c o
    | _ => s
  | none => s

/-- Source or additional data of a SEAL has been read. -/
def State.sealArrived (s : State) (c : Nat) (aad : Bool) (b : List Byte) : State :=
  { s with sealOps := s.sealOps.map (fun (o : SealOp) =>
      if o.isFor c then (if aad then { o with aad := o.aad ++ b } else { o with src := o.src ++ b }) else o) }.sealRead c

/-- A translation granted, to the page that the completion's data gives: cached and used (R86). With 4,096 held, the oldest
goes (DESIGN CHOICE, log entry 80). -/
def State.granted (s : State) (q : HostReq) (write : Bool) (data : List Byte) : State :=
  { s with atc := ⟨s.slPort q.slice, s.slFunc q.slice, s.slPasid q.slice, q.addr / 4096, write,
      leValue (data.take 8) / 4096⟩ :: s.atc.take 4095 }

/-- The ring's entries that a fetch brings: their contexts as the context store gives them. -/
def entriesOf (b : List Byte) : List Entry :=
  (List.range (b.length / 64)).map (fun k => entryOf ((b.drop (64 * k)).take 64) noCtx)

/-- A fetch has come back: its entries are looked at, unless the scan has been stopped meanwhile (R145, R157). -/
def State.fetched (s : State) (i r : Nat) (l : List Entry) : State :=
  if (s.ring (rKey i r)).scanning then State.scanBatch i r l s else s

/-- The data of a request that has succeeded. -/
def State.reqDone (s : State) (q : HostReq) (data : List Byte) : State :=
  let b := s.reqData q data
  match q.purpose with
  | .hld _ _ => s.hldDone q data
  | .outData => ((s.dropReq q.tag).outArrived q.ctx q.addr b).pumpReqs
  | .listElem => ((s.dropReq q.tag).listData q.ctx q.addr b).pumpReqs
  | .ringFetch r => ((s.dropReq q.tag).fetched q.slice r (entriesOf b)).pumpReqs
  | .image rest => ((s.dropReq q.tag).imageNext q rest b).pumpReqs
  | .sealSource => ((s.dropReq q.tag).sealArrived q.ctx false b).pumpReqs
  | .sealAad => ((s.dropReq q.tag).sealArrived q.ctx true b).pumpReqs
  | .translate w => (((s.dropReq q.tag).granted q w data).pumpReqs).lookAheadAll

/-! ## Failures (R346, R349, R350) -/

/-- The activation ends now, with the condition that goes first (R182). -/
def State.endWith (s : State) (c code : Nat) : State := s.jobs [.ends c (endMin (s.ctx c).endCode code)]

/-- The request has failed for good: it stays marked until its owner lets it go. -/
def State.markFinal (s : State) (tag : Nat) : State :=
  { s with reqs := s.reqs.map (fun q => if q.tag = tag then { q with phase := .failed, fails := 4 } else q) }

/-- The outcome of Table 3 for a read. -/
def State.readFailed (s : State) (q : HostReq) : State :=
  match q.purpose with
  | .hld _ _ => (s.dropReq q.tag).endWith q.ctx stDmaFault
  | .outData => if q.ctx = noCtx then s.dropReq q.tag else (s.markFinal q.tag).jobs [.asks q.ctx stDmaFault]
  | .listElem => if q.ctx = noCtx then s.dropReq q.tag else (s.markFinal q.tag).jobs [.asks q.ctx stDmaFault]
  | .ringFetch r =>
    let s := s.dropReq q.tag
    if (s.ring (rKey q.slice r)).scanning then
      s.malformed q.slice r 7 (s.getF (.ringSts q.slice r) RING_STS.SCAN) none
    else s
  | .image _ => s.markFinal q.tag
  | .sealSource =>
    ({ s.reqsDrop q.ctx with sealOps := s.sealOps.filter (fun o => !(o.isFor q.ctx)) }.dropReq q.tag).endWith q.ctx
      stDmaFault
  | .sealAad =>
    ({ s.reqsDrop q.ctx with sealOps := s.sealOps.filter (fun o => !(o.isFor q.ctx)) }.dropReq q.tag).endWith q.ctx
      stDmaFault
  | .translate _ => s.dropReq q.tag

/-- The range touches the page. -/
def onPage (page addr len : Nat) : Bool := decide (page ∈ pagesOf addr len)

/-- A posted write that cannot be made is dropped with its granules, and its activation ends with DMA_FAULT (R350). Of gambit
data, this packet and the later ones of its activation have not been delivered: they become orphan (R328). -/
def State.writeFailed (s : State) (w : PWrite) : State :=
  if w ∉ s.writes then s
  else
  let s := match w.kind with
    | .gambit _ _ _ => s.gambitsBack (fun v => v.ctx == w.ctx && v.slice == w.slice && v.ring == w.ring && v.idx == w.idx &&
        v.lap == w.lap && decide (w.pkt ≤ v.pkt))
    | _ => s
  let s := { s with writes := s.writes.filter (fun v => v.tag != w.tag), invals := invalLeft w.tag s.invals }
  match w.kind with
  | .data g => (s.lbFree w.slice g).jobs [.asks w.ctx stDmaFault]
  | .hst => s.endWith w.ctx stDmaFault
  | _ => s.jobs [.asks w.ctx stDmaFault]

/-- The oldest result of the ring needs the page for its publication. -/
def State.pubNeeds (s : State) (i r page : Nat) : Option Taken :=
  if s.pubOpen i r then
    match (s.ring (rKey i r)).taken with
    | t :: _ =>
      if t.result ≠ none ∧ (onPage page (s.stAddr i r t.idx) 8 || onPage page (s.dhAddr i r) 8 ||
          (s.flag (.ringTsa i r) RING_TSA.TSE && onPage page (s.tsAddr i r t.idx) 8)) then some t else none
    | [] => none
  else none

/-- A translation is refused, or has failed for good: every access that waits for it meets its outcome, a packet's write as a
whole (R86, R350). -/
def State.translationFailed (s : State) (q : HostReq) (write : Bool) : State :=
  let page := q.addr / 4096
  let s := s.dropReq q.tag
  if write then
    let hit := (s.writes.filter (fun w => !w.issued && w.slice == q.slice && onPage page w.addr w.bytes.length)).map PWrite.pkt
    let s := forL (s.writes.filter (fun w => !w.issued && w.slice == q.slice && decide (w.pkt ∈ hit)))
      (fun w s => s.writeFailed w) s
    forN 64 (fun r s => match s.pubNeeds q.slice r page with
      | some t => s.malformed q.slice r 8 t.idx none
      | none => s) s
  else
    forL (s.reqs.filter (fun v => v.slice == q.slice && v.phase != .issued && v.fails != 4 &&
        onPage page v.addr v.len && match v.purpose with
          | .translate _ => false
          | _ => true))
      (fun v s => s.readFailed v) s

/-- A final failure, or a refusal: its outcome, and the record of it; where the outcome is a malformed entry, its fault event has
the lower ID (R436). -/
def State.reqFinal (s : State) (q : HostReq) (cause : Nat) : State :=
  (match q.purpose with
    | .translate w => s.translationFailed q w
    | _ => s.readFailed q).failRec q.slice q.ctx cause q.addr

/-- The data of the request is wanted no more. -/
def HostReq.unwanted (q : HostReq) : Bool :=
  q.ctx == noCtx && match q.purpose with
    | .ringFetch _ => false
    | .image _ => false
    | .translate _ => false
    | _ => true

/-- A request fails: it waits to be issued again, or, the fourth time, the failure is final (R349). One whose data nobody wants
is not issued again (R131). -/
def State.reqFails (s : State) (q : HostReq) (cause : Nat) : State :=
  if q.unwanted then (s.dropReq q.tag).pumpReqs
  else if 3 ≤ q.fails then (s.reqFinal q cause).pumpReqs
  else { s with reqs := s.reqs.map (fun (v : HostReq) =>
      if v.tag = q.tag then { v with phase := .failed, fails := v.fails + 1, since := s.now } else v) }.pumpReqs

/-! ## Commands -/

/-- The request is a Translation Request. -/
def HostReq.isTrans (q : HostReq) : Bool :=
  match q.purpose with
  | .translate _ => true
  | _ => false

/-- What R83 refuses at the moment at which it would be issued, having waited, meets its outcome (R83, R350). -/
def State.refuseLate (s : State) : State :=
  let s := forL (s.reqs.filter (fun q => q.phase == .waiting && !q.isTrans && s.mayIssue q.slice && s.limitOk q.slice &&
      s.orderOk q && !(s.hostOk q.slice q.addr q.len)))
    (fun q s => if q ∈ s.reqs then s.reqFinal q 1 else s) s
  forL (s.writes.filter (fun w => !w.issued && s.mayIssue w.slice && !(s.hostOk w.slice w.addr w.bytes.length)))
    (fun w s => if w ∈ s.writes then (s.failRec w.slice w.ctx 1 w.addr).writeFailed w else s) s

/-- After requests have ended or become possible: late refusals, and answers to PME_Turn_Off (R77). -/
def State.afterReqs (s : State) : State := s.refuseLate.pmeAcks

def execBusMasterEnableReturn (p fn : Nat) (s : State) : Host.Outcome State Fault Refusal :=
  onDevice (fun s => if (s.func (fKey p fn)).on then (s.pumpReqs.lookAheadAll).refuseLate else s) s

def execPostedWriteDeparture (w : Nat) (s : State) : Host.Outcome State Fault Refusal :=
  onDevice (fun s => (s.depart w).afterReqs) s

/-- A completion that matches a request. -/
def State.completed (s : State) (q : HostReq) (r : CompletionStatus) (data : List Byte) : State :=
  let s := if r = .poisoned then s.upErr (s.slPort q.slice) (s.slFunc q.slice) aerPoisoned else s
  match r with
  | .ok => s.reqDone q data
  | .granted => s.reqDone q data
  | .denied => if q.isTrans then (s.reqFinal q 1).pumpReqs else s.reqFails q 3
  | .poisoned => s.reqFails q (if q.isTrans then 5 else 4)
  | _ => s.reqFails q (if q.isTrans then 5 else 3)

/-- The issued request that a completion on port `p` with a number answers. -/
def State.answered (s : State) (p tag : Nat) : Option HostReq :=
  match s.findReq tag with
  | some q => if q.phase = .issued ∧ (s.inSram q.slice ∨ s.slPort q.slice = p) then some q else none
  | none => none

/-- A completion: used, or discarded as unexpected (R100, R348). -/
def execCompletionReceived (p tag : Nat) (r : CompletionStatus) (data : List Byte) (s : State) :
    Host.Outcome State Fault Refusal :=
  onDevice (fun s =>
    match s.answered p tag with
    | some q => (s.completed q r data).afterReqs
    | none => if s.present p then s.upErr p 0 aerUc else s) s

/-- The completion timer of an issued request can expire: its time has passed since the issue; not in the SRAM, and not while
the function may issue nothing (R85, R347). -/
def State.timed (s : State) (q : HostReq) : Bool :=
  q.phase == .issued && !(s.inSram q.slice) && (s.func (s.slFn q.slice)).on && decide (q.since + 25 * q.cto ≤ s.now)

def execCompletionTimeout (tag : Nat) (s : State) : Host.Outcome State Fault Refusal :=
  onDevice (fun s =>
    match s.findReq tag with
    | some q =>
      if s.timed q then
        ((s.upErr (s.slPort q.slice) (s.slFunc q.slice) aerCto).reqFails q (if q.isTrans then 5 else 2)).afterReqs
      else s
    | none => s) s

/-- A failed request issued again with a new tag, where it can be; no earlier than 1 µs after the failure (R349). -/
def State.reissue (s : State) (q : HostReq) : State :=
  let v := { q with tag := s.tag, phase := .waiting }
  if s.canIssue v then
    ({ s with reqs := s.reqs.map (fun (u : HostReq) => if u.tag = q.tag then v else u), tag := s.tag + 1 }.tryIssue v).addF .dspMvFcnt
      DSP_MV_FCNT.RETRY 1
  else if s.mayIssue q.slice && s.limitOk q.slice && !q.isTrans && !(s.hostOk q.slice q.addr q.len) then s.reqFinal q 1
  else if s.mayIssue q.slice && !q.isTrans then s.askTranslation q.slice q.ctx q.addr q.len false
  else s

def execRequestRetry (tag : Nat) (s : State) : Host.Outcome State Fault Refusal :=
  onDevice (fun s =>
    match s.findReq tag with
    | some q => if q.phase = .failed ∧ q.fails < 4 ∧ q.since + 25 ≤ s.now then (s.reissue q).refuseLate else s
    | none => s) s

/-! ## Ring fetches (R145) -/

/-- The fetch of a ring that is on its way. -/
def State.fetchOf (s : State) (i r : Nat) : Option HostReq :=
  s.reqs.find? (fun q => q.slice == i && q.purpose == .ringFetch r && q.phase == .issued)

/-- The entries of a batch: from the SRAM in local-manager mode, with the contexts that the command names. -/
def State.batchOf (s : State) (i r : Nat) (l : List Entry) : List Entry :=
  if s.inSram i then
    let a := (s.rd (.ringBase i r)).toNat + 64 * s.getF (.ringSts i r) RING_STS.SCAN
    (List.range l.length).map (fun k => entryOf (s.localRead (a + 64 * k) 64) ((l[k]?.map Entry.ctx).getD noCtx))
  else l

/-- A batch of entries has been read. -/
def State.batch (s : State) (i r : Nat) (l : List Entry) : State :=
  match s.fetchOf i r with
  | some q => (((s.dropReq q.tag).fetched i r (s.batchOf i r (l.take (q.len / 64)))).pumpReqs).afterReqs
  | none => s

def execEntryFetchComplete (i r : Nat) (batch : List Entry) (s : State) : Host.Outcome State Fault Refusal :=
  onDevice (fun s => s.batch i r batch) s

/-- A fetch that brings one entry of the opcode that the command names. -/
def State.entryOne (s : State) (i r op : Nat) (e : Entry) : State :=
  if ((s.batchOf i r [e]).map Entry.opcode) = [op] then s.batch i r [e] else s

def execEntryInvoke (i r : Nat) (e : Entry) (s : State) : Host.Outcome State Fault Refusal :=
  onDevice (fun s => s.entryOne i r 1 e) s
def execEntryNop (i r : Nat) (e : Entry) (s : State) : Host.Outcome State Fault Refusal :=
  onDevice (fun s => s.entryOne i r 2 e) s
def execEntryFence (i r : Nat) (e : Entry) (s : State) : Host.Outcome State Fault Refusal :=
  onDevice (fun s => s.entryOne i r 3 e) s
def execEntryAbort (i r : Nat) (e : Entry) (s : State) : Host.Outcome State Fault Refusal :=
  onDevice (fun s => s.entryOne i r 4 e) s
def execEntryReserve (i r : Nat) (e : Entry) (s : State) : Host.Outcome State Fault Refusal :=
  onDevice (fun s => s.entryOne i r 5 e) s
def execEntryRelease (i r : Nat) (e : Entry) (s : State) : Host.Outcome State Fault Refusal :=
  onDevice (fun s => s.entryOne i r 6 e) s

end Sys2Proof.Machine
end

