-- ==== Sys2Proof/Machine/Sequencer.lean ====
section
/-!
DEFINITION. Port sequencers (chapter 10): placements, asynchronous work, gambits, responses, the Packet Return FIFO,
reports, detach. Whether a transaction fits before its limit, and when (R306, R307), is the moment of the command.
Lines of a port: 0 the 2.0 line, 1 SuperSpeed down, 2 SuperSpeed up.
-/
namespace Sys2Proof.Machine

/-! ## The Packet Return FIFO (R315 to R320) -/

/-- Occupancy, packet count, and stage 31 empty. -/
def Fifo.occ (f : Fifo) : Nat := (f.stages.filter Option.isSome).length
def Fifo.pkts (f : Fifo) : Nat := (f.items.filter Item.whole).length
def Fifo.top (f : Fifo) : Bool := (f.stages.getD 31 none).isNone

/-- A word placed in stage 31; words fall in the next cycle. -/
def Fifo.place (f : Fifo) (w : Word64 × Bool) : Fifo :=
  { f with stages := fallOnce (f.stages.set 31 (some w)), wptr := (f.wptr + 1) % 64, wptr2 := (f.wptr2 + 1) % 64 }

/-- Words written in order; what finds no room is held (R318). -/
def Fifo.write : List (Word64 × Bool) → Fifo → Fifo
  | [], f => f
  | w :: t, f => if f.held = [] ∧ f.top then (f.place w).write t else { f with held := f.held ++ (w :: t) }

/-- Items whose end-marked word is among the first `n` words in the FIFO. -/
def markWhole : Nat → List Item → List Item
  | _, [] => []
  | n, i :: t => { i with whole := decide (i.words ≤ n) } :: markWhole (n - i.words) t
def Fifo.marked (f : Fifo) : Fifo := { f with items := markWhole f.occ f.items }

/-- The kind of the request that a transaction serves. -/
def State.kindOf (s : State) (c : Option Nat) : Option BusKind := c.bind (fun c => (s.ctx c).op.map (fun o => o.req.kind))

/-- Stages that a transaction may still fill: one to a handshake, a STATUS, a start-split, or a gambit notice (of a 2.0 line one
to a transaction); one to a packet of more than 24 bytes, which the last one of a burst need not be; a packet of at most 24 bytes
stands inline (R316, R318). -/
def State.mayFill (s : State) (t : Txn) : Nat :=
  let m := (s.epInfo t.ep).mps
  if t.gambit then (if (s.epDev t.ep).ss then max 1 t.left else 1)
  else if t.split = 1 ∨ s.kindOf t.ctx = some .status then 1
  else if t.asks = false then max 1 t.left
  else if m ≤ 24 then t.left * (1 + ceilDiv m 8)
  else t.left + 3

/-- Room for what a further transaction could return: 4 stages beyond those that earlier ones may fill (R318). -/
def State.fifoRoom (s : State) (n : Nat) : Bool :=
  let p := s.port n
  let due := (p.lines.map (fun l => match l.txn with
    | some t => s.mayFill t
    | none => 0)).sum
  decide (p.fifo.occ + p.fifo.held.length + due + 4 ≤ 32)

/-- Class of an endpoint type: isochronous, interrupt, control, bulk (Table 5). -/
def epClass (typ : Nat) : Nat := if typ = 1 then 0 else if typ = 3 then 1 else if typ = 0 then 2 else 3

/-- The words of a return item: header and inline payload (R316). -/
def itemWords (e kind lba : Nat) (i : Item) : List (Word64 × Bool) :=
  let n := i.data.length
  let k := if n ≤ 24 then ceilDiv n 8 else 0
  let h := e % 2 ^ 15 * 2 ^ 49 + i.cls * 2 ^ 47 + kind * 2 ^ 44 + i.code * 2 ^ 36 + k * 2 ^ 34 + n % 2 ^ 11 * 2 ^ 23 +
    i.short.toNat * 2 ^ 22 + (if n ≤ 24 then 0 else lba % 2 ^ 18)
  (BitVec.ofNat 64 h, decide (k = 0)) ::
    (List.range k).map (fun j => (BitVec.ofNat 64 (leValue ((i.data.drop (8 * j)).take 8)), decide (j + 1 = k)))

/-- A slot may be used for a kind of operation: its key, if it holds one and has the use bit (R361). -/
def State.slotKey (s : State) (k useBit : Nat) : List Word32 :=
  if s.flag (.sealSlot k) SEAL_SLOT.VALID && (s.getF (.sealSlot k) SEAL_SLOT.USE).testBit useBit then s.keyOf k else []

/-- The sealing of a report of endpoint `e`, before it starts, where a claim is in effect (R125). Until the tick after an erase
that ended the claim, there is no key and the report is lost to the former claimant (R127; log entry 86). -/
def State.secFor (s : State) (e : Nat) : Option SecCopy :=
  match s.secOf e with
  | none => (s.secOver.find? (fun q => q.1 == e)).map (fun q => ⟨q.2, 0, [], 0, 0, 0, false⟩)
  | some k => some ⟨k, s.getE (.slcQper (k / 65536)) SLC_QPER.SSLOT, [], 0, 0, s.aon.clockCount % 2 ^ 32, true⟩

/-- The sealing of a report starts: the slot is copied, and its counter rises (R362, R366). -/
def State.secStart (s : State) (x : SecCopy) : State × SecCopy :=
  let key := s.slotKey x.slot 1
  (if key = [] then s else (s.setSeqOf x.slot ((s.seqOf x.slot + 1) % 2 ^ 64)).traffic 162,
   { x with key := key, gen := s.getF (.sealSlot x.slot) SEAL_SLOT.GEN, seq := s.seqOf x.slot, waits := false })

/-- The sealing of item `j` of port `n`. -/
def State.setSec (s : State) (n j : Nat) (x : SecCopy) : State :=
  s.modPort n (fun q => { q with fifo := { q.fifo with items := q.fifo.items.modify j (fun i => { i with sec := some x }) } })

/-- The first item of port `n` whose sealing waits, with its position. -/
def State.secWaiting (s : State) (n : Nat) : Option (Nat × SecCopy) :=
  ((s.port n).fifo.items.zipIdx.filterMap (fun p => p.1.sec.bind (fun x => if x.waits then some (p.2, x) else none))).head?

/-- The seal unit accepts the sealing of item `j` of port `n`: it starts at once, or it waits (R362, R365). -/
def State.secAccept (s : State) (n j : Nat) (x : SecCopy) : State :=
  if x.waits = false then s.setSec n j x
  else if s.sealFree then (s.secStart x).1.setSec n j (s.secStart x).2
  else { s.setSec n j x with sealOps := s.sealOps ++ [⟨.report n, x.slot, false, 0, [], 0, [], [], [], false⟩] }

/-- Items that have become whole and end a report are sealed where a claim is in effect: the tick in which they became whole
decides (R125). `j` is the position of the first of `l`. -/
def State.sealWhole (s : State) (n : Nat) : Nat → List (Item × Bool) → State
  | _, [] => s
  | j, (i, was) :: t =>
    let s := if i.whole && !was && i.cls == 1 && i.code == 0 && s.kindOf i.ctx != some .ping && (i.last || (i.hasData && i.short)) && (s.epInfo i.ep).dirIn then
        match s.secFor i.ep with
        | some x => s.secAccept n j x
        | none => s
      else s
    s.sealWhole n (j + 1) t

/-- A write side of the FIFO's work: packet notices, the sealing of reports, and the crossing of `LEVEL` upward (R125,
R319, R320). -/
def State.fifoStep (s : State) (n : Nat) (g : Fifo → Fifo) : State :=
  let old := (s.port n).fifo
  let f := (g old).marked
  let s := (s.modPort n (fun p => { p with fifo := f })).addF (.portPrfNote n) PORT_PRF_NOTE.NOTES (f.pkts - old.pkts)
  let s := s.sealWhole n 0 (f.items.zipIdx.map (fun p => (p.1, (old.items[p.2]?.map Item.whole).getD false)))
  let lv := min 32 (s.getF (.portPrfCfg n) PORT_PRF_CFG.LEVEL)
  if lv ≠ 0 ∧ old.occ < lv ∧ lv ≤ f.occ then (s.set1 (.portPrfSts n) PORT_PRF_STS.LVL).irqWake (276 + n) else s

/-- An item written for endpoint `e`: kind, code, payload. -/
def State.putItem (s : State) (n e : Nat) (ctx : Option Nat) (kind code lba : Nat) (data : List Byte) (last : Bool) :
    State :=
  let x := s.epInfo e
  let short := kind == 0 && decide (data.length < x.mps)
  let i : Item := ⟨epClass x.typ, 0, false, e, ctx, kind == 2, code, short, data, kind != 1, last, none,
    if kind = 1 then (s.epc e).partAt else s.now⟩
  let ws := itemWords e kind lba i
  s.fifoStep n (fun f => { f with items := f.items ++ [{ i with words := ws.length }] }.write ws)

def execFifoWriteComplete (n : Nat) (s : State) : Host.Outcome State Fault Refusal :=
  onDevice (fun s => s.fifoStep n (fun f =>
    match f.held with
    | w :: t => if f.top then { f.place w with held := t } else f
    | [] => f)) s

/-! ## Lines and transactions -/

def State.seqLine (s : State) (n l : Nat) : Line := (s.port n).lines.getD l Line.init
def State.modLine (s : State) (n l : Nat) (g : Line → Line) : State :=
  s.modPort n (fun p => { p with lines := p.lines.modify l g })

/-- The path of a line. -/
def lineSS (l : Nat) : Bool := l != 0

/-- The sequencer can send on the path: its domain works, the path is ENABLED, and the 10 ms of R55 are over. -/
def State.canDrive (s : State) (n : Nat) (ss : Bool) : Bool :=
  s.domLive (80 + n) && s.pathSt n ss == pEnabled && !(s.path n ss).quiet

/-- An idle interval of `i` µs ends: the prediction is updated (R402). -/
def State.predUpdate (s : State) (n q i : Nat) : State :=
  let cnt := s.getF (.pwrLpcnt n q) PWR_LPCNT.INTERVALS
  let p := s.getF (.pwrLpst n q) PWR_LPST.PRED
  let v : Int := (p : Int) + Int.tdiv ((i : Int) - p) (if cnt < 256 then 4 else 16)
  let s := (s.setF (.pwrLpst n q) PWR_LPST.PRED v.toNat).satF (.pwrLpcnt n q) PWR_LPCNT.INTERVALS 1
  if 256 ≤ cnt + 1 then s.set1 (.pwrLpst n q) PWR_LPST.WARM else s

/-- Resume time in µs of a BESL, by the USB 2.0 LPM addendum (PRESUMED, log entry 21). -/
def beslTime (b : Nat) : Nat :=
  [125, 150, 200, 300, 400, 500, 1000, 2000, 3000, 4000, 5000, 6000, 7000, 8000, 9000, 10000].getD b 10000

/-- The largest BESL up to `top` whose resume time is at most P/4. -/
def beslFor (p top : Nat) : Option Nat := (List.range (top + 1)).reverse.find? (fun b => decide (4 * beslTime b ≤ p))

/-- The SuperSpeed state that P allows among latencies up to `lat`: 3 U2, 2 U1, 0 none (R403). -/
def State.uxFor (s : State) (n p lat : Nat) : Nat :=
  let u1 := s.getF (.pwrLpex n) PWR_LPEX.U1EL
  let u2 := s.getF (.pwrLpex n) PWR_LPEX.U2EL
  if s.cfgFlag n PORT_CFG.U2_EN ∧ u2 ≤ lat ∧ 4 * u2 ≤ p then 3
  else if s.cfgFlag n PORT_CFG.U1_EN ∧ u1 ≤ lat ∧ 4 * u1 ≤ p then 2 else 0

/-- The deepest enabled state whose exit latency policy accepts. -/
def State.uxDeep (s : State) (n lat : Nat) : Nat :=
  if s.cfgFlag n PORT_CFG.U2_EN ∧ s.getF (.pwrLpex n) PWR_LPEX.U2EL ≤ lat then 3
  else if s.cfgFlag n PORT_CFG.U1_EN ∧ s.getF (.pwrLpex n) PWR_LPEX.U1EL ≤ lat then 2 else 0

/-- The decision at the beginning of an idle interval (R403): the policy of this moment governs it (R404). -/
def State.predDecide (s : State) (n : Nat) (ss : Bool) : Pred :=
  let pol := s.rd (.pwrLppol n ss.toNat)
  let p := s.getF (.pwrLpst n ss.toNat) PWR_LPST.PRED
  let dmax := PWR_LPPOL.DMAX.get pol
  let lo := PWR_LPPOL.DMIN.get pol * 10
  let d := if dmax = 0 then max lo (p / 8) else min (dmax * 100) (max lo (p / 8))
  let late := decide (p / 8 < PWR_LPPOL.DMIN.get pol * 10) || (dmax != 0 && decide (dmax * 100 < p / 8))
  if ss then
    let lat := PWR_LPPOL.LATMAX.get pol
    let c := s.uxFor n p lat
    ⟨some s.now, false, c, 0, if dmax = 0 then 0 else s.uxDeep n lat, late || c != s.uxFor n p 4095, none, d, dmax * 100⟩
  else
    let b := beslFor p (PWR_LPPOL.BESL_MAX.get pol)
    ⟨some s.now, false, if b.isSome then 1 else 0, b.getD 0,
      if dmax = 0 ∨ s.cfgFlag n PORT_CFG.L1_EN = false then 0 else 1, late || b != beslFor p 15, none, d, dmax * 100⟩

/-- Traffic on a path: of the sequencer and the PHY half (R394). -/
def State.pathTraffic (s : State) (n : Nat) (ss : Bool) : State :=
  (s.traffic (80 + n)).traffic (if ss then 100 + n else 116 + n)

/-- The path's idle interval ends with the start of a transaction, and begins with the end of its last one (R401). -/
def State.predBusy (s : State) (n : Nat) (ss : Bool) : State :=
  match (s.pred (pKey n ss)).idle with
  | none => s
  | some t => (s.predUpdate n ss.toNat (min 65535 ((s.now - t) / 25))).setPred (pKey n ss) Pred.init
def State.predIdle (s : State) (n : Nat) (ss : Bool) : State :=
  let p := s.predDecide n ss
  (if p.bounded then s.addF (.pwrLpcnt n ss.toNat) PWR_LPCNT.CLAMPS 1 else s).setPred (pKey n ss) p

/-- Granules allocated for packets asked for (R336), and given back. -/
def State.askGran (s : State) (c k : Nat) : State :=
  match (s.ctx c).op with
  | some o =>
    let i := (s.ctx c).slice
    let g := k * granules (s.epInfo o.ep).mps
    (s.lbTake i g).modOp c (fun o => { o with asked := o.asked + k })
  | none => s
def State.unask (s : State) (c k : Nat) : State :=
  match (s.ctx c).op with
  | some o => (s.lbFree (s.ctx c).slice (k * granules (s.epInfo o.ep).mps)).modOp c (fun o => { o with asked := o.asked - k })
  | none => s

/-- The kind of a host packet as `Output.usb` names it: 0 SETUP, 1 a request for data, 2 data, 3 PING, 4 STATUS; 16 and 32
mark a start-split and a complete-split; 5 is a STATUS that the device sends (R207). -/
def wireKind (base split : Nat) : Nat := base + 16 * split

/-- A transaction starts on a line. -/
def State.begin (s : State) (n l : Nat) (t : Txn) (kind : Nat) (data : List Byte) : State :=
  let s := s.pathTraffic n (lineSS l)
  let s := if t.gambit then s else (s.linkUp n (lineSS l)).predBusy n (lineSS l)
  (s.modLine n l (fun x => { x with txn := some { t with asks := kind == 1 || kind == 5 } })).emit (.usb n l t.ep (wireKind kind t.split) data)

/-- A line of the path has a transaction that counts for its idle interval (R401). -/
def State.pathRuns (s : State) (n : Nat) (ss : Bool) : Bool :=
  (List.range 3).any (fun l => lineSS l == ss && match (s.seqLine n l).txn with
    | some t => !t.gambit
    | none => false)

/-- The transaction on a line has ended; granules for packets that have not come are free. -/
def State.endTxn (s : State) (n l : Nat) (t : Txn) : State :=
  let s := s.modLine n l (fun x => { x with txn := none })
  let s := if t.gambit || s.pathRuns n (lineSS l) then s else s.predIdle n (lineSS l)
  match t.ctx with
  | some c => s.unask c (((s.ctx c).op.map Op.asked).getD 0)
  | none => if t.asks && !t.gambit then s.lbFree 0 (t.left * granules (s.epInfo t.ep).mps) else s

/-! ## Requests -/

def execRequestQueueAdmit (n : Nat) (s : State) : Host.Outcome State Fault Refusal :=
  onDevice (fun s =>
    let w := s.ctxs.filter (fun q => match q.2.op with
      | some o => o.port == n && o.stage == .place && !(s.frozen q.2.slice)
      | none => false)
    match leastBy (fun c => ((s.ctx c).op.map Op.order).getD 0) (w.map Prod.fst) with
    | some c => if s.queueUse n < 512 then ((s.queued c n .queued).placed c).settle.lookAhead c else s
    | none => s) s

/-- Unread items of an operation; the bytes they hold; one of them ends the operation. -/
def State.unread (s : State) (n c : Nat) : List Item := (s.port n).fifo.items.filter (fun i => i.ctx == some c)
def Item.ends (i : Item) : Bool := i.code != 0 || i.last || (i.hasData && i.short)
def unreadBytes (l : List Item) : Nat := (l.map (fun i => i.data.length)).sum

/-- A request in its queue that may be sent: nothing has ended it or holds it back. -/
def State.sendable (s : State) (c : Nat) (o : Op) : Bool :=
  o.stage == .queued && o.result == none && !o.held && !o.cut && !(decide (o.req.sid ∈ (s.epc o.ep).nrdy)) &&
    (s.ctx c).endCode == none && (s.ctx c).act != .suspended && !((s.unread o.port c).any Item.ends)

/-- The line that carries the request's transactions. -/
def State.lineOf (s : State) (o : Op) : Nat :=
  if (s.epDev o.ep).ss then
    (if o.req.kind = .inn ∨ o.req.kind = .scatter ∨ ((o.req.kind = .stream ∨ o.req.kind = .ping) ∧ (s.epInfo o.ep).dirIn)
     then 2 else 1)
  else 0

/-- A transaction of the operation is outstanding. -/
def State.txnOf (s : State) (c : Nat) (o : Op) : Bool :=
  (s.port o.port).lines.any (fun l => match l.txn with
    | some t => t.ctx == some c
    | none => false)

/-- Another control sequence to address 0 is open on the segment (R44). -/
def State.zeroBusy (s : State) (c : Nat) (o : Op) : Bool :=
  (s.epDev o.ep).addr == 0 && s.ctxs.any (fun q => q.1 != c && q.2.seq.any (fun w =>
    let d := s.epDev w.ep
    d.addr == 0 && d.port == o.port && !(match q.2.op with
      | some p => p.req.kind == .setup && p.pkts == 0 && p.req.handle == w.handle
      | none => false)))

/-- Bytes that IN packets may still be asked for: resolved, wanted, and not on their way (R336). -/
def State.inWanted (s : State) (c : Nat) (o : Op) : Nat := o.ready - (unreadBytes (s.unread o.port c) + o.buf.length)

/-- The next transaction of an asynchronous request has what it needs: an address and granules, or data (R308, R336,
R337). -/
def State.prepared (s : State) (c : Nat) (o : Op) : Bool :=
  let e := s.epInfo o.ep
  if o.req.kind = .setup then !(s.zeroBusy c o)
  else if o.lands e then
    decide (0 < s.inWanted c o) && o.buf == [] && s.capRoom 1 (s.ctx c).slice (granules e.mps) && !(s.gambitOn o.ep) &&
      !(o.inClass e && (e.pend != [] || e.orph != []))
  else if o.req.kind.sends e.dirIn then
    if o.remain = 0 then o.wantZlp e.mps else decide (min (max 1 e.mps) o.remain ≤ o.buf.length)
  else true

/-- An asynchronous request that line `l` may carry now. -/
def State.asyncReady (s : State) (n l c : Nat) : Bool :=
  match (s.ctx c).op with
  | some o =>
    let typ := (s.epInfo o.ep).typ
    o.port == n && (typ == 0 || typ == 2 || o.req.kind == .ping) && s.lineOf o == l && s.sendable c o && !(s.txnOf c o) && s.prepared c o
  | none => false

/-- The endpoint of the request is parked; and it may be retried in the current rank (R68, R69). -/
def State.parkNo (s : State) (c : Nat) : Option Nat := (s.ctx c).op.bind (fun o => (s.epc o.ep).parked)
def State.retryAt (s : State) (rank c : Nat) : Bool :=
  match (s.ctx c).op with
  | some o => (s.epc o.ep).parked != none && decide ((s.epc o.ep).parkedAt < rank)
  | none => false

/-- The asynchronous request that the sequencer chooses: one that is not parked, highest priority first, first come first
served; else a retry, the endpoint parked first before the others, within `NAK_BUDGET`: with 0, in a rank that has no other
asynchronous work (R69, R308). -/
def State.choose (s : State) (n l rank : Nat) : Option (Nat × Bool) :=
  let cs := (FMap.keys s.ctxs).filter (s.asyncReady n l)
  let key (c : Nat) : Nat := match (s.ctx c).op with
    | some o => (7 - o.pri) * 2 ^ 60 + o.order
    | none => 0
  match leastBy key (cs.filter (fun c => s.parkNo c == none)) with
  | some c => some (c, false)
  | none =>
    let b := PORT_CFG.NAK_BUDGET.get (s.cfgAt n rank)
    let x := s.seqLine n l
    if (if b = 0 then x.work else decide (b ≤ x.retries)) then none
    else (leastBy (fun c => (s.parkNo c).getD 0) (cs.filter (s.retryAt rank))).map (fun c => (c, true))

/-- The counts of a line belong to one rank. -/
def State.atRank (s : State) (n l rank : Nat) : State :=
  s.modLine n l (fun x => if x.rank = rank then x else { x with rank := rank, retries := 0, gambits := 0, work := false })

/-- The start-split and complete-split of an asynchronous transaction behind a TT (R309). -/
def State.splitOf (s : State) (o : Op) : Nat :=
  if (s.epDev o.ep).way = 2 then (if o.split then 2 else 1) else 0

/-- Packets of one transaction: 1 on a 2.0 line; on a SuperSpeed line at most the endpoint's burst and `np`, which is
what fits (R307). -/
def packetsOf (l np burst need : Nat) : Nat := if l = 0 then 1 else max 1 (min (min np (max 1 burst)) need)

/-- The kind of host packet that an operation sends, and whether it asks for data. -/
def hostToken (k : BusKind) (lands statusIn : Bool) : Nat :=
  match k with
  | .setup => 0
  | .ping => 3
  | .status => if statusIn then 5 else 4
  | _ => if lands then 1 else 2

/-- The status stage of the handle's control sequence runs from the device to the host: opposite to the data stage, IN
without one (R207). -/
def State.statusIn (s : State) (c : Nat) (o : Op) : Bool :=
  match (s.ctx c).seqOn o.req.handle with
  | some p => setupLen p == 0 || !(setupIn p)
  | none => true

/-- The operation's next transaction is an OUT, of data or of a status stage. -/
def State.sendsOut (s : State) (c : Nat) (o : Op) : Bool :=
  o.req.kind.sends (s.epInfo o.ep).dirIn || (o.req.kind == .status && !(s.statusIn c o))

/-- The most packets, at most `k`, for which the slice has landing-buffer room (R109, R336). -/
def State.roomFor (s : State) (i g k : Nat) : Nat :=
  ((List.range (k + 1)).reverse.find? (fun j => s.capRoom 1 i (j * g))).getD 0

/-- An asynchronous transaction of the operation of `c` starts (R308, R309). -/
def State.asyncStart (s : State) (n l np c : Nat) : State :=
  match (s.ctx c).op with
  | none => s
  | some o =>
    let e := s.epInfo o.ep
    let m := max 1 e.mps
    let split := s.splitOf o
    let ping := e.ping && s.sendsOut c o
    let lands := o.lands e
    let k := packetsOf l np e.burst (if lands then ceilDiv (s.inWanted c o) m else ceilDiv (min o.remain o.buf.length) m)
    let k := if lands then max 1 (s.roomFor (s.ctx c).slice (granules e.mps) k) else k
    let data := if lands ∨ ping then [] else o.buf.take (min (k * m) o.remain)
    let s := s.modOp c (fun o => { o with
      pkts := if o.req.kind = .setup then 1 else o.pkts,
      flight := if ping ∨ lands then none else some data.length })
    let s := if lands then s.askGran c k else s
    let s := s.modEpc o.ep (fun e => { e with parked := none, erdy := e.erdy.filter (· != o.req.sid) })
    s.begin n l ⟨o.ep, some c, false, k, ping, split, false, 0⟩
      (if ping then 3 else hostToken o.req.kind lands (s.statusIn c o))
      (if o.req.kind = .setup then leBytes 8 o.req.setup.toNat else data)

def execAsyncTransactionStart (n l rank np : Nat) (s : State) : Host.Outcome State Fault Refusal :=
  onDevice (fun s =>
    let r := s.aon.clockCount * 64 + rank % 64
    let s := forL ((s.ctxs.filter (fun q => match q.2.op with
      | some o => o.port == n
      | none => false)).map Prod.fst) (fun c s => (s.takeOnChip c).lookAhead c) s
    let s := s.atRank n l r
    if (s.seqLine n l).txn.isNone && s.canDrive n (lineSS l) && s.fifoRoom n then
      match s.choose n l r with
      | some (c, again) =>
        (s.modLine n l (fun x =>
          if again then { x with retries := x.retries + 1 } else { x with work := true })).asyncStart n l np c
      | none => s
    else s) s

/-! ## Placements (R289, R305, R306) -/

/-- The placements of a line of the Board of microframe `m`; a group's Boards are empty while its pair is off (R295). -/
def State.placements (s : State) (n l m : Nat) : List (Word64 × Nat) :=
  if s.pairOn (n / 5) && (s.hdr (hdrKey m (n / 5))).valid then s.bline (lineKey m n l) else []

/-- The segment runs at full or low speed: the lines of a frame are executed as one (R306). -/
def State.slowSeg (s : State) (n l : Nat) : Bool :=
  l == 0 && (s.getF (.portSts n) PORT_STS.SPEED == 1 || s.getF (.portSts n) PORT_STS.SPEED == 2)

/-- Placements of a finished line of the frame are followed by those of the next microframe's line. -/
def State.lineOn (s : State) (n l : Nat) : Nat → Line → Line
  | 0, x => x
  | f + 1, x =>
    if x.k < (s.placements n l x.mf).length ∨ s.aon.clockCount ≤ x.mf then x
    else s.lineOn n l f { x with mf := x.mf + 1, k := 0 }

/-- At a tick every line begins its file of the new Board; on a full-speed or low-speed segment only at a frame. -/
def State.lineTick (s : State) (n l : Nat) : State :=
  s.modLine n l (fun x =>
    if s.slowSeg n l && s.aon.clockCount % 8 != 0 then x else { x with mf := s.aon.clockCount, k := 0, extra := [] })
def State.linesTick (s : State) : State := forN 20 (fun n s => forN 3 (fun l s => s.lineTick n l) s) s

/-! ### Rank 0 (R276) -/

/-- The rank-0 item of the USB 2.0 line at the tick that starts microframe `t`: an SOF with the frame number (R272), or
keep-alive at low speed. Sent while the link is in L0, and in Test_Force_Enable (log entry 72). -/
def State.usbRank0 (s : State) (n t : Nat) : Option Output :=
  let sp := s.getF (.portSts n) PORT_STS.SPEED
  let st := s.pathSt n false
  let force := st == pTest && (s.path n false).mode == 5
  if force || (st == pEnabled && s.getF (.portLink n) PORT_LINK.LSTATE == 1) then
    if force ∨ sp = 3 then some (.sof n (t / 8 % 2048))
    else if t % 8 ≠ 0 then none
    else if sp = 1 then some (.keepAlive n)
    else some (.sof n (t / 8 % 2048))
  else none

/-- The rank-0 item of the SuperSpeed lines: an ITP with the bus interval counter (R272), while the link is in U0. -/
def State.supRank0 (s : State) (n t : Nat) : Option Output :=
  if s.pathSt n true == pEnabled && s.getF (.portLink n) PORT_LINK.SLSTATE == 1 then some (.itp n (t % 2 ^ 14)) else none

/-- The rank-0 items of every port whose sequencer works. -/
def State.rank0 (s : State) (t : Nat) : State :=
  forN 20 (fun n s =>
    if s.domLive (80 + n) then
      let s := match s.usbRank0 n t with
        | some o => s.emit o
        | none => s
      match s.supRank0 n t with
      | some o => s.emit o
      | none => s
    else s) s

/-- The request that a placement of a reservation serves: on the reservation's endpoint, of the reservation's slice. -/
def State.servedBy (s : State) (k e : Nat) (p : BusKind → Bool) : Option Nat :=
  (s.ctxs.find? (fun q => match q.2.op with
    | some o => q.2.slice == k / 65536 && o.ep == e && p o.req.kind && s.sendable q.1 o && !(s.txnOf q.1 o)
    | none => false)).map Prod.fst

/-- A run has reached the service interval of microframe `m` (R214, R305). -/
def Op.reached (o : Op) (m : Nat) : Bool :=
  decide (o.start ≤ m) && (decide (o.ivAt ≤ m) || (o.ivOpen && decide (o.ivAt = m + 1))) && decide (o.ivs < o.req.count)

/-- The service interval of microframe `m` begins, if it is not the one under way. -/
def State.ivBegin (s : State) (c m : Nat) : State :=
  s.modOp c (fun o => if o.ivOpen then o else { o with ivOpen := true, ivAt := m + 1, ivBytes := 0, ivCode := 0 })

/-- Isochronous OUT: the placement's bytes are sent, with no answer (R215). Without its data the placement sends nothing, and
serves nothing. Of a SuperSpeed burst of more packets than are read ahead (R337) the rest follows as `rest` says. -/
def State.isoSend (s : State) (n l c m bytes split : Nat) (rest : Nat → State → State) : State :=
  match ((s.ivBegin c m).ctx c).op with
  | none => s
  | some o =>
    let all := min bytes (o.req.len - o.ivBytes)
    let k := min all (16 * max 1 (s.epInfo o.ep).mps)
    if k = 0 ∨ o.buf.length < k then s
    else
      let s := s.ivBegin c m
      let s := if k < all then rest (all - k) s else s
      let p := (s.pathTraffic n (lineSS l)).linkUp n (lineSS l)
      let s := (p.predBusy n (lineSS l)).emit (.usb n l o.ep (wireKind 2 split) (o.buf.take k))
      let s := (s.outGone c k).modOp c (fun o => { o with
        moved := o.moved + k, ivBytes := o.ivBytes + k, pos := o.pos.advance k })
      let s := if s.pathRuns n (lineSS l) then s else s.predIdle n (lineSS l)
      if o.ivBytes + k = o.req.len then s.ivEnd c (if o.ivCode = 0 then stOk else o.ivCode) else s

/-- Isochronous IN: packets are asked for. -/
def State.isoAsk (s : State) (n l c m pk split : Nat) : State :=
  match (s.ctx c).op with
  | none => s
  | some o =>
    if s.capRoom 1 (s.ctx c).slice (pk * granules (s.epInfo o.ep).mps) then
      ((s.ivBegin c m).askGran c pk).begin n l ⟨o.ep, some c, false, pk, false, split, true, m⟩ 1 []
    else s

/-- An interrupt endpoint may be served in the service interval of microframe `m`: NRDY has not parked it, and no
transaction has failed in the interval (R70, R313). -/
def Ep.polled (x : Ep) (m : Nat) : Bool := !(decide (0 ∈ x.nrdy)) && x.failAt != m + 1

/-- A request to an endpoint clears its pending ERDY (R70). -/
def State.requestMade (s : State) (e : Nat) : State :=
  s.modEpc e (fun x => { x with erdy := x.erdy.filter (· != 0), held := none })

/-- Interrupt IN: the request on an exclusive attachment, or the poll of a fan-out endpoint, for which granules of slice 0 are
allocated (R121, R305, R335, R336). -/
def State.intrAsk (s : State) (n l k e pk split m : Nat) : State :=
  let x := s.epInfo e
  if x.polled m = false then s
  else if (s.atE k).cfg.mode = 1 then
    let g := pk * granules x.mps
    if s.capRoom 1 0 g then
      ((s.lbTake 0 g).requestMade e).begin n l ⟨e, none, false, pk, false, split, true, m⟩ 1 []
    else s
  else
    match s.servedBy k e (· == .inn) with
    | some c =>
      if s.capRoom 1 (s.ctx c).slice (pk * granules x.mps) then
        ((s.askGran c pk).requestMade e).begin n l ⟨e, some c, false, pk, false, split, true, m⟩ 1 []
      else s
    | none => s

/-- Interrupt OUT: the next packets of the request, as far as their data is in the landing buffer. -/
def State.intrSend (s : State) (n l k e pk split m : Nat) : State :=
  match s.servedBy k e (· == .out) with
  | none => s
  | some c =>
    match (s.ctx c).op with
    | none => s
    | some o =>
      let x := s.epInfo e
      let b := min (pk * max 1 x.mps) o.remain
      if o.buf.length < b ∨ (o.remain = 0 ∧ o.wantZlp x.mps = false) ∨ x.polled m = false then s
      else ((s.modOp c (fun o => { o with flight := some b })).requestMade e).begin n l
        ⟨e, some c, false, max 1 (ceilDiv b (max 1 x.mps)), false, split, false, m⟩ 2 (o.buf.take b)

/-- Complete-splits follow an acknowledged start-split, whatever has become of the request (R305): what answers one that
serves no request any more is discarded. -/
def State.complete (s : State) (n l k e m : Nat) : State :=
  let x := s.epInfo e
  let c := ((s.ctxs.find? (fun q => match q.2.op with
    | some o => q.2.slice == k / 65536 && o.ep == e && o.result == none
    | none => false)).map Prod.fst).getD noCtx
  let poll := x.typ == 3 && x.dirIn && (s.atE k).cfg.mode == 1
  let g := granules x.mps
  let room := !x.dirIn || (!poll && c == noCtx) || s.capRoom 1 (if poll then 0 else k / 65536) g
  if (s.epc e).split = false ∨ room = false then s
  else
    let s := if poll then s.lbTake 0 g else if x.dirIn then s.askGran c 1 else s
    let s := if x.typ = 1 then s.ivBegin c m else s
    s.begin n l ⟨e, if poll then none else some c, false, 1, false, 2, x.dirIn, m⟩ (if x.dirIn then 1 else 2) []

/-- A placement that sends traffic, by its kind (Table 3 of chapter 9, Table 1). -/
def State.runPlace (s : State) (n l : Nat) (w : Word64) (k m : Nat) : State :=
  let e := (s.rsvE k).ep
  let kind := opBits w 48 45
  let ofs := opBits w 30 27
  let mf := m + 1 - ofs
  let bytes := opBits w 15 0
  let x := s.epInfo e
  let pk := max 1 (ceilDiv bytes (max 1 x.mps))
  let split := if kind = 8 ∨ kind = 9 then 2 else if 4 ≤ kind ∧ kind ≤ 7 then 1 else 0
  let run (p : BusKind) (f : Nat → State) : State :=
    match s.servedBy k e (· == p) with
    | some c => match (s.ctx c).op with
      | some o => if o.reached mf then f c else s
      | none => s
    | none => s
  let rest (b : Nat) (s : State) : State :=
    s.modLine n l (fun x => { x with extra := x.extra ++ [(Fld.put ⟨15, 0⟩ b w, k)] })
  match kind with
  | 0 => run .isoin (fun c => s.isoAsk n l c mf 1 split)
  | 1 => run .isoout (fun c => s.isoSend n l c mf bytes split rest)
  | 2 => s.intrAsk n l k e 1 split mf
  | 3 => s.intrSend n l k e 1 split mf
  | 4 => s.intrAsk n l k e 1 split mf
  | 5 => s.intrSend n l k e 1 split mf
  | 6 => run .isoin (fun c => s.isoAsk n l c mf 1 split)
  | 7 => run .isoout (fun c => s.isoSend n l c mf bytes split rest)
  | 10 => if x.typ = 1 then run .isoin (fun c => s.isoAsk n l c mf pk split) else s.intrAsk n l k e pk split mf
  | 11 => if x.typ = 1 then run .isoout (fun c => s.isoSend n l c mf bytes split rest) else s.intrSend n l k e pk split mf
  | _ => s.complete n l k e mf

/-- The placement is skipped: its reservation is not in the effective set, has another generation, or its device is
detached (R289). -/
def State.skipped (s : State) (w : Word64) (k : Nat) : Bool :=
  let v := s.rsvE k
  !v.live || v.gen % 256 != opBits w 38 31 || (s.epDev v.ep).detached || !(s.epDev v.ep).live

/-- The placement of a start-split begins a new sequence: the one before it is over, whether or not it sends (R305). -/
def State.splitOver (s : State) (w : Word64) (k : Nat) : State :=
  let kind := opBits w 48 45
  if 4 ≤ kind ∧ kind ≤ 6 ∧ (s.rsvE k).live then s.modEpc (s.rsvE k).ep (fun x => { x with split := false }) else s

/-- A placement executed: skipped, or run (R289, R305). -/
def State.place1 (s : State) (n l : Nat) (w : Word64) (k m : Nat) : State :=
  if s.skipped w k ∨ s.canDrive n (lineSS l) = false then s else s.runPlace n l w k m

/-- `t` is the state in which the placement has sent what it sends: a transaction waits for room in the FIFO for what it may
return (R318). -/
def State.withRoom (s t : State) (n l : Nat) : State := if (t.seqLine n l).txn.isSome && !(s.fifoRoom n) then s else t

/-- The next placement of the line, or, after its last, one that is served once more (R70, R306). -/
def execPlacementStart (n l : Nat) (s : State) : Host.Outcome State Fault Refusal :=
  onDevice (fun s =>
    let s := s.modLine n l (s.lineOn n l 8)
    let x := s.seqLine n l
    if x.txn.isSome then s
    else match (s.placements n l x.mf)[x.k]?, x.extra with
    | some (w, k), _ =>
      s.withRoom (((s.modLine n l (fun x => { x with k := x.k + 1 })).splitOver w k).place1 n l w k x.mf) n l
    | none, (w, k) :: t =>
      s.withRoom ((s.modLine n l (fun x => { x with extra := t })).place1 n l w k x.mf) n l
    | none, [] => s) s

/-! ### ERDY (R70) -/

/-- The placement of an endpoint that the line of the current microframe has executed last. -/
def State.servedPlace (s : State) (n l e : Nat) : Option (Word64 × Nat) :=
  let x := s.seqLine n l
  ((s.placements n l x.mf).take x.k).reverse.find? (fun p => (s.rsvE p.2).ep == e)

/-- NRDY parks an interrupt endpoint, and its placement is kept up to the end of the service interval (R70). -/
def State.parkPeriodic (s : State) (n l : Nat) (t : Txn) : State :=
  let p := (s.servedPlace n l t.ep).map (fun p => (p.1, p.2, t.mf + max 1 (s.rsvE p.2).interval))
  s.modEpc t.ep (fun e => { e with nrdy := if 0 ∈ e.nrdy then e.nrdy else 0 :: e.nrdy, held := p })

/-- A periodic endpoint that was parked is served once more in the interval, after the placements of the current microframe's
line (R70): whether it fits is the moment of that PLACEMENT_START. -/
def State.serveAgain (s : State) (e : Nat) : State :=
  let d := s.epDev e
  let l := if (s.epInfo e).dirIn then 2 else 1
  match (s.epc e).held with
  | some (w, k, m) =>
    let s := s.modEpc e (fun x => { x with held := none })
    if s.aon.clockCount < m then s.modLine d.port l (fun x => { x with extra := x.extra ++ [(w, k)] }) else s
  | none => s

/-- ERDY for an endpoint or a stream: it is no longer parked, or, where it was not, the ERDY is kept (R70). -/
def execErdyReceived (ep stream : Nat) (s : State) : Host.Outcome State Fault Refusal :=
  onDevice (fun s =>
    if stream ∈ (s.epc ep).nrdy then
      let s := s.modEpc ep (fun e => { e with nrdy := e.nrdy.filter (· != stream) })
      if (s.epInfo ep).typ = 3 then s.serveAgain ep else s
    else s.modEpc ep (fun e => { e with erdy := if stream ∈ e.erdy then e.erdy else stream :: e.erdy })) s

/-! ### Intervals that pass unserved (R215) -/

/-- Microframes after its own within which an interval can be served: the frame on a full-speed or low-speed segment,
and its complete-splits behind a TT (Table 7 of chapter 9). -/
def ivWindow (way : Nat) : Nat := if way = 2 then 11 else if way = 3 then 8 else 1

/-- The first service microframe of a reservation at or after `m`. -/
def nextDue (v : Resv) (way m : Nat) : Nat :=
  ((List.range (max 1 v.interval)).map (· + m)).find? (fun x => dueAt x 0 v.phase (handled way v.interval)) |>.getD m

/-- The run's interval under way has had its time: it ends with what it has; an interval that was not served is
MISSED, and its OUT data is discarded. -/
def State.ivPass (s : State) (c : Nat) : Nat → State
  | 0 => s
  | f + 1 =>
    match (s.ctx c).op with
    | none => s
    | some o =>
      let way := (s.epDev o.ep).way
      let v := s.rsvE (hKey (s.ctx c).slice o.req.handle)
      if o.result ≠ none ∨ s.onWire c ∨ v.live = false then s
      else if o.ivOpen then
        if o.ivAt - 1 + ivWindow way ≤ s.aon.clockCount then
          (s.ivEnd c (if o.ivCode ≠ 0 then o.ivCode else stOk)).ivPass c f else s
      else
        let m := nextDue v way (max o.start o.ivAt)
        if m + ivWindow way ≤ s.aon.clockCount then
          ((s.modOp c (fun o => { o with ivAt := m + 1, ivBytes := 0 })).ivEnd c stMissed).ivPass c f
        else s

/-- At a tick: every isochronous run that is not frozen. -/
def State.isoTick (s : State) : State :=
  forL ((s.ctxs.filter (fun q => match q.2.op with
    | some o => o.req.kind == .isoin || o.req.kind == .isoout
    | none => false)).map Prod.fst)
    (fun c s => if s.frozen (s.ctx c).slice then s else s.ivPass c 65536) s

/-! ## Gambits (R322 to R325) -/

/-- Pool bytes that an endpoint's packets take, and those in use (R325). -/
def poolSpace (mps : Nat) : Nat := ceilDiv mps 64 * 64
def State.poolUsed (s : State) : Nat :=
  (s.eps.map (fun q => ((q.2.pend ++ q.2.orph).map GPkt.space).sum)).sum +
    (s.adjs.map (fun q => (q.2.owed.map (fun h => ((h.pend ++ h.orph).map GPkt.space).sum)).sum)).sum +
    (s.writes.map (fun w => match w.kind with
      | .gambit n _ _ => n
      | _ => 0)).sum

/-- The slice of the endpoint's exclusive attachment with both marks. -/
def State.gambitSlice (s : State) (e : Nat) : Option Nat :=
  (s.att.find? (fun q => q.2.cfg.live && q.2.cfg.ep == e && q.2.cfg.mode == 0 && q.2.cfg.gsafeM && q.2.gsafeS &&
    !q.2.cfg.detached)).map (fun q => q.1 / 65536)

/-- A request is outstanding on the endpoint. -/
def State.requested (s : State) (e : Nat) : Bool :=
  s.ctxs.any (fun q => match q.2.op with
    | some o => o.ep == e
    | none => false)

/-- The conditions 2 to 7 of R322 for endpoint `e` on line `l` of port `n`. -/
def State.gambitOk (s : State) (n l e : Nat) : Bool :=
  let x := s.epInfo e
  let d := s.epDev e
  let size := s.getE .portGpool PORT_GPOOL.SIZE
  x.live && x.typ == 2 && x.dirIn && !x.streams && d.live && !d.detached && d.port == n &&
    decide ((if d.ss then 2 else 0) = l) && x.hist == 64 && !(decide (0 ∈ x.nrdy)) && !(s.requested e) && !(s.gambitOn e) && x.orph == [] &&
    decide (x.pend.length < 4) && decide (ceilDiv s.poolUsed 4096 < size) &&
    decide (s.poolUsed + poolSpace x.mps ≤ size * 4096) &&
    decide (x.backoff = 0 ∨ x.backoff + PORT_SEQ_CFG.GMB_BACKOFF.get (s.seqAt n s.rankNow) ≤ s.aon.clockCount + 1) &&
    match s.gambitSlice e with
    | some i => !(s.fenced i) && !(s.inReset i) && !(s.frozen i)
    | none => false

/-- The link is in L0 or U0. -/
def State.linkOn (s : State) (n : Nat) (ss : Bool) : Bool :=
  s.getF (.portLink n) (if ss then PORT_LINK.SLSTATE else PORT_LINK.LSTATE) == 1

/-- Round-robin: the first eligible endpoint context above the last one started on the line. -/
def State.gambitEp (s : State) (n l : Nat) : Option Nat :=
  let es := (FMap.keys s.eps).filter (s.gambitOk n l)
  let last := (s.seqLine n l).lastGambit
  match es.find? (fun e => decide (last < e)) with
  | some e => some e
  | none => es.head?

/-- A gambit under way on a 2.0 line that asks for another packet (R324): its endpoint has no request, its attachment stands,
and the pool has room. -/
def State.gambitNext (s : State) (n l : Nat) : Option (Nat × Nat) :=
  match (s.seqLine n l).more with
  | some (e, k) =>
    let own := match s.gambitSlice e with
      | some i => !(s.fenced i) && !(s.inReset i) && !(s.frozen i)
      | none => false
    if own && !(s.requested e) && decide (s.poolUsed + poolSpace (s.epInfo e).mps ≤ s.getE .portGpool PORT_GPOOL.SIZE * 4096)
    then some (e, k) else none
  | none => none

/-- A gambit starts, or, on a 2.0 line, the one under way asks for its next packet: each IN by itself, in free time
(R319, R322, R324). -/
def execGambitStart (n l rank np : Nat) (s : State) : Host.Outcome State Fault Refusal :=
  onDevice (fun s =>
    let r := s.aon.clockCount * 64 + rank % 64
    let s := s.atRank n l r
    let x := s.seqLine n l
    let cfg := s.seqAt n r
    if x.txn.isNone && s.canDrive n (lineSS l) && s.linkOn n (lineSS l) && s.fifoRoom n then
      match s.gambitNext n l with
      | some (e, k) => s.begin n l ⟨e, none, true, k, false, 0, true, 0⟩ 1 []
      | none =>
        let s := s.modLine n l (fun x => { x with more := none })
        if PORT_SEQ_CFG.GMB_EN.get cfg != 0 && decide (x.gambits < PORT_SEQ_CFG.GMB_BUDGET.get cfg) then
          match s.gambitEp n l with
          | some e =>
            let k := 4 - (s.epc e).pend.length
            let k := if l = 0 then k else max 1 (min np k)
            (((s.requestMade e).modLine n l (fun x => { x with gambits := x.gambits + 1, lastGambit := e })).addF (.portGmbCnt n)
              PORT_GMB_CNT.ISSUED 1).begin n l ⟨e, none, true, k, false, 0, true, 0⟩ 1 []
          | none => s
        else s
    else s) s

/-- A packet of a gambit is landed: pending, or orphan where orphan data is held already or its attachment is gone,
fenced or in reset (R324, R328). -/
def State.landGambit (s : State) (n e : Nat) (d : List Byte) : State :=
  let x := s.epInfo e
  let p : GPkt := ⟨d, decide (d.length < x.mps), poolSpace x.mps⟩
  let own := s.att.any (fun q => q.2.cfg.live && q.2.cfg.ep == e && q.2.cfg.mode == 0 && !q.2.cfg.detached &&
    !(s.fenced (q.1 / 65536)) && !(s.inReset (q.1 / 65536)))
  let s := s.addF (.portGmbCnt n) PORT_GMB_CNT.LANDED 1
  let s := if x.orph = [] ∧ own then s.modEpc e (fun x => { x with pend := x.pend ++ [p] })
    else (s.modEpc e (fun x => { x with orph := x.orph ++ [p] })).addF (.portGmbOrph n) PORT_GMB_ORPH.ORPHANED 1
  s.putItem n e none 2 0 0 [] false

/-- A gambit's history is lost (R323, R324). -/
def State.noHist (s : State) (e : Nat) : State := s.modEpc e (fun x => { x with hist := 0 })

/-- The next data toggle or sequence number. -/
def State.toggleOn (s : State) (e : Nat) (ss : Bool) : State :=
  s.modEpc e (fun x => { x with toggle := (x.toggle + 1) % (if ss then 32 else 2) })

/-- The response to a gambit (R324). -/
def State.gambitResp (s : State) (n l : Nat) (t : Txn) (k : ResponseKind) (d : List Byte) : State :=
  let x := s.epInfo t.ep
  let s := s.modLine n l (fun x => { x with more := none })
  match k with
  | .data =>
    if x.mps < d.length then (s.noHist t.ep).endTxn n l t
    else
      let s := (s.toggleOn t.ep (lineSS l)).landGambit n t.ep d
      if d.length < x.mps ∨ t.left ≤ 1 then s.endTxn n l t
      else if l = 0 then (s.endTxn n l t).modLine n l (fun x => { x with more := some (t.ep, t.left - 1) })
      else s.modLine n l (fun x => { x with txn := some { t with left := t.left - 1 } })
  | .wrongToggle =>
    if l = 0 then (s.endTxn n l t).modLine n l (fun x => { x with more := some (t.ep, t.left) }) else s
  | .nak => (s.modEpc t.ep (fun x => { x with backoff := s.aon.clockCount + 1 })).endTxn n l t
  | .nrdy => (s.modEpc t.ep (fun x => { x with backoff := s.aon.clockCount + 1 })).endTxn n l t
  | _ => (s.noHist t.ep).endTxn n l t

/-! ## Responses (R310 to R314) -/

/-- A transaction that has ended with a valid answer: the count of consecutive errors returns to 0 (R312). -/
def State.goodTxn (s : State) (c : Nat) : State := s.modOp c (fun o => { o with errs := 0 })

/-- A report of endpoint `e` has begun and not ended: its last packet, in the FIFO or read, ends none (R208). -/
def State.reportOpen (s : State) (n e : Nat) : Bool :=
  (s.epInfo e).dirIn && match ((s.port n).fifo.items.filter (fun i => i.ep == e)).getLast? with
    | some i => i.hasData && !i.ends
    | none => (s.epc e).part != []

/-- A report that has begun ends with its interval (R208). -/
def State.reportCut (s : State) (n : Nat) (t : Txn) : State :=
  if s.reportOpen n t.ep then s.putItem n t.ep t.ctx 1 0 0 [] true else s

/-- A transaction error: counted, and at the third in a row the request ends with XACT_ERR; an isochronous interval
reports it (R313, R215). An interrupt endpoint is not served again in the interval, and its report ends. `last` says that the interval has no
further transaction; damaged isochronous data is written anyway. -/
def State.txnError (s : State) (n l : Nat) (t : Txn) (last : Bool) (lba : Nat) (d : List Byte) : State :=
  let s := (s.addF (.portXerr n) PORT_XERR.ERRS 1).endTxn n l t
  let s := if (s.epInfo t.ep).typ = 3 then s.modEpc t.ep (fun e => { e with split := false, failAt := t.mf + 1 }) else s
  match t.ctx with
  | none => if (s.epInfo t.ep).typ = 3 then s.reportCut n t else s
  | some c =>
    let s := s.modOp c (fun o => { o with errs := o.errs + 1, flight := none })
    match (s.ctx c).op with
    | none => s
    | some o =>
      if (s.epInfo t.ep).typ = 1 then
        if d = [] then s.putItem n t.ep t.ctx 1 stXactErr 0 [] last
        else (s.modLbOf (s.ctx c).slice (· + granules d.length)).putItem n t.ep t.ctx 0 stXactErr lba d last
      else if 3 ≤ o.errs then s.putItem n t.ep t.ctx 1 stXactErr 0 [] true
      else if (s.epInfo t.ep).typ = 3 ∧ o.req.kind = .inn then s.reportCut n t
      else s

/-- NAK and NYET park the endpoint of an asynchronous request: `out` says that an OUT was answered, which at high speed is
followed by a PING (R68). -/
def State.parkTxn (s : State) (n l c e : Nat) (out keepSplit : Bool) : State :=
  let k := (s.port n).order
  ((s.modPort n (fun p => { p with order := k + 1 })).modEpc e (fun x => { x with
    parked := some k, parkedAt := (s.seqLine n l).rank,
    ping := x.ping || (out && decide ((s.epDev e).way = 1)) })).modOp c (fun o => { o with
      flight := none, split := o.split && keepSplit })

/-- Acknowledged OUT bytes: counted, the position advanced, the data let go (R333); a boundary (R186). -/
def State.outAcked (s : State) (c k : Nat) : State :=
  match (s.ctx c).op with
  | none => s
  | some o =>
    (s.outGone c k).modOp c (fun p => { p with
      moved := p.moved + k, pkts := p.pkts + 1, bnd := true, pos := p.pos.advance k, zlpDone := p.zlpDone || (o.remain == 0 && k == 0) })

/-- A packet received for a request or poll: larger than the maximum packet is BABBLE (R42, R314), which ends an isochronous
run too, with XACT_ERR in the interval's result word (log entry 42). -/
def State.dataResp (s : State) (n l : Nat) (t : Txn) (r : Response) : State :=
  let x := s.epInfo t.ep
  let len := r.data.length
  let more := decide (1 < t.left) && decide (x.mps ≤ len) && !r.last
  let s := match t.ctx with
    | some c => s.goodTxn c
    | none => s
  let s := (s.toggleOn t.ep (lineSS l)).modEpc t.ep (fun e => { e with partAt := s.now })
  if x.mps < len then
    let s := s.endTxn n l t
    if t.ctx = none then (s.lbFree 0 (s.epc t.ep).partGran).modEpc t.ep (fun e => { e with part := [], partGran := 0 })
    else s.putItem n t.ep t.ctx 1 stBabble 0 [] true
  else
    let s := match t.ctx with
      | some c =>
        if (s.ctx c).op = none then s
        else (s.lbFree (s.ctx c).slice (granules x.mps - granules len)).modOp c (fun o =>
          { o with asked := o.asked - 1, split := false })
      | none => s.lbFree 0 (granules x.mps - granules len)
    let t := { t with left := t.left - 1 }
    let s := if more then s.modLine n l (fun x => { x with txn := some t }) else s.endTxn n l t
    s.putItem n t.ep t.ctx 0 0 r.lba r.data ((x.typ == 1 || x.typ == 3) && r.last)

/-- A handshake or empty packet that ends a request's transaction with success. -/
def State.ackResp (s : State) (n l : Nat) (t : Txn) (c : Nat) : State :=
  let s := s.goodTxn c
  match (s.ctx c).op with
  | none => s.endTxn n l t
  | some o =>
    let m := max 1 (s.epInfo o.ep).mps
    let s := if t.ping ∨ o.req.kind = .ping then s else s.toggleOn t.ep (lineSS l)
    let s := if t.ping ∨ o.req.kind = .ping ∨ o.req.kind = .setup then s.modEpc o.ep (fun e => { e with ping := false }) else s
    if t.ping then s.endTxn n l t
    else
      let k := min m (o.flight.getD 0)
      let rest := o.flight.getD 0 - k
      let out := o.req.kind.sends (s.epInfo o.ep).dirIn
      let s := if out then s.outAcked c k else s
      let s := s.modOp c (fun o => { o with split := false, flight := if rest = 0 then none else some rest })
      let s := if out ∧ rest ≠ 0 then s.modLine n l (fun x => { x with txn := some { t with left := t.left - 1 } })
        else s.endTxn n l t
      let done := !out || match (s.ctx c).op with
        | some o => o.drained (s.epInfo o.ep)
        | none => false
      s.putItem n t.ep t.ctx 1 0 0 [] done

/-- An answer without data to a poll or request of an interrupt endpoint; `last` says that it ends the interval, and with it a
report that has begun (R208). -/
def State.intrNone (s : State) (n l : Nat) (t : Txn) (last : Bool) : State :=
  let s := s.endTxn n l t
  if last then s.reportCut n t else s

/-- The answer of a TT to a start-split: ACK, or NAK for an asynchronous one (R309). -/
def State.startSplitResp (s : State) (n l : Nat) (t : Txn) (r : Response) : State :=
  let async := (s.epInfo t.ep).typ == 0 || (s.epInfo t.ep).typ == 2
  match r.kind with
  | .ack =>
    let s := if async then s else s.modEpc t.ep (fun e => { e with split := true })
    match t.ctx with
    | some c => (s.goodTxn c).endTxn n l t |>.modOp c (fun o => { o with split := async })
    | none => s.endTxn n l t
  | .nak =>
    match t.ctx with
    | some c =>
      if async then ((s.goodTxn c).endTxn n l t).parkTxn n l c t.ep false false else (s.goodTxn c).endTxn n l t
    | none => s.endTxn n l t
  | _ => s.txnError n l t r.last 0 []

/-- The response to an asynchronous transaction. A STATUS from the device is an empty packet, or, on a SuperSpeed line, its
ACK; one longer than the maximum packet is BABBLE (R314; log entry 83). -/
def State.asyncResp (s : State) (n l : Nat) (t : Txn) (c : Nat) (r : Response) : State :=
  match (s.ctx c).op with
  | none => s.endTxn n l t
  | some o =>
    let e := s.epInfo o.ep
    let lands := o.lands e
    let bad (s : State) : State := s.txnError n l t r.last r.lba []
    let good (s : State) : State := (s.goodTxn c).endTxn n l t
    let out := s.sendsOut c o
    let statIn := o.req.kind == .status && s.statusIn c o
    match r.kind with
    | .data =>
      if lands then s.dataResp n l t r
      else if statIn ∧ lineSS l = false then
        if r.data.length ≤ e.mps then s.ackResp n l t c else (good s).putItem n t.ep t.ctx 1 stBabble 0 [] true
      else bad s
    | .ack => if lands ∨ (statIn ∧ lineSS l = false) then bad s else s.ackResp n l t c
    | .wrongToggle => if lands ∨ statIn then (good s).modOp c (fun o => { o with split := false }) else bad s
    | .nak =>
      if o.req.kind = .setup ∨ lineSS l then bad s else (good s).parkTxn n l c o.ep out false
    | .nyet =>
      if t.split = 2 then (good s).parkTxn n l c o.ep false true
      else if out ∧ t.ping = false ∧ lineSS l = false ∧ (s.epDev o.ep).way = 1 then (s.ackResp n l t c).parkTxn n l c o.ep true false
      else bad s
    | .nrdy =>
      if lineSS l then
        ((good s).modOp c (fun o => { o with flight := none })).modEpc o.ep (fun e =>
          { e with nrdy := if o.req.sid ∈ e.nrdy then e.nrdy else o.req.sid :: e.nrdy })
      else bad s
    | .stall =>
      if o.req.kind = .setup then bad s
      else ((good s).modOp c (fun o => { o with flight := none })).putItem n t.ep t.ctx 1 stStall 0 [] true
    | .error => bad s

/-- The response to a transaction on an interrupt endpoint: NAK says that it has no data in this interval (R68). Without a request it is the poll of a fan-out endpoint. -/
def State.intrResp (s : State) (n l : Nat) (t : Txn) (r : Response) : State :=
  let good := match t.ctx with
    | some c => (s.goodTxn c).modOp c (fun o => { o with flight := none })
    | none => s
  let bad (s : State) : State := s.txnError n l t r.last r.lba []
  let dirIn := (s.epInfo t.ep).dirIn
  match r.kind with
  | .data => if dirIn then s.dataResp n l t r else bad s
  | .ack =>
    match t.ctx with
    | some c =>
      if dirIn then bad s
      else if t.split = 2 ∧ ((s.ctx c).op.bind Op.flight) = none then (s.goodTxn c).endTxn n l t
      else s.ackResp n l t c
    | none => bad s
  | .wrongToggle => if dirIn then good.intrNone n l t r.last else bad s
  | .nak => (good.modEpc t.ep (fun e => { e with failAt := t.mf + 1 })).intrNone n l t true
  | .nyet => if t.split = 2 then good.endTxn n l t else bad s
  | .nrdy => if lineSS l then (good.intrNone n l t true).parkPeriodic n l t else bad s
  | .stall =>
    match t.ctx with
    | some _ => (good.endTxn n l t).putItem n t.ep t.ctx 1 stStall 0 [] true
    | none => good.endTxn n l t
  | .error => bad s

/-- The response to an isochronous IN. A packet out of order is not an error of its interval, and brings no data (R312). -/
def State.isoResp (s : State) (n l : Nat) (t : Txn) (r : Response) : State :=
  match r.kind with
  | .data => s.dataResp n l t r
  | .wrongToggle => s.endTxn n l t
  | .nyet => if t.split = 2 then s.endTxn n l t else s.txnError n l t r.last r.lba []
  | .error => s.txnError n l t r.last r.lba (r.data.take (s.epInfo t.ep).mps)
  | _ => s.txnError n l t r.last r.lba []

/-- A response, or the expiry of the response wait, given to the transaction on its line. -/
def State.respond (s : State) (n : Nat) (r : Response) : State :=
  match (s.seqLine n r.line).txn with
  | none => s
  | some t =>
    let typ := (s.epInfo t.ep).typ
    if t.gambit then s.gambitResp n r.line t r.kind r.data
    else if t.split = 1 then s.startSplitResp n r.line t r
    else if typ = 3 ∧ s.kindOf t.ctx ≠ some .ping then s.intrResp n r.line t r
    else match t.ctx with
      | none => s.endTxn n r.line t
      | some c =>
        if typ = 1 ∧ s.kindOf t.ctx ≠ some .ping then s.isoResp n r.line t r else s.asyncResp n r.line t c r

def execResponseReceived (n : Nat) (r : Response) (s : State) : Host.Outcome State Fault Refusal :=
  onDevice (fun s => s.respond n r) s

/-- No further placement of the endpoint follows on the line. -/
def State.lastPlace (s : State) (n l : Nat) : Bool :=
  let x := s.seqLine n l
  match x.txn with
  | some t => !(((s.placements n l x.mf).drop x.k).any (fun p => (s.rsvE p.2).ep == t.ep))
  | none => true

def execResponseTimeout (n l : Nat) (s : State) : Host.Outcome State Fault Refusal :=
  onDevice (fun s => s.respond n ⟨l, .error, [], s.lastPlace n l, 0⟩) s

/-! ## The return unit (R121, R125, R126, R317) -/

/-- The sealed block of a report of endpoint `e` (R126). -/
def sealedReport (c : SecCopy) (e : Nat) (d : List Byte) : List Byte :=
  let h := leBytes 8 c.seq ++ leBytes 2 (c.handle % 65536) ++ leBytes 2 d.length ++ leBytes 4 c.clock
  let nonce := leBytes 1 (c.handle / 65536) ++ leBytes 2 e ++ [0] ++ leBytes 8 c.seq
  let t := gcmText c.key nonce d
  h ++ t ++ leBytes 16 (Config.gcmTag c.key nonce h t).toNat

/-- A report joins the queue of a fan-out attachment; a full queue loses its oldest (R121), a fenced slice the report
(R131). A queue that an UPDATE has left longer than its depth keeps what it holds, and loses one report for each new one
(log entry 84). -/
def State.queueReport (s : State) (k : Nat) (p : Report) : State :=
  if s.fenced (k / 65536) then s.modAtE k (fun a => { a with folost := satAdd 255 a.folost 1 })
  else if (s.atE k).queue.length ≤ (s.atE k).cfg.fodepth then s.modAtE k (fun a => { a with queue := a.queue ++ [p] })
  else
    s.modAtE k (fun a => { a with queue := a.queue.drop 1 ++ [p], folost := satAdd 255 a.folost 1 })

/-- The contexts that wait for a report of handle `k`, in order of arrival, take one each. -/
def State.takeReports (s : State) (k : Nat) : State :=
  forL ((s.ctxs.filter (fun q => q.2.slice == k / 65536 && match q.2.op with
    | some o => o.req.handle == k % 65536
    | none => false)).map Prod.fst) (fun c s => s.giveQueued c) s

/-- A report delivered: sealed to the claimant alone, else to every fan-out attachment, else to the request. `g` is the
granules it takes from the request's slice. -/
def State.report (s : State) (i : Item) (g : Nat) (d : List Byte) : State :=
  match i.sec with
  | some x =>
    let give (s : State) : State := match i.ctx with
      | some c => s.lbFree (s.ctx c).slice g
      | none => s
    if x.key = [] then (give s).modAtE x.handle (fun a => { a with folost := satAdd 255 a.folost 1 })
    else match i.ctx with
      | some c => s.giveReport c g ⟨sealedReport x i.ep d, true, i.time⟩
      | none => (s.queueReport x.handle ⟨sealedReport x i.ep d, true, i.time⟩).takeReports x.handle
  | none =>
    match i.ctx with
    | some c => s.giveReport c g ⟨d, false, i.time⟩
    | none =>
      forL ((s.attsOf i.ep).filter (fun k => (s.atE k).cfg.mode = 1))
        (fun k s => (s.queueReport k ⟨d, false, i.time⟩).takeReports k) s

/-- An item of an interrupt IN endpoint: a packet of a report, which keeps its granules until the report has ended, or its
end (R335). -/
def State.reportItem (s : State) (i : Item) : State :=
  let d := (s.epc i.ep).part ++ i.data
  let g := (s.epc i.ep).partGran + granules i.data.length
  if i.last ∨ (i.hasData ∧ i.short) then
    let s := s.modEpc i.ep (fun e => { e with part := [], partGran := 0 })
    if i.ctx = none then s.fanLess (fun s => (s.modLbOf 0 (· - g)).report i g d) else s.report i g d
  else s.modEpc i.ep (fun e => { e with part := d, partGran := g })

/-- A packet of an isochronous IN interval, or its error (R215). -/
def State.isoItem (s : State) (c : Nat) (i : Item) : State :=
  match (s.ctx c).op with
  | none => s
  | some o =>
    let k := min i.data.length (o.req.len - o.ivBytes)
    let bad := i.code != 0 || decide (k < i.data.length)
    let s := if i.hasData then s.opWrite c (i.data.take k) (.data (granules i.data.length)) else s
    let code := if bad then stXactErr else o.ivCode
    let s := s.modOp c (fun o => { o with ivBytes := o.ivBytes + k, ivCode := code })
    if i.code = stBabble then
      let s := s.ivEnd c stXactErr
      if ((s.ctx c).op.bind Op.result).isSome then s else s.runEnd c
    else if i.last then s.ivEnd c (if code = 0 then stOk else code) else s

/-- An item of a request handed on; a data packet that is whole in the landing buffer is a boundary (R186). -/
def State.opItem (s : State) (c : Nat) (i : Item) : State :=
  match (s.ctx c).op with
  | none => s
  | some o =>
    let typ := (s.epInfo o.ep).typ
    if o.result ≠ none then s
    else if typ = 1 ∧ o.req.kind ≠ .ping then s.isoItem c i
    else if i.code = stXactErr then (s.partFlush c).xactEnd o.port c
    else if i.code ≠ 0 then (s.partFlush c).opResult c i.code
    else if typ = 3 ∧ o.req.kind = .inn then (s.modOp c (fun o => { o with pkts := o.pkts + 1 })).reportItem i
    else if i.hasData then
      (s.modOp c (fun o => { o with bnd := true, pkts := o.pkts + 1, buf := o.buf ++ i.data, hold := o.hold + granules i.data.length,
                                    shortIn := i.short })).inFlush c
    else if i.last then s.opResult c stOk
    else s

/-- The position of the item that is read next: the oldest whole item of the highest class (R317). -/
def nextItem (l : List Item) : Option Nat :=
  leastBy (fun j => ((l[j]?.map Item.cls).getD 9) * 1000 + j)
    ((List.range l.length).filter (fun j => (l[j]?.map Item.whole).getD false))

/-- `n` words taken out of the stages after the first `skip` words. -/
def takeWords : Nat → Nat → List (Option (Word64 × Bool)) → List (Option (Word64 × Bool))
  | _, _, [] => []
  | _, 0, l => l
  | skip, n, none :: t => none :: takeWords skip n t
  | 0, n + 1, some _ :: t => none :: takeWords 0 n t
  | skip + 1, n, some w :: t => some w :: takeWords skip n t

/-- Item `j` leaves the FIFO. -/
def Fifo.read (f : Fifo) (j : Nat) (i : Item) : Fifo :=
  let skip := ((f.items.take j).map Item.words).sum
  { f with stages := takeWords skip i.words f.stages, items := f.items.eraseIdx j, rptr := (f.rptr + i.words) % 64,
           rptr2 := (f.rptr2 + i.words) % 64 }

def execReturnItemRead (n : Nat) (s : State) : Host.Outcome State Fault Refusal :=
  onDevice (fun s =>
    let f := (s.port n).fifo
    match nextItem f.items with
    | none => s
    | some j =>
      match f.items[j]? with
      | none => s
      | some i =>
        if i.sec.any SecCopy.waits then s
        else
        let s := s.modPort n (fun p => { p with fifo := p.fifo.read j i })
        if i.gambit then s
        else match i.ctx with
          | some c => (s.opItem c i).lookAhead c
          | none => if i.cls = 1 then s.reportItem i else s) s

/-! ## Failures (R321, R422) -/

/-- The items that stand in the FIFO, in part or whole, and the others. -/
def splitItems : Nat → List Item → List Item × List Item
  | _, [] => ([], [])
  | 0, l => ([], l)
  | n, i :: t =>
    let p := splitItems (n - i.words) t
    (i :: p.1, p.2)

/-- A request whose item is lost ends with XACT_ERR, counted once (`PORT_XERR.ENDED`), and the granules of the item are
free. -/
def State.itemLost (s : State) (n : Nat) (i : Item) : State :=
  match i.ctx with
  | some c =>
    if c = noCtx then s
    else
      let s := if i.hasData then s.lbFree (s.ctx c).slice (granules i.data.length) else s
      match (s.ctx c).op with
      | some o => if o.result ≠ none then s else s.xactEnd n c
      | none => s
  | none => if i.hasData && !i.gambit then s.lbFree 0 (granules i.data.length) else s

def execPrfPointerError (n : Nat) (s : State) : Host.Outcome State Fault Refusal :=
  onDevice (fun s =>
    let f := (s.port n).fifo
    let p := splitItems f.occ f.items
    let cut := (p.1.map Item.words).sum - f.occ
    let s := s.modPort n (fun q => { q with fifo :=
      { Fifo.init with items := p.2.map (fun i => { i with whole := false }), held := f.held.drop cut } })
    let s := (s.set1 (.portPrfSts n) PORT_PRF_STS.PERR).addF (.portPrfLoss n) PORT_PRF_LOSS.ITEMS p.1.length
    let s := (s.satF (.portPrfLoss n) PORT_PRF_LOSS.RSTS 1).faultEvent (20 + n) 1 p.1.length false
    forL p.1 (fun i s => s.itemLost n i) s) s

/-- Loss of lock of a PHY PLL: an event of PORT_Pn (Table 1 of chapter 15). -/
def execPhyPllLockLoss (n : Nat) (ss : Bool) (s : State) : Host.Outcome State Fault Refusal :=
  onDevice (fun s => s.faultEvent (20 + n) (if ss then 2 else 3) 0 false) s

/-! ## `PORT_DET` and `PORT_GPOOL` (R330, R331) -/

/-- A write to `PORT_DET` (R331). -/
def State.wrPortDet (s : State) (n : Nat) (v : Word64) : State :=
  let s := s.plainWrite (.portDet n) v
  if PORT_DET.CMD.get v = 1 then
    let d := PORT_DET.DEVICE.get v
    if (s.dev d).live && (s.dev d).port == n && !(s.dev d).detached then s.detach d else s.set1 (.portDet n) PORT_DET.IGN
  else s

def execPortDetDetach (q : Requester) (n dev : Nat) (s : State) : Host.Outcome State Fault Refusal :=
  onDevice (fun s => s.gate q (.portDet n) (fun s => s.wrPortDet n (BitVec.ofNat 64 (2 ^ 28 + dev % 2048)))) s

/-- A write to `PORT_GPOOL` (R330). -/
def State.wrPortGpool (s : State) (q : Requester) (v : Word64) : State :=
  let n := PORT_GPOOL.SIZE.get v
  if 2048 < n ∨ 4096 - n < sumSlices (fun j => s.getF (.slcQmem j) SLC_QMEM.LB) then s.violation q Reg.portGpool.loc
  else s.plainWrite .portGpool v

def execGpoolSizeWrite (q : Requester) (v : Word32) (s : State) : Host.Outcome State Fault Refusal :=
  onDevice (fun s => s.gate q .portGpool (fun s => s.wrPortGpool q (v.setWidth 64))) s

end Sys2Proof.Machine
end

