-- ==== Sys2Proof/Machine/Seal.lean ====
section
/-!
DEFINITION. The seal unit (chapter 12): key slots, the SEAL instruction, device identities, firmware verification. A
command that ends, refused or not, is an event of source 312.
-/
namespace Sys2Proof.Machine

/-! ## Key slots (R360 to R366) -/

/-- A key command has ended. -/
def State.keyDone (s : State) (result : Nat) : State :=
  ({ s with keyCmd := none }.clr1 .sealKeySts SEAL_KEY_STS.BUSY).setF .sealKeySts SEAL_KEY_STS.RESULT result |>.irqEvent 312

/-- A write to a staging word. -/
def State.wrSealKey (s : State) (w : Nat) (v : Word64) : State :=
  { s with stage := FMap.put none w (some v.lo) s.stage }

/-- The eight staging words, if all have been written. -/
def State.staged8 (s : State) : Option (List Word32) :=
  let l := (List.range 8).filterMap (fun w => FMap.find none w s.stage)
  if l.length = 8 then some l else none

/-- An operation that works with a key copied from slot `k`. -/
def SealOp.holds (o : SealOp) (k : Nat) : Bool := o.started && o.slot == k && o.key != []

/-- A seal operation stopped by an erase: what it has not written stays unwritten (R363). -/
def State.sealStopped (s : State) (o : SealOp) : State :=
  match o.use with
  | .instr c _ _ _ _ =>
    { s.reqsDrop c with writes := s.writes.filter (fun w => w.ctx != c || w.kind != WriteKind.sealOut || w.issued) }.jobs
      [.ends c (endMin (s.ctx c).endCode stKeyErased)]
  | .save i => (s.modAdj i (fun a => { a with state := 2 })).adjFinish i 0x0A
  | .restore i => ({ s with restoring := none }.setAdj i Adj.init).adjFinish i 0x0A
  | .report _ => s

/-- A secure-input claim under an erased slot ends at once; fan-out resumes at the next tick (R127). -/
def State.claimErased (s : State) (e k : Nat) : State :=
  ({ s.setSecOf e none with secOver := s.secOver ++ [(e, k)] }.mbxFlag (k / 65536) MBX_CSR.SEC_LOST).genRise (k / 65536) 1

/-- The endpoints and handle keys of the claims under slot `k`. -/
def State.claimsUnder (s : State) (k : Nat) : List (Nat × Nat) :=
  s.sec.filterMap (fun q => match q.2 with
    | some h => if s.getE (.slcQper (h / 65536)) SLC_QPER.SSLOT = k then some (q.1, h) else none
    | none => none)

/-- Sealing of reports under slot `k` is stopped, and does not start where it waits: their key copies are zeroed. -/
def Item.unkey (k : Nat) (i : Item) : Item :=
  { i with sec := i.sec.map (fun x => if x.slot = k then { x with key := [], waits := false } else x) }

/-- ERASE takes effect: slot empty, generation up by 1, every operation with a copy stopped (R363). -/
def State.eraseSlot (s : State) (k : Nat) : State :=
  let s := (((s.clr1 (.sealSlot k) SEAL_SLOT.VALID).setF (.sealSlot k) SEAL_SLOT.USE 0).addF (.sealSlot k) SEAL_SLOT.GEN
    1).setKeyOf k []
  let ops := s.sealOps.filter (fun o => o.holds k)
  let s := { s with
    sealOps := s.sealOps.filter (fun o => !(o.holds k)),
    ports := s.ports.mapVals Port.init (fun _ p => { p with fifo := { p.fifo with items := p.fifo.items.map (Item.unkey k) } }) }
  let s := forL (s.claimsUnder k) (fun q s => s.claimErased q.1 q.2) s
  forL ops (fun o s => s.sealStopped o) s

/-- A write to `SEAL_KEY_CTL` (R360, R363). -/
def State.wrSealKeyCtl (s : State) (v : Word64) : State :=
  let k := SEAL_KEY_CTL.SLOT.get v
  if s.flag .sealKeySts SEAL_KEY_STS.BUSY then s
  else match SEAL_KEY_CTL.CMD.get v with
    | 0 => s
    | 1 =>
      let l := s.staged8
      let s := { s with stage := [] }
      match l with
      | some key => { s with keyCmd := some (1, k, SEAL_KEY_CTL.USE.get v, key) }.set1 .sealKeySts SEAL_KEY_STS.BUSY
      | none => s.keyDone 1
    | 2 => ({ s with stage := [], keyCmd := some (2, k, 0, []) }.set1 .sealKeySts SEAL_KEY_STS.BUSY).eraseSlot k
    | _ => s.keyDone 2

/-- The word of a key command. -/
def keyWord (cmd use slot : Nat) : Word64 := BitVec.ofNat 64 (cmd % 16 * 2 ^ 28 + use % 8 * 256 + slot % 32)

def execSealKeyLoad (q : Requester) (slot use : Nat) (s : State) : Host.Outcome State Fault Refusal :=
  onDevice (fun s => s.gate q .sealKeyCtl (fun s => s.wrSealKeyCtl (keyWord 1 use slot))) s
def execSealKeyErase (q : Requester) (slot : Nat) (s : State) : Host.Outcome State Fault Refusal :=
  onDevice (fun s => s.gate q .sealKeyCtl (fun s => s.wrSealKeyCtl (keyWord 2 0 slot))) s
def execSealKeyBadCommand (q : Requester) (code : Nat) (s : State) : Host.Outcome State Fault Refusal :=
  onDevice (fun s => s.gate q .sealKeyCtl (fun s => s.wrSealKeyCtl (keyWord code 0 0))) s

/-- LOAD takes effect: key, use mask, generation up by 1, sequence counter 0 (R360). -/
def State.loadSlot (s : State) (k use : Nat) (key : List Word32) : State :=
  (((((s.set1 (.sealSlot k) SEAL_SLOT.VALID).setF (.sealSlot k) SEAL_SLOT.USE use).addF (.sealSlot k) SEAL_SLOT.GEN
    1).setKeyOf k key).setSeqOf k 0).keyDone 0

def execKeyLoadComplete (s : State) : Host.Outcome State Fault Refusal :=
  onDevice (fun s => match s.keyCmd with
    | some (1, k, use, key) => s.loadSlot k use key
    | _ => s) s

def execSealEraseDone (s : State) : Host.Outcome State Fault Refusal :=
  onDevice (fun s => match s.keyCmd with
    | some (2, _, _, _) => s.keyDone 0
    | _ => s) s

/-! ## Operations (R226, R361, R362, R365) -/

/-- SEAL is refused: C = 1, N = 0; it ends its park (R194, R226). -/
def State.sealRefused (s : State) (c : Nat) : State :=
  (s.modCtx c (fun x => { x.setSt stOk 0 with c := true, n := false })).wake c

/-- SEAL: a bad block is refused; ranges that R83 refuses end the activation; else the operation waits for the unit. -/
def State.doSeal (s : State) (c mode a : Nat) : State :=
  let k := (((s.ctx c).reg a).toNat % 256) / 64 * 64
  let b := s.blockOf c k
  let i := (s.ctx c).slice
  if b.ok = false then s.modCtx c (fun x => { x.refuse with n := false })
  else if s.hostOk i b.src b.len = false then s.accessFault c b.src
  else if s.hostOk i b.aad b.aadLen = false then s.accessFault c b.aad
  else if s.hostOk i b.dst b.len = false then s.accessFault c b.dst
  else
    let o : SealOp := ⟨.instr c (decide (mode = 1)) b.len b.dst k, b.slot, false, 0, [], 0, (s.ctx c).padBytes k 64, [], [], false⟩
    ({ s with sealOps := s.sealOps ++ [o] }.modCtx c Ctx.step1).park c .sealOp

def execSeal (c mode a : Nat) (s : State) : Host.Outcome State Fault Refusal :=
  kwarvoS c (wordK 0x35 mode a) (fun s => s.doSeal c mode a) s

/-- The use bit of an operation (R361). -/
def SealUse.bit : SealUse → Nat
  | .instr _ _ _ _ _ => 0
  | .report _ => 1
  | _ => 2

/-- Operation `k` starts: it copies its slot, and SAVE and a report the next sequence value; on a slot that it may not use a SEAL is
refused and a record command ends with NO_KEY, a RESTORE once its header has been read (R361, R362, R366, R375). -/
def State.sealStart (s : State) (k : Nat) (o : SealOp) : State :=
  let key := s.slotKey o.slot o.use.bit
  let o' := { o with started := true, key := key, gen := s.getF (.sealSlot o.slot) SEAL_SLOT.GEN, seq := s.seqOf o.slot }
  let started := { s with sealOps := s.sealOps.set k o' }.traffic 162
  let out := { s with sealOps := s.sealOps.eraseIdx k }
  match o.use with
  | .instr c _ _ _ _ => if key = [] then out.sealRefused c else started.sealRead c
  | .save i =>
    if key = [] then (out.modAdj i (fun a => { a with state := 2 })).adjFinish i 2
    else started.setSeqOf o.slot ((s.seqOf o.slot + 1) % 2 ^ 64)
  | .restore _ => started
  | .report n =>
    match out.secWaiting n with
    | some (j, x) => (out.secStart x).1.setSec n j (out.secStart x).2
    | none => out

def execSealOpStart (s : State) : Host.Outcome State Fault Refusal :=
  onDevice (fun s =>
    match firstWaiting s.sealOps 0 with
    | some (k, o) => if s.sealRunning < 8 ∧ s.domLive 162 then s.sealStart k o else s
    | none => s) s

/-- A SEAL whose output is in host memory's way ends: the tag of sealed text goes to the pad; an open whose tag does not match
has been performed too, and sets C and N alone (R194, R226). -/
def State.sealEnd (s : State) (o : SealOp) (c : Nat) (opening : Bool) (len k : Nat) : State :=
  if o.mismatch then (s.modCtx c (fun x => { x with c := true, n := true })).wake c
  else
    let s := if opening then s else s.modCtx c (fun x => x.padWrite (k + 40) (o.tag (gcmText o.key o.nonce o.src)))
    (s.modCtx c (fun x => { x.setSt stOk len with c := false, n := false })).wake c

/-- Output writes of a SEAL that have not been issued. -/
def State.sealUnsent (s : State) (c : Nat) : Bool := s.writes.any (fun w => w.ctx == c && w.kind == .sealOut && !w.issued)

/-- An operation completes only after its last output write has been issued (R364). -/
def execSealOpComplete (k : Nat) (s : State) : Host.Outcome State Fault Refusal :=
  onDevice (fun s =>
    match s.sealOps[k]? with
    | some o => match o.use with
      | .instr c opening len _ blk =>
        if o.out ∧ s.sealUnsent c = false then { s with sealOps := s.sealOps.eraseIdx k }.sealEnd o c opening len blk
        else s
      | _ => s
    | none => s) s

/-! ## Device identities (R376) -/

/-- An identity of zeros is none. -/
def identOf (l : List Word32) : List Word32 := if l.all (· == 0) then [] else l

/-- A write to `SEAL_ID_CTL`. -/
def State.wrSealIdCtl (s : State) (v : Word64) : State :=
  let s := s.plainWrite .sealIdCtl v
  let d := SEAL_ID_CTL.DEVICE.get v
  if d = 0 then s
  else match SEAL_ID_CTL.CMD.get v with
    | 1 =>
      if (s.dev d).live then
        s.modDev d (fun x => { x with ident := identOf ((List.range 8).map (fun w => (s.rd (.sealId w)).lo)) })
      else s
    | 2 => forN 8 (fun w s => s.wr (.sealId w) (((s.dev d).ident.getD w 0).setWidth 64)) s
    | _ => s

def execSealIdWrite (q : Requester) (dev : Nat) (s : State) : Host.Outcome State Fault Refusal :=
  onDevice (fun s => s.gate q .sealIdCtl (fun s => s.wrSealIdCtl (BitVec.ofNat 64 (2 ^ 28 + dev % 2048)))) s
def execSealIdRead (q : Requester) (dev : Nat) (s : State) : Host.Outcome State Fault Refusal :=
  onDevice (fun s => s.gate q .sealIdCtl (fun s => s.wrSealIdCtl (BitVec.ofNat 64 (2 * 2 ^ 28 + dev % 2048)))) s

/-! ## Firmware verification (R380) -/

/-- A write to `SEAL_FW_CTL`. -/
def State.wrSealFwCtl (s : State) (v : Word64) : State :=
  let s := s.plainWrite .sealFwCtl v
  if SEAL_FW_CTL.GO.get v = 1 ∧ s.flag .sealFwSts SEAL_FW_STS.BUSY = false then s.set1 .sealFwSts SEAL_FW_STS.BUSY else s

def execFwVerifyGo (q : Requester) (len : Nat) (s : State) : Host.Outcome State Fault Refusal :=
  onDevice (fun s => s.gate q .sealFwCtl (fun s => s.wrSealFwCtl (BitVec.ofNat 64 (2 ^ 31 + len % 2 ^ 24)))) s

/-- The image that `SEAL_FW_ADDR` and `LEN` name, where it lies in the active pair's SRAM at own-SRAM addresses of the
management map, as the bytes stand now (log entry 45). -/
def State.fwImage (s : State) : Option (List Byte) :=
  let a := (s.rd .sealFwAddr).toNat
  let n := s.getF .sealFwCtl SEAL_FW_CTL.LEN
  if ownRange a n then some (s.localRead a n) else none

/-- Result 6, FETCH, where the image is not in the SRAM or could not be fetched; else that of the checks of R380. -/
def State.fwResult (s : State) (fetched : Bool) (key : Nat) : Nat × Option Nat :=
  match fetched, s.fwImage with
  | true, some img => fwCheck img key
  | _, _ => (6, none)

/-- Verification ends: its result, the key hash that matched, if one did, and interrupt source 312. -/
def execFwVerifyDone (fetched : Bool) (key : Nat) (s : State) : Host.Outcome State Fault Refusal :=
  onDevice (fun s =>
    if s.flag .sealFwSts SEAL_FW_STS.BUSY then
      let r := s.fwResult fetched key
      let s := (s.clr1 .sealFwSts SEAL_FW_STS.BUSY).setF .sealFwSts SEAL_FW_STS.RESULT r.1
      (match r.2 with
        | some k => s.setF .sealFwSts SEAL_FW_STS.KEY k
        | none => s).irqEvent 312
    else s) s

end Sys2Proof.Machine
end

