-- ==== Sys2Proof/Machine/Adjourn.lean ====
section
/-!
DEFINITION. Adjourning slices (R367 to R379): FREEZE, SAVE, RELEASE, RESTORE, THAW. A record is the bytes that stand for the
contents of a slice; where the spec names the contents of an item and not their places in it, the bytes are an open function of
the contents (log entry 45).
-/
namespace Sys2Proof.Config

/-- The bytes of a ring, a held result of ring `r`, an item record (of a context, with the REF cycle of the freeze and the
context's places in the queues), a handle, the head of a gambit block (of a handle, pending or orphan), and the padding behind
its data (Table 6 of chapter 12). -/
opaque ringBytes : Machine.RingImage → BitVec 512
opaque heldBytes : Nat → Machine.Taken → BitVec 128
opaque itemBytes : Nat → List (List Nat) → Machine.Ctx → BitVec 704
opaque handleBytes : Machine.HandleImage → BitVec 128
opaque gambitHead : Nat → Bool → Machine.GPkt → BitVec 128
opaque gambitPad : Machine.GPkt → BitVec 128

end Sys2Proof.Config

namespace Sys2Proof.Machine

/-! ## Commands (R367) -/

/-- The command in progress. -/
def State.adjBegin (s : State) (cmd i slot st : Nat) : State :=
  ({ s with adjCmd := some (cmd, i, slot) }.set1 .sealAdjSts SEAL_ADJ_STS.BUSY).modAdj i (fun a => { a with state := st })

/-! ### FREEZE (R368, R369) -/

/-- Semaphores that `c` holds for arbitrated endpoints are released as abandoned, its places in the queues of such
semaphores are given up, and a control sequence on an arbitrated pipe closes (R369). -/
def State.freezeArbs (s : State) (c : Nat) : State :=
  let x := s.ctx c
  let s := match x.op with
    | some o => if o.stage = OpStage.semaphore then s.semLeave c else s
    | none => s
  let s := forL (x.seq.filter (fun q => q.arb)) (fun q s =>
    (if (s.epDev q.ep).detached then s else s.modEpc q.ep (fun e => { e with dirty := true })).modCtx c (fun x =>
      x.closeSeq q.handle)) s
  let p := (s.modCtx c (fun x => { x with arbs := [] })).semDrops true x.arbs
  p.1.jobs p.2

/-- The interval of a run that is in progress is MISSED (R369). -/
def State.freezeRun (s : State) (c : Nat) : State :=
  match (s.ctx c).op with
  | none => s
  | some o =>
    let v := s.rsvE (hKey (s.ctx c).slice o.req.handle)
    let m := nextDue v (s.epDev o.ep).way (max o.start o.ivAt)
    if (o.req.kind ≠ .isoin ∧ o.req.kind ≠ .isoout) ∨ o.result ≠ none then s
    else if o.ivOpen then s.ivEnd c stMissed
    else if v.live ∧ m ≤ s.aon.clockCount then (s.modOp c (fun o => { o with ivAt := m + 1, ivBytes := 0 })).ivEnd c stMissed
    else s

/-- An operation that is not on the wire is held, and leaves the sequencer's queue; one that is does so at the end of its
packet, its next boundary (R368, R369). -/
def State.freezeOp (s : State) (c : Nat) : State :=
  if s.onWire c then s else (s.freezeRun c).modOp c (fun o => { o with held := true, stage := .place })

/-- The slice's contexts. -/
def State.mine (s : State) (i : Nat) : List Nat := s.ctxsOf i (fun _ => true)

def State.freezeCmd (s : State) (i slot : Nat) : State :=
  let s := (s.adjBegin 1 i slot 1).claimsEnd i
  let s := forL (s.mine i) (fun c s => s.freezeArbs c) s
  forL (s.mine i) (fun c s => s.freezeOp c) s

/-- The slice is FROZEN: no engine holds its work, nothing of it is on the wire or in a sequencer's queue, every operation is
held, and the writes of every whole packet have been issued (R368, R369). -/
def State.freezeDone (s : State) (i : Nat) : Bool :=
  !(s.engs.any (fun q => match q.2.hold with
    | some c => (s.ctx c).slice == i
    | none => false)) &&
    (s.mine i).all (fun c => !(s.onWire c)) &&
    (s.mine i).all (fun c => match (s.ctx c).op with
      | some o => (o.result != none || (o.held && o.stage != .queued)) && (!(o.lands (s.epInfo o.ep)) || o.buf == [])
      | none => true) &&
    !(s.writes.any (fun w => w.slice == i && !w.issued && match w.kind with
      | .data _ => true
      | .gambit _ _ _ => true
      | _ => false))

def execFreezeComplete (s : State) : Host.Outcome State Fault Refusal :=
  onDevice (fun s => match s.adjCmd with
    | some (1, i, _) => if s.freezeDone i then (s.setAdj i ⟨2, s.aon.clockCount, s.now, false, []⟩).adjFinish i 0 else s
    | _ => s) s

/-! ### SAVE (R371 to R374) -/

/-- The slice's handles, and the devices they refer to. -/
def State.handlesOf (s : State) (i : Nat) : FMap Att := s.att.filter (fun q => q.1 / 65536 == i && q.2.cfg.live)
def State.devicesOf (s : State) (i : Nat) : List Nat := ((s.handlesOf i).map (fun q => (s.epc q.2.cfg.ep).dev)).eraseDups

/-- A handle in a record of slice `i`, with the gambit data that it carries: pending data of the slice's attachment, and orphan
data of an endpoint whose only attachment it is (R374), each at the first handle of the endpoint; and data that is owed to
the handle since a RESTORE. `ds` are the devices, `old` the endpoints of the handles before. -/
def State.handleImage (s : State) (i : Nat) (ds old : List Nat) (q : Nat × Att) : HandleImage :=
  let e := s.epc q.2.cfg.ep
  let v := s.rsvE q.1
  let owed := (s.adj i).owed.filter (fun h => h.key == q.1)
  let own := !(decide (q.2.cfg.ep ∈ old))
  { handle := q.1 % 65536, dev := (ds.idxOf? e.dev).getD 0, num := e.num, typ := e.typ, dirIn := e.dirIn,
    cfg := { q.2.cfg with ep := 0 }, gsafeS := q.2.gsafeS, folost := q.2.folost,
    bytes := if v.live then v.bytes else 0, interval := if v.live then v.interval else 0,
    pend := (if own then e.pend else []) ++ owed.flatMap Owed.pend,
    orph := (if own && (s.attsOf q.2.cfg.ep).length == 1 then e.orph else []) ++ owed.flatMap Owed.orph }
def State.handleImages (s : State) (i : Nat) : List HandleImage :=
  let hs := s.handlesOf i
  hs.zipIdx.map (fun p => s.handleImage i (s.devicesOf i) ((hs.take p.2).map (fun q => q.2.cfg.ep)) p.1)

/-- A ring in a record: enabled, or busy. -/
def State.ringImages (s : State) (i : Nat) (f : Nat → Nat) : List RingImage :=
  ((List.range 64).filter (fun r => s.flag (.ringCtl i r) RING_CTL.EN || !(s.flag (.ringSts i r) RING_STS.IDLE))).map (fun r =>
    let g := s.ring (rKey i r)
    ⟨r, s.rd (.ringBase i r), s.rd (.ringDha i r), s.rd (.ringTsa i r), s.rd (.ringCtl i r), s.rd (.ringMod i r),
      s.rd (.ringSts i r), s.rd (.ringDone i r),
      { g with taken := g.taken.map (fun t => { t with ctx := t.ctx.map f }) }⟩)

/-- The contexts that a context, a semaphore and a token name, renumbered. -/
def Ctx.renum (f : Nat → Nat) (x : Ctx) : Ctx :=
  { x with parent := x.parent.map (fun p => (f p.1, p.2)), kids := x.kids.map f }
def Sem.renum (f : Nat → Nat) (m : Sem) : Sem := { m with owner := m.owner.map f, queue := m.queue.map f }
def Token.renum (f : Nat → Nat) (t : Token) : Token := { t with fam := t.fam.map f, queue := t.queue.map f }

/-- The slice's live contexts in the order of the record. -/
def State.recordCtxs (s : State) (i : Nat) : List Nat := sortUp (fun c => c) (s.mine i)

/-- The SHA-384 of a program's image, its header with it (R168, R373). -/
def Prog.sha (p : Prog) : Nat := Config.sha384 (p.head ++ p.words)

/-- The contents of the record of slice `i` with a sequence value (R371, R373, R374). -/
def State.recordOf (s : State) (i seq : Nat) : SliceRecord :=
  let cs := s.recordCtxs i
  let f (c : Nat) : Nat := (cs.idxOf? c).getD 65535
  { slice := i, serial := Config.serial, clock := (s.adj i).clock, time := (s.adj i).time,
    nonce := leBytes 1 i ++ [0, 0, 1] ++ leBytes 8 seq,
    rings := s.ringImages i f, ctxs := cs.map (fun c => (s.ctx c).renum f), handles := s.handleImages i,
    idents := (s.devicesOf i).map (fun d => (s.dev d).ident),
    sems := s.sems.filterMap (fun q => if q.2.owner.any (· ∈ cs) then some (q.1, q.2.renum f) else none),
    tokens := s.tokens.filterMap (fun q => if q.1 / 65536 = i then some (q.1 % 65536, q.2.renum f) else none),
    ready := s.ready.filterMap (fun q =>
      let l := q.2.filter (· ∈ cs)
      if l = [] then none else some (q.1, l.map f)),
    progs := ((cs.filterMap (fun c => if (s.ctx c).prog < 64 then some (s.ctx c).prog else none)).eraseDups).map (fun p =>
      (p, (s.prog (i * 64 + p)).sha)) }

/-- The held results of a record: ring and entry. -/
def SliceRecord.held (r : SliceRecord) : List (Nat × Taken) :=
  r.rings.flatMap (fun g => (g.ring.taken.filter (fun t => t.result.isSome)).map (fun t => (g.r, t)))

/-- The gambit blocks of a record: handle, pending or orphan, packet. -/
def SliceRecord.blocks (r : SliceRecord) : List (Nat × Bool × GPkt) :=
  r.handles.flatMap (fun h => h.pend.map (fun p => (h.handle, true, p)) ++ h.orph.map (fun p => (h.handle, false, p)))

/-- Length of the record with its header and tag (Tables 5 and 6). -/
def SliceRecord.len (r : SliceRecord) : Nat :=
  64 + 64 * r.rings.length + 16 * r.held.length + 512 * r.ctxs.length + 16 * r.handles.length + 32 * r.idents.length +
    8 * r.sems.length + 56 * r.progs.length + (r.blocks.map (fun b => 16 + ceilDiv b.2.2.data.length 16 * 16)).sum + 16

/-- The record would pass a limit of R374. -/
def SliceRecord.big (r : SliceRecord) : Bool :=
  decide (8192 < r.handles.length) || decide (256 < r.idents.length) || decide (4096 < r.held.length) ||
    decide (32768 < (r.blocks.map (fun b => b.2.2.data.length)).sum) || decide (255 < r.blocks.length)

/-- The header (Table 5). -/
def SliceRecord.head (r : SliceRecord) : List Byte :=
  leBytes 4 0x524A4441 ++ leBytes 2 1 ++ leBytes 2 r.slice ++ leBytes 8 r.serial.toNat ++ leBytes 8 r.clock ++ r.nonce ++
    leBytes 4 r.len ++ leBytes 2 r.rings.length ++ leBytes 2 r.held.length ++ leBytes 2 r.ctxs.length ++
    leBytes 2 r.handles.length ++ leBytes 2 r.idents.length ++ leBytes 2 r.sems.length ++ leBytes 1 r.progs.length ++
    leBytes 1 r.blocks.length ++ leBytes 10 0

/-- A context in a record (Table 2 of chapter 6): pad, registers, pc with flags and call depth, `st`, `prog`, fuel with `ep`,
the call stack with entry 0 lowest; `item` is the item record, whose layout the spec does not give. -/
def Ctx.image (x : Ctx) (item : List Byte) : List Byte :=
  x.padBytes 0 256 ++ (List.range 16).flatMap (fun k => leBytes 8 (x.reg k).toNat) ++
    leBytes 8 (x.pc % 2 ^ 14 + x.z.toNat * 2 ^ 16 + x.c.toNat * 2 ^ 17 + x.n.toNat * 2 ^ 18 + x.stack.length % 8 * 2 ^ 19) ++
    leBytes 8 x.st.toNat ++ leBytes 8 x.prg.toNat ++ leBytes 8 (x.fuel % 2 ^ 20 + x.ep % 2 ^ 16 * 2 ^ 32) ++
    ((x.stack.reverse ++ [0, 0, 0, 0]).take 4).flatMap (fun r => leBytes 2 r) ++ item

/-- Where context `k` of a record stands: tokens that its family holds or it waits for, semaphores, ready lists, each with its
position in the queue. -/
def SliceRecord.places (r : SliceRecord) (k : Nat) : List (List Nat) :=
  r.tokens.filterMap (fun t =>
      if t.2.fam = some k then some [0, t.1, 0] else (t.2.queue.idxOf? k).map (fun j => [0, t.1, j + 1])) ++
    r.sems.filterMap (fun m =>
      if m.2.owner = some k then some [1, m.1, 0] else (m.2.queue.idxOf? k).map (fun j => [1, m.1, j + 1])) ++
    r.ready.filterMap (fun l => (l.2.idxOf? k).map (fun j => [2, l.1, j]))

/-- The sections of a record (Table 6). -/
def SliceRecord.body (r : SliceRecord) : List Byte :=
  r.rings.flatMap (fun g => leBytes 64 (Config.ringBytes g).toNat) ++
    r.held.flatMap (fun t => leBytes 16 (Config.heldBytes t.1 t.2).toNat) ++
    r.ctxs.zipIdx.flatMap (fun p => p.1.image (leBytes 88 (Config.itemBytes r.time (r.places p.2) p.1).toNat)) ++
    r.handles.flatMap (fun h => leBytes 16 (Config.handleBytes h).toNat) ++
    r.idents.flatMap (fun l => (List.range 8).flatMap (fun w => leBytes 4 (l.getD w 0).toNat)) ++
    r.sems.flatMap (fun m => leBytes 2 m.1 ++ leBytes 2 (m.2.owner.getD 0) ++ leBytes 2 m.2.queue.length ++ leBytes 2 0) ++
    r.progs.flatMap (fun p => leBytes 1 p.1 ++ leBytes 7 0 ++ leBytes 48 p.2) ++
    r.blocks.flatMap (fun b => leBytes 16 (Config.gambitHead b.1 b.2.1 b.2.2).toNat ++ b.2.2.data ++
      leBytes (ceilDiv b.2.2.data.length 16 * 16 - b.2.2.data.length) (Config.gambitPad b.2.2).toNat)

/-- The tag over a header and a ciphertext, and the whole record under a key (R371, R373). -/
def recordTag (key : List Word32) (nonce head text : List Byte) : List Byte :=
  leBytes 16 (Config.gcmTag key nonce head text).toNat
def SliceRecord.bytes (r : SliceRecord) (key : List Word32) : List Byte :=
  r.head ++ gcmText key r.nonce r.body ++ recordTag key r.nonce r.head (gcmText key r.nonce r.body)

/-- An operation of the seal unit for a record starts at once, or waits (R362, R365). -/
def State.recordOp (s : State) (u : SealUse) (slot : Nat) : State :=
  let o : SealOp := ⟨u, slot, false, 0, [], 0, [], [], [], false⟩
  let k := s.sealOps.length
  let t := { s with sealOps := s.sealOps ++ [o] }
  if s.sealFree then t.sealStart k o else t

/-- The seal operation of a record. -/
def State.recordRun (s : State) (u : SealUse) : Option SealOp := s.sealOps.find? (fun o => o.use == u && o.started)
def State.recordOut (s : State) (u : SealUse) : State := { s with sealOps := s.sealOps.filter (fun o => o.use != u) }

/-- The record's memory can be reached: slice 0's function may issue requests, within its limit, and has the translations, which
are asked for where they are missing (R83 to R86); its writes pass no earlier one of the function (R38). -/
def State.recordGo (s : State) (a n : Nat) (write : Bool) : Bool :=
  s.mayIssue 0 && s.translated 0 a n write && (if write then s.fnClear 0 else s.limitOk 0)
def State.recordAsk (s : State) (a n : Nat) (write : Bool) : State :=
  if s.mayIssue 0 then s.askTranslation 0 noCtx a n write else s

/-- The writes of a SAVE whose sealing has started are issued, once the slice has no host request outstanding (R371) and they
may be (R85, R86). -/
def State.saveWrite (s : State) (i : Nat) : State :=
  match s.recordRun (.save i) with
  | none => s
  | some o =>
    let r := s.recordOf i o.seq
    let a := (s.rd .sealAdjAddr).toNat
    if o.out ∨ s.hostOk 0 a r.len = false ∨ s.reqs.any (fun q => q.slice == i) ∨ s.writes.any (fun w => w.slice == i) then s
    else if s.recordGo a r.len true = false then s.recordAsk a r.len true
    else
      { s.sendWrite 0 a (r.bytes o.key) with
        sealOps := s.sealOps.map (fun v => if v.use = .save i then { v with out := true } else v) }

def State.saveCmd (s : State) (i slot : Nat) : State :=
  if (s.recordOf i 0).big then (s.adjBegin 2 i slot 2).adjFinish i 4
  else ((s.adjBegin 2 i slot 3).recordOp (.save i) slot).saveWrite i

/-- A SAVE ends: in a cycle after that in which its last write was issued, so that this command issues the writes where they
have waited, and completes the SAVE when they have been issued (R364, R371); with DMA where the range is refused (R83), or `ok`
is false, a write or a translation having failed for good (R86; log entry 93). -/
def execSaveComplete (ok : Bool) (s : State) : Host.Outcome State Fault Refusal :=
  onDevice (fun s => match s.adjCmd, s.recordRun (.save ((s.adjCmd.map (fun p => p.2.1)).getD 0)) with
    | some (2, i, _), some o =>
      let r := s.recordOf i o.seq
      let a := (s.rd .sealAdjAddr).toNat
      let t := (s.recordOut (.save i)).modAdj i (fun a => { a with state := 2 })
      if s.hostOk 0 a r.len = false then (t.failRec 0 noCtx 1 a).adjFinish i 3
      else if ok = false then t.adjFinish i 3
      else if o.out then
        ((t.setF .sealAdjLen SEAL_ADJ_LEN.LEN r.len).setF .sealAdjInfo SEAL_ADJ_INFO.LIVE r.ctxs.length).adjFinish i 0
      else s.saveWrite i
    | _, _ => s) s

/-! ### RELEASE (R372) -/

/-- Gambit data that the record carries is freed. -/
def State.gambitsFree (s : State) (i : Nat) : State :=
  forL (((s.handlesOf i).map (fun q => q.2.cfg.ep)).eraseDups) (fun e s => s.modEpc e (fun x =>
    { x with pend := [], orph := if (s.attsOf e).length = 1 then [] else x.orph })) s

def State.releaseSliceCmd (s : State) (i slot : Nat) : State :=
  let s := (s.adjBegin 3 i slot 2).gambitsFree i
  { s with releasing := i :: s.releasing }.resetStart i

/-! ### RESTORE (R375 to R377) -/

/-- The destination may take a record. -/
def State.restoreOk (s : State) (i : Nat) : Bool :=
  s.flag (.slcBind i) SLC_BIND.VALID && s.flag (.slcCsr i) SLC_CSR.ACTIVE && !(s.fenced i) && !(s.inReset i) &&
    (s.handlesOf i).isEmpty && !((List.range 64).any (fun r => s.flag (.ringCtl i r) RING_CTL.EN)) && (s.mine i).isEmpty

/-- The endpoint context of a recorded handle: of the attached device of lowest ID with the identity (R376). -/
def State.resolve (s : State) (ident : List Word32) (h : HandleImage) : Option Nat :=
  if ident = [] ∨ h.cfg.detached then none
  else match s.devs.find? (fun q => q.2.live && !q.2.detached && q.2.ident == ident) with
    | some (d, _) => (s.eps.find? (fun q => q.2.live && q.2.dev == d && q.2.num == h.num && q.2.typ == h.typ &&
        q.2.dirIn == h.dirIn)).map Prod.fst
    | none => none

/-- The endpoint context that stands for an unbound handle's owed data until RETARGET. -/
def unboundEp (k : Nat) : Nat := 65536 + k

/-- A recorded handle comes back, bound if it resolves and passes the checks of ASSIGN, else detached (R376). The answer says
that it is bound. -/
def State.restoreHandle (s : State) (i : Nat) (r : SliceRecord) (h : HandleImage) : State × Bool :=
  let k := hKey i h.handle
  let found := (s.resolve (r.idents.getD h.dev []) h).bind (fun e =>
    if s.assignCode k { h.cfg with ep := e } = 0 then some e else none)
  let e := found.getD (unboundEp k)
  let c := { h.cfg with live := true, ep := e, detached := found.isNone }
  let s := if found.isNone then s.setEpc e { Ep.empty with typ := h.typ, dirIn := h.dirIn, num := h.num } else s
  let s := (s.setAtp k c).setAtE k { Att.empty with cfg := c, gsafeS := h.gsafeS, folost := h.folost }
  (if found.isSome then s.arbOn e c.mode c.sem else s, found.isSome)

/-- A recorded reservation is admitted again, or dropped, as that of a handle that found no endpoint is (R377). -/
def State.restoreResv (s : State) (i : Nat) (h : HandleImage) : State :=
  let k := hKey i h.handle
  if h.bytes = 0 ∨ (s.atE k).cfg.detached then s
  else
    let v : Resv := ⟨true, (s.atE k).cfg.ep, h.bytes, h.interval, 0, 0⟩
    match s.admitAt k v with
    | some p => (s.setRsvP k { v with phase := p }).setRsvE k { v with phase := p }
    | none => s

/-- A context comes back as context `c`, with its operation on the resolved endpoint; a control sequence stays open only on the
same endpoint context of the same 7120, its device neither reset nor detached since FREEZE (R379). -/
def State.restoreCtx (s : State) (i : Nat) (r : SliceRecord) (g : Nat → Nat) (c : Nat) (y : Ctx) : State :=
  let x := { y.renum g with slice := i }
  let op := x.op.map (fun o =>
    let e := (s.attCfg i o.req.handle).ep
    { o with ep := e, port := (s.epDev e).port, held := true })
  let seq := x.seq.filter (fun w =>
    let a := s.attCfg i w.handle
    let d := s.epDev w.ep
    r.serial == Config.serial && a.ep == w.ep && a.mode == 0 && !a.detached && d.live && decide (d.fresh ≤ r.time))
  (s.capTake 0 i 1).setCtx c { x with op := op, seq := seq }

/-- A ring comes back. -/
def State.restoreRing (s : State) (i : Nat) (f : Nat → Nat) (g : RingImage) : State :=
  (((((((s.wr (.ringBase i g.r) g.base).wr (.ringDha i g.r) g.dha).wr (.ringTsa i g.r) g.tsa).wr (.ringCtl i g.r) g.ctl).wr
    (.ringMod i g.r) g.mod).wr (.ringSts i g.r) g.sts).wr (.ringDone i g.r) g.done).setRing (rKey i g.r)
    { g.ring with taken := g.ring.taken.map (fun t => { t with ctx := t.ctx.map f }) }

/-- Contexts that are not free; and the first `n` free ones, in ascending order, which a restored record takes (DESIGN CHOICE,
log entry 45). -/
def State.ctxsLive (s : State) : Nat := FMap.count (fun _ x => x.live) s.ctxs
def State.ctxsFree (s : State) (n : Nat) : List Nat :=
  ((List.range (n + s.ctxs.length)).filter (fun c => !(s.ctx c).live)).take n

/-- Steps 4 to 6 of R375: the result of the first check that fails, 0 for none. -/
def State.restoreCheck (s : State) (i : Nat) (r : SliceRecord) : Nat :=
  if s.getE (.slcQmem i) SLC_QMEM.CTX < r.ctxs.length ∨
      r.rings.any (fun g => decide (s.getE (.slcQeng i) SLC_QENG.RINGS ≤ g.r)) ∨
      s.getE (.slcQep i) SLC_QEP.HANDLES < r.handles.length ∨
      s.getE .portGpool PORT_GPOOL.SIZE * 4096 < s.poolUsed + (r.blocks.map (fun b => b.2.2.space)).sum ∨
      4096 < s.ringsBusy + r.rings.length ∨ 16384 < s.ctxsLive + r.ctxs.length then 7
  else if r.progs.any (fun p => !(s.prog (i * 64 + p.1)).live || (s.prog (i * 64 + p.1)).sha != p.2) then 8
  else if r.sems.any (fun p => !(s.flag (.semCfg p.1) SEM_CFG.EN) || s.getF (.semCfg p.1) SEM_CFG.SLICE != i ||
      s.flag (.semCfg p.1) SEM_CFG.ARB || (s.sem p.1).owner != none || (s.sem p.1).queue != []) then 9
  else 0

/-- An operation on a handle that came back unbound: the handle is detached, and so is the operation (R118, R376). -/
def State.restoreDetach (s : State) (i c : Nat) : State :=
  match (s.ctx c).op with
  | some o => if (s.attCfg i o.req.handle).detached then s.jobs [.ends c (endMin (s.ctx c).endCode stDetached)] else s
  | none => s

/-- The slice is rebuilt, FROZEN (R375, steps 7 to 9). -/
def State.rebuild (s : State) (i : Nat) (r : SliceRecord) : State :=
  let cs := s.ctxsFree r.ctxs.length
  let g (k : Nat) : Nat := cs.getD k noCtx
  let p := r.handles.foldl (fun (p : State × Nat) h =>
    let q := p.1.restoreHandle i r h
    (q.1, if q.2 then p.2 else p.2 + 1)) (s, 0)
  let s := forL r.handles (fun h s => s.restoreResv i h) p.1
  let s := s.setAdj i ⟨2, r.clock, r.time, false, r.handles.filterMap (fun h =>
    if h.pend = [] ∧ h.orph = [] then none
    else some ⟨hKey i h.handle, (s.atE (hKey i h.handle)).cfg.ep, h.pend, h.orph⟩)⟩
  let s := forL r.rings (fun q s => s.restoreRing i g q) s
  let s := forL (cs.zip r.ctxs) (fun q s => s.restoreCtx i r g q.1 q.2) s
  let s := forL r.sems (fun q s => s.setSem q.1 (q.2.renum g)) s
  let s := forL r.tokens (fun q s => s.setToken (hKey i q.1) (q.2.renum g)) s
  let s := forL r.ready (fun q s => s.modRlist q.1 (fun l => l ++ q.2.map g)) s
  let s := forL cs (fun c s => s.restoreDetach i c) s
  ((s.setF .sealAdjInfo SEAL_ADJ_INFO.UNBOUND p.2).setF .sealAdjInfo SEAL_ADJ_INFO.LIVE r.ctxs.length).genRise i
    r.handles.length

def State.restoreCmd (s : State) (i slot : Nat) : State := (s.adjBegin 4 i slot 4).recordOp (.restore i) slot

/-- The reads of `n` bytes at `a` for slice 0, each within a 4 KiB page and the Max Read Request Size (R83), each issued when
the one before has completed (R84; log entry 45). -/
def State.recordReads (s : State) : Nat → Nat → Nat → State
  | 0, _, _ => s
  | f + 1, a, n =>
    if n = 0 ∨ s.inSram 0 then s
    else
      let k := min n (s.readMax 0 a)
      let t := { s.emit (s.readTlp ⟨s.tag, 0, noCtx, a, k, .sealSource, .issued, 0, 0, 0⟩) with tag := s.tag + 1 }
      t.recordReads f (a + k) (n - k)

/-- Step 1 of R375 on a header, for a record of `n` bytes: magic, version, reserved bytes, length; the counts fit the length. -/
def recordFormat (b : List Byte) (n : Nat) : Bool :=
  let f (lo k : Nat) := leValue ((b.drop lo).take k)
  let least := 64 + 64 * f 40 2 + 16 * f 42 2 + 512 * f 44 2 + 16 * f 46 2 + 32 * f 48 2 + 8 * f 50 2 + 56 * f 52 1 +
    16 * f 53 1 + 16
  f 0 4 == 0x524A4441 && f 4 2 == 1 && f 54 10 == 0 && f 36 4 == n && decide (least ≤ n) && (n - least) % 16 == 0 &&
    (f 53 1 != 0 || least == n)

/-- The tag of a record of `n` bytes matches (R375, step 3). -/
def recordTagOk (key : List Word32) (b : List Byte) (n : Nat) : Bool :=
  b.drop (n - 16) == recordTag key ((b.drop 24).take 12) (b.take 64) ((b.take (n - 16)).drop 64)

/-- The result of the checks of a record of `n` bytes, in their order, 0 where all pass; `r` is what its bytes stand for. -/
def State.restoreResult (s : State) (i : Nat) (key : List Word32) (b : List Byte) (n : Nat) (r : SliceRecord) : Nat :=
  if recordFormat b n = false then 6
  else if key = [] then 2
  else if recordTagOk key b n = false then 5
  else s.restoreCheck i r

/-- RESTORE ends, or, where nothing fails, goes on at the next tick (R375). The record is read through slice 0's function: a range
outside its windows, or a read or translation that fails for good, ends it with DMA, and it waits while requests may not be
issued (R83 to R86; log entry 93). Contents that are not those of a record whose tag matches change nothing. -/
def execRestoreComplete (o : RestoreOutcome) (s : State) : Host.Outcome State Fault Refusal :=
  onDevice (fun s => match s.adjCmd, s.recordRun (.restore ((s.adjCmd.map (fun p => p.2.1)).getD 0)) with
    | some (4, i, _), some k =>
      let a := (s.rd .sealAdjAddr).toNat
      let n := s.getF .sealAdjLen SEAL_ADJ_LEN.LEN
      let fail (s : State) (code : Nat) : State := ((s.recordOut (.restore i)).setAdj i Adj.init).adjFinish i code
      if s.hostOk 0 a n = false then fail (s.failRec 0 noCtx 1 a) 3
      else match o with
      | .fails => fail s 3
      | .reads l r =>
        let b := if s.inSram 0 then s.localRead a n else l
        let code := s.restoreResult i k.key b n r
        if s.recordGo a n false = false then s.recordAsk a n false
        else if b.length ≠ n ∨ (recordFormat b n ∧ k.key ≠ [] ∧ recordTagOk k.key b n ∧ r.bytes k.key ≠ b) then s
        else
          let t := s.recordReads n a (if code = 6 ∨ code = 2 then min n 64 else n)
          if code = 0 then { t.recordOut (.restore i) with restoring := some r } else fail t code
    | _, _ => s) s

/-- The tick at which a RESTORE's assignments take effect: the slice is rebuilt and FROZEN (R375, step 9). -/
def State.restoreTick (s : State) : State :=
  match s.adjCmd, s.restoring with
  | some (4, i, _), some r => ({ s with restoring := none }.rebuild i r).adjFinish i 0
  | _, _ => s

/-! ### THAW (R378, R379) -/

/-- Time that waits of a parked activation have not counted: deadlines and WAITCLK targets move. -/
def Ctx.shift (x : Ctx) (now was clock clockWas : Nat) : Ctx :=
  let x := { x with since := x.since + now - was }
  match x.act with
  | .parked (.wait d m (some t)) => { x with act := .parked (.wait d m (some (t + now - was))) }
  | .parked (.waitclk t) =>
    { x with act := .parked (.waitclk (t + BitVec.ofNat 64 (clock * 4096) - BitVec.ofNat 64 (clockWas * 4096))) }
  | _ => x

/-- A run without its reservation ends with MISSED, its remaining intervals MISSED; another takes up at the first service interval
after THAW, and one that has not begun at the microframe that it wants, if that is still to come (R214, R377, R379). -/
def State.thawRun (s : State) (c : Nat) : State :=
  match (s.ctx c).op with
  | none => s
  | some o =>
    let now := s.aon.clockCount
    if (o.req.kind ≠ .isoin ∧ o.req.kind ≠ .isoout) ∨ o.result ≠ none then s
    else if (s.rsvE (hKey (s.ctx c).slice o.req.handle)).live then
      s.modOp c (fun o => { o with start := if o.ivs = 0 then isoStart now o.req.first else now + 1, ivAt := now + 1 })
    else forN (o.req.count - o.ivs) (fun _ s => s.ivEnd c stMissed) s

/-- An operation goes on: it asks for its semaphore again, where it needs one, and for a place in the sequencer's queue. -/
def State.thawOp (s : State) (c : Nat) : State :=
  match (s.ctx c).op with
  | none => s
  | some _ =>
    let s := (s.thawRun c).modOp c (fun o => { o with held := decide ((s.ctx c).act = .suspended) })
    if ((s.ctx c).op.bind Op.result).isSome then s else ((s.opGo c).placed c).lookAhead c

/-- The tick at which THAW acts. -/
def State.thawTick (s : State) (i : Nat) : State :=
  let a := s.adj i
  let rs := (List.range 64).filter (fun r => s.flag (.ringCtl i r) RING_CTL.EN)
  if a.thaw = false then s
  else if !(rs.all (s.ringRegions i)) then (s.setAdj i { a with thaw := false }).adjFinish i 0x0B
  else
    let s := (s.owedAll i true).setAdj i Adj.init
    let s := forL (s.mine i) (fun c s =>
      (s.modCtx c (fun x => x.shift s.now a.time s.aon.clockCount a.clock)).thawOp c) s
    let s := forL rs (fun r s => if (s.ring (rKey i r)).rescan then s.scanStart i r else s) s
    let s := forL (List.range 64) (fun r s => (s.publish i r).pubAsk i r) s
    (forL (s.mine i) (fun c s => s.eventAt c 0) s).settle.adjFinish i 0

/-- Every slice with a THAW in progress. -/
def State.thawAll (s : State) : State := forL (FMap.keys s.adjs) (fun i s => s.thawTick i) s

/-! ## `SEAL_ADJ_CTL` -/

/-- A write to `SEAL_ADJ_CTL` (R367): ignored while `BUSY`; a command that is not accepted ends with BAD_STATE. -/
def State.wrAdjCtl (s : State) (v : Word64) : State :=
  if s.flag .sealAdjSts SEAL_ADJ_STS.BUSY then s
  else
    let s := s.plainWrite .sealAdjCtl v
    let i := SEAL_ADJ_CTL.SLICE.get v
    let slot := SEAL_ADJ_CTL.SLOT.get v
    let st := (s.adj i).state
    match SEAL_ADJ_CTL.CMD.get v with
    | 0 => s
    | 1 => if i ≠ 0 ∧ st = 0 ∧ s.fenced i = false ∧ s.inReset i = false then s.freezeCmd i slot else s.adjFinish i 1
    | 2 => if i ≠ 0 ∧ st = 2 then s.saveCmd i slot else s.adjFinish i 1
    | 3 => if i ≠ 0 ∧ st = 2 then s.releaseSliceCmd i slot else s.adjFinish i 1
    | 4 => if i ≠ 0 ∧ st = 0 ∧ s.restoreOk i then s.restoreCmd i slot else s.adjFinish i 1
    | 5 => if i ≠ 0 ∧ st = 2 then (s.adjBegin 5 i slot 2).modAdj i (fun a => { a with thaw := true }) else s.adjFinish i 1
    | _ => s.adjFinish i 0x0C

/-- Writes to `SEAL_ADJ_ADDR` and `SEAL_ADJ_LEN` are ignored while `BUSY`. -/
def State.wrAdjWord (s : State) (r : Reg) (v : Word64) : State :=
  if s.flag .sealAdjSts SEAL_ADJ_STS.BUSY then s else s.plainWrite r v

/-- The word of an adjourn command. -/
def adjWord (cmd i slot : Nat) : Word64 := BitVec.ofNat 64 (cmd % 16 * 2 ^ 28 + slot % 32 * 256 + i % 256)

def execAdjFreeze (q : Requester) (i slot : Nat) (s : State) : Host.Outcome State Fault Refusal :=
  onDevice (fun s => s.gate q .sealAdjCtl (fun s => s.wrAdjCtl (adjWord 1 i slot))) s
def execAdjSave (q : Requester) (i slot : Nat) (s : State) : Host.Outcome State Fault Refusal :=
  onDevice (fun s => s.gate q .sealAdjCtl (fun s => s.wrAdjCtl (adjWord 2 i slot))) s
def execAdjRelease (q : Requester) (i slot : Nat) (s : State) : Host.Outcome State Fault Refusal :=
  onDevice (fun s => s.gate q .sealAdjCtl (fun s => s.wrAdjCtl (adjWord 3 i slot))) s
def execAdjRestore (q : Requester) (i slot : Nat) (s : State) : Host.Outcome State Fault Refusal :=
  onDevice (fun s => s.gate q .sealAdjCtl (fun s => s.wrAdjCtl (adjWord 4 i slot))) s
def execAdjThaw (q : Requester) (i slot : Nat) (s : State) : Host.Outcome State Fault Refusal :=
  onDevice (fun s => s.gate q .sealAdjCtl (fun s => s.wrAdjCtl (adjWord 5 i slot))) s
def execAdjBadCommand (q : Requester) (code : Nat) (s : State) : Host.Outcome State Fault Refusal :=
  onDevice (fun s => s.gate q .sealAdjCtl (fun s => s.wrAdjCtl (adjWord code (s.getF .sealAdjCtl SEAL_ADJ_CTL.SLICE)
    (s.getF .sealAdjCtl SEAL_ADJ_CTL.SLOT)))) s

end Sys2Proof.Machine
end

