-- ==== Sys2Proof/Machine/Clock.lean ====
section
/-!
DEFINITION. The Clock (R271 to R274) and its synchronisation to FSYNC_IN (R296 to R302). Times are in units of 1/64 ns.
-/
namespace Sys2Proof.Machine

/-! ## The Clock count (R272, R273) -/

/-- A command's effect on the always-on island, which acts while it is supplied (R472). -/
def onIsland (f : State → State) (s : State) : Host.Outcome State Fault Refusal :=
  .next (if s.aon.vddAon then { f s with pending := s.pending } else s)

/-- The microframe's REF cycles as accumulator units, 512 to a microframe, and back (R273). -/
def accOf (refCycle : Nat) : Nat := refCycle * 512 / 3125
def cycleOf (acc : Nat) : Nat := acc * 3125 / 512

/-- The next tick: the count rises by 1. -/
def State.countUp (s : State) : State :=
  { s with aon := { s.aon with clockCount := s.aon.clockCount + 1, refCycle := 0 } }

/-- One ACLK cycle while REF is stopped (R273). -/
def State.aclkCycle (s : State) : State :=
  let a := s.aon.acc + 125
  if 512 ≤ a then { s with aon := { s.aon with acc := a - 512, clockCount := s.aon.clockCount + 1 } }
  else { s with aon := { s.aon with acc := a } }

def execAclkClockCountAdvance (s : State) : Host.Outcome State Fault Refusal :=
  onIsland (fun s => if s.aon.refRunning then s else s.aclkCycle) s

/-! ## The snapshot (R274) -/

/-- Edge index as the snapshot shows it: 0 in FREE. -/
def State.edgeIndex (s : State) : Nat := if s.getF .plnSyncSts PLN_SYNC_STS.STATE = 0 then 0 else s.sync.j

/-- The place of a requester among those of one cycle: functions by port and requester ID, MA, MB, service DMA channels,
JTAG. -/
def snapRank (kind port id : Nat) : Nat := kind * 2 ^ 18 + port * 2 ^ 16 + id

/-- `PLN_SNAP_SUB` of a capture now for a requester. -/
def State.snapSub (s : State) (q : Requester) : Word64 :=
  let w := s.who q
  PLN_SNAP_SUB.ID.put w.2.2 (PLN_SNAP_SUB.KIND.put w.1 (PLN_SNAP_SUB.PORT.put w.2.1
    (PLN_SNAP_SUB.SUB.put s.aon.refCycle 0)))

/-- A capture of this cycle exists, and stays with the requester that it names. -/
def State.snapKeeps (s : State) (q : Requester) : Bool :=
  let w := s.who q
  s.snapAt == some s.now && decide (snapRank (s.getF .plnSnapSub PLN_SNAP_SUB.KIND) (s.getF .plnSnapSub PLN_SNAP_SUB.PORT)
    (s.getF .plnSnapSub PLN_SNAP_SUB.ID) ≤ snapRank w.1 w.2.1 w.2.2)

/-- A capture for a requester. Writes of one cycle cause one capture, for the first of them in the order of R274. -/
def State.capture (s : State) (q : Requester) : State :=
  if s.snapKeeps q then s
  else if s.snapAt = some s.now then s.wr .plnSnapSub (s.snapSub q)
  else
    ((({ s with snapAt := some s.now }).wr .plnSnapClk (BitVec.ofNat 64 s.aon.clockCount)).wr .plnSnapSub (s.snapSub q)).wr
      .plnSnapEdge (BitVec.ofNat 64 (s.edgeIndex % 2 ^ 32))

def State.wrSnapCtl (s : State) (q : Requester) (v : Word64) : State :=
  if PLN_SNAP_CTL.TAKE.get v != 0 then s.capture q else s

def execSnapshotTake (q : Requester) (s : State) : Host.Outcome State Fault Refusal :=
  onDevice (fun s => s.gate q .plnSnapCtl (fun s => s.wrSnapCtl q (PLN_SNAP_CTL.TAKE.put 1 0))) s

/-! ## Synchronisation: figures (R297, R298) -/

def syFree : Nat := 0
def syAcquire : Nat := 1
def syLocked : Nat := 2
def syHoldover : Nat := 3
def syLost : Nat := 4
def sySlewing : Nat := 5

/-- A value held within ± `m`. -/
def clampI (m x : Int) : Int := max (-m) (min m x)

/-- 125 µs, 100 ns, 4 ns, 31.25 ns, 0.5 ns, 8.5 ns. -/
def perNominal : Int := 8000000
def ns100 : Int := 6400
def ns4 : Int := 256
def nsRate : Int := 2000
def nsHalf : Int := 32
def ns8h : Int := 544

def State.syState (s : State) : Nat := s.getF .plnSyncSts PLN_SYNC_STS.STATE
def State.setSy (s : State) (st : Nat) : State := s.setF .plnSyncSts PLN_SYNC_STS.STATE st

/-- `PLN_SYNC_OFS` as a time; `GUARD`, read at each edge. -/
def State.syOfs (s : State) : Int := (BitVec.ofNat 32 (s.rd .plnSyncOfs).toNat).toInt * 64
def State.syGuard (s : State) : Int := (max 1 (s.getF .plnSyncCfg PLN_SYNC_CFG.GUARD) : Nat) * ns100

/-- The current period: the sum of its two parts, as far as two consecutive microframes may differ, 8.5 ns (R298; log entry
87). -/
def Sync.period (y : Sync) : Int := y.last + clampI ns8h (y.rate + y.corr - y.last)

/-- The nearest integer to x / p, for p above 0. -/
def nearest (x p : Int) : Int := (2 * x + p) / (2 * p)

/-- The phase of edge `j` of the record after its tick, for an edge `sub` half nanoseconds after tick `cur`; ticks not
yet reached, and those passed, are taken at the current period (R297). -/
def Sync.phaseAt (y : Sync) (cur sub j : Nat) : Int :=
  let c : Int := (y.anchor + j * y.num / y.den : Nat)
  let part : Int := (j * y.num % y.den : Nat)
  sub * nsHalf - (c - cur) * y.period - part * y.period / (y.den : Int)

/-- The error of edge `j` against the target phase. -/
def Sync.err (y : Sync) (cur sub j : Nat) : Int := y.phaseAt cur sub j - y.phi

/-- The tick count nearest to an edge, for a target phase (Table 14). -/
def Sync.nearTick (y : Sync) (cur sub : Nat) (phi : Int) : Nat :=
  ((cur : Int) + nearest (sub * nsHalf - phi) y.period).toNat

/-- The time of the edge on the time line of `Sync.tick`, whose ticks stand at the nearest 0.5 ns. -/
def Sync.edgeTime (y : Sync) (sub : Nat) : Int := nearest y.tick nsHalf * nsHalf + sub * nsHalf

/-- The rate from the measured reference periods (R298). -/
def Sync.measured (y : Sync) : Int :=
  if y.periods = [] then perNominal
  else perNominal + clampI nsRate ((y.periods.foldl (· + ·) 0) / ((y.periods.length : Int) * (y.num : Int)) - perNominal)

/-- `corr` from an error. -/
def Sync.corrFor (y : Sync) (e : Int) : Int := clampI ns4 (e / (y.num : Int))

/-- A signed value in `n` bits. -/
def bits32 (x : Int) : Nat := (BitVec.ofInt 32 (max (-(2 ^ 31 - 1)) (min (2 ^ 31 - 1) x))).toNat

/-- `PLN_SYNC_ERR` at a reference edge: the phase against `OFS`, in ns. -/
def State.syErr (s : State) (phase : Int) : State :=
  { s with sync := { s.sync with phase := phase } }.setF .plnSyncErr PLN_SYNC_ERR.ERR (bits32 ((phase - s.syOfs) / 64))

/-! ## Records and adoption (R300, R301) -/

/-- A new record, anchored at this edge for a target phase; the answer holds the phase of the edge. -/
def State.newRecord (s : State) (sub : Nat) (phi : Int) : State × Int :=
  let cur := s.aon.clockCount
  let a := s.sync.nearTick cur sub phi
  let y := { s.sync with anchor := a, j := 0, seen := true, phi := phi, lastRef := some (s.sync.edgeTime sub) }
  let p := y.phaseAt cur sub 0
  let s := { s with sync := y }
  let s := (s.wr .plnTcrAnc (BitVec.ofNat 64 a)).wr .plnTcrClk (BitVec.ofNat 64 (cur * 4096 + sub / 80))
  ((s.addF .plnTcrSeq PLN_TCR_SEQ.SEQ 1).syErr p, p)

/-- LOST, with the phase adopted that the anchor edge has. -/
def State.adoptLost (s : State) (p : Int) : State :=
  ({ s with sync := { s.sync with phi := p, corr := 0, good := 0 } }.setSy syLost).set1 .plnSyncSts PLN_SYNC_STS.ADOPTED

/-- A transition to LOST that sets `SLOST` (Table 14). -/
def State.toLost (s : State) (sub : Nat) : State :=
  let p := s.newRecord sub s.syOfs
  let s := ((p.1.adoptLost p.2).set1 .plnSyncSts PLN_SYNC_STS.SLOST).irqWake 310
  s.faultEvent 52 0 (s.getF .plnSyncErr PLN_SYNC_ERR.ERR) false

/-! ## Edges (Table 14) -/

/-- The first edge after START. -/
def State.firstEdge (s : State) (sub : Nat) : State :=
  let p := s.newRecord sub s.sync.phi
  let s := p.1
  let e := p.2 - s.sync.phi
  if e.natAbs ≤ s.syGuard.natAbs then
    { s with sync := { s.sync with corr := s.sync.corrFor e, good := if e.natAbs ≤ ns100.natAbs then 1 else 0 } }.setSy
      syAcquire
  else s.adoptLost p.2

/-- The measured period from the last reference edge to this one, if there is one. -/
def Sync.newPeriod (y : Sync) (sub : Nat) : Option Int := y.lastRef.map (fun t => y.edgeTime sub - t)

/-- What a reference edge adds to the measurement (R298). -/
def Sync.atRef (y : Sync) (sub : Nat) : Sync :=
  let l := match y.newPeriod sub with
    | some p => p :: y.periods.take 15
    | none => y.periods
  let y := { y with lastRef := some (y.edgeTime sub), periods := l }
  { y with rate := y.measured }

/-- The first reference period is more than 500 ppm from NUM × 125 µs. -/
def Sync.rateBad (y : Sync) (sub : Nat) : Bool :=
  y.periods == [] && match y.newPeriod sub with
    | some p => decide (500 * ((y.num : Int) * perNominal) < (p - (y.num : Int) * perNominal).natAbs * 1000000)
    | none => false

/-- FREE, with the rate error shown. -/
def State.rateError (s : State) : State :=
  (({ s with sync := { s.sync with corr := 0 } }.setSy syFree).set1 .plnSyncSts PLN_SYNC_STS.RATE_ERR).irqWake 310

/-- The state after an edge within the guard, and `corr`. -/
def State.syAfter (s : State) (st : Nat) (e : Int) (isRef : Bool) : State :=
  let y := s.sync
  let within := decide (e.natAbs ≤ ns100.natAbs)
  let corr := if isRef then y.corrFor e else y.corr
  if st = syAcquire then
    let good := if isRef then (if within then y.good + 1 else 0) else y.good
    { s with sync := { y with corr := corr, good := good } }.setSy (if 2 ≤ good then syLocked else syAcquire)
  else if st = syLocked then
    { s with sync := { y with corr := corr, good := if within then y.good else 0 } }.setSy
      (if within then syLocked else syAcquire)
  else if st = sySlewing then
    { s with sync := { y with corr := if isRef then y.corrFor e else 0, good := 0 } }.setSy syAcquire
  else s

/-- An edge of the record under way; the row of a first period that is bad and above `GUARD`: log entry 97. -/
def State.nextEdge (s : State) (sub : Nat) : State :=
  let st := s.syState
  let cur := s.aon.clockCount
  let j := s.sync.j + 1
  let p := s.sync.phaseAt cur sub j
  let e := p - s.sync.phi
  let isRef := j % s.sync.den == 0
  let bad := isRef && st == syAcquire && s.sync.rateBad sub
  let s := { s with sync := { (if isRef then s.sync.atRef sub else s.sync) with j := j } }
  let s := if isRef then s.syErr p else s
  if bad then s.rateError
  else if s.syGuard.natAbs < e.natAbs then
    if st = syAcquire ∨ st = syLocked then s.toLost sub
    else if st = sySlewing then { s with sync := { s.sync with corr := if 0 ≤ e then ns4 else -ns4 } }
    else s
  else s.syAfter st e isRef

/-- The first edge after a gap: the nearest index, and the state before, or LOST. -/
def State.gapEdge (s : State) (sub : Nat) : State :=
  let cur := s.aon.clockCount
  let y := s.sync
  let x := ((cur : Int) - y.anchor) * y.period + sub * nsHalf - y.phi
  let j := (nearest (x * y.den) ((y.num : Int) * y.period)).toNat
  let p := y.phaseAt cur sub j
  let e := p - y.phi
  if e.natAbs ≤ s.syGuard.natAbs then
    let isRef := j % y.den == 0
    let st := if y.before = sySlewing then syAcquire else y.before
    let corr := if isRef && (st == syAcquire || st == syLocked) then y.corrFor e else 0
    let s := { s with sync := { y with
      j := j, corr := corr, good := 0, lastRef := if isRef then some (y.edgeTime sub) else none } }.setSy st
    if isRef then s.syErr p else s
  else s.toLost sub

/-- The pulse of mode 2 for the first predicted edge of a record that has begun with this edge, where no later tick makes it
and its time, within 10 ns, has not passed (R302). -/
def State.anchorPulse (s : State) (sub : Nat) : State :=
  let y := s.sync
  let cur := s.aon.clockCount
  let after := ((y.anchor : Int) - cur) * y.period + y.phi
  if s.getE .plnFout PLN_FOUT.MODE = 2 ∧ s.syState ≠ syFree ∧ (if y.phi < 0 then y.anchor ≤ cur + 1 else y.anchor ≤ cur) ∧
      sub * nsHalf ≤ after + 640 ∧ s.pinsOn 167 then
    s.emit (.fsyncPulse (max 1 (s.getE .plnFout PLN_FOUT.WIDTH)) after)
  else s

/-- A counted edge of FSYNC_IN, `sub` half nanoseconds after the latest tick (R297). -/
def execFsyncEdge (sub : Nat) (s : State) : Host.Outcome State Fault Refusal :=
  onDevice (fun s =>
    if s.syState = syFree ∨ s.pinsOn 167 = false then s
    else
      let t := if s.sync.seen = false then s.firstEdge sub
        else if s.syState = syHoldover then s.gapEdge sub
        else s.nextEdge sub
      if t.rd .plnTcrSeq = s.rd .plnTcrSeq then t else t.anchorPulse sub) s

/-- HOLDOVER: the rate is held; from SLEWING the current phase is adopted (Table 14). -/
def State.toHoldover (s : State) : State :=
  let st := s.syState
  if st = syFree ∨ st = syHoldover then s
  else
    let y := { s.sync with before := st, corr := 0 }
    if st = sySlewing then
      ({ s with sync := { y with phi := y.phase } }.setSy syHoldover).set1 .plnSyncSts PLN_SYNC_STS.ADOPTED
    else { s with sync := y }.setSy syHoldover

/-- Mode 2 of FSYNC_OUT where the target phase has gone from 0 or above, `old`, below 0: the reference edge at the next tick is
predicted in the microframe under way, for which no tick has made its pulse (R302). -/
def State.phiPulse (s : State) (old : Int) : State :=
  let y := s.sync
  let u := s.aon.clockCount + 1
  if s.getE .plnFout PLN_FOUT.MODE = 2 ∧ s.syState ≠ syFree ∧ 0 ≤ old ∧ y.phi < 0 ∧ y.seen ∧ y.anchor ≤ u ∧
      (u - y.anchor) % max 1 y.num = 0 ∧ (s.aon.refCycle * 2560 : Int) ≤ y.period + y.phi ∧ s.pinsOn 167 then
    s.emit (.fsyncPulse (max 1 (s.getE .plnFout PLN_FOUT.WIDTH)) (y.period + y.phi))
  else s

def execFsyncLossTimeout (s : State) : Host.Outcome State Fault Refusal :=
  onDevice (fun s => s.toHoldover.phiPulse s.sync.phi) s

/-- REF stops, and the count goes on from ACLK with the part of the microframe that has passed (R273, log entry 20). -/
def execRefStop (s : State) : Host.Outcome State Fault Refusal :=
  onIsland (fun s =>
    if s.aon.refRunning then
      let s := { s with aon := { s.aon with refRunning := false, acc := accOf s.aon.refCycle } }
      if s.coldHeld then s else s.toHoldover
    else s) s

/-- REF runs again: the tick falls when the accumulator implies it (R273). -/
def execRefRestart (s : State) : Host.Outcome State Fault Refusal :=
  onIsland (fun s =>
    if s.aon.refRunning then s
    else { s with aon := { s.aon with refRunning := true, refCycle := min 3124 (cycleOf s.aon.acc), acc := 0 } }) s

/-! ## Commands (R296, R299) -/

/-- A valid ratio. -/
def ratioOk (num den : Nat) : Bool :=
  (decide (0 < num) && decide (24 * num ≤ 8000 * den) && decide (8000 * den ≤ 240 * num)) ||
    (num == 1 && decide (1 ≤ den) && decide (den ≤ 8))

def State.cfgErr (s : State) : State := (s.set1 .plnSyncSts PLN_SYNC_STS.CFG_ERR).irqWake 310

/-- `PLN_SYNC_OFS` within −62,500 to 62,499 ns. -/
def State.ofsOk (s : State) : Bool := decide (-62500 * 64 ≤ s.syOfs) && decide (s.syOfs ≤ 62499 * 64)

def State.syncStartCmd (s : State) : State :=
  let num := s.getF .plnSyncRatio PLN_SYNC_RATIO.NUM
  let den := s.getF .plnSyncRatio PLN_SYNC_RATIO.DEN
  if s.syState = syFree ∧ ratioOk num den ∧ s.ofsOk then
    ({ s with sync := { Sync.init with
        num := num, den := den, falling := s.flag .plnSyncCfg PLN_SYNC_CFG.EDGE,
        filter := s.getF .plnSyncCfg PLN_SYNC_CFG.FILTER, phi := s.syOfs, last := s.sync.last, tick := s.sync.tick } }.setSy syAcquire).clr1
      .plnSyncSts PLN_SYNC_STS.ADOPTED
  else s.cfgErr

def State.syncStopCmd (s : State) : State :=
  if s.syState = syFree then s.cfgErr else { s with sync := { s.sync with corr := 0 } }.setSy syFree

/-- SLEW: towards `PLN_SYNC_OFS` as read now, with the sign of the phase's error against it. -/
def State.syncSlewCmd (s : State) : State :=
  if s.syState = syLost then
    (({ s with sync := { s.sync with phi := s.syOfs, corr := if s.sync.phase < s.syOfs then -ns4 else ns4 } }.setSy sySlewing).clr1
      .plnSyncSts PLN_SYNC_STS.ADOPTED).phiPulse s.sync.phi
  else s.cfgErr

def State.wrSyncCtl (s : State) (v : Word64) : State :=
  match PLN_SYNC_CTL.CMD.get v with
  | 1 => s.syncStartCmd
  | 2 => s.syncStopCmd
  | 3 => s.syncSlewCmd
  | _ => s

def execSyncStart (q : Requester) (s : State) : Host.Outcome State Fault Refusal :=
  onDevice (fun s => s.gate q .plnSyncCtl (fun s => s.wrSyncCtl (PLN_SYNC_CTL.CMD.put 1 0))) s
def execSyncStop (q : Requester) (s : State) : Host.Outcome State Fault Refusal :=
  onDevice (fun s => s.gate q .plnSyncCtl (fun s => s.wrSyncCtl (PLN_SYNC_CTL.CMD.put 2 0))) s
def execSyncSlew (q : Requester) (s : State) : Host.Outcome State Fault Refusal :=
  onDevice (fun s => s.gate q .plnSyncCtl (fun s => s.wrSyncCtl (PLN_SYNC_CTL.CMD.put 3 0))) s

/-! ## The tick's part -/

/-- The time line goes on by one period; in FREE the rate moves to nominal by at most 0.5 ns (R298). -/
def State.syncTick (s : State) : State :=
  let p := s.sync.period
  let y := { s.sync with tick := s.sync.tick + p, last := p, phase := s.sync.phase - (p - s.sync.rate) }
  if s.syState = syFree then
    { s with sync := { y with corr := 0, rate := y.rate + clampI nsHalf (perNominal - y.rate) } }
  else { s with sync := y }

/-- FSYNC_OUT at the tick that starts microframe `t` (R302). A pulse before its tick is made in the microframe that ends with
the tick. -/
def State.foutTick (s : State) (t : Nat) : State :=
  let w := max 1 (s.getE .plnFout PLN_FOUT.WIDTH)
  if s.pinsOn 167 = false then s
  else match s.getE .plnFout PLN_FOUT.MODE with
  | 1 => if t % max 1 (s.getE .plnFout PLN_FOUT.DIV) = 0 then s.emit (.fsyncPulse w 0) else s
  | 2 =>
    if s.syState = syFree then
      (if t % max 1 (s.getF .plnSyncRatio PLN_SYNC_RATIO.NUM) = 0 then s.emit (.fsyncPulse w 0) else s)
    else
      let y := s.sync
      let u := if y.phi < 0 then t + 1 else t
      if y.seen ∧ y.anchor ≤ u ∧ (u - y.anchor) % max 1 y.num = 0 then
        s.emit (.fsyncPulse w (if y.phi < 0 then y.period + y.phi else y.phi))
      else s
  | _ => s

end Sys2Proof.Machine
end

