-- ==== Sys2Proof/Machine/Faults.lean ====
section
/-!
DEFINITION. The fault unit's commands (chapter 15): windows, quiet times, recovery and latching, CLEAR and HCLEAR,
forced and raised events, ALIVE. What one event does stands in Machine/Ops.lean and Machine/FaultCore.lean.
-/
namespace Sys2Proof.Machine

def State.fltState (s : State) (i : Nat) : Nat := s.getF (.fltSts i) FLT_STS.STATE

/-! ## Windows, recovery, latching (R425, R431 to R434) -/

/-- The source is IDLE again: its record closes, `COUNT` is 0. -/
def State.fltIdle (s : State) (i : Nat) : State :=
  let s := s.fltClose i
  ((s.setF (.fltSts i) FLT_STS.STATE 0).setF (.fltSts i) FLT_STS.COUNT 0).modFlt i (fun x =>
    { x with window := none, react := 0 })

/-- The window of a source that is COUNTING expires, no earlier than `W` ms after the event that started it (R425). -/
def execFaultWindowExpiry (i : Nat) (s : State) : Host.Outcome State Fault Refusal :=
  onDevice (fun s =>
    match (s.flt i).window with
    | some t => if t ≤ s.now ∧ s.fltState i = 1 then s.fltIdle i else s
    | none => s) s

/-- Recoveries within the last 3,600 s (R433). -/
def State.fltHour (s : State) (i : Nat) : Nat :=
  ((s.flt i).times.filter (fun t => decide (s.aon.clockCount - t ≤ 28800000))).length

/-- The device safe state that source `i` caused ends. -/
def State.safeEnd (s : State) (i : Nat) : State :=
  if (s.flt i).dsafe then
    let s := s.modFlt i (fun x => { x with dsafe := false })
    if s.flts.any (fun q => q.2.dsafe) then s else s.clr1 .fltHold FLT_HOLD.DSAFE
  else s

/-- The holds of source `i`, and the device safe state that it caused, end. -/
def State.letGo (s : State) (i : Nat) : State :=
  ((s.modFlt i (fun x => { x with holdQuiet := none })).safeEnd i).unhold i

/-- A source recovers (R431). -/
def State.recover (s : State) (i : Nat) : State :=
  let s := (s.fltIdle i).satF (.fltSts i) FLT_STS.RCNT 1
  (s.modFlt i (fun x => { x with times := (s.aon.clockCount :: x.times).take 15 })).letGo i

/-- A source latches (R434). -/
def State.latch (s : State) (i : Nat) : State :=
  let s := s.fltUpd i (fun e s => s.setF (.fltHist (e * 8)) ⟨33, 32⟩ 2)
  let s := (s.setF (.fltSts i) FLT_STS.STATE 3)
  if (s.flt i).react = 0 then s else (s.set1 .fltIpend ⟨i, i⟩).irqWake 309

/-- The quiet period `Q` in REF cycles: 0 acts as 1 ms (`FLT_RCFG`). -/
def State.quietTime (s : State) : Nat := 25000 * max 1 (s.getF .fltRcfg FLT_RCFG.Q)

/-- `Q` ms have passed since the last event of a source that is SEVERE: it recovers, or latches (R431, R434). -/
def execFaultQuietExpiry (i : Nat) (s : State) : Host.Outcome State Fault Refusal :=
  onDevice (fun s =>
    if s.fltState i = 2 ∧ (s.flt i).last + s.quietTime ≤ s.now then
      if s.getF .fltRcfg FLT_RCFG.K ≤ s.fltHour i then s.latch i else s.recover i
    else s) s

/-- `Q` ms without a decision: the hold of an over-current source that is IDLE or COUNTING ends (Table 3). -/
def execOcHoldQuietExpiry (n : Nat) (s : State) : Host.Outcome State Fault Refusal :=
  onDevice (fun s =>
    match (s.flt n).holdQuiet with
    | some t =>
      if t + s.quietTime ≤ s.now ∧ s.fltState n < 2 then (s.modFlt n (fun x => { x with holdQuiet := none })).unhold n
      else s
    | none => s) s

/-! ## CLEAR and HCLEAR (R435, R438) -/

def State.fltClearCmd (s : State) (q : Requester) (i : Nat) : State :=
  if i = 48 ∨ i = 63 then s.violation q (Reg.loc .fltCtl)
  else if s.fltState i = 0 then s
  else ((s.fltIdle i).modFlt i (fun x => { x with times := [] })).letGo i

def State.fltHclearCmd (s : State) : State :=
  let s := forN 256 (fun w s => s.resetReg (.fltHist w)) s
  let s := (s.resetReg .fltHsts).resetReg .fltHtotal
  { s with flts := s.flts.mapVals FltSrc.init (fun _ x => { x with entry := 0, pinned := false }) }

def State.wrFltCtl (s : State) (q : Requester) (v : Word64) : State :=
  if FLT_CTL.CMD.get v = 1 then s.fltClearCmd q (FLT_CTL.SRC.get v)
  else if FLT_CTL.CMD.get v = 2 then s.fltHclearCmd
  else s

def execFltClear (q : Requester) (i : Nat) (s : State) : Host.Outcome State Fault Refusal :=
  onDevice (fun s => s.gate q .fltCtl (fun s => s.wrFltCtl q (BitVec.ofNat 64 (2 ^ 28 + i % 64)))) s
def execFltHclear (q : Requester) (s : State) : Host.Outcome State Fault Refusal :=
  onDevice (fun s => s.gate q .fltCtl (fun s => s.wrFltCtl q (BitVec.ofNat 64 (2 * 2 ^ 28)))) s

/-! ## Forced and raised events (R440, R441) -/

/-- A forced event of an over-current source also places its hold, as a decision does. -/
def State.wrFltForce (s : State) (v : Word64) : State :=
  let i := FLT_FORCE.SRC.get v
  if i = 63 then s
  else
    let s := s.faultEvent i (FLT_FORCE.DETAIL.get v) (s.getF .fltForceAux FLT_FORCE_AUX.AUX) true
    if i < 20 then s.ocHold i else s

def execFltForce (q : Requester) (i detail : Nat) (s : State) : Host.Outcome State Fault Refusal :=
  onDevice (fun s => s.gate q .fltForce (fun s =>
    s.wrFltForce (BitVec.ofNat 64 (i % 64 * 2 ^ 26 + detail % 65536)))) s

def State.wrFltRaise (s : State) (q : Requester) (v : Word64) : State :=
  let i := FLT_RAISE.SRC.get v
  if isPair q ∧ (i = 59 ∨ i = 62) then s.faultEvent i (FLT_RAISE.DETAIL.get v) 0 true
  else s.violation q (Reg.loc .fltRaise)

def execFltRaise (q : Requester) (i detail : Nat) (s : State) : Host.Outcome State Fault Refusal :=
  onDevice (fun s => s.gate q .fltRaise (fun s =>
    s.wrFltRaise q (BitVec.ofNat 64 (i % 64 * 2 ^ 26 + detail % 65536)))) s

/-! ## `FLT_CFGi` (R426) -/

/-- The reactions that Table 1 allows for a source. -/
def reactions (i : Nat) : List Nat :=
  if i < 40 then [0, 1, 3, 4]
  else if i < 44 then [0, 1, 4]
  else match i with
    | 44 => [1, 4]
    | 45 => [0, 1]
    | 49 => [0, 1]
    | 52 => [0, 1]
    | 53 => [0, 1, 2]
    | 54 => [0, 1, 2]
    | 57 => [0, 1]
    | 58 => [1, 4]
    | 59 => [0, 1]
    | 60 => [0, 1]
    | 61 => [0]
    | 48 => []
    | 63 => []
    | _ => [0, 1, 4]

def State.wrFltCfg (s : State) (q : Requester) (i : Nat) (v : Word64) : State :=
  if FLT_CFG.REACT.get v ∈ reactions i then s.plainWrite (.fltCfg i) v else s.violation q (Reg.loc (.fltCfg i))

def execFltCfgWrite (q : Requester) (i : Nat) (v : Word32) (s : State) : Host.Outcome State Fault Refusal :=
  onDevice (fun s => s.gate q (.fltCfg i) (fun s => s.wrFltCfg q i (v.setWidth 64))) s

/-! ## ALIVE (R432) -/

/-- ALIVE is not toggling. -/
def State.aliveStopped (s : State) : Bool :=
  s.flag .fltHold FLT_HOLD.DSAFE || s.flag .fltAlive FLT_ALIVE.HALT || !(s.aon.refRunning) ||
    (List.range 64).any (fun i => decide (2 ≤ s.fltState i) && !(s.flag (.fltCfg i) FLT_CFG.NOALIVE))

/-- 500 µs are over: the output toggles. -/
def execAliveToggle (s : State) : Host.Outcome State Fault Refusal :=
  onDevice (fun s =>
    if s.aliveStopped then s
    else
      let b := !(s.flag .fltAlive FLT_ALIVE.LEVEL)
      (s.setF .fltAlive FLT_ALIVE.LEVEL b.toNat).drive pinAlive b) s

def execAliveHaltWrite (q : Requester) (halt : Bool) (s : State) : Host.Outcome State Fault Refusal :=
  onDevice (fun s => s.gate q .fltAlive (fun s => s.plainWrite .fltAlive (BitVec.ofNat 64 halt.toNat))) s

/-! ## Detectors (R422, R423, R456) -/

/-- A signed byte. -/
def signed8 (x : Nat) : Int := if x < 128 then x else (x : Int) - 256

/-- A diode reading: stored, and compared with both thresholds. -/
def State.diode (s : State) (i : Nat) (t : Int) : State :=
  let s := s.setF (.tlmDiode (i / 4)) ⟨8 * (i % 4) + 7, 8 * (i % 4)⟩ (t % 256).toNat
  let aux := (t % (2 ^ 32 : Int)).toNat
  let s := if signed8 (s.getF .fltTemp FLT_TEMP.WARN) < t then s.faultEvent 57 i aux false else s
  if signed8 (s.getF .fltTemp FLT_TEMP.CRIT) < t then s.faultEvent 58 i aux false else s

def execSensorSample (r : SensorReading) (s : State) : Host.Outcome State Fault Refusal :=
  onDevice (fun s =>
    match r with
    | .diode i t => s.diode i t
    | .rail k v => (s.setF (.tlmRail k) TLM_RAIL.V v).irqWake 338) s

/-- A corrected error is counted for its memory, and is an event of ECC_CE. -/
def execEccCeDetected (m addr : Nat) (s : State) : Host.Outcome State Fault Refusal :=
  onDevice (fun s => (s.addF (.tlmEcc m) TLM_ECC.CE 1).faultEvent 45 m addr false) s

end Sys2Proof.Machine
end

