-- ==== Sys2Proof/Machine/Irq.lean ====
section
/-!
DEFINITION. The interrupt controller (chapter 14): source set-up, pin filters, delivery, claim and complete. What makes
a source pending stands in Machine/Ops.lean.
-/
namespace Sys2Proof.Machine

/-! ## Software sources -/

/-- A write to `IC_SWI`: one occurrence of source 404 + k for each 1. -/
def State.wrIcSwi (s : State) (v : Word64) : State :=
  forN 8 (fun k s => if (IC_SWI.SET.get v).testBit k then s.irqEvent (404 + k) else s) s

def execIcSwiWrite (q : Requester) (bits : BitVec 8) (s : State) : Host.Outcome State Fault Refusal :=
  onDevice (fun s => s.gate q .icSwi (fun s => s.wrIcSwi (bits.setWidth 64))) s

/-! ## Pin filters (R412, R413) -/

/-- The filtered level takes the pin's level: with an edge sense a qualifying change is an occurrence. -/
def State.gpioLevel (s : State) (k : Nat) : State :=
  let g := s.gpi k
  if g.pin = g.level then s
  else
    let s := s.setGpi k { g with level := g.pin, count := 0 }
    let e := s.getF (.icSrc (318 + k)) IC_SRC.SENSE
    if (e = 2 ∧ g.pin) ∨ (e = 3 ∧ g.pin = false) ∨ e = 4 then s.irqEvent (318 + k) else s.irqWake (318 + k)

/-- The filter setting of a pin. -/
def State.gpioFilt (s : State) (k : Nat) : Nat := s.getF (.icSrc (318 + k)) IC_SRC.FILT

/-- The synchronised level changes; with `FILT` = 0 the filtered level follows. -/
def execGpioInputChange (k : Nat) (level : Bool) (s : State) : Host.Outcome State Fault Refusal :=
  onDevice (fun s =>
    if s.pinsOn 166 then
      let s := (s.traffic 166).modGpi k (fun g => { g with pin := level })
      if s.gpioFilt k = 0 then s.gpioLevel k else s
    else s) s

/-- A tick's sample of one pin. -/
def State.gpioSample (s : State) (k : Nat) : State :=
  let g := s.gpi k
  if s.gpioFilt k = 0 then s
  else if g.pin = g.level then s.setGpi k { g with count := 0 }
  else if s.gpioFilt k ≤ g.count + 1 then s.gpioLevel k
  else s.setGpi k { g with count := g.count + 1 }

def execGpioFilterTick (s : State) : Host.Outcome State Fault Refusal :=
  onDevice (fun s => if s.pinsOn 166 then forN 16 (fun k s => s.gpioSample k) s else s) s

/-! ## `IC_SRCi` -/

/-- The source exists (R410). -/
def irqExists (i : Nat) : Bool := i != 0 && decide (i < 412)

/-- A write to `IC_SRCi`; that of a pin source restarts its filter, and with `FILT` = 0 its filtered level is the pin's
without an occurrence, but with domain 166 off, when it holds its last value (R413). -/
def State.wrIcSrc (s : State) (i : Nat) (v : Word64) : State :=
  if irqExists i then
    let s := ((s.setF (.icSrc i) IC_SRC.ENA (IC_SRC.ENA.get v)).setF (.icSrc i) IC_SRC.ENB (IC_SRC.ENB.get v)).setF
      (.icSrc i) IC_SRC.PRI (IC_SRC.PRI.get v)
    let s := s.noteWrite (.icSrc i)
    let s := if irqIsPin i then
        let s := (s.setF (.icSrc i) IC_SRC.SENSE (IC_SRC.SENSE.get v)).setF (.icSrc i) IC_SRC.FILT (IC_SRC.FILT.get v)
        s.modGpi (i - 318) (fun g => { g with count := 0, level := if IC_SRC.FILT.get v = 0 ∧ s.pinsOn 166 then g.pin else g.level })
      else s
    s.irqWake i
  else s

def execIcSrcWrite (q : Requester) (i : Nat) (v : Word32) (s : State) : Host.Outcome State Fault Refusal :=
  onDevice (fun s => s.gate q (.icSrc i) (fun s => s.wrIcSrc i (v.setWidth 64))) s

/-! ## Delivery, claim and complete (R414 to R419) -/

/-- Sources in service at a pair. -/
def State.serving (s : State) (b : Bool) : List Nat := (List.range 412).filter (fun i => s.inService b i)

/-- The running priority, 1 above the field's value; 0 for none in service. -/
def State.running (s : State) (b : Bool) : Nat :=
  ((s.serving b).map (fun i => s.getF (.icSrc i) IC_SRC.PRI + 1)).foldl max 0

/-- The source is deliverable to the pair. -/
def State.deliverable (s : State) (b : Bool) (i : Nat) : Bool :=
  let p := s.getF (.icSrc i) IC_SRC.PRI
  s.irqEnabled b i && s.irqPend i && decide (s.getF (.icThr b.toNat) IC_THR.THR ≤ p) && decide (s.running b < p + 1)

/-- A pair's interrupt line: asserted while any source is deliverable to it (R414, R418). -/
def State.irqLine (s : State) (b : Bool) : Bool := (List.range 412).any (fun i => s.deliverable b i)

/-- The deliverable source of the highest priority, ties to the lowest ID. -/
def State.bestIrq (s : State) (b : Bool) : Option Nat :=
  let l := (List.range 412).filter (fun i => s.deliverable b i)
  let top := (l.map (fun i => s.getF (.icSrc i) IC_SRC.PRI)).foldl max 0
  l.find? (fun i => s.getF (.icSrc i) IC_SRC.PRI == top)

/-- In-service bits changed. -/
def State.setService (s : State) (b : Bool) (i : Nat) (x : Bool) : State :=
  if b then { s with insB := FMap.put false i x s.insB } else { s with insA := FMap.put false i x s.insA }

/-- A claim by a pair (R415). A level source is not pending while it is in service. -/
def State.irqClaim (s : State) (b : Bool) : State :=
  let r : Reg := .icClaimed b.toNat
  match s.bestIrq b with
  | some i =>
    let s := { s with icPend := FMap.put false i false s.icPend }
    ((s.setService b i true).setF r IC_CLAIMED.ID i).setF r IC_CLAIMED.PRI (s.getF (.icSrc i) IC_SRC.PRI)
  | none =>
    ((s.setF r IC_CLAIMED.ID 0x3FF).setF r IC_CLAIMED.PRI 0).addF (.icSts b.toNat) IC_STS.SPUR 1

/-- The requester is the pair (R417). -/
def pairIs (q : Requester) (b : Bool) : Bool := q = (if b then .mb else .ma)

def State.wrIcClaim (s : State) (q : Requester) (b : Bool) : State :=
  if pairIs q b then s.irqClaim b else s.violation q (Reg.loc (.icClaim b.toNat))

def execIcClaim (q : Requester) (mb : Bool) (s : State) : Host.Outcome State Fault Refusal :=
  onDevice (fun s => s.gate q (.icClaim mb.toNat) (fun s => s.wrIcClaim q mb)) s

/-- A completion (R416). -/
def State.irqComplete (s : State) (b : Bool) (i : Nat) : State :=
  if s.inService b i then (s.setService b i false).irqWake i else s.set1 (.icSts b.toNat) IC_STS.IGN

def State.wrIcComp (s : State) (q : Requester) (b : Bool) (v : Word64) : State :=
  if pairIs q b then s.irqComplete b (IC_COMP.ID.get v) else s.violation q (Reg.loc (.icComp b.toNat))

def execIcComplete (q : Requester) (mb : Bool) (id : Nat) (s : State) : Host.Outcome State Fault Refusal :=
  onDevice (fun s => s.gate q (.icComp mb.toNat) (fun s => s.wrIcComp q mb (BitVec.ofNat 64 (id % 1024)))) s

/-! ## Hand-over at a failover (R453) -/

/-- One source handed over from pair `a` to pair `b`; enable bits that software has written in this cycle stay (R11). -/
def State.handSource (s : State) (a b : Bool) (i : Nat) : State :=
  let fa := if a then IC_SRC.ENB else IC_SRC.ENA
  let fb := if b then IC_SRC.ENB else IC_SRC.ENA
  let s := if s.wroteNow (.icSrc i) then s else (s.setF (.icSrc i) fb (s.getF (.icSrc i) fa)).setF (.icSrc i) fa 0
  if s.inService a i then
    let s := s.setService a i false
    let sense := s.getF (.icSrc i) IC_SRC.SENSE
    if irqIsEvent i || (irqIsPin i && decide (2 ≤ sense) && decide (sense ≤ 4)) then s.irqEvent i else s
  else s

/-- Everything handed over from pair `a` to pair `b`. -/
def State.handOver (s : State) (a b : Bool) : State :=
  (forN 412 (fun i s => s.handSource a b i) s).setF (.icThr b.toNat) IC_THR.THR (s.getF (.icThr a.toNat) IC_THR.THR)

end Sys2Proof.Machine
end

