-- ==== Sys2Proof/Machine/MdmaCtl.lean ====
section
/-!
DEFINITION. The service DMA's registers (chapter 11, R351 to R359): START, STOP and the locked fields of a busy channel.
What a run moves stands in Machine/Mdma.lean.
-/
namespace Sys2Proof.Machine

def State.mdmaBusy (s : State) (c : Nat) : Bool := s.flag (.mdmaSts c) MDMA_STS.BUSY

/-- An interrupt of a channel, if `on` (R359). -/
def State.mdmaIrq (s : State) (c : Nat) (on : Bool) : State := if on then s.irqEvent (301 + c) else s
def State.mdmaIe (s : State) (c : Nat) : Bool := s.flag (.mdmaCtl c) MDMA_CTL.IE

/-- `REQ`, `BURST`, `ESIZE` and the byte count are valid (Table 8). -/
def mdmaOk (req burst esize count : Nat) : Bool :=
  decide (req ≤ 9) && decide (burst ≤ 4) && decide (esize ≤ 2) && decide (1 ≤ count) && decide (count < 2 ^ 24) &&
    count % 2 ^ esize == 0

/-- The fields of register mode are valid (R356). -/
def State.mdmaRegsOk (s : State) (c : Nat) : Bool :=
  mdmaOk (s.getF (.mdmaCtl c) MDMA_CTL.REQ) (s.getF (.mdmaCtl c) MDMA_CTL.BURST) (s.getF (.mdmaCtl c) MDMA_CTL.ESIZE)
    (s.getF (.mdmaCnt c) MDMA_CNT.COUNT)

/-- The channel halts with a code (R356, R357). -/
def State.mdmaHalt (s : State) (c code : Nat) : State :=
  let s := ((s.clr1 (.mdmaSts c) MDMA_STS.BUSY).clr1 (.mdmaSts c) MDMA_STS.RUN).set1 (.mdmaSts c) MDMA_STS.HALT
  (s.setF (.mdmaSts c) MDMA_STS.CODE code).mdmaIrq c (s.mdmaIe c)

def State.mdmaIgn (s : State) (c : Nat) : State := s.set1 (.mdmaSts c) MDMA_STS.IGN

/-- A run of a channel becomes pending: behind the others, in ascending channel number among those of the same cycle
(R351). -/
def State.mdmaJoin (s : State) (c : Nat) : State :=
  let k := if s.mdmaNew.1 = s.now then s.mdmaNew.2 else 0
  let n := s.mdmaQ.length - k
  let new := s.mdmaQ.drop n
  { s with mdmaQ := s.mdmaQ.take n ++ new.filter (· < c) ++ c :: new.filter (c < ·), mdmaNew := (s.now, k + 1) }

/-- A channel leaves the queue. -/
def State.mdmaLeave (s : State) (c : Nat) : State :=
  let k := s.mdmaNew.2
  let new := s.mdmaQ.drop (s.mdmaQ.length - k)
  { s with mdmaQ := s.mdmaQ.filter (· != c), mdmaNew := (s.mdmaNew.1, if c ∈ new then k - 1 else k),
           mdmaFails := if s.mdmaQ.head? = some c then 0 else s.mdmaFails }

/-- START: ignored while busy or halted; in register mode the fields must be valid (R356, R357). -/
def State.mdmaGo (s : State) (c : Nat) : State :=
  if s.mdmaBusy c ∨ s.flag (.mdmaSts c) MDMA_STS.HALT then s.mdmaIgn c
  else if s.flag (.mdmaCtl c) MDMA_CTL.CHAIN = false ∧ s.mdmaRegsOk c = false then s.mdmaHalt c 2
  else (s.set1 (.mdmaSts c) MDMA_STS.BUSY).mdmaJoin c

/-- STOP: a running run ends at its next element boundary, which MDMA_RUN_END says; a queued channel leaves the queue
(R358). -/
def State.mdmaHold (s : State) (c : Nat) : State :=
  match s.mdmaRun with
  | some x =>
    if x.ch = c then { s with mdmaRun := some { x with stop := true } }
    else if c ∈ s.mdmaQ then
      ((s.mdmaLeave c).clr1 (.mdmaSts c) MDMA_STS.BUSY).setF (.mdmaSts c) MDMA_STS.CODE 3
    else s
  | none =>
    if c ∈ s.mdmaQ then
      ((s.mdmaLeave c).clr1 (.mdmaSts c) MDMA_STS.BUSY).setF (.mdmaSts c) MDMA_STS.CODE 3
    else s

/-- The fields that a busy channel locks: [29:17]. -/
def mdmaFields : Word64 := 0x3FFE0000#64

/-- A write to `MDMA_CTLc`: while `BUSY` the fields keep their values, and a write of others sets `IGN`. -/
def State.wrMdmaCtl (s : State) (c : Nat) (v : Word64) : State :=
  let start := MDMA_CTL.START.get v != 0
  let stop := MDMA_CTL.STOP.get v != 0
  if start && stop then s.mdmaIgn c
  else
    let s := if s.mdmaBusy c then (if v &&& mdmaFields = s.rd (.mdmaCtl c) &&& mdmaFields then s else s.mdmaIgn c)
      else s.plainWrite (.mdmaCtl c) v
    if start then s.mdmaGo c else if stop then s.mdmaHold c else s

/-- A write to the channel's other registers, which a busy channel ignores. -/
def State.wrMdmaReg (s : State) (c : Nat) (r : Reg) (v : Word64) : State :=
  if s.mdmaBusy c then s.mdmaIgn c else s.plainWrite r v

/-- The word that sets one of START and STOP and leaves the fields as they are. -/
def State.mdmaWord (s : State) (c : Nat) (f : Fld) : Word64 :=
  f.put 1 (MDMA_CTL.START.put 0 (MDMA_CTL.STOP.put 0 (s.rd (.mdmaCtl c))))

def execMdmaStart (q : Requester) (c : Nat) (s : State) : Host.Outcome State Fault Refusal :=
  onDevice (fun s => s.gate q (.mdmaCtl c) (fun s => s.wrMdmaCtl c (s.mdmaWord c MDMA_CTL.START))) s
def execMdmaStop (q : Requester) (c : Nat) (s : State) : Host.Outcome State Fault Refusal :=
  onDevice (fun s => s.gate q (.mdmaCtl c) (fun s => s.wrMdmaCtl c (s.mdmaWord c MDMA_CTL.STOP))) s

end Sys2Proof.Machine
end

