-- ==== Sys2Proof/Machine/Power.lean ====
section
/-!
DEFINITION. Power domains and link power (chapter 13), and the instruction DOZE (R227). When an entry condition is met,
when a step or a wait of some µs is over, and what comparators and the regulator do, is said by commands.
-/
namespace Sys2Proof.Machine

/-! ## States of a domain -/

/-- The domains that need the fabric (R24). -/
def onFabric (d : Nat) : Bool := d < 80 || (136 ≤ d && d < 144) || d = 162

/-! ## DOZE (R227, R385) -/

/-- DOZE on an engine ends: a doze item frees the engine; a program goes on with `st` OK and C = 0. -/
def State.dozeEnd (s : State) (te : Nat) : State :=
  let e := s.eng te
  if e.doze then
    match e.hold with
    | none => s.setEng te Eng.free
    | some c =>
      let s := (s.setEng te { e with doze := false }).modCtx c (fun x => { (x.setSt stOk 0).step1 with c := false })
      match (s.ctx c).endCode with
      | some k => s.jobs [.ends c k]
      | none => s
  else s

/-! ## The copy of a checkpoint (R448, Table 2 of chapter 16) -/

def ckptArea : Nat := 0x80000
def bankBase (bankB : Bool) : Nat := if bankB then 0xC0000 else 0xA0000
/-- The commit block: the last 64 B of a bank. -/
def commitAt (bankB : Bool) : Nat := bankBase bankB + 0x1FFC0

def State.sramFill (s : State) (b : Bool) (a : Nat) : List Byte → State
  | [] => s
  | x :: t => (s.sramPut b a x).sramFill b (a + 1) t

/-- Steps 1 to 4: the active pair stalls, 0 goes to the target bank's commit block, the bytes are copied, the pair goes on.
The stall takes no time of the model's (log entry 99). -/
def State.ckptBegin (s : State) (k : Ckpt) : State :=
  let t := !(s.activeMb)
  let s := { s with ckpt := some { k with begun := true, undo := s.sramBytes t (bankBase k.bankB) 0x20000 } }
  (s.sramFill t (commitAt k.bankB) (List.replicate 64 0)).sramFill t (bankBase k.bankB) (s.sramBytes s.activeMb ckptArea k.bytes)

/-- A copy that waits begins once the standby's domain is ON. -/
def State.ckptGoOn (s : State) (mb : Bool) : State :=
  match s.ckpt with
  | some k => if k.begun = false ∧ s.activeMb ≠ mb then s.ckptBegin k else s
  | none => s

/-- Everything that waits for a domain to be ON goes on. -/
def State.domResume (s : State) (d : Nat) : State :=
  if d < 80 then ((s.dozeEnd (2 * d)).dozeEnd (2 * d + 1)).dispatch (d / 4)
  else if d = 160 then { s with pairA := { s.pairA with wfi := false } }.ckptGoOn false
  else if d = 161 then { s with pairB := { s.pairB with wfi := false } }.ckptGoOn true
  else if d = 167 then s.pwrAll
  else s

/-- An entry is abandoned at point `apt` (R388). -/
def State.abandon (s : State) (d apt : Nat) : State := (s.cancelEntry d apt).domResume d

def State.doDoze (s : State) (c : Nat) : State :=
  match (s.ctx c).act with
  | .running te =>
    if s.getF (.pwrCtl (te / 2)) PWR_CTL.MODE = 0 then s.modCtx c Ctx.refuse
    else s.setEng te { Eng.holds c with doze := true }
  | _ => s

def execDoze (c : Nat) (s : State) : Host.Outcome State Fault Refusal :=
  onDevice (fun s => s.issue c (wordC 0x36 0) (fun s => s.doDoze c)) s

/-! ## Wakes and returns (R389, R393) -/

/-- The domain starts its return; interrupt source 313. -/
def State.startReturn (s : State) (d cause : Nat) : State := (s.returnStart d cause).irqWake 313

/-- A wake event of one domain, without the domains that it depends on. A wake during a step acts at the next abort
point, or once the state is reached (R388); in the cycle of the write that requests the entry, the write wins, and `WOKE`
records the wake (R384). -/
def State.wakeOne (s : State) (d cause : Nat) : State :=
  let st := s.domSt d
  if st = dPending then
    (if cause ≠ 1 ∧ (s.dom d).pendAt = s.now then (s.set1 (.pwrSts d) PWR_STS.WOKE).irqWake 313 else s.abandon d 0)
  else if st = dEntering then
    s.modDom d (fun x => if x.wake.isNone then { x with wake := some cause } else x)
  else if st = dRetention ∨ st = dOff then s.startReturn d cause
  else s

/-- The domains that are woken first: the fabric, and the sequencer of a PHY half (R24, R393). -/
def State.wakeNeeded (s : State) (d : Nat) : State :=
  if onFabric d then s.wakeOne 163 5
  else if 100 ≤ d ∧ d < 116 then s.wakeOne (d - 20) 5
  else if 116 ≤ d ∧ d < 136 then s.wakeOne (d - 36) 5
  else s

/-- A wake event of a domain (R389). -/
def State.wakeDom (s : State) (d cause : Nat) : State :=
  if s.domSt d = dOn ∨ s.domSt d = dReturning then s else (s.wakeNeeded d).wakeOne d cause

/-- The domains that a return waits for are ON. -/
def State.neededOn (s : State) (d : Nat) : Bool :=
  if onFabric d then s.domOn 163
  else if 100 ≤ d ∧ d < 116 then s.domOn (d - 20)
  else if 116 ≤ d ∧ d < 136 then s.domOn (d - 36)
  else true

/-! ## `PWR_CTLd` (R384) -/

/-- Some domain that needs the fabric is neither in retention nor off. -/
def State.fabricNeeded (s : State) : Bool :=
  (List.range 168).any (fun d => onFabric d && s.domSt d != dRetention && s.domSt d != dOff)

/-- Slices are bound, or contexts, device contexts or programs exist. -/
def State.workExists (s : State) : Bool :=
  (List.range 256).any (fun i => decide (i ≠ 0) && s.bound i) || !(s.ctxs.isEmpty) || s.devs.any (fun q => q.2.live) ||
    s.progs.any (fun q => q.2.live)

/-- The reservations would not fit the landing-buffer banks that stay on. -/
def State.banksShort (s : State) (d : Nat) : Bool :=
  let on := ((List.range 16).filter (fun k => decide (144 + k ≠ d) && s.domOn (144 + k))).length
  decide (256 * on < sumSlices (fun i => s.getF (.slcQmem i) SLC_QMEM.LB) + s.getF .portGpool PORT_GPOOL.SIZE)

/-- A key slot holds a key. -/
def State.keyHeld (s : State) : Bool := (List.range 64).any (fun k => s.flag (.sealSlot k) SEAL_SLOT.VALID)

/-- The Refused column of Table 1. -/
def State.entryRefused (s : State) (d mode : Nat) : Bool :=
  if 100 ≤ d ∧ d < 116 then mode = 2 && s.pathSt (d - 100) true != pOff
  else if 136 ≤ d ∧ d < 140 then !(s.present (d - 136))
  else if 144 ≤ d ∧ d < 160 then s.banksShort d
  else if d = 160 then !(s.activeMb)
  else if d = 161 then s.activeMb
  else if d = 162 then mode = 2 && s.keyHeld
  else if d = 163 then s.fabricNeeded || (mode = 2 && s.workExists)
  else d = 164 || d = 165

/-- The domain is to enter a mode. -/
def State.pend (s : State) (d mode : Nat) : State :=
  let s := ((s.setF (.pwrCtl d) PWR_CTL.MODE mode).setDomSt d dPending).modDom d (fun x =>
    { x with step := 0, target := mode, wake := none, since := s.aon.clockCount, pendAt := s.now })
  if d < 80 then (s.dozePlace (2 * d)).dozePlace (2 * d + 1) else s

/-- A `MODE` write is ignored. -/
def State.modeIgn (s : State) (d : Nat) : State := (s.set1 (.pwrSts d) PWR_STS.IGN).irqWake 313

/-- A write to `PWR_CTLd`: an ignored write leaves `DWAKE` as it is (R384, R24). -/
def State.wrPwrCtl (s : State) (q : Requester) (d : Nat) (v : Word64) : State :=
  let t := s.setF (.pwrCtl d) PWR_CTL.DWAKE (PWR_CTL.DWAKE.get v)
  let m := PWR_CTL.MODE.get v
  if s.domSt d = dOn then
    if m = 0 then t
    else if m = 3 ∨ s.entryRefused d m then (s.modeIgn d).violation q (Reg.loc (.pwrCtl d))
    else t.pend d m
  else if m = 0 then t.wakeDom d 1
  else s.modeIgn d

/-- `PWR_CTLd` with a mode, `DWAKE` as it is. -/
def State.modeWord (s : State) (d m : Nat) : Word64 := PWR_CTL.MODE.put m (s.rd (.pwrCtl d))

def execPwrEntryRequest (q : Requester) (d mode : Nat) (s : State) : Host.Outcome State Fault Refusal :=
  onDevice (fun s => s.gate q (.pwrCtl d) (fun s => s.wrPwrCtl q d (s.modeWord d mode))) s
def execPwrWakeWrite (q : Requester) (d : Nat) (s : State) : Host.Outcome State Fault Refusal :=
  onDevice (fun s => s.gate q (.pwrCtl d) (fun s => s.wrPwrCtl q d (s.modeWord d 0))) s

/-! ## Entry (R386 to R388) -/

/-- A path is at rest for its sequencer and PHY half. -/
def State.rests (s : State) (n : Nat) (ss : Bool) : Bool := restful ss (s.pathSt n ss)

/-- The request queue of a port is empty. -/
def State.queueEmpty (s : State) (n : Nat) : Bool := s.queueUse n == 0

/-- Granules in use, of any slice and of the pool. -/
def State.granUsed (s : State) : Nat := (s.lb.map Prod.snd).sum + s.fanGran + ceilDiv s.poolUsed 64

/-- No granule of the two banks of a pair `d` is allocated. Which granules a packet gets is open (log entry 89): sure while
none is in use, impossible while more are than the other pairs that are ON hold, 16,384 each, else open. -/
def State.banksFree (s : State) (d : Nat) : Bool :=
  let others := ((List.range 16).filter (fun k => decide (144 + k ≠ d) && s.domOn (144 + k))).length
  s.granUsed == 0 || (decide (s.granUsed ≤ 16384 * others) && s.openFlag (2 ^ 47 + d))

/-- The Entry column of Table 1. Whether the Quad-SPI is idle is open: its registers are not in the spec. -/
def State.entryReady (s : State) (d : Nat) : Bool :=
  if d < 80 then (s.eng (2 * d)).doze && (s.eng (2 * d + 1)).doze
  else if d < 100 then
    let n := d - 80
    s.rests n false && (decide (16 ≤ n) || s.rests n true) && s.queueEmpty n &&
      (decide (16 ≤ n) || !(s.domOn (100 + n))) && !(s.domOn (116 + n))
  else if d < 116 then
    let st := s.pathSt (d - 100) true
    st = pOff || (st = pSuspended && (s.dom d).target = 1)
  else if d < 136 then s.rests (d - 116) false
  else if d < 140 then
    let p := d - 136
    let l := s.getF (.glbHpSts p) GLB_HP_STS.LTSSM
    (l = ltL2 || l = ltDisabled || !(s.lte p)) && s.reqs.all (fun q => s.slPort q.slice != p) && s.writes.all (fun w => s.slPort w.slice != p)
  else if d < 144 then
    s.aon.refCycle = 0 && decide ((s.dom d).since < s.aon.clockCount) && s.deciding.all (fun c => s.pairOf c != d - 140)
  else if d < 160 then s.banksFree d
  else if d = 160 then s.inWfi false
  else if d = 161 then s.inWfi true
  else if d = 162 then s.sealOps.isEmpty && s.reportSeals.isEmpty && s.keyCmd.isNone && !(s.flag .sealFwSts SEAL_FW_STS.BUSY)
  else if d = 166 then !(s.flag .pwrAvsPol PWR_AVS_POL.EN) && s.mdmaQ.isEmpty && s.mdmaRun.isNone && s.openFlag (2 ^ 48)
  else if d = 167 then (List.range 20).all (fun n => !(s.port n).pwren)
  else true

/-- The root port whose loopback a domain carries (R495). -/
def loopPort (d : Nat) : Option Nat :=
  if 80 ≤ d ∧ d < 100 then some (d - 80)
  else if 100 ≤ d ∧ d < 116 then some (d - 100)
  else if 116 ≤ d ∧ d < 136 then some (d - 116)
  else none

/-- Entry begins: a management pair that enters is in WFI (R386). -/
def execDomainEntryStart (d : Nat) (s : State) : Host.Outcome State Fault Refusal :=
  onDevice (fun s =>
    if s.domSt d = dPending ∧ s.entryReady d then
      let s := if d = 160 then { s with pairA := { s.pairA with wfi := true } }
        else if d = 161 then { s with pairB := { s.pairB with wfi := true } } else s
      let s := match loopPort d with
        | some n => s.tstHalt n
        | none => s
      (s.setDomSt d dEntering).modDom d (fun x => { x with step := 0, wake := none, busy := false })
    else s) s

/-- The pins of port control float: nothing is sampled, no over-current is indicated (R399). -/
def State.pinsFloat (s : State) : State :=
  let s := forN 20 (fun n s =>
    (s.modPort n (fun p => { p with oc := ⟨false, false, false, 0⟩ })).setF (.portSts n) PORT_STS.OCA 0) s
  s.pwrAll

/-- The state is reached. A planner pair's Boards read as empty since the entry began; what it was building is given up only
now, when the entry can no longer be abandoned (R295, R388). -/
def State.entered (s : State) (d : Nat) : State :=
  let s := (s.setDomSt d (if (s.dom d).target = 1 then dRetention else dOff)).addF (.pwrSts d) PWR_STS.ENTRIES 1
  let s := s.modDom d (fun x => { x with step := 5 })
  let s := if d = 167 ∧ s.domSt d = dOff then s.pinsFloat
    else if 140 ≤ d ∧ d < 144 then s.pairStop (d - 140) else s
  match (s.dom d).wake with
  | some k => s.startReturn d k
  | none => s

/-- A step of the entry is complete; `wake` says that a wake event arises in the cycle of the abort-point check. -/
def execEntryStepComplete (d : Nat) (wake : Bool) (s : State) : Host.Outcome State Fault Refusal :=
  onDevice (fun s =>
    if s.domSt d = dEntering then
      let k := (s.dom d).step + 1
      if 5 ≤ k then s.entered d
      else if wake ∨ (s.dom d).wake.isSome then s.abandon d k
      else (if k = 2 then s.takeCopy d else s).modDom d (fun x => { x with step := k })
    else s) s

/-! ## Return (R390, R391) -/

/-- A port sequencer that was off: registers that are not on the save list take their warm-reset values, but for both path
states, the filtered over-current indication (R62) and the SuperSpeed link state (R528); its FIFO is empty. -/
def State.seqCold (s : State) (n : Nat) : State :=
  let old := s.rd (.portSts n)
  let sl := s.getF (.portLink n) PORT_LINK.SLSTATE
  let s := forL [.portSts n, .portLink n, .portDefr n, .portPrfSts n, .portPrfNote n, .portPrfLoss n, .portXerr n,
    .portDet n, .portGmbCnt n, .portGmbOrph n, .portTstCtl n, .portTstSts n, .portTstBits n, .portTstErrs n] (fun r s => s.resetReg r) s
  let s := (s.setF (.portSts n) PORT_STS.STATE (PORT_STS.STATE.get old)).setF (.portSts n) PORT_STS.SSTATE
    (PORT_STS.SSTATE.get old)
  let s := (s.setF (.portSts n) PORT_STS.OCA (PORT_STS.OCA.get old)).setF (.portLink n) PORT_LINK.SLSTATE sl
  s.modPort n (fun p => { p with fifo := Fifo.init })

/-- The Boards of a group, in SRAM of its pair, read as zero. -/
def State.groupCold (s : State) (j : Nat) : State :=
  { s with board := s.board.filter (fun q => q.1 % 64 / 15 != j), hdrs := s.hdrs.filter (fun q => q.1 % 4 != j) }

/-- What a return from off brings back zeroed. -/
def State.domCold (s : State) (d : Nat) : State :=
  if 80 ≤ d ∧ d < 100 then s.seqCold (d - 80)
  else if 140 ≤ d ∧ d < 144 then s.groupCold (d - 140)
  else if d = 160 then { s with sramA := [] }
  else if d = 161 then { s with sramB := [] }
  else if d = 166 then { s with jtag := .idcode, gpio := s.gpio.mapVals Gpio.init (fun _ g => { g with count := 0 }) }
  else s

/-- A register of the save list takes the saved value: one written meanwhile acts as the write would have. -/
def State.restoreReg (s : State) (r : Reg) (v : Word64) : State :=
  if v = s.rd r then s
  else match r with
  | .portCtl n => s.portCtlNow n v
  | .glbHpCtl p => s.hpCtlNow p v
  | r => s.wr r v
def State.restoreCopy (s : State) (d : Nat) : State :=
  match (s.dom d).copy with
  | some m => forL (savedRegs d) (fun r s => s.restoreReg r (FMap.find 0 r.addr m)) (s.modDom d (fun x => { x with copy := none }))
  | none => s

/-- The domain is ON again, with its save list restored. -/
def State.returned (s : State) (d : Nat) : State :=
  let s := if (s.dom d).target = 2 then s.domCold d else s
  (((s.setDomSt d dOn).modDom d (fun x => { x with step := 0, target := 0, busy := false })).restoreCopy d).domResume d

def execReturnStepReady (d : Nat) (s : State) : Host.Outcome State Fault Refusal :=
  onDevice (fun s =>
    if s.domSt d = dReturning ∧ s.neededOn d then
      let k := s.getF (.pwrSts d) PWR_STS.RSTEP
      if k = 3 then s.returned d else s.setF (.pwrSts d) PWR_STS.RSTEP (k + 1)
    else s) s

/-- A ready signal is late: recorded, and an event of PWR_SEQ. The step goes on waiting. -/
def execReturnStepStuck (d : Nat) (s : State) : Host.Outcome State Fault Refusal :=
  onDevice (fun s =>
    if s.domSt d = dReturning then
      ((s.set1 (.pwrSts d) PWR_STS.STUCK).irqWake 313).faultEvent 55 d (s.getF (.pwrSts d) PWR_STS.RSTEP) false
    else s) s

/-! ## Wake events (R389, R396 to R398) -/

/-- The demand wake event of Table 1 holds, as far as the state shows it; for PHY halves, PCIe ports and landing-buffer
banks it is what DEMAND_WAKE itself says. -/
def State.demanded (s : State) (d : Nat) : Bool :=
  if d < 80 then s.eligibleN (d / 4) != 0 && (s.freeEng (d / 4)).isNone
  else if d < 100 then s.ctxs.any (fun q => match q.2.op with
    | some o => o.port == d - 80
    | none => false)
  else if d < 140 then true
  else if d < 144 then s.deciding.any (fun c => s.pairOf c == d - 140)
  else if d < 160 then true
  else if d < 162 then (List.range 412).any (fun i => s.irqPend i && s.irqEnabled (decide (d = 161)) i)
  else d = 162 && (!(s.sealOps.isEmpty) || s.keyCmd.isSome)

/-- `DWAKE` governs the demand wake; an interrupt source that is enabled for a pair wakes its domain whatever `DWAKE` says
(R389, R421). -/
def execDemandWake (d : Nat) (s : State) : Host.Outcome State Fault Refusal :=
  onDevice (fun s =>
    if (s.flag (.pwrCtl d) PWR_CTL.DWAKE ∨ d = 160 ∨ d = 161) ∧ s.demanded d then s.wakeDom d (if d = 160 ∨ d = 161 then 6 else 2) else s) s

/-- A native or compatibility event of a root port wakes its sequencer and its high-speed PHY half. -/
def State.rootWake (s : State) (n cause : Nat) : State := (s.wakeDom (80 + n) cause).wakeDom (116 + n) cause

def execNativeLineEvent (n : Nat) (s : State) : Host.Outcome State Fault Refusal :=
  onDevice (fun s => if (s.getF .pwrWline PWR_WLINE.EN).testBit n then s.rootWake n 3 else s) s
def execVbusSenseEvent (p : Nat) (s : State) : Host.Outcome State Fault Refusal :=
  onDevice (fun s => if (s.getF .pwrWvbus PWR_WVBUS.EN).testBit p then s.wakeDom (136 + p) 3 else s) s
def execLfpsWake (n : Nat) (s : State) : Host.Outcome State Fault Refusal :=
  onDevice (fun s =>
    if (s.getF .pwrWcompat PWR_WCOMPAT.LFPS).testBit n then (s.rootWake n 4).wakeDom (100 + n) 4 else s) s
def execEiExitWake (p : Nat) (s : State) : Host.Outcome State Fault Refusal :=
  onDevice (fun s => if (s.getF .pwrWcompat PWR_WCOMPAT.EI).testBit p then s.wakeDom (136 + p) 4 else s) s

/-- `PWR_BIAS.HOLD` µs without traffic: the domain drops to its idle settings (R394). -/
def execBiasHoldExpiry (d : Nat) (s : State) : Host.Outcome State Fault Refusal :=
  onDevice (fun s =>
    if s.domSt d = dOn ∧ (s.dom d).busy ∧ (s.dom d).last + 25 * max 1 (s.dom d).hold ≤ s.now then
      s.modDom d (fun x => s.takeBias { x with busy := false })
    else s) s

/-- A domain with processing elements is busy while any of them is running; another while it has carried traffic (R394). -/
def State.domBusy (s : State) (d : Nat) : Bool :=
  let runs (te : Nat) : Bool := (s.eng te).hold.isSome && !(s.eng te).doze
  if d < 80 then runs (2 * d) || runs (2 * d + 1)
  else if d = 160 then !(s.inWfi false) && !(s.pairA.halted)
  else if d = 161 then !(s.inWfi true) && !(s.pairB.halted)
  else (s.dom d).busy

/-- The settings of a domain: body bias in mV, `none` with the wells released; read and write assist on; the SRAM array on
VDD_SRAM (`some true`), at the retention clamp (`some false`), or switched off (Table 4). -/
structure Bias where
  body : Option Int
  readAssist : Bool
  writeAssist : Bool
  array : Option Bool
  deriving DecidableEq, Repr

/-- Table 4 of chapter 13. A return keeps the settings of the state that it leaves until its logic step (Table 4a). -/
def State.biasOf (s : State) (d : Nat) : Bias :=
  let x := s.dom d
  let st := s.domSt d
  let left := if st = dEntering then 4 ≤ x.step else st != dOn && st != dPending
  if left then
    (if x.target = 2 then ⟨none, false, false, none⟩ else ⟨some (if x.rbb then -150 else 0), false, false, some false⟩)
  else if st = dOn && s.domBusy d then ⟨some (if x.fbb then 80 else 0), true, true, some true⟩
  else ⟨some 0, false, true, some true⟩

/-! ## The link-power predictor (R65, R67, R403) -/

/-- A reservation on a path is due within `us` µs: a placement of the microframe under way that has not been executed,
or one of the microframes that begin within that time. For L1 those of the whole segment count, which is the root port (R44,
R65); for U1 and U2 those of the SuperSpeed path. A split reservation is due in its service microframe, not in that of its
start-split (log entry 82). -/
def State.dueWithin (s : State) (n : Nat) (ss : Bool) (us : Nat) : Bool :=
  let t := s.aon.clockCount
  let left := (if ss then [1, 2] else [0, 1, 2]).any (fun l =>
    let ln := s.seqLine n l
    decide ((if ln.mf = t then ln.k else 0) < (s.bline (lineKey t n l)).length))
  let last := (s.now + 25 * us) / 3125
  let mine := (s.bookedOn s.resvE n).filter (fun b => b.way == 0 || !ss)
  left || (List.range (last - t)).any (fun k => mine.any (fun b => dueAt (t + 1 + k) 0 b.phase b.interval))

/-- The tick's part: L1 ends where a periodic reservation falls due within the time that the exit takes by BESL (R66). -/
def State.l1Tick (s : State) : State :=
  forN 20 (fun n s =>
    if s.getF (.portLink n) PORT_LINK.LSTATE = 2 ∧ s.dueWithin n false (beslTime (s.getF (.portLink n) PORT_LINK.BESL)) then
      s.linkUp n false
    else s) s

/-- A request of the predictor: `kind` 1 L1, 2 U1, 3 U2. A held-back request changes nothing, and is made again later.
`acc` is the link partner's answer to LGO_U1 or LGO_U2; the answer to an L1 request is LPM_L1_RESPONSE. -/
def State.linkAsk (s : State) (n : Nat) (ss : Bool) (kind besl : Nat) (acc : Bool) : State :=
  let done (s : State) : State := s.setF (.pwrLpst n ss.toNat) PWR_LPST.LAST kind
  if s.pathSt n ss ≠ pEnabled ∨ s.domLive (80 + n) = false ∨ (s.path n ss).quiet then s
  else if ss then
    let lat := s.getF (.pwrLpex n) (if kind = 3 then PWR_LPEX.U2EL else PWR_LPEX.U1EL)
    if s.cfgFlag n (if kind = 3 then PORT_CFG.U2_EN else PORT_CFG.U1_EN) ∧
        s.getF (.portLink n) PORT_LINK.SLSTATE = 1 ∧ s.dueWithin n true lat = false then
      let s := done (s.modPred (pKey n true) (fun p => { p with asked := true }))
      if acc then s.setF (.portLink n) PORT_LINK.SLSTATE kind else s
    else s
  else if s.cfgFlag n PORT_CFG.L1_EN ∧ (s.path n false).l1Stall = false ∧
      s.getF (.portLink n) PORT_LINK.LSTATE = 1 ∧ s.dueWithin n false (beslTime besl + 50) = false then
    done (s.modPred (pKey n false) (fun p => { p with asked := true, lpm := some besl }))
  else s

/-- The count of bounded decisions rises once for a decision (R403). -/
def State.clampCount (s : State) (n : Nat) (ss : Bool) : State := s.addF (.pwrLpcnt n ss.toNat) PWR_LPCNT.CLAMPS 1

/-- The path has been idle for some µs. -/
def Pred.idleFor (p : Pred) (now us : Nat) : Bool :=
  match p.idle with
  | some t => decide (t + 25 * us ≤ now)
  | none => false

/-- The path has been idle for D: the state chosen is requested. -/
def execPredictorDelayExpiry (n : Nat) (ss acc : Bool) (s : State) : Host.Outcome State Fault Refusal :=
  onDevice (fun s =>
    let p := s.pred (pKey n ss)
    if p.idleFor s.now p.delay ∧ p.asked = false ∧ p.choice ≠ 0 then s.linkAsk n ss p.choice p.besl acc else s) s

/-- The path has been idle for `DMAX` with nothing requested: the deepest state is requested. -/
def execPredictorForceExpiry (n : Nat) (ss acc : Bool) (s : State) : Host.Outcome State Fault Refusal :=
  onDevice (fun s =>
    let p := s.pred (pKey n ss)
    if p.idleFor s.now p.force ∧ p.asked = false ∧ p.deep ≠ 0 then
      let s := if p.bounded then s
        else (s.clampCount n ss).modPred (pKey n ss) (fun p => { p with bounded := true })
      s.linkAsk n ss p.deep 0 acc
    else s) s

/-! ## The voltage loop (R405 to R409) -/

def State.vout (s : State) : Nat := s.getF .pwrAvsSts PWR_AVS_STS.VOUT
def State.cstep (s : State) : Nat := s.getF .pwrAvsSts PWR_AVS_STS.CSTEP
def State.avsOn (s : State) : Bool := s.flag .pwrAvsPol PWR_AVS_POL.EN
def State.modAvs (s : State) (f : Avs → Avs) : State := { s with avs := f s.avs }

/-- The fastest clock step whose need is at most `v`; 0.6 GHz where there is none above it. -/
def stepFor (need : List Nat) (v : Nat) : Nat := ((List.range 6).find? (fun k => decide (need.getD k 0 ≤ v))).getD 6

/-- A voltage in mV in PMBus's linear format with a 5-bit signed exponent: V × 2^−`VEXP`, rounded down (R407; log entry 53). -/
def linear16 (mv vexp : Nat) : Nat :=
  if vexp < 16 then mv / (1000 * 2 ^ vexp) else mv * 2 ^ (32 - vexp) / 1000

/-- The VOUT_COMMAND for a voltage (R407). -/
def State.voutCommand (s : State) (v : Nat) : Output :=
  .regulator (s.getF .pwrAvsBus PWR_AVS_BUS.ADDR) 0x21 (linear16 v (s.getF .pwrAvsBus PWR_AVS_BUS.VEXP))

/-- A new voltage goes to the regulator (R407); not while its I2C port is unavailable (R399). -/
def State.avsSend (s : State) (v : Nat) : State :=
  if s.pinsOn 166 = false then s
  else (((s.traffic 166).setF .pwrAvsSts PWR_AVS_STS.VOUT v).modAvs (fun a => { a with writing := true, fails := 0 })).emit (s.voutCommand v)

/-- Once the voltage for a faster clock has been confirmed, SETTLE is waited out (R406). -/
def State.avsRise (s : State) : State :=
  let a := s.avs
  if a.goal < s.cstep ∧ s.vout = a.target ∧ a.writing = false ∧ a.confirmed = a.target then
    s.modAvs (fun a => { a with
      settling := some (a.settling.getD (s.now + 25 * s.getF .pwrAvsBus PWR_AVS_BUS.SETTLE)) })
  else s.modAvs (fun a => { a with settling := none })

/-- The voltage moves by at most 5 mV towards the target. -/
def State.avsMove (s : State) : State :=
  let v := s.vout
  let t := s.avs.target
  if v < t then s.avsSend (min t (v + 5)) else if t < v then s.avsSend (max t (v - 5)) else s

/-- An episode at the ceiling or the floor is counted when it begins (R409). -/
def State.avsEpisodes (s : State) (ceil floor : Bool) : State :=
  let s := if ceil && !s.avs.inCeil then s.addF .pwrAvsCnt PWR_AVS_CNT.CEILC 1 else s
  let s := if floor && !s.avs.inFloor then s.addF .pwrAvsCnt PWR_AVS_CNT.FLOORC 1 else s
  s.modAvs (fun a => { a with inCeil := ceil, inFloor := floor })

/-- One evaluation, with the need at each clock step from 1.2 GHz down. -/
def State.avsEval (s : State) (need : List Nat) : State :=
  let v := need.getD 0 0
  let ceil := s.getF .pwrAvsPol PWR_AVS_POL.CEIL
  let floor := s.getF .pwrAvsPol PWR_AVS_POL.FLOOR
  let k := if ceil < v then stepFor need ceil else 0
  let s := s.setF .pwrAvsSts PWR_AVS_STS.VNEED v
  let s := s.modAvs (fun a => { a with target := min ceil (max floor v), goal := k, need := need })
  let s := if s.cstep < k then s.setF .pwrAvsSts PWR_AVS_STS.CSTEP k else s
  (s.avsMove.avsRise).avsEpisodes (decide (ceil < v ∧ k ≠ 0)) (decide (v < floor))

def execAvsEvaluation (need : List Nat) (s : State) : Host.Outcome State Fault Refusal :=
  onDevice (fun s => if s.avsOn then s.avsEval need else s) s

def execAvsSettleExpiry (s : State) : Host.Outcome State Fault Refusal :=
  onDevice (fun s =>
    match s.avs.settling with
    | some t =>
      if s.avsOn ∧ t ≤ s.now then
        (s.setF .pwrAvsSts PWR_AVS_STS.CSTEP s.avs.goal).modAvs (fun a => { a with settling := none })
      else s
    | none => s) s

/-- The fourth failure of a write in a row: the clock is held at what the last confirmed voltage carries, and the voltage
is tried again at the next evaluation. -/
def State.avsFail (s : State) : State :=
  let v := s.avs.confirmed
  let s := (s.set1 .pwrAvsSts PWR_AVS_STS.BUSERR).setF .pwrAvsSts PWR_AVS_STS.CSTEP (stepFor s.avs.need v)
  let s := (s.setF .pwrAvsSts PWR_AVS_STS.VOUT v).modAvs (fun a => { a with writing := false, fails := 0, settling := none })
  (s.irqWake 313).faultEvent 56 0 v false

def execAvsRegulatorWriteDone (ok : Bool) (s : State) : Host.Outcome State Fault Refusal :=
  onDevice (fun s =>
    if s.avs.writing then
      if ok then (s.modAvs (fun a => { a with writing := false, fails := 0, confirmed := s.vout })).avsRise
      else if s.avs.fails < 3 then
        let t := s.modAvs (fun a => { a with fails := a.fails + 1 })
        if s.pinsOn 166 then (t.traffic 166).emit (s.voutCommand s.vout) else t
      else s.avsFail
    else s) s

/-- The loop is switched on with a ceiling below the fused voltage: it starts at the ceiling (R408). -/
def State.avsStart (s : State) : State :=
  let ceil := s.getF .pwrAvsPol PWR_AVS_POL.CEIL
  if ceil < Config.fusedMv then
    ((s.setF .pwrAvsSts PWR_AVS_STS.CSTEP (Config.fusedStep ceil)).avsSend ceil).modAvs (fun a =>
      { a with target := ceil, goal := Config.fusedStep ceil })
  else s

/-- A write to `PWR_AVS_POL` (R406, R408). With the loop off nothing goes to the regulator and CCLK is at 1.2 GHz. -/
def State.wrAvsPol (s : State) (v : Word64) : State :=
  let c := PWR_AVS_POL.CEIL.get v
  let f := PWR_AVS_POL.FLOOR.get v
  if c < f ∨ c < 650 ∨ 850 < c ∨ f < 650 ∨ 850 < f then (s.set1 .pwrAvsSts PWR_AVS_STS.IGN).irqWake 313
  else
    let was := s.avsOn
    let s := s.plainWrite .pwrAvsPol v
    if s.avsOn then (if was then s else s.avsStart)
    else (s.setF .pwrAvsSts PWR_AVS_STS.CSTEP 0).modAvs (fun a =>
      { a with settling := none, writing := false, inCeil := false, inFloor := false })

def execAvsPolicyWrite (q : Requester) (v : Word32) (s : State) : Host.Outcome State Fault Refusal :=
  onDevice (fun s => s.gate q .pwrAvsPol (fun s => s.wrAvsPol (v.setWidth 64))) s

end Sys2Proof.Machine
end

