-- ==== Sys2Proof/Machine/Mgmt.lean ====
section
/-!
DEFINITION. The management subsystem (chapter 16): lockstep, the active and the standby pair, failover, checkpoints, the
watchdog, telemetry, the firmware mailbox. What the firmware itself does reaches the block as register accesses.
-/
namespace Sys2Proof.Machine

/-! ## Pairs -/

def State.setPair (s : State) (b : Bool) (x : Pair) : State := if b then { s with pairB := x } else { s with pairA := x }
def State.sbyRdy (s : State) : Bool := s.flag .glbMgtSts GLB_MGT_STS.SBY_RDY
def State.nomgt (s : State) : Bool := s.flag .glbMgtSts GLB_MGT_STS.NOMGT

def State.modPair (s : State) (b : Bool) (f : Pair → Pair) : State := s.setPair b (f (s.pair b))

/-! ## The boot ROM (R487, R488) -/

/-- `STAGE`, `SLOT` and `SLOTST` show the active pair. -/
def State.showBoot (s : State) (stage : Nat) : State :=
  let p := s.pair s.activeMb
  ((s.setF .glbBootSts GLB_BOOT_STS.STAGE stage).setF .glbBootSts GLB_BOOT_STS.SLOT p.slot).setF .glbBootSts GLB_BOOT_STS.SLOTST p.slotSt

/-- Pairs jump to the image of a slot, or enter recovery, in which the active pair says that none runs firmware (R488). -/
def State.jump (s : State) (ps : List Bool) (slot st : Nat) : State :=
  let s := forL ps (fun b s => s.modPair b (fun p => { p with entry := some 0, slot := slot, slotSt := st })) s
  if s.activeMb ∈ ps then s.showBoot 3 else s
def State.recovery (s : State) (ps : List Bool) : State :=
  let s := forL ps (fun b s => s.modPair b (fun p => { p with entry := none, slot := 0, slotSt := 0 })) s
  if s.activeMb ∈ ps then (s.showBoot 4).set1 .glbMgtSts GLB_MGT_STS.NOMGT else s

/-- A slot is tried: its image goes to the pairs' SRAM, its result to `RESA` or `RESB`. -/
def State.trySlot (s : State) (ps : List Bool) (img : List Byte) (x : Bool) (res : Nat) : State :=
  (forL ps (fun b s => s.sramFill b 0 img) s).setF .glbBootSts (if x then GLB_BOOT_STS.RESB else GLB_BOOT_STS.RESA) res

/-- The slots of directory `d` are tried; the first that passes is run, else recovery follows. -/
def State.trySlots (s : State) (ps : List Bool) (b : Boot) (d : List Byte) : State :=
  let l := slotsTried b d (bootOrder d)
  let s := forL l (fun q s => s.trySlot ps (slotImg b d q.1) q.1 q.2) s
  match l.find? (fun q => q.2 == 0) with
  | some q => s.jump ps (1 + q.1.toNat) (slotState d q.1)
  | none => s.recovery ps

/-- The boot ROM runs on the pairs `ps`: boot from NOR, or recovery. -/
def State.bootRom (s : State) (ps : List Bool) (b : Boot) : State :=
  let s := (s.setF .glbBootSts GLB_BOOT_STS.RESA 0xFF).setF .glbBootSts GLB_BOOT_STS.RESB 0xFF
  if s.aon.straps.bootSrc ≠ 0 then s.recovery ps
  else
    let d := dirOf b.copy0 b.copy1
    let s := s.setF .glbBootSts GLB_BOOT_STS.DIRBAD d.isNone.toNat
    match d with
    | some d => s.trySlots ps b d
    | none => s.recovery ps

/-- What a boot finds, where no operand says it: open self-tests, and what the NOR holds (Table 6 of chapter 16). -/
def State.openBoot (s : State) : Boot :=
  ⟨Config.freeBit s.free, Config.freeBit (s.free + 1), s.norBytes 0 64, s.norBytes 0x10000 64, s.norBytes 0x800000 262144,
    s.norBytes 0x900000 262144⟩

/-- A pair is reset alone and runs the boot ROM: its self-test and the boot (R454, R455, R487, R500). -/
def State.pairReset (s : State) (b : Bool) : State :=
  let x := s.openBoot
  (({ s with free := s.free + 2 }.setPair b Pair.init).setF .glbBistSts (if b then GLB_BIST_STS.MB_OK else GLB_BIST_STS.MA_OK)
    (if b then x.mbOk else x.maOk).toNat).bootRom [b] x

/-! ## Failover (R450 to R454) -/

/-- A checkpoint that has not been committed is abandoned; a GO of this cycle is discarded, with what it wrote (R452). -/
def State.ckptDrop (s : State) : State :=
  let s := match s.ckpt with
    | some k => if k.at_ = s.now then s.sramFill (!(s.activeMb)) (bankBase k.bankB) k.undo else s
    | none => s
  { s with ckpt := none }.clr1 .glbMgtCkpt GLB_MGT_CKPT.BUSY

/-- A trigger with a ready standby: steps 1 to 3 of Table 3. The standby's domain is woken whatever its `DWAKE`. -/
def State.handRole (s : State) : State :=
  let a := s.activeMb
  let s := (s.ckptDrop.setF .glbMgtSts GLB_MGT_STS.ACTIVE (!a).toNat).clr1 .glbMgtSts GLB_MGT_STS.SBY_RDY
  let s := (s.handOver a (!a)).pairReset a
  let s := (s.modPair (!a) (fun p => { p with resume := true })).showBoot 3
  s.wakeDom (if a then 160 else 161) 2

/-- A trigger without one: the failed pair is reset, and nobody manages (R454). -/
def State.noRole (s : State) : State := (s.ckptDrop.pairReset s.activeMb).set1 .glbMgtSts GLB_MGT_STS.NOMGT

/-- A failover trigger with its cause. -/
def State.failover (s : State) (cause : Nat) : State :=
  let s := { s with cyc := { s.cycle with trig := true } }
  let s := (s.satF .glbMgtSts GLB_MGT_STS.FOVR 1).setF .glbMgtSts GLB_MGT_STS.CAUSE cause
  if s.sbyRdy then s.handRole else s.noRole

/-- The two cores of a pair disagree: the pair is halted, with an event of its source; the active pair's failure is a
trigger, the standby's only makes it unready (R443, R450). -/
def execLockstepMismatch (mb : Bool) (s : State) : Host.Outcome State Fault Refusal :=
  onDevice (fun s =>
    if (s.pair mb).halted then s
    else
      let s := (s.setPair mb { s.pair mb with halted := true }).faultEvent (if mb then 47 else 46) 0 0 false
      if s.activeMb = mb then s.failover 1 else s.clr1 .glbMgtSts GLB_MGT_STS.SBY_RDY) s

/-- An uncorrectable error: an event of ECC_UE, and a trigger where it is in the active pair's SRAM (R450). -/
def execEccUeDetected (m addr : Nat) (s : State) : Host.Outcome State Fault Refusal :=
  onDevice (fun s =>
    let s := s.faultEvent 44 m (addr % 2 ^ 32) false
    if m = (if s.activeMb then 9 else 8) then s.failover 3 else s) s

/-! ## Checkpoint banks (R448, Table 2) -/

/-- Sequence number, length and CRC-32 of a bank's commit block. -/
def State.commitOf (s : State) (b bank : Bool) : Nat × Nat × Nat :=
  let w0 := leValue (s.sramBytes b (commitAt bank) 8)
  (w0 / 2 ^ 32, w0 % 2 ^ 32, leValue (s.sramBytes b (commitAt bank + 8) 8) % 2 ^ 32)

/-- A commit is valid: its sequence is not 0, its length fits the bank, and its CRC-32 matches. -/
def State.commitOk (s : State) (b bank : Bool) : Bool :=
  let c := s.commitOf b bank
  c.1 != 0 && decide (c.2.1 ≤ 0x1FFC0) && (Config.crc32 (s.sramBytes b (bankBase bank) c.2.1)).toNat == c.2.2

/-- The bank that a pair resumes from: the valid one with the highest sequence. -/
def State.bankFor (s : State) (b : Bool) : Option Bool :=
  match s.commitOk b false, s.commitOk b true with
  | true, true => some (decide ((s.commitOf b false).1 < (s.commitOf b true).1))
  | true, false => some false
  | false, true => some true
  | false, false => none

/-- Steps 4 and 5 of Table 3: the new active pair starts at `RVEC`, from a committed bank if there is one. -/
def State.resumePair (s : State) (b : Bool) : State :=
  let s := s.modPair b (fun p => { p with resume := false, entry := some (16 * s.getF .glbMgtCtl GLB_MGT_CTL.RVEC) })
  match s.bankFor b with
  | some bank =>
    (s.sramFill b ckptArea (s.sramBytes b (bankBase bank) (s.commitOf b bank).2.1)).set1 .glbMgtSts GLB_MGT_STS.RESUMED
  | none => s.clr1 .glbMgtSts GLB_MGT_STS.RESUMED

def execFailoverResume (s : State) : Host.Outcome State Fault Refusal :=
  onDevice (fun s =>
    let b := s.activeMb
    if (s.pair b).resume ∧ s.domOn (if b then 161 else 160) then s.resumePair b else s) s

/-! ## `GLB_MGT_CTL` -/

/-- READY: of the standby, with which a start-up is over (step 10 of Table 3 of chapter 17); while no pair runs firmware, also of the pair that `ACTIVE` names (R454). -/
def State.readyCmd (s : State) (q : Requester) : State :=
  if isPair q = false then s
  else if s.isActive q then
    if s.nomgt then (s.clr1 .glbMgtSts GLB_MGT_STS.NOMGT).clr1 .glbMgtSts GLB_MGT_STS.RESUMED else s
  else { s.set1 .glbMgtSts GLB_MGT_STS.SBY_RDY with starting := none }

/-- A write to `GLB_MGT_CTL`. -/
def State.wrMgtCtl (s : State) (q : Requester) (v : Word64) : State :=
  let s := s.setF .glbMgtCtl GLB_MGT_CTL.RVEC (GLB_MGT_CTL.RVEC.get v)
  match GLB_MGT_CTL.CMD.get v with
  | 1 => s.readyCmd q
  | 2 => if s.isActive q ∧ s.sbyRdy then s.failover 4 else s
  | 3 => if s.isActive q then (s.pairReset (!(s.activeMb))).clr1 .glbMgtSts GLB_MGT_STS.SBY_RDY else s
  | 4 => if isPair q then s.irqEvent 339 else s
  | _ => s

/-- The word of a command that leaves `RVEC` as it is. -/
def State.mgtWord (s : State) (cmd : Nat) : Word64 := GLB_MGT_CTL.CMD.put cmd (s.rd .glbMgtCtl)

def execMgtReady (q : Requester) (s : State) : Host.Outcome State Fault Refusal :=
  onDevice (fun s => s.gate q .glbMgtCtl (fun s => s.wrMgtCtl q (s.mgtWord 1))) s
def execMgtFailover (q : Requester) (s : State) : Host.Outcome State Fault Refusal :=
  onDevice (fun s => s.gate q .glbMgtCtl (fun s => s.wrMgtCtl q (s.mgtWord 2))) s
def execMgtRebootStby (q : Requester) (s : State) : Host.Outcome State Fault Refusal :=
  onDevice (fun s => s.gate q .glbMgtCtl (fun s => s.wrMgtCtl q (s.mgtWord 3))) s
def execMgtPeerDb (q : Requester) (s : State) : Host.Outcome State Fault Refusal :=
  onDevice (fun s => s.gate q .glbMgtCtl (fun s => s.wrMgtCtl q (s.mgtWord 4))) s

/-! ## The watchdog (R444, R450) -/

/-- A command that only the active pair may give: of the standby it is an access violation, of anyone else it is ignored
(R444). -/
def State.activeOnly (s : State) (q : Requester) (r : Reg) (f : State → State) : State :=
  if s.isActive q then f s else if isPair q then s.violation q r.loc else s

/-- The watchdog's period in REF cycles. -/
def State.wdtPeriod (s : State) : Nat := 25000 * s.getF .glbMgtWdt GLB_MGT_WDT.TIMEOUT

/-- The watchdog starts anew: it runs unless `TIMEOUT` is 0. -/
def State.wdtStart (s : State) : State :=
  { s with wdt := if s.getF .glbMgtWdt GLB_MGT_WDT.TIMEOUT = 0 then none else some s.now }

/-- A write to `GLB_MGT_WDT` sets the period and restarts the watchdog. One with KICK of another requester than the active
pair is ignored (R444, log entry 77). -/
def State.wrMgtWdt (s : State) (q : Requester) (v : Word64) : State :=
  let put (s : State) : State := (s.setF .glbMgtWdt GLB_MGT_WDT.TIMEOUT (GLB_MGT_WDT.TIMEOUT.get v)).wdtStart
  if GLB_MGT_WDT.KICK.get v != 0 then s.activeOnly q .glbMgtWdt put else put s

/-- KICK alone: the word repeats the period in force, whose writing restarts nothing where KICK is refused. -/
def execWdtKick (q : Requester) (s : State) : Host.Outcome State Fault Refusal :=
  onDevice (fun s => s.gate q .glbMgtWdt (fun s => s.activeOnly q .glbMgtWdt State.wdtStart)) s

/-- The watchdog expires where `TIMEOUT` ms have passed since the last kick or write. -/
def execWatchdogExpiry (s : State) : Host.Outcome State Fault Refusal :=
  onDevice (fun s =>
    match s.wdt with
    | some t => if t + s.wdtPeriod ≤ s.now then { s with wdt := none }.failover 2 else s
    | none => s) s

/-! ## Checkpoints (R448) -/

/-- The bank that does not hold the newest commit: A while there is none. -/
def State.ckptBank (s : State) : Bool :=
  s.getF .glbMgtCkseq GLB_MGT_CKSEQ.SEQ != 0 && !(s.flag .glbMgtCkpt GLB_MGT_CKPT.BANK)

/-- The standby's domain is ON. -/
def State.stbyOn (s : State) : Bool := s.domOn (if s.activeMb then 160 else 161)

/-- GO: ignored while a checkpoint runs or with a length out of range; the standby's domain is woken if it is not ON. -/
def State.ckptStart (s : State) (len : Nat) : State :=
  if s.flag .glbMgtCkpt GLB_MGT_CKPT.BUSY ∨ len = 0 ∨ 2047 < len then s.set1 .glbMgtCkpt GLB_MGT_CKPT.IGN
  else
    let n := (s.getF .glbMgtCkseq GLB_MGT_CKSEQ.SEQ + 1) % 2 ^ 32
    let k : Ckpt := ⟨s.ckptBank, if n = 0 then 1 else n, 64 * len, false, s.now, []⟩
    let s := s.set1 .glbMgtCkpt GLB_MGT_CKPT.BUSY
    if s.stbyOn then s.ckptBegin k else { s with ckpt := some k }.wakeDom (if s.activeMb then 160 else 161) 5

/-- A write to `GLB_MGT_CKPT`; a GO in the cycle of a failover's trigger is discarded (R452). -/
def State.wrMgtCkpt (s : State) (q : Requester) (v : Word64) : State :=
  let s := s.plainWrite .glbMgtCkpt v
  if GLB_MGT_CKPT.GO.get v != 0 && !s.cycle.trig then
    s.activeOnly q .glbMgtCkpt (fun s => s.ckptStart (GLB_MGT_CKPT.LEN.get v)) else s

def execCkptGo (q : Requester) (len : Nat) (s : State) : Host.Outcome State Fault Refusal :=
  onDevice (fun s => s.gate q .glbMgtCkpt (fun s => s.wrMgtCkpt q (BitVec.ofNat 64 (2 ^ 31 + len % 4096)))) s

/-- Step 5: the commit block is written, with the CRC-32 of the bytes copied. -/
def State.ckptCommit (s : State) (k : Ckpt) : State :=
  let a := s.activeMb
  let d := s.sramBytes (!a) (bankBase k.bankB) k.bytes
  let s := s.sramFill (!a) (commitAt k.bankB) (leBytes 8 (k.seq * 2 ^ 32 + k.bytes) ++
    leBytes 8 (Config.crc32 d).toNat ++ List.replicate 48 0)
  let s := (s.setF .glbMgtCkseq GLB_MGT_CKSEQ.SEQ k.seq).setF .glbMgtCkpt GLB_MGT_CKPT.BANK k.bankB.toNat
  { s with ckpt := none }.clr1 .glbMgtCkpt GLB_MGT_CKPT.BUSY

/-- The commit write, after the copy. -/
def execCheckpointCommit (s : State) : Host.Outcome State Fault Refusal :=
  onDevice (fun s =>
    match s.ckpt with
    | some k => if k.begun then s.ckptCommit k else s
    | none => s) s

/-! ## Telemetry (R458) -/

/-- SNAP: the live bins are copied and zeroed. -/
def State.snapLat (s : State) : State :=
  { forN 16 (fun b s => s.setF (.tlmLat b) TLM_LAT.N (min (2 ^ 32 - 1) (s.liveOf b))) s with live := [] }

def State.wrTlmCtl (s : State) (v : Word64) : State := if TLM_CTL.CMD.get v = 1 then s.snapLat else s

def execTlmSnap (q : Requester) (s : State) : Host.Outcome State Fault Refusal :=
  onDevice (fun s => s.gate q .tlmCtl (fun s => s.wrTlmCtl (TLM_CTL.CMD.put 1 0))) s

/-! ## The firmware mailbox (R466, R128) -/

/-- A command of the firmware mailbox from the requester it is meant for; of anyone else an access violation. -/
def State.fwmbBit (s : State) (q : Requester) (v : Word64) (f : Fld) (host : Bool) (g : State → State) : State :=
  if f.get v = 0 then s
  else if (if host then s.isMgrFunc q else s.isActive q) then g s
  else s.violation q (Reg.loc .glbFwmbCsr)

def State.fwmbFire (s : State) : State :=
  if s.flag .glbFwmbCsr GLB_FWMB_CSR.IE then s.sliceIrq 0 (s.getF .glbFwmbCsr GLB_FWMB_CSR.VEC) else s

/-- A write to `GLB_FWMB_CSR`: acknowledgements before doorbells. -/
def State.wrFwmbCsr (s : State) (q : Requester) (v : Word64) : State :=
  let s := s.plainWrite .glbFwmbCsr v
  let s := s.fwmbBit q v GLB_FWMB_CSR.FACK false (fun s => s.clr1 .glbFwmbCsr GLB_FWMB_CSR.HBUSY)
  let s := s.fwmbBit q v GLB_FWMB_CSR.HACK true (fun s => s.clr1 .glbFwmbCsr GLB_FWMB_CSR.FFULL)
  let s := s.fwmbBit q v GLB_FWMB_CSR.HDB true (fun s =>
    if s.flag .glbFwmbCsr GLB_FWMB_CSR.HBUSY then s.set1 .glbFwmbCsr GLB_FWMB_CSR.HOVR
    else s.set1 .glbFwmbCsr GLB_FWMB_CSR.HBUSY)
  s.fwmbBit q v GLB_FWMB_CSR.FDB false (fun s =>
    if s.flag .glbFwmbCsr GLB_FWMB_CSR.FFULL then s else (s.set1 .glbFwmbCsr GLB_FWMB_CSR.FFULL).fwmbFire)

/-- The word that leaves `IE` and `VEC` as they are. -/
def State.fwmbWord (s : State) (f : Fld) : Word64 :=
  f.put 1 (GLB_FWMB_CSR.IE.put (s.getF .glbFwmbCsr GLB_FWMB_CSR.IE) (GLB_FWMB_CSR.VEC.put
    (s.getF .glbFwmbCsr GLB_FWMB_CSR.VEC) 0))

/-- Each side writes its own words alone; those of a message that waits are ignored, as in a slice's mailbox (R128, Table 9
of chapter 4). -/
def State.wrFwmbHost (s : State) (q : Requester) (k : Nat) (v : Word64) : State :=
  if s.isMgrFunc q && !(s.flag .glbFwmbCsr GLB_FWMB_CSR.HBUSY) then s.plainWrite (.fwmbHost k) v else s
def State.wrFwmbFw (s : State) (q : Requester) (k : Nat) (v : Word64) : State :=
  if s.isActive q && !(s.flag .glbFwmbCsr GLB_FWMB_CSR.FFULL) then s.plainWrite (.fwmbFw k) v else s

def execFwmbHdb (q : Requester) (s : State) : Host.Outcome State Fault Refusal :=
  onDevice (fun s => s.gate q .glbFwmbCsr (fun s => s.wrFwmbCsr q (s.fwmbWord GLB_FWMB_CSR.HDB))) s
def execFwmbHack (q : Requester) (s : State) : Host.Outcome State Fault Refusal :=
  onDevice (fun s => s.gate q .glbFwmbCsr (fun s => s.wrFwmbCsr q (s.fwmbWord GLB_FWMB_CSR.HACK))) s
def execFwmbFdb (q : Requester) (s : State) : Host.Outcome State Fault Refusal :=
  onDevice (fun s => s.gate q .glbFwmbCsr (fun s => s.wrFwmbCsr q (s.fwmbWord GLB_FWMB_CSR.FDB))) s
def execFwmbFack (q : Requester) (s : State) : Host.Outcome State Fault Refusal :=
  onDevice (fun s => s.gate q .glbFwmbCsr (fun s => s.wrFwmbCsr q (s.fwmbWord GLB_FWMB_CSR.FACK))) s

end Sys2Proof.Machine
end

