-- ==== Sys2Proof/Machine/Reset.lean ====
section
/-!
DEFINITION. Resets and start-up (chapter 17): supplies, RESET_N, the service button, the software warm reset, the
start-up sequence and the boot from NOR. A start-up runs at once when its reset ends: no command stands for its steps.
-/
namespace Sys2Proof.Machine

/-! ## What a reset returns to its reset values (R6, R19 to R21) -/

/-- The registers that a cold reset leaves: reset kind power-on. -/
def aonRegs : List Reg := [.plnClk, .glbRstSts, .glbSvc, .pwrWline, .pwrWvbus, .pwrWcompat]

/-- The register at an address is kept by a reset: a cold one, or with `warm` a warm one, which also leaves the registers
of reset kind cold. -/
def keepAddr (warm : Bool) (a : Nat) : Bool :=
  aonRegs.any (fun r => r.addr == a) ||
    (warm && (a == (Reg.fltHsts).addr || a == (Reg.fltHtotal).addr ||
      (decide ((Reg.fltHist 0).addr ≤ a) && decide (a < (Reg.fltHist 256).addr)) ||
      (decide ((Reg.tlmEcc 0).addr ≤ a) && decide (a < (Reg.tlmEcc 10).addr))))

/-- What a port's pins show is not reset: FLIP and OCI_N as synchronised. An indication that stays active is counted
anew, with the reset value of `FILTER`. -/
def Port.pins (p : Port) : Port := { Port.init with flip := p.flip, oc := ⟨p.oc.sample, p.oc.sample, false, 20⟩ }

/-- A GPIO input whose filter is at its reset setting follows the pin. -/
def Gpio.pins (g : Gpio) : Gpio := ⟨g.pin, g.pin, 0⟩

/-- Everything outside the always-on island at its reset value. -/
def State.coreReset (s : State) (warm : Bool) : State :=
  { ({ s with regs := s.regs.filter (fun q => keepAddr warm q.1) }).dropHalves (fun a => !(keepAddr warm a)) with
    eff := [], funcs := [], vecs := [], hps := [], atc := [], reqs := [], writes := [], tag := 0, invals := [],
    claimTimer := none, aside := [], unbind := [], releasing := [], resets := [], lb := [], attP := [], att := [], epaOps := [],
    epaCmd := none, sec := [], secOver := [], rings := [], ctxs := [], progs := [], ldCmd := none, engs := [], ready := [],
    stolen := [], staleSeen := 0, tokens := [], sems := [], eps := [], devs := [], ports := s.ports.mapVals Port.init (fun _ p => p.pins),
    resvP := [], resvE := [], resvF := [], resvG := [], deciding := [], board := [], hdrs := [], planners := [],
    sync := Sync.init, snapAt := none, flts := [], icPend := [], insA := [], insB := [],
    gpio := s.gpio.mapVals Gpio.init (fun _ g => g.pins), doms := [], avs := Avs.reset, preds := [], pairA := Pair.init,
    pairB := Pair.init, sramA := [], sramB := [], ckpt := none, starting := none, wdt := none, live := [], lats := [], mdmaQ := [], mdmaNew := (0, 0), mdmaFails := 0,
    mdmaRun := none, keys := [], seqs := [], stage := [], keyCmd := none, sealOps := [], restoring := none, adjs := [], adjCmd := none,
    jtag := .idcode, isolated := if warm then s.isolated else false }

/-- VDD_IO, which carries the output pins of the I/O ring, is below its threshold. -/
def State.ioDown (s : State) : Bool := decide (5 ∈ s.aon.badRails)

/-- PWREN and ALIVE go low; without VDD_IO they float (R475). -/
def State.pinsLow (s : State) : State :=
  let off (pin : Nat) (s : State) : State := if s.ioDown then s.emit (.floating pin) else s.drive pin false
  let s := forN 20 (fun n s => if (s.port n).pwren then off (pinPwren n) s else s) s
  if s.flag .fltAlive FLT_ALIVE.LEVEL then off pinAlive s else s

/-- An output of the device: PWREN[n], ALIVE, FSYNC_OUT, the transmitters of an upstream port, or any other. -/
inductive OutPin where
  | pwren (n : Nat)
  | alive
  | fsyncOut
  | pcieTx (p : Nat)
  | other
  deriving DecidableEq, Repr

/-- What stands at an output: a level, nothing, electrical idle, or what its unit drives. -/
inductive PinOut where
  | low
  | high
  | floating
  | electricalIdle
  | unit
  deriving DecidableEq, Repr

/-- The outputs while a cold reset is held, where the rails of a pin's domain decide first: VDD_IO, or VDD_PHY and VDDH_PHY
(R475); else the I/O ring's pins as they are driven, and floating with their segment off (R399). -/
def State.pinOut (s : State) (p : OutPin) : PinOut :=
  let rails := match p with
    | .pcieTx _ => [2, 3]
    | _ => [5]
  let level (b : Bool) : PinOut := if b then .high else .low
  if s.coldHeld then
    if rails.any (fun r => decide (r ∈ s.aon.badRails)) then .floating
    else match p with
      | .pcieTx _ => .electricalIdle
      | .other => .floating
      | _ => .low
  else match p with
    | .pwren n => if s.domSt 167 = dOff then .floating else level (s.port n).pwren
    | .alive => level (s.flag .fltAlive FLT_ALIVE.LEVEL)
    | .fsyncOut => if s.domSt 167 = dOff then .floating else .unit
    | _ => .unit

def State.toReset (s : State) (warm : Bool) : State := s.pinsLow.coreReset warm

/-! ## The start-up sequence (Table 3) -/

/-- The event of an extended RESET_N hold, when the fault unit leaves reset (R478). -/
def State.extReset (s : State) : State :=
  if s.aon.extDue then
    { s with aon := { s.aon with extDue := false } }.faultEvent 61 0 (s.getF .glbRstSts GLB_RST_STS.HOLD) false
  else s

/-- Steps 4 to 9 of Table 3, from a state of reset: the pairs' self-tests and the active pair (R444, R500), training on
every present upstream port with the claim timer (R94), the boot. -/
def State.startUp (s : State) (b : Boot) : State :=
  let s := s.extReset
  let s := (s.setF .glbBistSts GLB_BIST_STS.MA_OK b.maOk.toNat).setF .glbBistSts GLB_BIST_STS.MB_OK b.mbOk.toNat
  let s := s.setF .glbMgtSts GLB_MGT_STS.ACTIVE (!b.maOk).toNat
  let s := forN 4 (fun p s => if s.present p then s.setLte p true else s) s
  { s.bootRom [false, true] b with starting := some s.now }

/-- A cold start once nothing holds the cold reset: the straps are sampled first (R476). -/
def State.coldStart (s : State) (st : Straps) (b : Boot) : State :=
  if s.coldHeld then s else { s with aon := { s.aon with straps := st } }.startUp b

/-- A reset begins: its cause is recorded, unless a cold reset is held already. -/
def State.beginReset (s : State) (cause : Nat) : State :=
  if s.coldHeld then s else s.setF .glbRstSts GLB_RST_STS.CAUSE cause

/-! ## Supplies (R472, R473, R512, R519) -/

/-- VDD_AON rises through its threshold: everything is reset; `extAclk` says that 32 or more edges were counted on
ACLK_IN, `rails` and `pins` how the other supplies and the pins stand: where SVC_N is low as its filter takes the first level, the
button does nothing until it has been released (R480). -/
def execPowerOnReset (extAclk rails : Bool) (pins : Pins) (st : Straps) (b : Boot) (s : State) :
    Host.Outcome State Fault Refusal :=
  let bad := if rails then [] else List.range 6
  let a : Aon := { Aon.reset with extAclk := extAclk, railsGood := rails, badRails := bad, resetN := pins.resetN }
  let t := { (s.toReset false) with aon := a, regs := [], latches := [], staged := [] }
  let t := if pins.svc then t.set1 .glbSvc GLB_SVC.HELD else t
  .next { t.coldStart st b with pending := s.pending }

/-- VDD_AON is below its falling threshold: everything is held in reset (R512). -/
def execVddAonFail (s : State) : Host.Outcome State Fault Refusal :=
  onIsland (fun s =>
    let a : Aon := { Aon.reset with
      vddAon := false, railsGood := s.aon.railsGood, badRails := s.aon.badRails, resetN := s.aon.resetN }
    { (s.toReset false) with aon := a, regs := [], latches := [], staged := [] }) s

/-- A board rail falls below its threshold: a cold reset begins, with cause SUPPLY; the outputs that it feeds float. -/
def execRailPowerFail (rail : Nat) (s : State) : Host.Outcome State Fault Refusal :=
  onIsland (fun s =>
    let s := { s with aon := { s.aon with badRails := rail :: s.aon.badRails.filter (· != rail) } }
    if s.aon.railsGood then
      let s := (s.beginReset 5).toReset false
      { s with aon := { s.aon with railsGood := false } }
    else s) s

/-- The last board rail is good. -/
def execRailsGood (st : Straps) (b : Boot) (s : State) : Host.Outcome State Fault Refusal :=
  onIsland (fun s =>
    if s.aon.railsGood then s else { s with aon := { s.aon with railsGood := true, badRails := [] } }.coldStart st b) s

/-- An external ACLK stops: the island runs from its RC until the next power-on reset (R519). -/
def execAclkLoss (s : State) : Host.Outcome State Fault Refusal :=
  onIsland (fun s => { s with aon := { s.aon with extAclk := false } }) s

/-! ## RESET_N (R477 to R479) -/

def execResetNAssert (s : State) : Host.Outcome State Fault Refusal :=
  onIsland (fun s =>
    if s.aon.resetN then
      let s := (s.beginReset 1).toReset false
      { s with aon := { s.aon with resetN := false, resetLow := s.now + 1 } }
    else s) s

/-- A hold in ms, from ACLK cycles of 32,768 Hz. -/
def cyclesMs (cycles : Nat) : Nat := cycles * 1000 / 32768

/-- The rise after a hold of so many ACLK cycles: a press under way no longer counts (R480). -/
def execResetNRelease (hold : Nat) (st : Straps) (b : Boot) (s : State) : Host.Outcome State Fault Refusal :=
  onIsland (fun s =>
    if s.aon.resetN then s
    else
      let ext := decide (32768 < hold)
      let s := (s.setF .glbRstSts GLB_RST_STS.HOLD (min 0x3FFFFFF (cyclesMs hold))).setF .glbRstSts GLB_RST_STS.EXT ext.toNat
      { s with aon := { s.aon with resetN := true, svcArmed := false, extDue := ext } }.coldStart st b) s

/-! ## Warm reset (R484, R485) -/

/-- A warm reset with its cause: straps are kept, the start-up runs from step 4. -/
def State.warmReset (s : State) (cause : Nat) (b : Boot) : State :=
  ((s.setF .glbRstSts GLB_RST_STS.CAUSE cause).toReset true).startUp b

/-- A write to `GLB_RST_CTL`. -/
def State.wrRstCtl (s : State) (q : Requester) (v : Word64) (b : Boot) : State :=
  if GLB_RST_CTL.CMD.get v = 1 then
    if (s.isMgrFunc q ∧ s.claim = claimHost) ∨ (isPair q ∧ s.isActive q) then s.warmReset 4 b
    else s.violation q (Reg.loc .glbRstCtl)
  else s

def execGlbRstWarm (q : Requester) (b : Boot) (s : State) : Host.Outcome State Fault Refusal :=
  onDevice (fun s => s.gate q .glbRstCtl (fun s => s.wrRstCtl q (GLB_RST_CTL.CMD.put 1 0) b)) s

/-! ## The service button (R480 to R483) -/

/-- The filtered falling edge of SVC_N. -/
def execSvcPressStart (s : State) : Host.Outcome State Fault Refusal :=
  onIsland (fun s =>
    if s.flag .glbSvc GLB_SVC.HELD then s
    else
      let s := s.set1 .glbSvc GLB_SVC.HELD
      { s with aon := { s.aon with svcArmed := true, svcStuck := false } }) s

/-- A decision: `ACT`, `LEN`, and interrupt source 317 unless the interrupt controller is in reset. -/
def State.svcAct (s : State) (act cycles : Nat) : State :=
  let s := (s.setF .glbSvc GLB_SVC.ACT act).setF .glbSvc GLB_SVC.LEN (min 65535 (cyclesMs cycles))
  if s.coldHeld then s else s.irqEvent 317

/-- PORT_CYCLE: every path goes to OFF as with `PP` = 0, PWREN is deasserted (R482). -/
def State.portCycleStart (s : State) : State :=
  let s := { s with aon := { s.aon with portCycle := some s.now } }
  (forN 20 (fun n s => s.toOff n true) s).pwrAll

/-- A cold start or a warm reset runs: one is held, or the latest has not come to step 10 of Table 3, the standby's READY, nor
to its latest time, 200 ms (log entry 101). -/
def State.resetRuns (s : State) : Bool :=
  s.coldHeld || match s.starting with
    | some t => decide (s.now < t + 5000000)
    | none => false

/-- The ACLK cycle of a REF cycle, 32,768 Hz against 25 MHz; and RESET_N has passed low in this one (R479). -/
def aclkOf (t : Nat) : Nat := t * 32768 / 25000000
def State.resetLowNow (s : State) : Bool :=
  !(s.aon.resetN) && decide (s.aon.resetLow ≠ 0) && aclkOf (s.aon.resetLow - 1) == aclkOf s.now

/-- A decision at release (Table 2). While a reset runs, PORT_CYCLE and WARM are discarded (R483); COLD makes it a cold one,
and is discarded in the ACLK cycle in which RESET_N passes low (R479). -/
def State.svcDecide (s : State) (cycles : Nat) (st : Straps) (b : Boot) : State :=
  if cycles < 65536 then
    if s.resetRuns then s.svcAct 5 cycles else (s.svcAct 1 cycles).portCycleStart
  else if cycles ≤ 262144 then
    if s.resetRuns then s.svcAct 5 cycles else (s.svcAct 2 cycles).warmReset 3 b
  else if cycles ≤ 1966080 then
    let s := s.svcAct (if s.resetLowNow then 5 else 3) cycles
    if s.coldHeld then s else ((s.beginReset 2).toReset false).coldStart st b
  else s

/-- The filtered rising edge of SVC_N, after a press of so many ACLK cycles. A press that does not count, and the release
of one that was decided STUCK, decide nothing. -/
def execSvcPressDecide (cycles : Nat) (st : Straps) (b : Boot) (s : State) : Host.Outcome State Fault Refusal :=
  onIsland (fun s =>
    if s.flag .glbSvc GLB_SVC.HELD then
      let stuck := s.aon.svcStuck
      let s := (s.clr1 .glbSvc GLB_SVC.HELD).clr1 .glbSvc GLB_SVC.STUCK
      let armed := s.aon.svcArmed
      let s := { s with aon := { s.aon with svcArmed := false, svcStuck := false } }
      if armed && !stuck then s.svcDecide cycles st b else s
    else s) s

/-- The press passes 60 s: `STUCK`, and an event of SVC_STUCK unless the fault unit is in reset; discarded in the ACLK cycle
in which RESET_N passes low (R479). -/
def execSvcStuckDecision (s : State) : Host.Outcome State Fault Refusal :=
  onIsland (fun s =>
    if s.flag .glbSvc GLB_SVC.HELD ∧ s.aon.svcArmed ∧ s.aon.svcStuck = false then
      let s := { s with aon := { s.aon with svcStuck := true } }
      if s.resetLowNow then s.svcAct 5 1966080
      else
      let s := (s.set1 .glbSvc GLB_SVC.STUCK).svcAct 4 1966080
      if s.coldHeld then s else s.faultEvent 60 0 0 false
    else s) s

/-- 1 s after the last PORT_CYCLE: `PP` acts again as stored. -/
def execPortCycleEnd (s : State) : Host.Outcome State Fault Refusal :=
  onIsland (fun s =>
    match s.aon.portCycle with
    | some t =>
      if t + 25000000 ≤ s.now then
        let s := { s with aon := { s.aon with portCycle := none } }
        if s.coldHeld then s else s.pwrAll
      else s
    | none => s) s

end Sys2Proof.Machine
end

