-- ==== Sys2Proof/Machine/Test.lean ====
section
/-!
DEFINITION. Loopbacks, self-test and JTAG (chapter 18). When a checker locks or loses lock, what it has counted, and how a
self-test ends, is said by commands. Test modes of `PORT_CTL.TEST` stand in Machine/Ports.lean.
-/
namespace Sys2Proof.Machine

/-! ## Root-port loopbacks (R491 to R495) -/

/-- A field of a START word holds a reserved value, or `DEPTH` is 5 (R494). -/
def tstReserved (v : Word64) : Bool :=
  let d := PORT_TST_CTL.DEPTH.get v
  d == 0 || decide (5 ≤ d) || decide (4 ≤ PORT_TST_CTL.PAT.get v) || PORT_TST_CTL.LANES.get v == 3 ||
    decide (2 ≤ PORT_TST_CTL.RATE.get v)

/-- Why a START is refused, 0 where it is not: the first cause of R494's list. -/
def State.tstRefusal (s : State) (n : Nat) (v : Word64) : Nat :=
  let ss := PORT_TST_CTL.PATH.get v != 0
  if s.pathSt n false ≠ pOff ∨ s.pathSt n true ≠ pOff ∨ (s.mates n).any (fun k => (s.port k).pwren) then 1
  else if s.domOn (80 + n) = false ∨ (ss = false ∧ s.domOn (116 + n) = false) ∨
      (ss = true ∧ n < 16 ∧ s.domOn (100 + n) = false) then 2
  else if tstReserved v then 3
  else if ss = true ∧ 16 ≤ n then 4
  else if s.flag (.portTstSts n) PORT_TST_STS.RUN then 5
  else 0

/-- START: the counters and the lock-lost flag are cleared (R493). -/
def State.tstStart (s : State) (n : Nat) (v : Word64) : State :=
  let k := s.tstRefusal n v
  if k ≠ 0 then (s.set1 (.portTstSts n) PORT_TST_STS.REJ).setF (.portTstSts n) PORT_TST_STS.RCODE k
  else
    let s := (s.wr (.portTstBits n) 0).wr (.portTstErrs n) 0
    ((s.clr1 (.portTstSts n) PORT_TST_STS.LOST).clr1 (.portTstSts n) PORT_TST_STS.LOCK).set1 (.portTstSts n) PORT_TST_STS.RUN

/-- A write to `PORT_TST_CTL`; `halt` is what STOP does. -/
def State.wrTstCtl (s : State) (n : Nat) (v : Word64) (halt : State → State) : State :=
  let s := s.plainWrite (.portTstCtl n) v
  let s := if PORT_TST_CTL.STOP.get v != 0 then halt s else s
  if PORT_TST_CTL.START.get v != 0 then s.tstStart n v else s

/-- Bits compared and mismatches since the checker locked are added to saturating counters (R492, R493). -/
def State.tstCount (s : State) (bits errs : Reg) (b e : Nat) : State :=
  let w := if errs.wide then 64 else 32
  (s.satF bits ⟨63, 0⟩ b).satF errs ⟨w - 1, 0⟩ e

/-- The generator stops, with the counts since the checker locked. -/
def State.tstStop (s : State) (n b e : Nat) : State :=
  if s.flag (.portTstSts n) PORT_TST_STS.RUN then
    let s := if s.flag (.portTstSts n) PORT_TST_STS.LOCK then s.tstCount (.portTstBits n) (.portTstErrs n) b e else s
    (s.clr1 (.portTstSts n) PORT_TST_STS.RUN).clr1 (.portTstSts n) PORT_TST_STS.LOCK
  else s

def execPortTstStart (q : Requester) (n : Nat) (v : Word32) (s : State) : Host.Outcome State Fault Refusal :=
  onDevice (fun s => s.gate q (.portTstCtl n) (fun s =>
    s.wrTstCtl n (PORT_TST_CTL.STOP.put 0 (PORT_TST_CTL.START.put 1 (v.setWidth 64))) id)) s

/-- STOP; the other fields of the register are written as they stand. -/
def execPortTstStop (q : Requester) (n bits errs : Nat) (s : State) : Host.Outcome State Fault Refusal :=
  onDevice (fun s => s.gate q (.portTstCtl n) (fun s =>
    s.wrTstCtl n (PORT_TST_CTL.START.put 0 (PORT_TST_CTL.STOP.put 1 (s.rd (.portTstCtl n))))
      (fun s => s.tstStop n bits errs))) s

/-- The checker of a root port works: in a loopback, or with the SuperSpeed path as loopback master (R496). -/
def State.tstChecks (s : State) (n : Nat) : Bool :=
  s.flag (.portTstSts n) PORT_TST_STS.RUN ||
    (s.pathSt n true == pTest && s.getF (.portLink n) PORT_LINK.SLSTATE == testLink 6)

/-! ## Upstream-port loopbacks (R498) -/

/-- A START is accepted: depths 1, 2 and 4 with training off, depth 5 in L0; one depth at a time. Reserved values of `PAT`
are refused (log entry 66); those of `RATE` act as 5. -/
def State.hpTstOk (s : State) (p : Nat) (v : Word64) : Bool :=
  let d := GLB_HP_TST.DEPTH.get v
  let l := s.getF (.glbHpSts p) GLB_HP_STS.LTSSM
  !(s.flag (.glbHpTst p) GLB_HP_TST.RUN) && decide (GLB_HP_TST.PAT.get v < 4) &&
    (((d == 1 || d == 2 || d == 4) && !(s.lte p) && (l == ltDisabled || l == ltDetect)) || (d == 5 && l == ltL0))

/-- START; depth 5 takes the port into Loopback as lead, a port function reset (R97). -/
def State.hpTstStart (s : State) (p : Nat) (v : Word64) : State :=
  if s.hpTstOk p v then
    let s := (s.wr (.glbHpTbits p) 0).wr (.glbHpTerr p) 0
    let s := ((s.clr1 (.glbHpTst p) GLB_HP_TST.LOST).clr1 (.glbHpTst p) GLB_HP_TST.LOCK).set1 (.glbHpTst p) GLB_HP_TST.RUN
    if GLB_HP_TST.DEPTH.get v = 5 then s.portFunctionReset p ltLoopback else s
  else s.set1 (.glbHpTst p) GLB_HP_TST.REJ

/-- STOP, with the counts since the checker locked; depth 5 ends through Loopback.Exit, and the port trains again while
`LTE` = 1. -/
def State.hpTstStop (s : State) (p : Nat) (count : State → State) : State :=
  if s.flag (.glbHpTst p) GLB_HP_TST.RUN then
    let s := if s.flag (.glbHpTst p) GLB_HP_TST.LOCK then count s else s
    let s := (s.clr1 (.glbHpTst p) GLB_HP_TST.RUN).clr1 (.glbHpTst p) GLB_HP_TST.LOCK
    if s.getF (.glbHpSts p) GLB_HP_STS.LTSSM = ltLoopback then
      (s.setF (.glbHpSts p) GLB_HP_STS.LTSSM ltDetect).takeSris p
    else s
  else s

/-- A write to `GLB_HPp_TST`. -/
def State.wrHpTst (s : State) (p : Nat) (v : Word64) (count : State → State) : State :=
  if s.present p then
    let s := if GLB_HP_TST.STOP.get v != 0 then s.hpTstStop p count else s
    let s := s.plainWrite (.glbHpTst p) v
    if GLB_HP_TST.START.get v != 0 then s.hpTstStart p v else s
  else s

/-- Counts that are open: a STOP that gives none. -/
def State.openCounts (s : State) (bits errs : Reg) : State :=
  ((s.setF bits ⟨63, 0⟩ s.fresh.toNat).next.setF errs ⟨if errs.wide then 63 else 31, 0⟩ s.next.fresh.toNat).next

def execHpTstStart (q : Requester) (p : Nat) (v : Word32) (s : State) : Host.Outcome State Fault Refusal :=
  onDevice (fun s => s.gate q (.glbHpTst p) (fun s =>
    s.wrHpTst p (GLB_HP_TST.STOP.put 0 (GLB_HP_TST.START.put 1 (v.setWidth 64))) id)) s

def execHpTstStop (q : Requester) (p bits errs : Nat) (s : State) : Host.Outcome State Fault Refusal :=
  onDevice (fun s => s.gate q (.glbHpTst p) (fun s =>
    s.wrHpTst p (GLB_HP_TST.LOST.put 0 (GLB_HP_TST.REJ.put 0 (GLB_HP_TST.START.put 0
      (GLB_HP_TST.STOP.put 1 (s.rd (.glbHpTst p))))))
      (fun s => s.tstCount (.glbHpTbits p) (.glbHpTerr p) bits errs))) s

/-! ## The checkers (R492) -/

/-- 64 matching bits: the checker of a root port, or of an upstream port (`up`), locks. -/
def execLoopbackLock (up : Bool) (n : Nat) (s : State) : Host.Outcome State Fault Refusal :=
  onDevice (fun s =>
    if up then (if s.flag (.glbHpTst n) GLB_HP_TST.RUN then s.set1 (.glbHpTst n) GLB_HP_TST.LOCK else s)
    else if s.tstChecks n then s.set1 (.portTstSts n) PORT_TST_STS.LOCK else s) s

/-- 32 errors within 1,024 bits: lock is lost, with the counts since the checker locked. -/
def execLoopbackLockLost (up : Bool) (n bits errs : Nat) (s : State) : Host.Outcome State Fault Refusal :=
  onDevice (fun s =>
    if up then
      if s.flag (.glbHpTst n) GLB_HP_TST.LOCK then
        ((s.tstCount (.glbHpTbits n) (.glbHpTerr n) bits errs).clr1 (.glbHpTst n) GLB_HP_TST.LOCK).set1 (.glbHpTst n)
          GLB_HP_TST.LOST
      else s
    else if s.flag (.portTstSts n) PORT_TST_STS.LOCK then
      ((s.tstCount (.portTstBits n) (.portTstErrs n) bits errs).clr1 (.portTstSts n) PORT_TST_STS.LOCK).set1 (.portTstSts n)
        PORT_TST_STS.LOST
    else s) s

/-! ## Self-test (R501) -/

/-- START for the domain written: refused unless it is OFF. -/
def State.bistStart (s : State) (d : Nat) : State :=
  if s.flag .glbBistSts GLB_BIST_STS.BUSY then s
  else if 168 ≤ d ∨ d = 164 ∨ d = 165 ∨ s.getF (.pwrSts d) PWR_STS.STATE ≠ 4 then
    s.setF .glbBistSts GLB_BIST_STS.RESULT 4
  else
    ((s.set1 .glbBistSts GLB_BIST_STS.BUSY).setF .glbBistSts GLB_BIST_STS.RESULT 0).setF .glbBistSts GLB_BIST_STS.DOMAIN d

def State.wrBistCtl (s : State) (v : Word64) : State :=
  let s := s.plainWrite .glbBistCtl v
  if GLB_BIST_CTL.START.get v != 0 then s.bistStart (GLB_BIST_CTL.DOMAIN.get v) else s

def execBistStart (q : Requester) (d : Nat) (s : State) : Host.Outcome State Fault Refusal :=
  onDevice (fun s => s.gate q .glbBistCtl (fun s => s.wrBistCtl (BitVec.ofNat 64 (2 ^ 31 + d % 256)))) s

/-- The test ends: it passes, or fails at a word offset (0xFFFF_FFFF for the logic). The domain stays OFF. -/
def execBistDone (fail : Option Nat) (s : State) : Host.Outcome State Fault Refusal :=
  onDevice (fun s =>
    if s.flag .glbBistSts GLB_BIST_STS.BUSY then
      let s := s.clr1 .glbBistSts GLB_BIST_STS.BUSY
      match fail with
      | none => s.setF .glbBistSts GLB_BIST_STS.RESULT 1
      | some a => (s.setF .glbBistSts GLB_BIST_STS.RESULT 2).setF .glbBistFail GLB_BIST_FAIL.ADDR a
    else s) s

/-! ## JTAG (R502, R503) -/

/-- The instruction in force: fuses turn the scan instructions and MEMAP into BYPASS, as any other code is. -/
def jtagActs (i : JtagCode) : JtagCode :=
  match i with
  | .scan => if Config.tlock = 1 then .bypass else .scan
  | .memap => if Config.dlock = 1 then .bypass else .memap
  | .other _ => .bypass
  | i => i

/-- IDCODE: revision, part, manufacturer, 1 (R502). -/
def idcode : Word32 :=
  BitVec.ofNat 32 (Config.revision.toNat * 2 ^ 28 + 0x7120 * 2 ^ 12 + Config.jtagMaker.toNat * 2 + 1)

/-- The port is available while its domain is on; EXTEST isolates the core from the pins until a cold reset. -/
def execJtagInstruction (i : JtagCode) (s : State) : Host.Outcome State Fault Refusal :=
  onDevice (fun s =>
    if s.domLive 166 then
      let s := { s.traffic 166 with jtag := jtagActs i, isolated := s.isolated || jtagActs i == .extest }
      if jtagActs i = .idcode then s.emit (.idcode idcode) else s
    else s) s

end Sys2Proof.Machine
end

