-- ==== Sys2Proof/Machine/RegFile.lean ====
section
/-!
DEFINITION. The register spaces (chapters 0 and 19): what every register reads as, what a write to it does, and the
accesses that carry reads and writes: 32-bit accesses, halves of 64-bit registers, 64-bit writes, narrow writes.
-/
namespace Sys2Proof.Machine

/-- One bit as a field value. -/
def bitN (b : Bool) : Nat := b.toNat

/-- Bits 0 to n − 1 from a predicate. -/
def bitsN (n : Nat) (p : Nat → Bool) : Nat := ((List.range n).map (fun j => (p j).toNat * 2 ^ j)).sum

/-- A value from fields. -/
def ofFields (l : List (Fld × Nat)) : Word64 := l.foldl (fun v p => p.1.put p.2 v) 0

/-- Fields laid over a stored value. -/
def overFields (v : Word64) (l : List (Fld × Nat)) : Word64 := l.foldl (fun v p => p.1.put p.2 v) v

/-! ## Registers that show other state -/

/-- `SLC_UENG` to `SLC_UEP`: the slice's use; `MAXPRI`, `SEN` and `SSLOT` read 0 (R108). -/
def State.useEng (s : State) (i : Nat) : Word64 :=
  ofFields [(SLC_UENG.TE, s.occupied i), (SLC_UENG.RINGS, s.ringUse i), (SLC_UENG.LIB, s.libUse i)]
def State.useMem (s : State) (i : Nat) : Word64 :=
  ofFields [(SLC_UMEM.CTX, s.capUse 0 i), (SLC_UMEM.LB, ceilDiv (s.capUse 1 i) 64)]
def State.usePer (s : State) (i : Nat) : Word64 := ofFields [(SLC_UPER.PER, s.periodUse i)]
def State.useEp (s : State) (i : Nat) : Word64 := ofFields [(SLC_UEP.HANDLES, s.handleUse i)]

/-- `EPV_RESULT` of a handle (R119). -/
def State.epvResult (s : State) (i h : Nat) : Word64 :=
  let a := s.attCfg i h
  if a.live then
    let e := s.epInfo a.ep
    ofFields [(EPV_RESULT.ASSIGNED, 1), (EPV_RESULT.DETACHED, bitN a.detached), (EPV_RESULT.MODE, a.mode),
      (EPV_RESULT.GSAFE_M, bitN a.gsafeM), (EPV_RESULT.GSAFE_S, bitN (s.atE (hKey i h)).gsafeS),
      (EPV_RESULT.SECOK, bitN a.secok),
      (EPV_RESULT.SECURE, bitN (match s.secOf a.ep with
        | some k => k / 65536 == i
        | none => false)),
      (EPV_RESULT.SECOTHER, bitN (match s.secOf a.ep with
        | some k => k / 65536 != i
        | none => false)),
      (EPV_RESULT.DIRTY, bitN (e.dirty && a.mode == 2)), (EPV_RESULT.TYPE, e.typ),
      (EPV_RESULT.DIR, bitN (e.dirIn && e.typ != 0)), (EPV_RESULT.FOLOST, (s.atE (hKey i h)).folost),
      (EPV_RESULT.DEVICE, if e.dev < 65536 then e.dev else 0)]
  else 0

/-- `SL_ID`: 0 until the binding is effective (R509). -/
def State.slId (s : State) (i : Nat) : Word64 :=
  if s.flag (.slcCsr i) SLC_CSR.ACTIVE then
    ofFields [(SL_ID.SLICE, i), (SL_ID.PORT, s.slPort i), (SL_ID.FUNC, s.slFunc i), (SL_ID.SLOT, s.slSlot i),
      (SL_ID.PEN, bitN (s.flag (.slcBind i) SLC_BIND.PEN))]
  else 0

/-- `DSP_CLk_STS`. -/
def State.clSts (s : State) (k : Nat) : Word64 :=
  let top := (List.range 8).foldl (fun t lv => if (s.rlist (k * 8 + lv)).any s.eligible then lv else t) 0
  ofFields [(DSP_CL_STS.ON, ((List.range 8).filter (fun e => s.engOn (8 * k + e))).length),
    (DSP_CL_STS.BUSY, ((List.range 8).filter (fun e => (s.eng (8 * k + e)).hold.isSome)).length),
    (DSP_CL_STS.TOPLVL, top), (DSP_CL_STS.RDY, bitN (s.eligibleN k != 0)),
    (DSP_CL_STS.READY, ((List.range 8).map (fun lv => (s.rlist (k * 8 + lv)).length)).sum)]

/-- `SEM_STi`. -/
def State.semSt (s : State) (i : Nat) : Word64 :=
  let m := s.sem i
  ofFields [(SEM_ST.HELD, bitN m.owner.isSome), (SEM_ST.ABN, bitN m.abn), (SEM_ST.WAITERS, min 63 m.queue.length),
    (SEM_ST.SLICE, match m.owner with
      | some c => (s.ctx c).slice
      | none => 0),
    (SEM_ST.CTX, m.owner.getD 0)]

/-- The line that `PLN_BRD_SEL` selects, if it is one of the Board's (R278). -/
def State.brdLine (s : State) : List (Word64 × Nat) :=
  let f := s.getF .plnBrdSel PLN_BRD_SEL.FILE
  let l := s.getF .plnBrdSel PLN_BRD_SEL.LINE
  if 20 ≤ f ∨ l = 3 ∨ (l ≠ 0 ∧ 16 ≤ f) ∨ s.pairOn (f / 5) = false then [] else s.bline (lineKey (s.getF .plnBrdSel PLN_BRD_SEL.SLOT) f l)

def State.brdHdr (s : State) : Word64 :=
  let f := s.getF .plnBrdSel PLN_BRD_SEL.FILE
  let h := if f < 20 ∧ s.pairOn (f / 5) then s.hdr (hdrKey (s.getF .plnBrdSel PLN_BRD_SEL.SLOT) (f / 5)) else BoardHdr.empty
  ofFields [(PLN_BRD_HDR.VALID, bitN h.valid), (PLN_BRD_HDR.REPLAY, bitN h.replay), (PLN_BRD_HDR.UNCHK, bitN h.unchk),
    (PLN_BRD_HDR.COUNT, s.brdLine.length), (PLN_BRD_HDR.MF, h.mf)]

/-- `IC_SRCi`: sources that do not exist read 0. -/
def State.icSrcVal (s : State) (i : Nat) : Word64 :=
  if irqExists i then
    overFields (s.rd (.icSrc i)) [(IC_SRC.INSVA, bitN (s.inService false i)), (IC_SRC.INSVB, bitN (s.inService true i)),
      (IC_SRC.PEND, bitN (s.irqPend i))]
  else 0

/-- `IC_STSt.RUNPRI`: 0xF with nothing in service. -/
def State.runPri (s : State) (b : Bool) : Nat := if s.running b = 0 then 15 else s.running b - 1

/-- The landing-buffer and pool figures of `PORT_GPOOL` and `PORT_GPOOL_HELD`. -/
def State.gpoolHeld (s : State) : Word64 :=
  ofFields [(PORT_GPOOL_HELD.ORPH, s.eps.countP (fun q => !(q.2.orph.isEmpty))),
    (PORT_GPOOL_HELD.DETH, s.eps.countP (fun q => !(q.2.orph.isEmpty) && (s.dev q.2.dev).detached))]

/-- The link of port `p` is in ASPM L1 as far as a requester can see: it is in L0 with L1 enabled in PF0, nothing of the
block's is on its way, and the requester is no function of the port, whose request would have brought it to L0 (R77;
DESIGN CHOICE, log entry 78). -/
def State.inL1 (s : State) (q : Requester) (p : Nat) : Bool :=
  s.dlUp p && decide (s.getF (.glbHpSts p) GLB_HP_STS.LTSSM = ltL0) && (s.func (fKey p 0)).aspmL1 &&
    s.reqs.all (fun r => s.slPort r.slice != p) && s.writes.all (fun w => s.slPort w.slice != p) &&
    match q with
    | .func x _ => x != p
    | _ => true

/-- Absent upstream ports hold no register that does anything (R72). -/
def Reg.hpOf : Reg → Option Nat
  | .glbHpCtl p => some p
  | .glbHpSts p => some p
  | .glbHpTst p => some p
  | .glbHpTbits p => some p
  | .glbHpTerr p => some p
  | .glbHpTword p => some p
  | _ => none

/-- The register exists with the straps as they are (R72), and for the ports that have it. -/
def State.regExists (s : State) (r : Reg) : Bool :=
  match r.hpOf with
  | some p => s.present p
  | none => match r with
    | .pwrLppol n 1 => n < 16
    | .pwrLpst n 1 => n < 16
    | .pwrLpcnt n 1 => n < 16
    | .pwrLpex n => n < 16
    | .mbxOut i _ => i != 0
    | .mbxIn i _ => i != 0
    | .mbxCsr i => i != 0
    | .mbxSCsr i => i != 0
    | .fltSts i => i != 63
    | _ => true

/-- What a register reads as for a requester; counters that run while a checker is locked, and uses that the spec does not
state, are open. -/
def State.regVal (s : State) (q : Requester) (r : Reg) : Word64 :=
  let v := s.rd r
  match r with
  | .portTstBits n => if s.flag (.portTstSts n) PORT_TST_STS.LOCK then s.openAt r.addr else v
  | .portTstErrs n => if s.flag (.portTstSts n) PORT_TST_STS.LOCK then s.openAt r.addr else v
  | .glbHpTbits p => if s.flag (.glbHpTst p) GLB_HP_TST.LOCK then s.openAt r.addr else v
  | .glbHpTerr p => if s.flag (.glbHpTst p) GLB_HP_TST.LOCK then ((s.openAt r.addr).lo).setWidth 64 else v
  | .glbHpCfg => ofFields [(GLB_HP_CFG.MGR_PORT, s.mgrPort), (GLB_HP_CFG.PRESENT, bitsN 4 s.present),
      (GLB_HP_CFG.LINK_CFG, s.aon.straps.linkCfg), (GLB_HP_CFG.MGR_SEL, s.aon.straps.mgrSel)]
  | .glbHpSts p => if s.inL1 q p then GLB_HP_STS.LTSSM.put ltL1 v else v
  | .slcBind i => if i = 0 then SLC_BIND.PORT.put s.mgrPort v else v
  | .slcCsr i => SLC_CSR.DRAIN.put (bitN (s.drain i)) v
  | .slCsr i => ofFields [(SL_CSR.DRAIN, bitN (s.drain i)), (SL_CSR.RSTB, bitN (s.inReset i)),
      (SL_CSR.FENCED, bitN (s.fenced i)), (SL_CSR.FCAUSE, s.getF (.slcCsr i) SLC_CSR.FCAUSE)]
  | .slId i => s.slId i
  | .slcUeng i => s.useEng i
  | .slcUmem i => s.useMem i
  | .slcUper i => s.usePer i
  | .slcUep i => s.useEp i
  | .epvCsr i => EPV_CSR.HANDLE.put (s.getF (epvSel q i) EPV_CSR.HANDLE) v
  | .epvResult i => s.epvResult i (s.getF (epvSel q i) EPV_CSR.HANDLE)
  | .mbxSCsr i => ofFields [(MBX_S_CSR.OUT_BUSY, s.getF (.mbxCsr i) MBX_CSR.OUT_BUSY),
      (MBX_S_CSR.IN_FULL, s.getF (.mbxCsr i) MBX_CSR.IN_FULL)]
  | .mbxPend k => BitVec.ofNat 64 (bitsN 32 (fun j => k + j != 0 && s.flag (.mbxCsr (32 * k + j)) MBX_CSR.OUT_BUSY))
  | .dspClSts k => s.clSts k
  | .semSt i => s.semSt i
  | .plnClk => BitVec.ofNat 64 s.aon.clockCount
  | .plnSts => overFields v ((List.range 4).map (fun j => (PLN_STS.OFF j, bitN (!(s.domOn (140 + j))))))
  | .plnBrdHdr => s.brdHdr
  | .boardWin x => (s.brdLine.getD x (0, 0)).1
  | .portPrfSts n => overFields v [(PORT_PRF_STS.PKTS, (s.port n).fifo.pkts), (PORT_PRF_STS.OCC, (s.port n).fifo.occ),
      (PORT_PRF_STS.CLS, bitsN 4 (fun k => (s.port n).fifo.items.any (fun x => x.whole && x.cls == k)))]
  | .portGpool => PORT_GPOOL.USED.put (ceilDiv s.poolUsed 4096) v
  | .portGpoolHeld => s.gpoolHeld
  | .mdmaRunq => ofFields [(MDMA_RUNQ.ACT, bitN s.mdmaRun.isSome), (MDMA_RUNQ.QUEUED, bitsN 8 (fun c => decide (c ∈ s.mdmaQ))),
      (MDMA_RUNQ.CHAN, match s.mdmaRun with
        | some x => x.ch
        | none => 0)]
  | .sealSlot k => SEAL_SLOT.OPS.put (min 8 ((s.sealOps.filter (fun o => o.holds k)).length +
      (s.reportSeals.filter (fun o => o.slot == k)).length)) v
  | .sealAdjSts => SEAL_ADJ_STS.STATE.put (s.adj (s.getF .sealAdjCtl SEAL_ADJ_CTL.SLICE)).state v
  | .icSrc i => s.icSrcVal i
  | .icPend k => BitVec.ofNat 64 (bitsN 32 (fun j => irqExists (32 * k + j) && s.irqPend (32 * k + j)))
  | .icClaimed t => IC_CLAIMED.DEPTH.put ((s.serving (t == 1)).length) v
  | .icSts t => IC_STS.RUNPRI.put (s.runPri (t == 1)) v
  | .fltSts i => FLT_STS.HOUR.put (min 15 (s.fltHour i)) v
  | .fltHold => FLT_HOLD.PORTS.put (bitsN 20 (fun n => !((s.port n).holds.isEmpty))) v
  | .fltAlive => FLT_ALIVE.STOPPED.put (bitN s.aliveStopped) v
  | .fltSevere => BitVec.ofNat 64 (bitsN 64 (fun i => s.fltState i == 2))
  | .fltLatched => BitVec.ofNat 64 (bitsN 64 (fun i => s.fltState i == 3))
  | .glbBootSts => GLB_BOOT_STS.SRC.put s.aon.straps.bootSrc v
  | .portDefr n => if 16 ≤ n then PORT_DEFR.SS.put 0 v else v
  | _ => v

/-- The value that a read returns: 0 where there is no register, or its domain is not ON; the saved copy's where there is one
(R9, R391). -/
def State.regRead (s : State) (q : Requester) (r : Reg) : Word64 :=
  if s.regExists r && s.regLive r then
    match s.savedCopy r with
    | some v => v
    | none => s.regVal q r
  else 0

/-! ## The map -/

/-- The Library window (R174): the word at an offset: of the image, header first (R168); open in a block that no program
holds, and behind the image in its last block (log entry 3). -/
def State.libWord (s : State) (off : Nat) : Word32 :=
  let b := off / 1024
  match s.progs.find? (fun p => decide (b ∈ p.2.blocks)) with
  | some p => match (p.2.head ++ p.2.words)[(p.2.blocks.idxOf b) * 256 + off % 1024 / 4]? with
    | some w => w
    | none => (s.openAt (0x1000000 + off / 4 * 4)).lo
  | none => (s.openAt (0x1000000 + off / 4 * 4)).lo

/-- The offset lies in the Library window. -/
def inLibrary (l : Loc) : Bool :=
  match l with
  | .mgr a => 0x1000000 ≤ a ∧ a < 0x1100000
  | _ => false

/-- The register that starts at a location. -/
def regAt : Loc → Option Reg
  | .mgr a => Reg.ofMgr a
  | .page i a => Reg.ofPage i a
  | .mem _ => none

/-- A location some bytes further, and down to the dword. -/
def locPlus : Loc → Nat → Loc
  | .mgr a, n => .mgr (a + n)
  | .page i a, n => .page i (a + n)
  | .mem a, n => .mem (a + n)
def locDown : Loc → Nat → Loc
  | .mgr a, n => .mgr (a - n)
  | .page i a, n => .page i (a - n)
  | .mem a, n => .mem (a - n)
def locOff : Loc → Nat
  | .mgr a => a
  | .page _ a => a
  | .mem a => a

/-- What stands at a dword: a 32-bit register, the low half of a 64-bit one, the high half, or nothing. -/
inductive RegCell where
  | word (r : Reg)
  | low (r : Reg)
  | high (r : Reg)
  | none
  deriving DecidableEq, Repr

def cellAt (l : Loc) : RegCell :=
  match regAt l with
  | some r => if r.wide then .low r else .word r
  | none =>
    if 4 ≤ locOff l then
      match regAt (locDown l 4) with
      | some r => if r.wide then .high r else .none
      | none => .none
    else .none

/-! ## Requesters of latches (R14) -/

/-- A requester as a number; a function by its port and requester ID. -/
def State.reqNum (s : State) : Requester → Nat
  | .func p fn => p * 65536 + (s.func (fKey p fn)).bus * 256 + fn
  | .ma => 2 ^ 20
  | .mb => 2 ^ 20 + 1
  | .dma ch => 2 ^ 20 + 2 + ch
  | .jtag => 2 ^ 20 + 64

/-- The key of a requester's latch and staged half of a register. -/
def State.halfKey (s : State) (q : Requester) (r : Reg) : Nat := s.reqNum q * 2 ^ 34 + r.addr

/-! ## Reads (R9, R13 to R17) -/

/-- A slice page that holds no slice reads 0 (R81, R446). -/
def State.pageEmpty (s : State) : Loc → Bool
  | .page i _ => !(s.flag (.slcCsr i) SLC_CSR.ACTIVE)
  | _ => false

/-- The live value of a dword. -/
def State.dword (s : State) (q : Requester) (l : Loc) : Word32 :=
  if s.pageEmpty l then 0
  else if inLibrary l then s.libWord (locOff l - 0x1000000)
  else match cellAt l with
    | .word r => (s.regRead q r).lo
    | .low r => (s.regRead q r).lo
    | .high r => (s.regRead q r).hi
    | .none => 0

/-- An aligned 32-bit read: of a low half it loads the requester's latch, of a high half it returns a valid latch. -/
def State.read32 (s : State) (q : Requester) (l : Loc) : State × Word32 :=
  if s.pageEmpty l then (s, 0)
  else match cellAt l with
    | .low r =>
      let v := s.regRead q r
      ({ s with latches := FMap.put none (s.halfKey q r) (some v.hi) s.latches }, v.lo)
    | .high r => (s, match FMap.find none (s.halfKey q r) s.latches with
      | some h => h
      | none => (s.regRead q r).hi)
    | _ => (s, s.dword q l)

/-- A dword of an MSI-X table entry (R80): address, data, and the mask bit of Vector Control. -/
def Vec.dword (x : Vec) (k : Nat) : Word32 :=
  match k with
  | 0 => BitVec.ofNat 32 x.addr
  | 1 => BitVec.ofNat 32 (x.addr / 2 ^ 32)
  | 2 => BitVec.ofNat 32 x.data
  | _ => BitVec.ofNat 32 x.masked.toNat

/-- An entry with a dword written. -/
def Vec.putDword (x : Vec) (k : Nat) (v : Word32) : Vec :=
  match k with
  | 0 => { x with addr := x.addr / 2 ^ 32 * 2 ^ 32 + v.toNat }
  | 1 => { x with addr := v.toNat * 2 ^ 32 + x.addr % 2 ^ 32 }
  | 2 => { x with data := v.toNat }
  | _ => { x with masked := v.toNat.testBit 0 }

/-- The live value of the dword at a place. -/
def State.placeDword (s : State) (q : Requester) (x : Spot) : Word32 :=
  match x with
  | .reg l => s.dword q l
  | .vector p fn v k => (s.vec (vKey p fn v)).dword k
  | .pba p fn k => BitVec.ofNat 32 (bitsN 32 (fun j => (s.vec (vKey p fn (32 * k + j))).pba))
  | .sram mb _ off => BitVec.ofNat 32 (leValue (s.sramBytes mb off 4))
  | .device _ a => BitVec.ofNat 32 (leValue (s.openBytes a 4))
  | _ => 0

/-- The access gets data back: a place that answers a read, if with 0 (R9). -/
def Spot.answers : Spot → Bool
  | .ur => false
  | .none => false
  | .unlisted => false
  | _ => true

/-- The dword at a location as a requester's live read shows it, aligned down. -/
def State.liveDword (s : State) (q : Requester) (l : Loc) : Word32 := s.placeDword q (s.place q (locDown l (locOff l % 4)))

/-- The addressed bytes of a dword, in the low bits. -/
def bytesOf (v : Word32) (at_ n : Nat) : Word32 := BitVec.ofNat 32 (v.toNat / 2 ^ (8 * at_) % 2 ^ (8 * n))

/-- A read command of 1, 2, 4 or 8 aligned bytes; what it returned is kept. 4 bytes load or use a latch (R15, R16); 8 bytes
are read at one instant, and a read of 1 or 2 bytes takes its bytes from the live dword (R12, R13). A PCIe read of more is a
sequence of reads of 8 bytes in ascending order (R506), which the model makes without a command between them. -/
def State.readCmd (s : State) (q : Requester) (l : Loc) (bytes : Nat) : State :=
  let x := s.place q l
  if x.answers then
    if 8 ≤ bytes then { s with readData := (List.range (bytes / 4)).map (fun k => s.liveDword q (locPlus l (4 * k))) }
    else if bytes = 4 then
      match x with
      | .reg l => { (s.read32 q l).1 with readData := [(s.read32 q l).2] }
      | x => { s with readData := [s.placeDword q x] }
    else { s with readData := [bytesOf (s.liveDword q l) (locOff l % 4) bytes] }
  else s.noAccess q x

/-- An aligned read: of 4 bytes of the low half of the register at `l`, or of a 32-bit register; or of 1, 2, 8 or more bytes
(R12, R13, R15). -/
def execLowHalfRead (q : Requester) (l : Span) (s : State) : Host.Outcome State Fault Refusal :=
  onDevice (fun s => s.readCmd q l.loc l.bytes) s

/-- A read of the high half of the register at `l` (R16). -/
def execHighHalfRead (q : Requester) (l : Loc) (s : State) : Host.Outcome State Fault Refusal :=
  onDevice (fun s => s.readCmd q (locPlus l 4) 4) s

/-! ## What a write to a register does -/

/-- A write of a whole register value that has passed the gate. A register that no line names takes its fields' values and
does nothing else. A mailbox word is writable on one side only (Table 9 of chapter 4). -/
def State.writeReg (s : State) (q : Requester) (l : Loc) (r : Reg) (v : Word64) : State :=
  let fromPage := match l with
    | .page _ _ => true
    | _ => false
  match r with
  | .portCtl n => s.wrPortCtl n v
  | .portCfg n =>
    ((s.holdCfg n).plainWrite r (maskedFor r v)).modPath n false
      (fun x => { x with l1Stall := false })
  | .portSeqCfg n => (s.holdSeq n).plainWrite r v
  | .portDet n => s.wrPortDet n v
  | .portDefr n => s.plainWrite r (if 16 ≤ n then PORT_DEFR.SS.put 0 v else v)
  | .portTstCtl n => s.wrTstCtl n v (fun s => s.tstHalt n)
  | .slcBind i => s.wrSlcBind i v
  | .slcHost i => s.wrSlcHost i v
  | .slcCsr i => s.wrSlcCsr i v
  | .slcQeng i => s.wrQuota i .qeng v
  | .slcQmem i => s.wrQuota i .qmem v
  | .slcQper i => s.wrQuota i .qper v
  | .slcQep i => s.wrQuota i .qep v
  | .slcWinBase i w => s.wrQuota i (.winBase w) v
  | .slcWinSize i w => s.wrQuota i (.winSize w) v
  | .slcEpaA => s.wrEpaAB r v
  | .slcEpaB => s.wrEpaAB r v
  | .slcEpaCs => s.wrEpaCs v
  | .slCsr i => s.wrSlCsr i v
  | .ringBase i k => s.wrRingAddr i k r v
  | .ringDha i k => s.wrRingAddr i k r v
  | .ringTsa i k => s.wrRingAddr i k r v
  | .ringCtl i k => s.wrRingCtl i k v
  | .db i k => s.doorbell i k
  | .epvCsr i => s.wrEpvCsr q i v
  | .mbxCsr i => s.wrMbxCsr i v
  | .mbxSCsr i => s.wrMbxSCsr i v
  | .mbxOut i k => if fromPage then s.wrMbxOut i k v else s
  | .mbxIn i k => if fromPage then s else s.wrMbxIn i k v
  | .mbxRst k => s.plainWrite r (if k = 0 then v &&& ~~~(1#64) else v)
  | .plnSnapCtl => s.wrSnapCtl q v
  | .plnCtl => s.wrPlnCtl v
  | .plnSyncCtl => s.wrSyncCtl v
  | .dspCtl => s.wrDspCtl v
  | .dspLdCtl => s.wrLdCtl v
  | .dspLdSrc => s.wrLdReg r v
  | .dspFuelMax => s.wrLdReg r v
  | .semCfg i => s.wrSemCfg q i v
  | .semCtl => s.wrSemCtl v
  | .sealKey w => s.wrSealKey w v
  | .sealKeyCtl => s.wrSealKeyCtl v
  | .sealAdjCtl => s.wrAdjCtl v
  | .sealAdjAddr => s.wrAdjWord r v
  | .sealAdjLen => s.wrAdjWord r v
  | .sealIdCtl => s.wrSealIdCtl v
  | .sealFwCtl => s.wrSealFwCtl v
  | .portGpool => s.wrPortGpool q v
  | .portGang g => s.wrPortGang q g v
  | .pwrCtl d => s.wrPwrCtl q d v
  | .pwrAvsPol => s.wrAvsPol v
  | .icSrc i => s.wrIcSrc i v
  | .icSwi => s.wrIcSwi v
  | .icClaim t => s.wrIcClaim q (t == 1)
  | .icComp t => s.wrIcComp q (t == 1) v
  | .fltCfg i => s.wrFltCfg q i v
  | .fltCtl => s.wrFltCtl q v
  | .fltForce => s.wrFltForce v
  | .fltRaise => s.wrFltRaise q v
  | .tlmRwin _ => (s.plainWrite r v).irqWake 338
  | .tlmCtl => s.wrTlmCtl v
  | .glbHpCtl p => s.wrHpCtl p v
  | .glbHpTst p => s.wrHpTst p v (fun s => s.openCounts (.glbHpTbits p) (.glbHpTerr p))
  | .glbMgrClaim => s.wrMgrClaim q v
  | .glbMgtCtl => s.wrMgtCtl q v
  | .glbMgtWdt => s.wrMgtWdt q v
  | .glbMgtCkpt => s.wrMgtCkpt q v
  | .glbFwmbCsr => s.wrFwmbCsr q v
  | .fwmbHost k => s.wrFwmbHost q k v
  | .fwmbFw k => s.wrFwmbFw q k v
  | .glbRstCtl => { s with free := s.free + 2 }.wrRstCtl q v s.openBoot
  | .glbBistCtl => s.wrBistCtl v
  | .mdmaCtl c => s.wrMdmaCtl c v
  | .mdmaSrc c => s.wrMdmaReg c r v
  | .mdmaDst c => s.wrMdmaReg c r v
  | .mdmaDesc c => s.wrMdmaReg c r v
  | .mdmaCnt c => s.wrMdmaReg c r v
  | _ => s.plainWrite r v

/-- A write of a register value, where the register exists and can be written now; a register on a save list
is written in the saved copy, where there is one (R72, R391). -/
def State.putReg (s : State) (q : Requester) (l : Loc) (r : Reg) (v : Word64) : State :=
  if s.regExists r && s.regLive r then
    if (s.savedCopy r).isSome then s.copyWrite r v else s.writeReg q l r v
  else s

/-! ## A write and a hardware update in one cycle (R11) -/

/-- The value written, but for the W1C bits that hardware sets in the cycle: those that the command names, and those that a
command of this cycle has set before (log entry 81). -/
def State.racing (s : State) (r : Reg) (v hw : Word64) : Word64 := raced r v (hw ||| s.roseIn r)

/-- The low half that leaves a register's live low half unchanged: its RW fields as they are, nothing written to the
others (R18). -/
def keepLow (r : Reg) (live : Word64) : Word32 := (live &&& maskOf .rw r.fields).lo

/-! ## Writes by access (R9, R12, R18) -/

/-- A 32-bit write to a dword. Every write to a doorbell rings it; a low half is staged; a high half commits with what is
staged, or leaves the live low half unchanged; a write where there is no register is ignored, in the Library window also
recorded. `hw`: the bits of the register that hardware sets in this cycle. A half staged while its register ignores writes
stays staged (R171; DEDUCED, log entry 70). -/
def State.put32 (s : State) (q : Requester) (l : Loc) (v : Word32) (hw : Word64) : State :=
  if inLibrary l then s.violation q l
  else match cellAt l with
    | .word r => s.putReg q l r (s.racing r (v.setWidth 64) hw)
    | .low (.db i k) => s.putReg q l (.db i k) 0
    | .high (.db i k) => s.putReg q l (.db i k) 0
    | .low r => { s with staged := FMap.put none (s.halfKey q r) (some v) s.staged }
    | .high r =>
      let lo := match FMap.find none (s.halfKey q r) s.staged with
        | some x => x
        | none => keepLow r (s.regRead q r)
      { s with staged := FMap.put none (s.halfKey q r) none s.staged }.putReg q (locDown l 4) r
        (s.racing r (Word64.ofHalves v lo) hw)
    | .none => s

/-- A 32-bit write by a requester. A PBA takes none, nor does the SRAM of the other pair (R447), and what a peripheral does
with its data is not in the spec; a write to a memory that is only read ends in a bus error, as one to an address that the
map does not list does (log entry 77). -/
def State.write32 (s : State) (q : Requester) (l : Loc) (v : Word32) (hw : Word64) : State :=
  match s.place q l with
  | .vector p fn k d => s.modVec (vKey p fn k) (fun x => x.putDword d v)
  | .sram mb own off => if mb = decide (q = .mb) then s.coreWrite q own off (leBytes 4 v.toNat) else s
  | .device rom _ => if rom then s.emit .busError else s
  | _ => s.gateLoc q l (fun l s => s.put32 q l v hw)

/-- A 64-bit write: one atomic write of a 64-bit register, which discards a staged half; else two 32-bit writes in
ascending order, each judged on its own (R82). -/
def State.write64 (s : State) (q : Requester) (l : Loc) (v hw : Word64) : State :=
  match s.place q l with
  | .reg m => match cellAt m with
    | .low r => s.gateLoc q l (fun l s =>
        { s with staged := FMap.put none (s.halfKey q r) none s.staged }.putReg q l r (s.racing r v hw))
    | _ => (s.write32 q l v.lo (hw.lo.setWidth 64)).write32 q (locPlus l 4) v.hi (hw.hi.setWidth 64)
  | .ur => s.noAccess q .ur
  | _ => (s.write32 q l v.lo 0).write32 q (locPlus l 4) v.hi 0

/-- A write of 32 bits to the location `l` (R8, R12). -/
def execRegisterWrite (q : Requester) (l : Loc) (v : Landing 32 32) (s : State) : Host.Outcome State Fault Refusal :=
  onDevice (fun s => s.write32 q l v.data (v.hw.setWidth 64)) s

/-- A write of the low half of the register at `l` (R18). -/
def execLowHalfWrite (q : Requester) (l : Loc) (v : Word32) (s : State) : Host.Outcome State Fault Refusal :=
  onDevice (fun s => s.write32 q l v 0) s

/-- A write of the high half of the register at `l` (R18). -/
def execHighHalfWrite (q : Requester) (l : Loc) (v : Landing 32 64) (s : State) : Host.Outcome State Fault Refusal :=
  onDevice (fun s => s.write32 q (locPlus l 4) v.data v.hw) s

/-- A write of 64 bits to the location `l` (R18). -/
def execWrite64 (q : Requester) (l : Loc) (v : Landing 64 64) (s : State) : Host.Outcome State Fault Refusal :=
  onDevice (fun s => s.write64 q l v.data v.hw) s

/-- A write narrower than 32 bits is discarded and recorded (R12); one to an MSI-X table, which is not a register, is
discarded. -/
def execNarrowWrite (q : Requester) (l : Loc) (s : State) : Host.Outcome State Fault Refusal :=
  onDevice (fun s =>
    match s.place q l with
    | .reg l => s.violation q l
    | .empty => s.violation q l
    | x => s.noAccess q x) s

end Sys2Proof.Machine
end

