-- ==== Sys2Proof/Machine/Mdma.lean ====
section
/-!
DEFINITION. What the service DMA moves (chapter 11, R351 to R359) over the management address map (R445 to R447), and
misaligned register accesses, one of whose outcomes is a failed access of the service DMA (R12).
-/
namespace Sys2Proof.Machine

/-- A read of 1, 2 or 4 bytes by a channel; no answer where the access fails (R12, R357). -/
def State.dmaRead (s : State) (c a n : Nat) : State × Option (List Byte) :=
  match regionOf a n with
  | .own o => (s, some (s.sramBytes s.activeMb o n))
  | .pair b o => (s, some (s.sramBytes b o n))
  | .regs l =>
    if a % n ≠ 0 then (s, none)
    else if n = 4 then
      let p := s.read32 (.dma c) l
      (p.1, some (leBytes 4 p.2.toNat))
    else (s, some (((leBytes 4 (s.dword (.dma c) (locDown l (a % 4))).toNat).drop (a % 4)).take n))
  | .none => (s, none)
  | .nor => (s, some (s.norBytes (a - 0x40000000) n))
  | _ => (s, some (s.openBytes a n))

/-- A write of 1, 2 or 4 bytes by a channel. A write narrower than 32 bits to a register is discarded and recorded (R12,
R352); what a peripheral does with its data is not in the spec. -/
def State.dmaWrite (s : State) (c a : Nat) (d : List Byte) : Option State :=
  match regionOf a d.length with
  | .own o => some ((List.range d.length).foldl (fun s k => s.ownPut s.activeMb (o + k) (d.getD k 0)) s)
  | .pair b o => some ((List.range d.length).foldl (fun s k => s.userPut b (o + k) (d.getD k 0)) s)
  | .regs l =>
    if a % d.length ≠ 0 then none
    else if d.length = 4 then some (s.write32 (.dma c) l (BitVec.ofNat 32 (leValue d)) 0)
    else some (s.violation (.dma c) l)
  | .peripheral => some s
  | _ => none

/-! ## Ends of a run (R355, R357, R358) -/

/-- The address of the channel's descriptor. -/
def State.mdmaDesc (s : State) (c : Nat) : Nat := (s.rd (.mdmaDesc c)).toNat / 32 * 32

/-- Status, then CTL with OWN = 0, written back to the descriptor; no answer where a write fails. -/
def State.mdmaBack (s : State) (c ctl code moved : Nat) : Option State :=
  let a := s.mdmaDesc c
  match s.dmaWrite c (a + 28) (leBytes 4 (code * 2 ^ 24 + moved % 2 ^ 24)) with
  | some s => s.dmaWrite c (a + 24) (leBytes 4 (ctl % 2 ^ 31))
  | none => none

/-- The engine is free, with the result of the run. -/
def State.mdmaDone (s : State) (x : MdmaRun) (code : Nat) : State :=
  let s := { s with mdmaRun := none }.clr1 (.mdmaSts x.ch) MDMA_STS.RUN
  (s.setF (.mdmaSts x.ch) MDMA_STS.CODE code).setF (.mdmaSts x.ch) MDMA_STS.BYTES x.moved

/-- The channel halts; `back` says that the descriptor is written back. A write-back that fails makes it a bus error. -/
def State.mdmaFailed (s : State) (x : MdmaRun) (code : Nat) (back : Bool) : State :=
  let halt (s : State) (code : Nat) : State := (s.mdmaDone x code).mdmaHalt x.ch code
  match x.chain with
  | some (ctl, _) =>
    if back then
      match s.mdmaBack x.ch ctl code x.moved with
      | some t => halt (t.mdmaIrq x.ch x.ie) code
      | none => halt s 1
    else halt s code
  | none => halt s code

/-- The run is over, with DONE or ABORTED (R355, R358). -/
def State.mdmaFinish (s : State) (x : MdmaRun) : State :=
  let c := x.ch
  let code := if x.stop then 3 else 0
  let last (s : State) : State :=
    let s := (s.mdmaDone x code).clr1 (.mdmaSts c) MDMA_STS.BUSY
    if x.stop then s else (s.set1 (.mdmaSts c) MDMA_STS.DONE).mdmaIrq c (s.mdmaIe c)
  match x.chain with
  | none => last s
  | some (ctl, next) =>
    match s.mdmaBack c ctl code x.moved with
    | none => s.mdmaFailed x 1 false
    | some t =>
      let t := t.mdmaIrq c x.ie
      if x.stop ∨ next = 0 then last t
      else
        let t := (t.mdmaDone x code).wr (.mdmaDesc c) (BitVec.ofNat 64 next)
        t.mdmaJoin c

/-! ## Moving (R352, R353) -/

/-- One element from source to destination; `none` where an access fails. -/
def State.mdmaElem (s : State) (x : MdmaRun) : State × Option MdmaRun :=
  let n := 2 ^ x.esize
  let p := s.dmaRead x.ch x.src (if x.sinc then n else 4)
  match p.2 with
  | none => (p.1, none)
  | some d =>
    let e := d.take n
    match p.1.dmaWrite x.ch x.dst (if x.dinc then e else e ++ List.replicate (4 - n) 0) with
    | none => (p.1, none)
    | some t =>
      (t, some { x with src := if x.sinc then x.src + n else x.src, dst := if x.dinc then x.dst + n else x.dst,
                        left := x.left - n, moved := x.moved + n, fails := 0, failW := false })

/-- Up to `k` elements. An access that fails for good halts the channel: each of its retries fails like the first. -/
def State.mdmaMove (s : State) (x : MdmaRun) : Nat → State
  | 0 => { s with mdmaRun := some x }
  | k + 1 =>
    if x.left = 0 then { s with mdmaRun := some x }
    else
      match s.mdmaElem x with
      | (t, some y) => t.mdmaMove y k
      | (t, none) => t.mdmaFailed x 1 true

/-- One burst: in answer to the request line, or as part of a run that does not wait. -/
def execMdmaBurst (s : State) : Host.Outcome State Fault Refusal :=
  onDevice (fun s =>
    match s.mdmaRun with
    | some x => if x.stop then s else s.mdmaMove x (2 ^ x.burst)
    | none => s) s

/-- An access of the run in progress fails, a read or a write: retried up to 3 times (R357). Once no element is left to move, it
is an access of the write-back. -/
def State.mdmaFail (s : State) (x : MdmaRun) (write : Bool) : State :=
  let n := if x.failW = write then x.fails else 0
  if 3 ≤ n then s.mdmaFailed x 1 (decide (x.left ≠ 0) && !x.stop)
  else { s with mdmaRun := some { x with fails := n + 1, failW := write } }

/-- No run is in progress: the descriptor read of the first channel in the queue fails, and the channel halts the fourth time
with nothing written back (R357). -/
def State.mdmaReadFail (s : State) : State :=
  match s.mdmaQ with
  | c :: _ =>
    if s.flag (.mdmaCtl c) MDMA_CTL.CHAIN = false then s
    else if s.mdmaFails < 3 then { s with mdmaFails := s.mdmaFails + 1 }
    else ((s.mdmaLeave c).setF (.mdmaSts c) MDMA_STS.BYTES 0).mdmaHalt c 1
  | [] => s

/-- Which access of a run fails, a read or a write, is open; of the write-back, which follows the last element, a write. -/
def State.failsWrite (s : State) (x : MdmaRun) : Bool := x.left == 0 || x.stop || s.fresh.getLsbD 0

def execMdmaAccessFail (s : State) : Host.Outcome State Fault Refusal :=
  onDevice (fun s =>
    match s.mdmaRun with
    | some x => s.next.mdmaFail x (s.failsWrite x)
    | none => s.mdmaReadFail) s

/-- The run ends: stopped, with everything moved, or, where it waits for no line, after the rest has been moved. -/
def execMdmaRunEnd (s : State) : Host.Outcome State Fault Refusal :=
  onDevice (fun s =>
    match s.mdmaRun with
    | some x =>
      if x.stop ∨ x.left = 0 then s.mdmaFinish x
      else if x.req = 0 then
        let t := s.mdmaMove x (x.left / 2 ^ x.esize)
        match t.mdmaRun with
        | some y => if y.ch = x.ch ∧ y.left = 0 then t.mdmaFinish y else t
        | none => t
      else s
    | none => s) s

/-! ## Starting a run (R351, R355) -/

/-- The run of register mode. -/
def State.mdmaRegRun (s : State) (c : Nat) : MdmaRun :=
  { ch := c, src := (s.rd (.mdmaSrc c)).toNat, dst := (s.rd (.mdmaDst c)).toNat,
    left := s.getF (.mdmaCnt c) MDMA_CNT.COUNT, moved := 0, esize := s.getF (.mdmaCtl c) MDMA_CTL.ESIZE,
    burst := s.getF (.mdmaCtl c) MDMA_CTL.BURST, req := s.getF (.mdmaCtl c) MDMA_CTL.REQ,
    sinc := s.flag (.mdmaCtl c) MDMA_CTL.SINC, dinc := s.flag (.mdmaCtl c) MDMA_CTL.DINC, chain := none, ie := false,
    fails := 0, failW := false, stop := false }

/-- The run of a descriptor's 32 bytes (Table 7). -/
def mdmaDescRun (c : Nat) (d : List Byte) : MdmaRun :=
  let f (lo n : Nat) := leValue ((d.drop lo).take n)
  let ctl := f 24 4
  { ch := c, src := f 0 8, dst := f 8 8, left := f 28 4, moved := 0, esize := ctl / 2 ^ 21 % 4, burst := ctl / 2 ^ 23 % 8,
    req := ctl / 2 ^ 26 % 16, sinc := ctl.testBit 19, dinc := ctl.testBit 20, chain := some (ctl, f 16 8),
    ie := ctl.testBit 30, fails := 0, failW := false, stop := false }

/-- The descriptor is valid. -/
def mdmaDescOk (x : MdmaRun) : Bool :=
  match x.chain with
  | some (ctl, next) => mdmaOk x.req x.burst x.esize x.left && ctl % 2 ^ 19 == 0 && next % 32 == 0
  | none => true

/-- The 32 bytes of a descriptor, read in words. -/
def State.mdmaFetch (s : State) (c a : Nat) : Nat → State × Option (List Byte)
  | 0 => (s, some [])
  | k + 1 =>
    match s.dmaRead c a 4 with
    | (t, none) => (t, none)
    | (t, some d) =>
      match t.mdmaFetch c (a + 4) k with
      | (t, some e) => (t, some (d ++ e))
      | (t, none) => (t, none)

/-- A chained channel takes its descriptor (R355, steps 1 to 3). -/
def State.mdmaChain (s : State) (c : Nat) : State :=
  let s := s.set1 (.mdmaSts c) MDMA_STS.RUN
  match s.mdmaFetch c (s.mdmaDesc c) 8 with
  | (t, none) => (t.setF (.mdmaSts c) MDMA_STS.BYTES 0).mdmaHalt c 1
  | (t, some d) =>
    let x := mdmaDescRun c d
    if (leValue (d.drop 24) / 2 ^ 31) % 2 = 0 then
      let t := ((t.clr1 (.mdmaSts c) MDMA_STS.RUN).clr1 (.mdmaSts c) MDMA_STS.BUSY).set1 (.mdmaSts c) MDMA_STS.EMPTY
      t.mdmaIrq c (t.mdmaIe c)
    else if mdmaDescOk x then { t with mdmaRun := some x }
    else t.mdmaFailed x 2 true

/-- The engine takes the next channel from the run queue. -/
def execMdmaRunStart (s : State) : Host.Outcome State Fault Refusal :=
  onDevice (fun s =>
    match s.mdmaRun, s.mdmaQ with
    | none, c :: _ =>
      let s := s.mdmaLeave c
      if s.flag (.mdmaCtl c) MDMA_CTL.CHAIN then s.mdmaChain c
      else { s.set1 (.mdmaSts c) MDMA_STS.RUN with mdmaRun := some (s.mdmaRegRun c) }
    | _, _ => s) s

/-! ## Misaligned accesses (R12) -/

/-- The dwords that a misaligned read of some bytes covers, each as a read of its own returns it. -/
def State.misRead (s : State) (q : Requester) (l : Loc) (bytes : Nat) : List Word32 :=
  let d := locDown l (locOff l % 4)
  (List.range ((locOff l % 4 + bytes + 3) / 4)).map (fun k => s.liveDword q (locPlus d (4 * k)))

/-- A misaligned access ends as its requester determines. -/
def State.misaligned (s : State) (q : Requester) (l : Loc) (bytes : Nat) (write : Bool) : State :=
  match q with
  | .func _ _ => (if write then s else { s with readData := s.misRead q l bytes }).violation q l
  | .jtag => (if write then s else { s with readData := List.replicate ((locOff l % 4 + bytes + 3) / 4) 0 }).violation q l
  | .dma c => match s.mdmaRun with
    | some x => if x.ch = c then s.mdmaFail x write else s
    | none => s
  | _ => s.emit .busError

def execMisalignedAccess (q : Requester) (l : Span) (write : Bool) (s : State) : Host.Outcome State Fault Refusal :=
  onDevice (fun s =>
    match s.place q l.loc with
    | .reg m => s.misaligned q m l.bytes write
    | .empty => s.misaligned q l.loc l.bytes write
    | .vector _ _ _ _ => s.misaligned q l.loc l.bytes write
    | .pba _ _ _ => s.misaligned q l.loc l.bytes write
    | x => s.noAccess q x) s

end Sys2Proof.Machine
end

