-- ==== Sys2Proof/Machine/Tick.lean ====
section
/-!
DEFINITION. The 8 kHz Clock tick and what takes effect at it (R271, R272, R28).
-/
namespace Sys2Proof.Machine

/-- Work of the slices at the tick: pending values, reservations, assignments, what a RESTORE brings, and rings; then the
reservations of a frame are fixed (R110, R113, R120, R132, R286, R288, R375). -/
def State.tickValues (s : State) (t : Nat) : State :=
  let s' := (((s.enginesTick.slicesTick).resvTick.assignTick).restoreTick).resvFix t
  (s'.ringsTick s).resetsTick

/-- Work of the planners, the sequencers, FSYNC_OUT and the links (R66, R276, R292, R298, R302, R306). -/
def State.tickBoard (s : State) (t : Nat) : State :=
  ((((((s.boardTick t).linesTick).rank0 t).syncTick).foutTick t).isoTick).l1Tick

/-- A parked WAIT that names TICK returns (R216). -/
def State.tickEvents (s : State) : State := forL (FMap.keys s.ctxs) (fun c s => s.eventAt c 4) s

/-- What the tick makes possible goes on: ready items on free engines, waiting host requests, movers, PME. -/
def State.tickGoOn (s : State) : State := ((s.dispatchAll.pumpReqs).lookAheadAll).pmeAcks

/-- Everything that takes effect at the tick that starts microframe `t`. -/
def State.tickWork (s : State) (t : Nat) : State :=
  ((((s.tickValues t).tickBoard t).thawAll).tickEvents).tickGoOn

/-- The tick: the Clock count rises whatever else the device does; while a cold reset is held, nothing else does. While
REF is stopped, the count comes from ACLK and there is no tick (R272, R273). -/
def execClockTick (s : State) : Host.Outcome State Fault Refusal :=
  .next (if s.aon.refRunning && s.aon.vddAon then
      let s1 := s.countUp
      if s1.coldHeld then s1
      else { s1.tickWork s1.aon.clockCount with aon := s1.aon, pending := s.pending }
    else s)

end Sys2Proof.Machine
end

