-- ==== Sys2Proof/Machine/Dispatch.lean ====
section
/-!
DEFINITION. One arm per command: a direct call of its meaning.
-/
namespace Sys2Proof.Machine

def exec (i : Instr) (s : State) : Host.Outcome State Fault Refusal :=
  match i with
  | .registerWrite q l v => Sys2Proof.Machine.execRegisterWrite q l v s
  | .lowHalfRead q l => Sys2Proof.Machine.execLowHalfRead q l s
  | .highHalfRead q l => Sys2Proof.Machine.execHighHalfRead q l s
  | .lowHalfWrite q l v => Sys2Proof.Machine.execLowHalfWrite q l v s
  | .highHalfWrite q l v => Sys2Proof.Machine.execHighHalfWrite q l v s
  | .write64 q l v => Sys2Proof.Machine.execWrite64 q l v s
  | .misalignedAccess q l write => Sys2Proof.Machine.execMisalignedAccess q l write s
  | .narrowWrite q l => Sys2Proof.Machine.execNarrowWrite q l s
  | .powerOnReset extAclk rails pins st b => Sys2Proof.Machine.execPowerOnReset extAclk rails pins st b s
  | .railPowerFail rail => Sys2Proof.Machine.execRailPowerFail rail s
  | .railsGood st b => Sys2Proof.Machine.execRailsGood st b s
  | .resetNAssert => Sys2Proof.Machine.execResetNAssert s
  | .resetNRelease hold st b => Sys2Proof.Machine.execResetNRelease hold st b s
  | .glbRstWarm q b => Sys2Proof.Machine.execGlbRstWarm q b s
  | .aclkLoss => Sys2Proof.Machine.execAclkLoss s
  | .clockTick => Sys2Proof.Machine.execClockTick s
  | .refStop => Sys2Proof.Machine.execRefStop s
  | .refRestart => Sys2Proof.Machine.execRefRestart s
  | .snapshotTake q => Sys2Proof.Machine.execSnapshotTake q s
  | .portCtlPpWrite q n pp => Sys2Proof.Machine.execPortCtlPpWrite q n pp s
  | .pgoodElapsed n ss => Sys2Proof.Machine.execPgoodElapsed n ss s
  | .usb2Connect n low => Sys2Proof.Machine.execUsb2Connect n low s
  | .debounceExpiry n => Sys2Proof.Machine.execDebounceExpiry n s
  | .portCtlReset q n ss => Sys2Proof.Machine.execPortCtlReset q n ss s
  | .deviceChirp n => Sys2Proof.Machine.execDeviceChirp n s
  | .busResetEnd n => Sys2Proof.Machine.execBusResetEnd n s
  | .trafficHoldEnd n => Sys2Proof.Machine.execTrafficHoldEnd n s
  | .portCtlSuspend q n ss => Sys2Proof.Machine.execPortCtlSuspend q n ss s
  | .suspendIdleL2 n => Sys2Proof.Machine.execSuspendIdleL2 n s
  | .portCtlResume q n ss => Sys2Proof.Machine.execPortCtlResume q n ss s
  | .deviceResumeK n => Sys2Proof.Machine.execDeviceResumeK n s
  | .resumeEnd n => Sys2Proof.Machine.execResumeEnd n s
  | .portCtlDisable q n ss => Sys2Proof.Machine.execPortCtlDisable q n ss s
  | .portCtlWreset q n => Sys2Proof.Machine.execPortCtlWreset q n s
  | .usb2Disconnect n => Sys2Proof.Machine.execUsb2Disconnect n s
  | .frameBabble n => Sys2Proof.Machine.execFrameBabble n s
  | .ssTerminationsDetected n => Sys2Proof.Machine.execSsTerminationsDetected n s
  | .ssLinkU0 n speed => Sys2Proof.Machine.execSsLinkU0 n speed s
  | .ssPollingFail n => Sys2Proof.Machine.execSsPollingFail n s
  | .hotResetEscalate n => Sys2Proof.Machine.execHotResetEscalate n s
  | .warmResetTimeout n => Sys2Proof.Machine.execWarmResetTimeout n s
  | .ssU3Wake n => Sys2Proof.Machine.execSsU3Wake n s
  | .ssResumeTimeout n => Sys2Proof.Machine.execSsResumeTimeout n s
  | .ssRecoveryFail n => Sys2Proof.Machine.execSsRecoveryFail n s
  | .ssTerminationsAbsent n => Sys2Proof.Machine.execSsTerminationsAbsent n s
  | .flipChange n level => Sys2Proof.Machine.execFlipChange n level s
  | .portCtlTestWrite q n code => Sys2Proof.Machine.execPortCtlTestWrite q n code s
  | .ociChange n active => Sys2Proof.Machine.execOciChange n active s
  | .ocFilterExpiry n => Sys2Proof.Machine.execOcFilterExpiry n s
  | .portGangWrite q g v => Sys2Proof.Machine.execPortGangWrite q g v s
  | .lpmL1Response n resp => Sys2Proof.Machine.execLpmL1Response n resp s
  | .l1RemoteWake n => Sys2Proof.Machine.execL1RemoteWake n s
  | .deviceLgoUx n u2 => Sys2Proof.Machine.execDeviceLgoUx n u2 s
  | .erdyReceived ep stream => Sys2Proof.Machine.execErdyReceived ep stream s
  | .cdpVdpSrc n on => Sys2Proof.Machine.execCdpVdpSrc n on s
  | .hpLteWrite q p on => Sys2Proof.Machine.execHpLteWrite q p on s
  | .hpRetrain q p => Sys2Proof.Machine.execHpRetrain q p s
  | .dlUp p speed width eqFail => Sys2Proof.Machine.execDlUp p speed width eqFail s
  | .linkDown p => Sys2Proof.Machine.execLinkDown p s
  | .hotResetReceived p disabled => Sys2Proof.Machine.execHotResetReceived p disabled s
  | .flr p fn => Sys2Proof.Machine.execFlr p fn s
  | .configRequest p fn op => Sys2Proof.Machine.execConfigRequest p fn op s
  | .pmeTurnOff p => Sys2Proof.Machine.execPmeTurnOff p s
  | .hostRequestUr p fn why => Sys2Proof.Machine.execHostRequestUr p fn why s
  | .poisonedWrite q l => Sys2Proof.Machine.execPoisonedWrite q l s
  | .atsInvalidateRequest p fn pasid page pages glob => Sys2Proof.Machine.execAtsInvalidateRequest p fn pasid page pages glob s
  | .atsInvalidateCompletion p fn => Sys2Proof.Machine.execAtsInvalidateCompletion p fn s
  | .busMasterEnableReturn p fn => Sys2Proof.Machine.execBusMasterEnableReturn p fn s
  | .msixPendingRelease p fn vec => Sys2Proof.Machine.execMsixPendingRelease p fn vec s
  | .mgrClaim q token => Sys2Proof.Machine.execMgrClaim q token s
  | .mgrRelease q token => Sys2Proof.Machine.execMgrRelease q token s
  | .localRelease q => Sys2Proof.Machine.execLocalRelease q s
  | .localDecline q => Sys2Proof.Machine.execLocalDecline q s
  | .claimTimerExpiry => Sys2Proof.Machine.execClaimTimerExpiry s
  | .mgrTmoWrite q v => Sys2Proof.Machine.execMgrTmoWrite q v s
  | .slcBindWrite q sl v => Sys2Proof.Machine.execSlcBindWrite q sl v s
  | .slcQuotaWrite q sl r v => Sys2Proof.Machine.execSlcQuotaWrite q sl r v s
  | .slcFence q sl => Sys2Proof.Machine.execSlcFence q sl s
  | .slcReset q sl => Sys2Proof.Machine.execSlcReset q sl s
  | .slcUnbind q sl => Sys2Proof.Machine.execSlcUnbind q sl s
  | .slCsrReset q sl => Sys2Proof.Machine.execSlCsrReset q sl s
  | .sliceResetComplete sl => Sys2Proof.Machine.execSliceResetComplete sl s
  | .epaAssign q => Sys2Proof.Machine.execEpaAssign q s
  | .epaUnassign q => Sys2Proof.Machine.execEpaUnassign q s
  | .epaUpdate q => Sys2Proof.Machine.execEpaUpdate q s
  | .epaRetarget q => Sys2Proof.Machine.execEpaRetarget q s
  | .epaSecRevoke q => Sys2Proof.Machine.execEpaSecRevoke q s
  | .epaBadCommand q code => Sys2Proof.Machine.execEpaBadCommand q code s
  | .epaCommandDone => Sys2Proof.Machine.execEpaCommandDone s
  | .gsafeSet q sl h => Sys2Proof.Machine.execGsafeSet q sl h s
  | .gsafeClr q sl h => Sys2Proof.Machine.execGsafeClr q sl h s
  | .secClaim q sl h => Sys2Proof.Machine.execSecClaim q sl h s
  | .secRelease q sl h => Sys2Proof.Machine.execSecRelease q sl h s
  | .lostClr q sl h => Sys2Proof.Machine.execLostClr q sl h s
  | .mbxSliceDb q sl => Sys2Proof.Machine.execMbxSliceDb q sl s
  | .mbxInAck q sl => Sys2Proof.Machine.execMbxInAck q sl s
  | .mbxMgrDb q sl => Sys2Proof.Machine.execMbxMgrDb q sl s
  | .mbxMgrAck q sl => Sys2Proof.Machine.execMbxMgrAck q sl s
  | .doorbell q sl r => Sys2Proof.Machine.execDoorbell q sl r s
  | .entryFetchComplete sl r batch => Sys2Proof.Machine.execEntryFetchComplete sl r batch s
  | .scanResume sl r => Sys2Proof.Machine.execScanResume sl r s
  | .entryInvoke sl r e => Sys2Proof.Machine.execEntryInvoke sl r e s
  | .entryNop sl r e => Sys2Proof.Machine.execEntryNop sl r e s
  | .entryFence sl r e => Sys2Proof.Machine.execEntryFence sl r e s
  | .entryAbort sl r e => Sys2Proof.Machine.execEntryAbort sl r e s
  | .entryReserve sl r e => Sys2Proof.Machine.execEntryReserve sl r e s
  | .entryRelease sl r e => Sys2Proof.Machine.execEntryRelease sl r e s
  | .ringEnable q sl r v => Sys2Proof.Machine.execRingEnable q sl r v s
  | .ringShutdown q sl r => Sys2Proof.Machine.execRingShutdown q sl r s
  | .ringIeChange q sl r => Sys2Proof.Machine.execRingIeChange q sl r s
  | .workItemFinish sl r => Sys2Proof.Machine.execWorkItemFinish sl r s
  | .moderationTimerExpiry sl r => Sys2Proof.Machine.execModerationTimerExpiry sl r s
  | .dspLoad q sl prog => Sys2Proof.Machine.execDspLoad q sl prog s
  | .dspUnload q sl prog => Sys2Proof.Machine.execDspUnload q sl prog s
  | .dspLdBadCommand q code => Sys2Proof.Machine.execDspLdBadCommand q code s
  | .loadComplete image blocks => Sys2Proof.Machine.execLoadComplete image blocks s
  | .add c d a b => Sys2Proof.Machine.execAdd c d a b s
  | .sub c d a b => Sys2Proof.Machine.execSub c d a b s
  | .andd c d a b => Sys2Proof.Machine.execAndd c d a b s
  | .orr c d a b => Sys2Proof.Machine.execOrr c d a b s
  | .xor c d a b => Sys2Proof.Machine.execXor c d a b s
  | .shl c d a b => Sys2Proof.Machine.execShl c d a b s
  | .shr c d a b => Sys2Proof.Machine.execShr c d a b s
  | .sar c d a b => Sys2Proof.Machine.execSar c d a b s
  | .mul c d a b => Sys2Proof.Machine.execMul c d a b s
  | .addi c d a imm => Sys2Proof.Machine.execAddi c d a imm s
  | .andi c d a imm => Sys2Proof.Machine.execAndi c d a imm s
  | .ori c d a imm => Sys2Proof.Machine.execOri c d a imm s
  | .xori c d a imm => Sys2Proof.Machine.execXori c d a imm s
  | .shli c d a imm => Sys2Proof.Machine.execShli c d a imm s
  | .shri c d a imm => Sys2Proof.Machine.execShri c d a imm s
  | .sari c d a imm => Sys2Proof.Machine.execSari c d a imm s
  | .movi c d x imm => Sys2Proof.Machine.execMovi c d x imm s
  | .movk c d x imm => Sys2Proof.Machine.execMovk c d x imm s
  | .mfs c d sp => Sys2Proof.Machine.execMfs c d sp s
  | .mts c sp a => Sys2Proof.Machine.execMts c sp a s
  | .cmp c a b => Sys2Proof.Machine.execCmp c a b s
  | .cmpi c a imm => Sys2Proof.Machine.execCmpi c a imm s
  | .tst c a b => Sys2Proof.Machine.execTst c a b s
  | .btst c a imm => Sys2Proof.Machine.execBtst c a imm s
  | .stcmp c imm => Sys2Proof.Machine.execStcmp c imm s
  | .b c cond target => Sys2Proof.Machine.execB c cond target s
  | .call c target => Sys2Proof.Machine.execCall c target s
  | .ret c => Sys2Proof.Machine.execRet c s
  | .ldp c d a size off => Sys2Proof.Machine.execLdp c d a size off s
  | .stp c d a size off => Sys2Proof.Machine.execStp c d a size off s
  | .hld c d a size off => Sys2Proof.Machine.execHld c d a size off s
  | .hst c d a size off => Sys2Proof.Machine.execHst c d a size off s
  | .setup c async a => Sys2Proof.Machine.execSetup c async a s
  | .inn c async a b => Sys2Proof.Machine.execInn c async a b s
  | .out c async a b => Sys2Proof.Machine.execOut c async a b s
  | .ping c async => Sys2Proof.Machine.execPing c async s
  | .status c async => Sys2Proof.Machine.execStatus c async s
  | .isoin c async a => Sys2Proof.Machine.execIsoin c async a s
  | .isoout c async a => Sys2Proof.Machine.execIsoout c async a s
  | .stream c async a => Sys2Proof.Machine.execStream c async a s
  | .gather c async a => Sys2Proof.Machine.execGather c async a s
  | .scatter c async a => Sys2Proof.Machine.execScatter c async a s
  | .cancel c => Sys2Proof.Machine.execCancel c s
  | .wait c d t mask => Sys2Proof.Machine.execWait c d t mask s
  | .waitclk c a => Sys2Proof.Machine.execWaitclk c a s
  | .lock c a => Sys2Proof.Machine.execLock c a s
  | .trylock c a => Sys2Proof.Machine.execTrylock c a s
  | .unlock c a => Sys2Proof.Machine.execUnlock c a s
  | .post c code => Sys2Proof.Machine.execPost c code s
  | .yield c => Sys2Proof.Machine.execYield c s
  | .spawn c prog a h off k => Sys2Proof.Machine.execSpawn c prog a h off k s
  | .fence c => Sys2Proof.Machine.execFence c s
  | .seal c mode a => Sys2Proof.Machine.execSeal c mode a s
  | .doze c => Sys2Proof.Machine.execDoze c s
  | .busOperationEnd c => Sys2Proof.Machine.execBusOperationEnd c s
  | .busOperationBoundary c => Sys2Proof.Machine.execBusOperationBoundary c s
  | .hldCompletion c data => Sys2Proof.Machine.execHldCompletion c data s
  | .postedWriteDeparture w => Sys2Proof.Machine.execPostedWriteDeparture w s
  | .waitTimeout c => Sys2Proof.Machine.execWaitTimeout c s
  | .waitclkReached c => Sys2Proof.Machine.execWaitclkReached c s
  | .instructionFenceDone c => Sys2Proof.Machine.execInstructionFenceDone c s
  | .engineFree te => Sys2Proof.Machine.execEngineFree te s
  | .quantumPreempt te => Sys2Proof.Machine.execQuantumPreempt te s
  | .suspendLeave c => Sys2Proof.Machine.execSuspendLeave c s
  | .steal k => Sys2Proof.Machine.execSteal k s
  | .neighbourResort => Sys2Proof.Machine.execNeighbourResort s
  | .stalemateDetection => Sys2Proof.Machine.execStalemateDetection s
  | .semCtlRelease q ix => Sys2Proof.Machine.execSemCtlRelease q ix s
  | .semCfgWrite q ix v => Sys2Proof.Machine.execSemCfgWrite q ix v s
  | .reserveDecision j => Sys2Proof.Machine.execReserveDecision j s
  | .boardBuildDone pl equal => Sys2Proof.Machine.execBoardBuildDone pl equal s
  | .plnReinstate q j => Sys2Proof.Machine.execPlnReinstate q j s
  | .syncStart q => Sys2Proof.Machine.execSyncStart q s
  | .syncStop q => Sys2Proof.Machine.execSyncStop q s
  | .syncSlew q => Sys2Proof.Machine.execSyncSlew q s
  | .fsyncEdge sub => Sys2Proof.Machine.execFsyncEdge sub s
  | .fsyncLossTimeout => Sys2Proof.Machine.execFsyncLossTimeout s
  | .requestQueueAdmit n => Sys2Proof.Machine.execRequestQueueAdmit n s
  | .placementStart n line => Sys2Proof.Machine.execPlacementStart n line s
  | .asyncTransactionStart n line rank np => Sys2Proof.Machine.execAsyncTransactionStart n line rank np s
  | .gambitStart n line rank np => Sys2Proof.Machine.execGambitStart n line rank np s
  | .responseReceived n r => Sys2Proof.Machine.execResponseReceived n r s
  | .responseTimeout n line => Sys2Proof.Machine.execResponseTimeout n line s
  | .fifoWriteComplete n => Sys2Proof.Machine.execFifoWriteComplete n s
  | .returnItemRead n => Sys2Proof.Machine.execReturnItemRead n s
  | .prfPointerError n => Sys2Proof.Machine.execPrfPointerError n s
  | .portDetDetach q n dev => Sys2Proof.Machine.execPortDetDetach q n dev s
  | .gpoolSizeWrite q v => Sys2Proof.Machine.execGpoolSizeWrite q v s
  | .phyPllLockLoss n ss => Sys2Proof.Machine.execPhyPllLockLoss n ss s
  | .completionReceived p tag r data => Sys2Proof.Machine.execCompletionReceived p tag r data s
  | .completionTimeout tag => Sys2Proof.Machine.execCompletionTimeout tag s
  | .requestRetry tag => Sys2Proof.Machine.execRequestRetry tag s
  | .mdmaStart q ch => Sys2Proof.Machine.execMdmaStart q ch s
  | .mdmaStop q ch => Sys2Proof.Machine.execMdmaStop q ch s
  | .mdmaRunStart => Sys2Proof.Machine.execMdmaRunStart s
  | .mdmaBurst => Sys2Proof.Machine.execMdmaBurst s
  | .mdmaAccessFail => Sys2Proof.Machine.execMdmaAccessFail s
  | .mdmaRunEnd => Sys2Proof.Machine.execMdmaRunEnd s
  | .sealKeyLoad q slot use => Sys2Proof.Machine.execSealKeyLoad q slot use s
  | .sealKeyErase q slot => Sys2Proof.Machine.execSealKeyErase q slot s
  | .sealKeyBadCommand q code => Sys2Proof.Machine.execSealKeyBadCommand q code s
  | .sealEraseDone => Sys2Proof.Machine.execSealEraseDone s
  | .sealOpStart => Sys2Proof.Machine.execSealOpStart s
  | .sealOpComplete k => Sys2Proof.Machine.execSealOpComplete k s
  | .adjFreeze q sl slot => Sys2Proof.Machine.execAdjFreeze q sl slot s
  | .freezeComplete => Sys2Proof.Machine.execFreezeComplete s
  | .adjSave q sl slot => Sys2Proof.Machine.execAdjSave q sl slot s
  | .saveComplete ok => Sys2Proof.Machine.execSaveComplete ok s
  | .adjRelease q sl slot => Sys2Proof.Machine.execAdjRelease q sl slot s
  | .adjRestore q sl slot => Sys2Proof.Machine.execAdjRestore q sl slot s
  | .restoreComplete o => Sys2Proof.Machine.execRestoreComplete o s
  | .adjThaw q sl slot => Sys2Proof.Machine.execAdjThaw q sl slot s
  | .adjBadCommand q code => Sys2Proof.Machine.execAdjBadCommand q code s
  | .sealIdWrite q dev => Sys2Proof.Machine.execSealIdWrite q dev s
  | .sealIdRead q dev => Sys2Proof.Machine.execSealIdRead q dev s
  | .fwVerifyGo q len => Sys2Proof.Machine.execFwVerifyGo q len s
  | .fwVerifyDone fetched key => Sys2Proof.Machine.execFwVerifyDone fetched key s
  | .pwrEntryRequest q d mode => Sys2Proof.Machine.execPwrEntryRequest q d mode s
  | .pwrWakeWrite q d => Sys2Proof.Machine.execPwrWakeWrite q d s
  | .domainEntryStart d => Sys2Proof.Machine.execDomainEntryStart d s
  | .entryStepComplete d wake => Sys2Proof.Machine.execEntryStepComplete d wake s
  | .returnStepReady d => Sys2Proof.Machine.execReturnStepReady d s
  | .returnStepStuck d => Sys2Proof.Machine.execReturnStepStuck d s
  | .demandWake d => Sys2Proof.Machine.execDemandWake d s
  | .nativeLineEvent n => Sys2Proof.Machine.execNativeLineEvent n s
  | .vbusSenseEvent p => Sys2Proof.Machine.execVbusSenseEvent p s
  | .lfpsWake n => Sys2Proof.Machine.execLfpsWake n s
  | .eiExitWake p => Sys2Proof.Machine.execEiExitWake p s
  | .biasHoldExpiry d => Sys2Proof.Machine.execBiasHoldExpiry d s
  | .predictorDelayExpiry n ss acc => Sys2Proof.Machine.execPredictorDelayExpiry n ss acc s
  | .predictorForceExpiry n ss acc => Sys2Proof.Machine.execPredictorForceExpiry n ss acc s
  | .avsEvaluation need => Sys2Proof.Machine.execAvsEvaluation need s
  | .avsSettleExpiry => Sys2Proof.Machine.execAvsSettleExpiry s
  | .avsRegulatorWriteDone ok => Sys2Proof.Machine.execAvsRegulatorWriteDone ok s
  | .avsPolicyWrite q v => Sys2Proof.Machine.execAvsPolicyWrite q v s
  | .icSwiWrite q bits => Sys2Proof.Machine.execIcSwiWrite q bits s
  | .gpioInputChange k level => Sys2Proof.Machine.execGpioInputChange k level s
  | .gpioFilterTick => Sys2Proof.Machine.execGpioFilterTick s
  | .icSrcWrite q ix v => Sys2Proof.Machine.execIcSrcWrite q ix v s
  | .icClaim q mb => Sys2Proof.Machine.execIcClaim q mb s
  | .icComplete q mb id => Sys2Proof.Machine.execIcComplete q mb id s
  | .faultWindowExpiry ix => Sys2Proof.Machine.execFaultWindowExpiry ix s
  | .faultQuietExpiry ix => Sys2Proof.Machine.execFaultQuietExpiry ix s
  | .ocHoldQuietExpiry n => Sys2Proof.Machine.execOcHoldQuietExpiry n s
  | .fltClear q ix => Sys2Proof.Machine.execFltClear q ix s
  | .fltHclear q => Sys2Proof.Machine.execFltHclear q s
  | .fltForce q ix detail => Sys2Proof.Machine.execFltForce q ix detail s
  | .fltRaise q ix detail => Sys2Proof.Machine.execFltRaise q ix detail s
  | .fltCfgWrite q ix v => Sys2Proof.Machine.execFltCfgWrite q ix v s
  | .aliveToggle => Sys2Proof.Machine.execAliveToggle s
  | .aliveHaltWrite q halt => Sys2Proof.Machine.execAliveHaltWrite q halt s
  | .sensorSample r => Sys2Proof.Machine.execSensorSample r s
  | .eccUeDetected m addr => Sys2Proof.Machine.execEccUeDetected m addr s
  | .eccCeDetected m addr => Sys2Proof.Machine.execEccCeDetected m addr s
  | .lockstepMismatch mb => Sys2Proof.Machine.execLockstepMismatch mb s
  | .failoverResume => Sys2Proof.Machine.execFailoverResume s
  | .mgtReady q => Sys2Proof.Machine.execMgtReady q s
  | .mgtFailover q => Sys2Proof.Machine.execMgtFailover q s
  | .mgtRebootStby q => Sys2Proof.Machine.execMgtRebootStby q s
  | .mgtPeerDb q => Sys2Proof.Machine.execMgtPeerDb q s
  | .wdtKick q => Sys2Proof.Machine.execWdtKick q s
  | .watchdogExpiry => Sys2Proof.Machine.execWatchdogExpiry s
  | .ckptGo q len => Sys2Proof.Machine.execCkptGo q len s
  | .checkpointCommit => Sys2Proof.Machine.execCheckpointCommit s
  | .tlmSnap q => Sys2Proof.Machine.execTlmSnap q s
  | .fwmbHdb q => Sys2Proof.Machine.execFwmbHdb q s
  | .fwmbHack q => Sys2Proof.Machine.execFwmbHack q s
  | .fwmbFdb q => Sys2Proof.Machine.execFwmbFdb q s
  | .fwmbFack q => Sys2Proof.Machine.execFwmbFack q s
  | .svcPressDecide cycles st b => Sys2Proof.Machine.execSvcPressDecide cycles st b s
  | .svcStuckDecision => Sys2Proof.Machine.execSvcStuckDecision s
  | .portCycleEnd => Sys2Proof.Machine.execPortCycleEnd s
  | .portTstStart q n v => Sys2Proof.Machine.execPortTstStart q n v s
  | .portTstStop q n bits errs => Sys2Proof.Machine.execPortTstStop q n bits errs s
  | .loopbackLock up n => Sys2Proof.Machine.execLoopbackLock up n s
  | .loopbackLockLost up n bits errs => Sys2Proof.Machine.execLoopbackLockLost up n bits errs s
  | .hpTstStart q p v => Sys2Proof.Machine.execHpTstStart q p v s
  | .hpTstStop q p bits errs => Sys2Proof.Machine.execHpTstStop q p bits errs s
  | .bistStart q d => Sys2Proof.Machine.execBistStart q d s
  | .bistDone fail => Sys2Proof.Machine.execBistDone fail s
  | .jtagInstruction ix => Sys2Proof.Machine.execJtagInstruction ix s
  | .ocInactiveFilterExpiry n => Sys2Proof.Machine.execOcInactiveFilterExpiry n s
  | .vddAonFail => Sys2Proof.Machine.execVddAonFail s
  | .svcPressStart => Sys2Proof.Machine.execSvcPressStart s
  | .aclkClockCountAdvance => Sys2Proof.Machine.execAclkClockCountAdvance s
  | .ssLinkRecovery n => Sys2Proof.Machine.execSsLinkRecovery n s
  | .upstreamErrorDetected p fn err => Sys2Proof.Machine.execUpstreamErrorDetected p fn err s
  | .routerLoopbackEntry p => Sys2Proof.Machine.execRouterLoopbackEntry p s
  | .unloadComplete => Sys2Proof.Machine.execUnloadComplete s
  | .keyLoadComplete => Sys2Proof.Machine.execKeyLoadComplete s

end Sys2Proof.Machine
end

