-- ==== Sys2Proof/Laws/Map.lean ====
section
/-!
SUPPORT. Sparse maps and register fields: what is read after a write, and that every operation keeps the canonical
form.
-/
namespace Sys2Proof.Machine

/-! ## Reading -/

variable {α : Type}

@[simp] theorem FMap.find_nil (d : α) (k : Nat) : FMap.find d k [] = d := rfl

theorem FMap.find_drop (d : α) (k j : Nat) (m : FMap α) :
    FMap.find d k (FMap.drop j m) = if k = j then d else FMap.find d k m := by
  induction m with
  | nil => simp [FMap.drop, FMap.find]
  | cons p t ih =>
    obtain ⟨i, a⟩ := p
    by_cases h : i = j <;> by_cases h2 : i = k <;> simp_all [FMap.drop, FMap.find]

theorem FMap.find_insert (d a : α) (k j : Nat) (m : FMap α) :
    FMap.find d k (FMap.insert j a m) = if k = j then a else FMap.find d k m := by
  induction m with
  | nil => simp [FMap.insert, FMap.find, eq_comm]
  | cons p t ih =>
    obtain ⟨i, b⟩ := p
    by_cases h1 : j < i
    · simp [FMap.insert, FMap.find, h1, eq_comm]
    · by_cases h2 : i = j
      · subst h2; by_cases h3 : i = k <;> simp [FMap.insert, FMap.find, h3, eq_comm (a := k)]
      · by_cases h3 : i = k
        · subst h3; simp [FMap.insert, FMap.find, h1, h2]
        · simp [FMap.insert, FMap.find, h1, h2, h3, ih]

/-- What is read after a write: the value written, and everything else as before. -/
theorem FMap.find_put [DecidableEq α] (d a : α) (k j : Nat) (m : FMap α) :
    FMap.find d k (FMap.put d j a m) = if k = j then a else FMap.find d k m := by
  unfold FMap.put
  split
  · subst_vars; simp [FMap.find_drop]
  · exact FMap.find_insert d a k j m

@[simp] theorem FMap.find_put_same [DecidableEq α] (d a : α) (k : Nat) (m : FMap α) :
    FMap.find d k (FMap.put d k a m) = a := by simp [FMap.find_put]

theorem FMap.find_put_ne [DecidableEq α] (d a : α) {k j : Nat} (m : FMap α) (h : k ≠ j) :
    FMap.find d k (FMap.put d j a m) = FMap.find d k m := by simp [FMap.find_put, h]

/-- Reading at another default: the two agree where the key is written. -/
theorem FMap.find_put_any [DecidableEq α] (d e a : α) {k j : Nat} (m : FMap α) (h : k ≠ j) :
    FMap.find e k (FMap.put d j a m) = FMap.find e k m := by
  unfold FMap.put
  split
  · simp [FMap.find_drop, h]
  · simp [FMap.find_insert, h]

/-! ## The canonical form -/

theorem FMap.mem_drop {k : Nat} {m : FMap α} {p : Nat × α} (h : p ∈ FMap.drop k m) : p ∈ m := by
  induction m with
  | nil => simp [FMap.drop] at h
  | cons q t ih =>
    obtain ⟨i, b⟩ := q
    by_cases h1 : i = k
    · simp [FMap.drop, h1] at h; exact List.mem_cons_of_mem _ (ih h)
    · simp [FMap.drop, h1] at h
      rcases h with h | h
      · simp [h]
      · exact List.mem_cons_of_mem _ (ih h)

theorem FMap.sorted_cons (j : Nat) (a : α) (t : FMap α) :
    FMap.sorted ((j, a) :: t) = true ↔ (∀ p ∈ t, j < p.1) ∧ FMap.sorted t = true := by
  simp [FMap.sorted]

theorem FMap.sorted_drop {m : FMap α} (k : Nat) (h : FMap.sorted m = true) : FMap.sorted (FMap.drop k m) = true := by
  induction m with
  | nil => rfl
  | cons q t ih =>
    obtain ⟨i, b⟩ := q
    rw [FMap.sorted_cons] at h
    by_cases h1 : i = k
    · simpa [FMap.drop, h1] using ih h.2
    · simp only [FMap.drop, h1, if_false]
      rw [FMap.sorted_cons]
      exact ⟨fun p hp => h.1 p (FMap.mem_drop hp), ih h.2⟩

theorem FMap.mem_insert {k : Nat} {a : α} {m : FMap α} {p : Nat × α} (h : p ∈ FMap.insert k a m) :
    p = (k, a) ∨ p ∈ m := by
  induction m with
  | nil => simpa [FMap.insert] using h
  | cons q t ih =>
    obtain ⟨i, b⟩ := q
    by_cases h1 : k < i
    · simpa [FMap.insert, h1] using h
    · by_cases h2 : i = k
      · simp [FMap.insert, h2] at h
        rcases h with h | h
        · exact .inl h
        · exact .inr (List.mem_cons_of_mem _ h)
      · simp [FMap.insert, h1, h2] at h
        rcases h with h | h
        · exact .inr (by simp [h])
        · rcases ih h with h | h
          · exact .inl h
          · exact .inr (List.mem_cons_of_mem _ h)

theorem FMap.sorted_insert {m : FMap α} (k : Nat) (a : α) (h : FMap.sorted m = true) :
    FMap.sorted (FMap.insert k a m) = true := by
  induction m with
  | nil => rfl
  | cons q t ih =>
    obtain ⟨i, b⟩ := q
    have h0 := h
    rw [FMap.sorted_cons] at h
    by_cases h1 : k < i
    · simp only [FMap.insert, h1, if_true]
      rw [FMap.sorted_cons]
      refine ⟨fun p hp => ?_, h0⟩
      rcases List.mem_cons.1 hp with hp | hp
      · simpa [hp] using h1
      · exact Nat.lt_trans h1 (h.1 p hp)
    · by_cases h2 : i = k
      · subst h2
        simp only [FMap.insert, h1, if_false, if_true]
        rw [FMap.sorted_cons]
        exact h
      · simp only [FMap.insert, h1, if_false, h2]
        rw [FMap.sorted_cons]
        refine ⟨fun p hp => ?_, ih h.2⟩
        rcases FMap.mem_insert hp with hp | hp
        · simp [hp]; omega
        · exact h.1 p hp

/-- A write keeps the canonical form. -/
theorem FMap.wf_put [DecidableEq α] {d : α} {m : FMap α} (k : Nat) (a : α) (h : FMap.wf d m = true) :
    FMap.wf d (FMap.put d k a m) = true := by
  simp only [FMap.wf, Bool.and_eq_true, List.all_eq_true, bne_iff_ne, ne_eq] at *
  unfold FMap.put
  split
  · exact ⟨FMap.sorted_drop k h.1, fun p hp => h.2 p (FMap.mem_drop hp)⟩
  · refine ⟨FMap.sorted_insert k a h.1, fun p hp => ?_⟩
    rcases FMap.mem_insert hp with hp | hp
    · simpa [hp]
    · exact h.2 p hp

theorem FMap.sorted_filter {m : FMap α} (p : Nat × α → Bool) (h : FMap.sorted m = true) :
    FMap.sorted (m.filter p) = true := by
  induction m with
  | nil => rfl
  | cons q t ih =>
    obtain ⟨i, b⟩ := q
    rw [FMap.sorted_cons] at h
    by_cases h1 : p (i, b) = true
    · simp only [List.filter_cons, h1, if_true]
      rw [FMap.sorted_cons]
      exact ⟨fun x hx => h.1 x (List.mem_of_mem_filter hx), ih h.2⟩
    · simpa [List.filter_cons, h1] using ih h.2

/-- Removing entries keeps the canonical form. -/
theorem FMap.wf_filter [DecidableEq α] {d : α} {m : FMap α} (p : Nat × α → Bool) (h : FMap.wf d m = true) :
    FMap.wf d (m.filter p) = true := by
  simp only [FMap.wf, Bool.and_eq_true, List.all_eq_true, bne_iff_ne, ne_eq] at *
  exact ⟨FMap.sorted_filter p h.1, fun x hx => h.2 x (List.mem_of_mem_filter hx)⟩

theorem FMap.wf_drop [DecidableEq α] {d : α} {m : FMap α} (k : Nat) (h : FMap.wf d m = true) :
    FMap.wf d (FMap.drop k m) = true := by
  simp only [FMap.wf, Bool.and_eq_true, List.all_eq_true, bne_iff_ne, ne_eq] at *
  exact ⟨FMap.sorted_drop k h.1, fun p hp => h.2 p (FMap.mem_drop hp)⟩

theorem FMap.mem_mapVals [DecidableEq α] {d : α} {f : Nat → α → α} {m : FMap α} {p : Nat × α}
    (h : p ∈ FMap.mapVals d f m) : p.2 ≠ d ∧ ∃ a, (p.1, a) ∈ m := by
  induction m with
  | nil => simp [FMap.mapVals] at h
  | cons q t ih =>
    obtain ⟨i, b⟩ := q
    by_cases h1 : f i b = d
    · simp only [FMap.mapVals, h1, if_true] at h
      obtain ⟨h2, a, h3⟩ := ih h
      exact ⟨h2, a, List.mem_cons_of_mem _ h3⟩
    · simp only [FMap.mapVals, h1, if_false, List.mem_cons] at h
      rcases h with h | h
      · subst h; exact ⟨h1, b, by simp⟩
      · obtain ⟨h2, a, h3⟩ := ih h
        exact ⟨h2, a, List.mem_cons_of_mem _ h3⟩

/-- Changing every value keeps the canonical form. -/
theorem FMap.wf_mapVals [DecidableEq α] {d : α} {m : FMap α} (f : Nat → α → α) (h : FMap.wf d m = true) :
    FMap.wf d (FMap.mapVals d f m) = true := by
  simp only [FMap.wf, Bool.and_eq_true, List.all_eq_true, bne_iff_ne, ne_eq] at *
  refine ⟨?_, fun p hp => (FMap.mem_mapVals hp).1⟩
  have hs := h.1
  clear h
  induction m with
  | nil => rfl
  | cons q t ih =>
    obtain ⟨i, b⟩ := q
    rw [FMap.sorted_cons] at hs
    by_cases h1 : f i b = d
    · simpa [FMap.mapVals, h1] using ih hs.2
    · simp only [FMap.mapVals, h1, if_false]
      rw [FMap.sorted_cons]
      refine ⟨fun p hp => ?_, ih hs.2⟩
      obtain ⟨_, a, h3⟩ := FMap.mem_mapVals hp
      exact hs.1 (p.1, a) h3

/-! ## Fields -/

/-- A field lies in a register. -/
def Fld.ok (f : Fld) : Bool := decide (f.lo ≤ f.hi) && decide (f.hi < 64)

/-- Two fields share no bit. -/
def Fld.apart (f g : Fld) : Bool := decide (f.hi < g.lo) || decide (g.hi < f.lo)

theorem Fld.get_eq (f : Fld) (v : Word64) (i : Nat) :
    (f.get v).testBit i = (decide (i < f.width) && v.toNat.testBit (f.lo + i)) := by
  simp [Fld.get, Nat.testBit_mod_two_pow, Nat.testBit_shiftRight]

theorem Fld.put_bit (f : Fld) (x : Nat) (v : Word64) (i : Nat) (hf : f.ok = true) :
    (f.put x v).toNat.testBit i =
      if f.lo ≤ i ∧ i ≤ f.hi then x.testBit (i - f.lo) else v.toNat.testBit i := by
  simp only [Fld.ok, Bool.and_eq_true, decide_eq_true_eq] at hf
  have hw : f.width = f.hi + 1 - f.lo := rfl
  by_cases hi : i < 64
  · have e : (f.put x v).toNat.testBit i = (f.put x v).getLsbD i := rfl
    have e2 : v.toNat.testBit i = v.getLsbD i := rfl
    rw [e, e2]
    simp only [Fld.put, Fld.mask, BitVec.getLsbD_or, BitVec.getLsbD_and, BitVec.getLsbD_not,
      BitVec.getLsbD_shiftLeft, BitVec.getLsbD_ofNat, Nat.testBit_two_pow_sub_one, Nat.testBit_mod_two_pow]
    by_cases h1 : f.lo ≤ i
    · have h2 : ¬ i < f.lo := by omega
      have h3 : i - f.lo < 64 := by omega
      by_cases h4 : i ≤ f.hi
      · have h5 : i - f.lo < f.width := by omega
        simp [hi, h1, h2, h3, h4, h5]
      · have h5 : ¬ (i - f.lo < f.width) := by omega
        simp [hi, h1, h2, h3, h4, h5]
    · have h2 : i < f.lo := by omega
      simp [hi, h1, h2]
  · have h1 : ¬ (f.lo ≤ i ∧ i ≤ f.hi) := by omega
    rw [if_neg h1]
    have b : ∀ w : Word64, w.toNat.testBit i = false := fun w =>
      Nat.testBit_lt_two_pow (Nat.lt_of_lt_of_le w.isLt (Nat.pow_le_pow_right (by omega) (by omega)))
    rw [b, b]

/-- A field reads as what was put there, modulo its width. -/
theorem Fld.get_put_same (f : Fld) (x : Nat) (v : Word64) (hf : f.ok = true) :
    f.get (f.put x v) = x % 2 ^ f.width := by
  have hf' := hf
  simp only [Fld.ok, Bool.and_eq_true, decide_eq_true_eq] at hf'
  have hw : f.width = f.hi + 1 - f.lo := rfl
  apply Nat.eq_of_testBit_eq
  intro i
  rw [Fld.get_eq, Fld.put_bit f x v _ hf, Nat.testBit_mod_two_pow]
  by_cases h : i < f.width
  · have h2 : f.lo ≤ f.lo + i ∧ f.lo + i ≤ f.hi := by omega
    simp [h, h2]
  · simp [h]

/-- A field reads as before where another one has been written. -/
theorem Fld.get_put_apart (f g : Fld) (x : Nat) (v : Word64) (hg : g.ok = true) (h : f.apart g = true) :
    f.get (g.put x v) = f.get v := by
  simp only [Fld.apart, Bool.or_eq_true, decide_eq_true_eq] at h
  have hw : f.width = f.hi + 1 - f.lo := rfl
  apply Nat.eq_of_testBit_eq
  intro i
  rw [Fld.get_eq, Fld.get_eq, Fld.put_bit g x v _ hg]
  by_cases h1 : i < f.width
  · have h2 : ¬ (g.lo ≤ f.lo + i ∧ f.lo + i ≤ g.hi) := by omega
    rw [if_neg h2]
  · simp [h1]

end Sys2Proof.Machine
end

