-- ==== Sys2Proof/Laws/State.lean ====
section
/-!
SUPPORT. One lemma per field and per update of the state: what a named update leaves unchanged, by definition, and what is
read back from the map that it changes.
-/
namespace Sys2Proof.Machine

variable (s : State)

/-! ## Registers -/

@[simp] theorem wr_pending (r : Reg) (v : Word64) : (s.wr r v).pending = s.pending := rfl
@[simp] theorem wr_aon (r : Reg) (v : Word64) : (s.wr r v).aon = s.aon := rfl
@[simp] theorem wr_eff (r : Reg) (v : Word64) : (s.wr r v).eff = s.eff := rfl
@[simp] theorem wr_latches (r : Reg) (v : Word64) : (s.wr r v).latches = s.latches := rfl
@[simp] theorem wr_staged (r : Reg) (v : Word64) : (s.wr r v).staged = s.staged := rfl
@[simp] theorem wr_cyc (r : Reg) (v : Word64) : (s.wr r v).cyc = s.cyc := rfl
@[simp] theorem wr_readData (r : Reg) (v : Word64) : (s.wr r v).readData = s.readData := rfl
@[simp] theorem wr_out (r : Reg) (v : Word64) : (s.wr r v).out = s.out := rfl
@[simp] theorem wr_free (r : Reg) (v : Word64) : (s.wr r v).free = s.free := rfl
@[simp] theorem wr_funcs (r : Reg) (v : Word64) : (s.wr r v).funcs = s.funcs := rfl
@[simp] theorem wr_vecs (r : Reg) (v : Word64) : (s.wr r v).vecs = s.vecs := rfl
@[simp] theorem wr_hps (r : Reg) (v : Word64) : (s.wr r v).hps = s.hps := rfl
@[simp] theorem wr_atc (r : Reg) (v : Word64) : (s.wr r v).atc = s.atc := rfl
@[simp] theorem wr_reqs (r : Reg) (v : Word64) : (s.wr r v).reqs = s.reqs := rfl
@[simp] theorem wr_writes (r : Reg) (v : Word64) : (s.wr r v).writes = s.writes := rfl
@[simp] theorem wr_tag (r : Reg) (v : Word64) : (s.wr r v).tag = s.tag := rfl
@[simp] theorem wr_invals (r : Reg) (v : Word64) : (s.wr r v).invals = s.invals := rfl
@[simp] theorem wr_claimTimer (r : Reg) (v : Word64) : (s.wr r v).claimTimer = s.claimTimer := rfl
@[simp] theorem wr_aside (r : Reg) (v : Word64) : (s.wr r v).aside = s.aside := rfl
@[simp] theorem wr_unbind (r : Reg) (v : Word64) : (s.wr r v).unbind = s.unbind := rfl
@[simp] theorem wr_releasing (r : Reg) (v : Word64) : (s.wr r v).releasing = s.releasing := rfl
@[simp] theorem wr_resets (r : Reg) (v : Word64) : (s.wr r v).resets = s.resets := rfl
@[simp] theorem wr_lb (r : Reg) (v : Word64) : (s.wr r v).lb = s.lb := rfl
@[simp] theorem wr_attP (r : Reg) (v : Word64) : (s.wr r v).attP = s.attP := rfl
@[simp] theorem wr_att (r : Reg) (v : Word64) : (s.wr r v).att = s.att := rfl
@[simp] theorem wr_epaOps (r : Reg) (v : Word64) : (s.wr r v).epaOps = s.epaOps := rfl
@[simp] theorem wr_epaCmd (r : Reg) (v : Word64) : (s.wr r v).epaCmd = s.epaCmd := rfl
@[simp] theorem wr_sec (r : Reg) (v : Word64) : (s.wr r v).sec = s.sec := rfl
@[simp] theorem wr_secOver (r : Reg) (v : Word64) : (s.wr r v).secOver = s.secOver := rfl
@[simp] theorem wr_rings (r : Reg) (v : Word64) : (s.wr r v).rings = s.rings := rfl
@[simp] theorem wr_ctxs (r : Reg) (v : Word64) : (s.wr r v).ctxs = s.ctxs := rfl
@[simp] theorem wr_progs (r : Reg) (v : Word64) : (s.wr r v).progs = s.progs := rfl
@[simp] theorem wr_ldCmd (r : Reg) (v : Word64) : (s.wr r v).ldCmd = s.ldCmd := rfl
@[simp] theorem wr_engs (r : Reg) (v : Word64) : (s.wr r v).engs = s.engs := rfl
@[simp] theorem wr_ready (r : Reg) (v : Word64) : (s.wr r v).ready = s.ready := rfl
@[simp] theorem wr_stolen (r : Reg) (v : Word64) : (s.wr r v).stolen = s.stolen := rfl
@[simp] theorem wr_staleSeen (r : Reg) (v : Word64) : (s.wr r v).staleSeen = s.staleSeen := rfl
@[simp] theorem wr_tokens (r : Reg) (v : Word64) : (s.wr r v).tokens = s.tokens := rfl
@[simp] theorem wr_sems (r : Reg) (v : Word64) : (s.wr r v).sems = s.sems := rfl
@[simp] theorem wr_eps (r : Reg) (v : Word64) : (s.wr r v).eps = s.eps := rfl
@[simp] theorem wr_devs (r : Reg) (v : Word64) : (s.wr r v).devs = s.devs := rfl
@[simp] theorem wr_ports (r : Reg) (v : Word64) : (s.wr r v).ports = s.ports := rfl
@[simp] theorem wr_resvP (r : Reg) (v : Word64) : (s.wr r v).resvP = s.resvP := rfl
@[simp] theorem wr_resvE (r : Reg) (v : Word64) : (s.wr r v).resvE = s.resvE := rfl
@[simp] theorem wr_resvF (r : Reg) (v : Word64) : (s.wr r v).resvF = s.resvF := rfl
@[simp] theorem wr_resvG (r : Reg) (v : Word64) : (s.wr r v).resvG = s.resvG := rfl
@[simp] theorem wr_deciding (r : Reg) (v : Word64) : (s.wr r v).deciding = s.deciding := rfl
@[simp] theorem wr_board (r : Reg) (v : Word64) : (s.wr r v).board = s.board := rfl
@[simp] theorem wr_hdrs (r : Reg) (v : Word64) : (s.wr r v).hdrs = s.hdrs := rfl
@[simp] theorem wr_planners (r : Reg) (v : Word64) : (s.wr r v).planners = s.planners := rfl
@[simp] theorem wr_sync (r : Reg) (v : Word64) : (s.wr r v).sync = s.sync := rfl
@[simp] theorem wr_snapAt (r : Reg) (v : Word64) : (s.wr r v).snapAt = s.snapAt := rfl
@[simp] theorem wr_flts (r : Reg) (v : Word64) : (s.wr r v).flts = s.flts := rfl
@[simp] theorem wr_icPend (r : Reg) (v : Word64) : (s.wr r v).icPend = s.icPend := rfl
@[simp] theorem wr_insA (r : Reg) (v : Word64) : (s.wr r v).insA = s.insA := rfl
@[simp] theorem wr_insB (r : Reg) (v : Word64) : (s.wr r v).insB = s.insB := rfl
@[simp] theorem wr_gpio (r : Reg) (v : Word64) : (s.wr r v).gpio = s.gpio := rfl
@[simp] theorem wr_doms (r : Reg) (v : Word64) : (s.wr r v).doms = s.doms := rfl
@[simp] theorem wr_avs (r : Reg) (v : Word64) : (s.wr r v).avs = s.avs := rfl
@[simp] theorem wr_preds (r : Reg) (v : Word64) : (s.wr r v).preds = s.preds := rfl
@[simp] theorem wr_pairA (r : Reg) (v : Word64) : (s.wr r v).pairA = s.pairA := rfl
@[simp] theorem wr_pairB (r : Reg) (v : Word64) : (s.wr r v).pairB = s.pairB := rfl
@[simp] theorem wr_sramA (r : Reg) (v : Word64) : (s.wr r v).sramA = s.sramA := rfl
@[simp] theorem wr_sramB (r : Reg) (v : Word64) : (s.wr r v).sramB = s.sramB := rfl
@[simp] theorem wr_ckpt (r : Reg) (v : Word64) : (s.wr r v).ckpt = s.ckpt := rfl
@[simp] theorem wr_starting (r : Reg) (v : Word64) : (s.wr r v).starting = s.starting := rfl
@[simp] theorem wr_wdt (r : Reg) (v : Word64) : (s.wr r v).wdt = s.wdt := rfl
@[simp] theorem wr_live (r : Reg) (v : Word64) : (s.wr r v).live = s.live := rfl
@[simp] theorem wr_lats (r : Reg) (v : Word64) : (s.wr r v).lats = s.lats := rfl
@[simp] theorem wr_mdmaQ (r : Reg) (v : Word64) : (s.wr r v).mdmaQ = s.mdmaQ := rfl
@[simp] theorem wr_mdmaNew (r : Reg) (v : Word64) : (s.wr r v).mdmaNew = s.mdmaNew := rfl
@[simp] theorem wr_mdmaFails (r : Reg) (v : Word64) : (s.wr r v).mdmaFails = s.mdmaFails := rfl
@[simp] theorem wr_mdmaRun (r : Reg) (v : Word64) : (s.wr r v).mdmaRun = s.mdmaRun := rfl
@[simp] theorem wr_keys (r : Reg) (v : Word64) : (s.wr r v).keys = s.keys := rfl
@[simp] theorem wr_seqs (r : Reg) (v : Word64) : (s.wr r v).seqs = s.seqs := rfl
@[simp] theorem wr_stage (r : Reg) (v : Word64) : (s.wr r v).stage = s.stage := rfl
@[simp] theorem wr_keyCmd (r : Reg) (v : Word64) : (s.wr r v).keyCmd = s.keyCmd := rfl
@[simp] theorem wr_sealOps (r : Reg) (v : Word64) : (s.wr r v).sealOps = s.sealOps := rfl
@[simp] theorem wr_restoring (r : Reg) (v : Word64) : (s.wr r v).restoring = s.restoring := rfl
@[simp] theorem wr_adjs (r : Reg) (v : Word64) : (s.wr r v).adjs = s.adjs := rfl
@[simp] theorem wr_adjCmd (r : Reg) (v : Word64) : (s.wr r v).adjCmd = s.adjCmd := rfl
@[simp] theorem wr_jtag (r : Reg) (v : Word64) : (s.wr r v).jtag = s.jtag := rfl
@[simp] theorem wr_isolated (r : Reg) (v : Word64) : (s.wr r v).isolated = s.isolated := rfl

@[simp] theorem setF_pending (r : Reg) (f : Fld) (x : Nat) : (s.setF r f x).pending = s.pending := rfl
@[simp] theorem setF_aon (r : Reg) (f : Fld) (x : Nat) : (s.setF r f x).aon = s.aon := rfl
@[simp] theorem setF_eff (r : Reg) (f : Fld) (x : Nat) : (s.setF r f x).eff = s.eff := rfl
@[simp] theorem setF_latches (r : Reg) (f : Fld) (x : Nat) : (s.setF r f x).latches = s.latches := rfl
@[simp] theorem setF_staged (r : Reg) (f : Fld) (x : Nat) : (s.setF r f x).staged = s.staged := rfl
@[simp] theorem setF_cyc (r : Reg) (f : Fld) (x : Nat) : (s.setF r f x).cyc = s.cyc := rfl
@[simp] theorem setF_readData (r : Reg) (f : Fld) (x : Nat) : (s.setF r f x).readData = s.readData := rfl
@[simp] theorem setF_out (r : Reg) (f : Fld) (x : Nat) : (s.setF r f x).out = s.out := rfl
@[simp] theorem setF_free (r : Reg) (f : Fld) (x : Nat) : (s.setF r f x).free = s.free := rfl
@[simp] theorem setF_funcs (r : Reg) (f : Fld) (x : Nat) : (s.setF r f x).funcs = s.funcs := rfl
@[simp] theorem setF_vecs (r : Reg) (f : Fld) (x : Nat) : (s.setF r f x).vecs = s.vecs := rfl
@[simp] theorem setF_hps (r : Reg) (f : Fld) (x : Nat) : (s.setF r f x).hps = s.hps := rfl
@[simp] theorem setF_atc (r : Reg) (f : Fld) (x : Nat) : (s.setF r f x).atc = s.atc := rfl
@[simp] theorem setF_reqs (r : Reg) (f : Fld) (x : Nat) : (s.setF r f x).reqs = s.reqs := rfl
@[simp] theorem setF_writes (r : Reg) (f : Fld) (x : Nat) : (s.setF r f x).writes = s.writes := rfl
@[simp] theorem setF_tag (r : Reg) (f : Fld) (x : Nat) : (s.setF r f x).tag = s.tag := rfl
@[simp] theorem setF_invals (r : Reg) (f : Fld) (x : Nat) : (s.setF r f x).invals = s.invals := rfl
@[simp] theorem setF_claimTimer (r : Reg) (f : Fld) (x : Nat) : (s.setF r f x).claimTimer = s.claimTimer := rfl
@[simp] theorem setF_aside (r : Reg) (f : Fld) (x : Nat) : (s.setF r f x).aside = s.aside := rfl
@[simp] theorem setF_unbind (r : Reg) (f : Fld) (x : Nat) : (s.setF r f x).unbind = s.unbind := rfl
@[simp] theorem setF_releasing (r : Reg) (f : Fld) (x : Nat) : (s.setF r f x).releasing = s.releasing := rfl
@[simp] theorem setF_resets (r : Reg) (f : Fld) (x : Nat) : (s.setF r f x).resets = s.resets := rfl
@[simp] theorem setF_lb (r : Reg) (f : Fld) (x : Nat) : (s.setF r f x).lb = s.lb := rfl
@[simp] theorem setF_attP (r : Reg) (f : Fld) (x : Nat) : (s.setF r f x).attP = s.attP := rfl
@[simp] theorem setF_att (r : Reg) (f : Fld) (x : Nat) : (s.setF r f x).att = s.att := rfl
@[simp] theorem setF_epaOps (r : Reg) (f : Fld) (x : Nat) : (s.setF r f x).epaOps = s.epaOps := rfl
@[simp] theorem setF_epaCmd (r : Reg) (f : Fld) (x : Nat) : (s.setF r f x).epaCmd = s.epaCmd := rfl
@[simp] theorem setF_sec (r : Reg) (f : Fld) (x : Nat) : (s.setF r f x).sec = s.sec := rfl
@[simp] theorem setF_secOver (r : Reg) (f : Fld) (x : Nat) : (s.setF r f x).secOver = s.secOver := rfl
@[simp] theorem setF_rings (r : Reg) (f : Fld) (x : Nat) : (s.setF r f x).rings = s.rings := rfl
@[simp] theorem setF_ctxs (r : Reg) (f : Fld) (x : Nat) : (s.setF r f x).ctxs = s.ctxs := rfl
@[simp] theorem setF_progs (r : Reg) (f : Fld) (x : Nat) : (s.setF r f x).progs = s.progs := rfl
@[simp] theorem setF_ldCmd (r : Reg) (f : Fld) (x : Nat) : (s.setF r f x).ldCmd = s.ldCmd := rfl
@[simp] theorem setF_engs (r : Reg) (f : Fld) (x : Nat) : (s.setF r f x).engs = s.engs := rfl
@[simp] theorem setF_ready (r : Reg) (f : Fld) (x : Nat) : (s.setF r f x).ready = s.ready := rfl
@[simp] theorem setF_stolen (r : Reg) (f : Fld) (x : Nat) : (s.setF r f x).stolen = s.stolen := rfl
@[simp] theorem setF_staleSeen (r : Reg) (f : Fld) (x : Nat) : (s.setF r f x).staleSeen = s.staleSeen := rfl
@[simp] theorem setF_tokens (r : Reg) (f : Fld) (x : Nat) : (s.setF r f x).tokens = s.tokens := rfl
@[simp] theorem setF_sems (r : Reg) (f : Fld) (x : Nat) : (s.setF r f x).sems = s.sems := rfl
@[simp] theorem setF_eps (r : Reg) (f : Fld) (x : Nat) : (s.setF r f x).eps = s.eps := rfl
@[simp] theorem setF_devs (r : Reg) (f : Fld) (x : Nat) : (s.setF r f x).devs = s.devs := rfl
@[simp] theorem setF_ports (r : Reg) (f : Fld) (x : Nat) : (s.setF r f x).ports = s.ports := rfl
@[simp] theorem setF_resvP (r : Reg) (f : Fld) (x : Nat) : (s.setF r f x).resvP = s.resvP := rfl
@[simp] theorem setF_resvE (r : Reg) (f : Fld) (x : Nat) : (s.setF r f x).resvE = s.resvE := rfl
@[simp] theorem setF_resvF (r : Reg) (f : Fld) (x : Nat) : (s.setF r f x).resvF = s.resvF := rfl
@[simp] theorem setF_resvG (r : Reg) (f : Fld) (x : Nat) : (s.setF r f x).resvG = s.resvG := rfl
@[simp] theorem setF_deciding (r : Reg) (f : Fld) (x : Nat) : (s.setF r f x).deciding = s.deciding := rfl
@[simp] theorem setF_board (r : Reg) (f : Fld) (x : Nat) : (s.setF r f x).board = s.board := rfl
@[simp] theorem setF_hdrs (r : Reg) (f : Fld) (x : Nat) : (s.setF r f x).hdrs = s.hdrs := rfl
@[simp] theorem setF_planners (r : Reg) (f : Fld) (x : Nat) : (s.setF r f x).planners = s.planners := rfl
@[simp] theorem setF_sync (r : Reg) (f : Fld) (x : Nat) : (s.setF r f x).sync = s.sync := rfl
@[simp] theorem setF_snapAt (r : Reg) (f : Fld) (x : Nat) : (s.setF r f x).snapAt = s.snapAt := rfl
@[simp] theorem setF_flts (r : Reg) (f : Fld) (x : Nat) : (s.setF r f x).flts = s.flts := rfl
@[simp] theorem setF_icPend (r : Reg) (f : Fld) (x : Nat) : (s.setF r f x).icPend = s.icPend := rfl
@[simp] theorem setF_insA (r : Reg) (f : Fld) (x : Nat) : (s.setF r f x).insA = s.insA := rfl
@[simp] theorem setF_insB (r : Reg) (f : Fld) (x : Nat) : (s.setF r f x).insB = s.insB := rfl
@[simp] theorem setF_gpio (r : Reg) (f : Fld) (x : Nat) : (s.setF r f x).gpio = s.gpio := rfl
@[simp] theorem setF_doms (r : Reg) (f : Fld) (x : Nat) : (s.setF r f x).doms = s.doms := rfl
@[simp] theorem setF_avs (r : Reg) (f : Fld) (x : Nat) : (s.setF r f x).avs = s.avs := rfl
@[simp] theorem setF_preds (r : Reg) (f : Fld) (x : Nat) : (s.setF r f x).preds = s.preds := rfl
@[simp] theorem setF_pairA (r : Reg) (f : Fld) (x : Nat) : (s.setF r f x).pairA = s.pairA := rfl
@[simp] theorem setF_pairB (r : Reg) (f : Fld) (x : Nat) : (s.setF r f x).pairB = s.pairB := rfl
@[simp] theorem setF_sramA (r : Reg) (f : Fld) (x : Nat) : (s.setF r f x).sramA = s.sramA := rfl
@[simp] theorem setF_sramB (r : Reg) (f : Fld) (x : Nat) : (s.setF r f x).sramB = s.sramB := rfl
@[simp] theorem setF_ckpt (r : Reg) (f : Fld) (x : Nat) : (s.setF r f x).ckpt = s.ckpt := rfl
@[simp] theorem setF_starting (r : Reg) (f : Fld) (x : Nat) : (s.setF r f x).starting = s.starting := rfl
@[simp] theorem setF_wdt (r : Reg) (f : Fld) (x : Nat) : (s.setF r f x).wdt = s.wdt := rfl
@[simp] theorem setF_live (r : Reg) (f : Fld) (x : Nat) : (s.setF r f x).live = s.live := rfl
@[simp] theorem setF_lats (r : Reg) (f : Fld) (x : Nat) : (s.setF r f x).lats = s.lats := rfl
@[simp] theorem setF_mdmaQ (r : Reg) (f : Fld) (x : Nat) : (s.setF r f x).mdmaQ = s.mdmaQ := rfl
@[simp] theorem setF_mdmaNew (r : Reg) (f : Fld) (x : Nat) : (s.setF r f x).mdmaNew = s.mdmaNew := rfl
@[simp] theorem setF_mdmaFails (r : Reg) (f : Fld) (x : Nat) : (s.setF r f x).mdmaFails = s.mdmaFails := rfl
@[simp] theorem setF_mdmaRun (r : Reg) (f : Fld) (x : Nat) : (s.setF r f x).mdmaRun = s.mdmaRun := rfl
@[simp] theorem setF_keys (r : Reg) (f : Fld) (x : Nat) : (s.setF r f x).keys = s.keys := rfl
@[simp] theorem setF_seqs (r : Reg) (f : Fld) (x : Nat) : (s.setF r f x).seqs = s.seqs := rfl
@[simp] theorem setF_stage (r : Reg) (f : Fld) (x : Nat) : (s.setF r f x).stage = s.stage := rfl
@[simp] theorem setF_keyCmd (r : Reg) (f : Fld) (x : Nat) : (s.setF r f x).keyCmd = s.keyCmd := rfl
@[simp] theorem setF_sealOps (r : Reg) (f : Fld) (x : Nat) : (s.setF r f x).sealOps = s.sealOps := rfl
@[simp] theorem setF_restoring (r : Reg) (f : Fld) (x : Nat) : (s.setF r f x).restoring = s.restoring := rfl
@[simp] theorem setF_adjs (r : Reg) (f : Fld) (x : Nat) : (s.setF r f x).adjs = s.adjs := rfl
@[simp] theorem setF_adjCmd (r : Reg) (f : Fld) (x : Nat) : (s.setF r f x).adjCmd = s.adjCmd := rfl
@[simp] theorem setF_jtag (r : Reg) (f : Fld) (x : Nat) : (s.setF r f x).jtag = s.jtag := rfl
@[simp] theorem setF_isolated (r : Reg) (f : Fld) (x : Nat) : (s.setF r f x).isolated = s.isolated := rfl

@[simp] theorem emit_pending (o : Output) : (s.emit o).pending = s.pending := rfl
@[simp] theorem emit_aon (o : Output) : (s.emit o).aon = s.aon := rfl
@[simp] theorem emit_regs (o : Output) : (s.emit o).regs = s.regs := rfl
@[simp] theorem emit_eff (o : Output) : (s.emit o).eff = s.eff := rfl
@[simp] theorem emit_latches (o : Output) : (s.emit o).latches = s.latches := rfl
@[simp] theorem emit_staged (o : Output) : (s.emit o).staged = s.staged := rfl
@[simp] theorem emit_cyc (o : Output) : (s.emit o).cyc = s.cyc := rfl
@[simp] theorem emit_readData (o : Output) : (s.emit o).readData = s.readData := rfl
@[simp] theorem emit_free (o : Output) : (s.emit o).free = s.free := rfl
@[simp] theorem emit_funcs (o : Output) : (s.emit o).funcs = s.funcs := rfl
@[simp] theorem emit_vecs (o : Output) : (s.emit o).vecs = s.vecs := rfl
@[simp] theorem emit_hps (o : Output) : (s.emit o).hps = s.hps := rfl
@[simp] theorem emit_atc (o : Output) : (s.emit o).atc = s.atc := rfl
@[simp] theorem emit_reqs (o : Output) : (s.emit o).reqs = s.reqs := rfl
@[simp] theorem emit_writes (o : Output) : (s.emit o).writes = s.writes := rfl
@[simp] theorem emit_tag (o : Output) : (s.emit o).tag = s.tag := rfl
@[simp] theorem emit_invals (o : Output) : (s.emit o).invals = s.invals := rfl
@[simp] theorem emit_claimTimer (o : Output) : (s.emit o).claimTimer = s.claimTimer := rfl
@[simp] theorem emit_aside (o : Output) : (s.emit o).aside = s.aside := rfl
@[simp] theorem emit_unbind (o : Output) : (s.emit o).unbind = s.unbind := rfl
@[simp] theorem emit_releasing (o : Output) : (s.emit o).releasing = s.releasing := rfl
@[simp] theorem emit_resets (o : Output) : (s.emit o).resets = s.resets := rfl
@[simp] theorem emit_lb (o : Output) : (s.emit o).lb = s.lb := rfl
@[simp] theorem emit_attP (o : Output) : (s.emit o).attP = s.attP := rfl
@[simp] theorem emit_att (o : Output) : (s.emit o).att = s.att := rfl
@[simp] theorem emit_epaOps (o : Output) : (s.emit o).epaOps = s.epaOps := rfl
@[simp] theorem emit_epaCmd (o : Output) : (s.emit o).epaCmd = s.epaCmd := rfl
@[simp] theorem emit_sec (o : Output) : (s.emit o).sec = s.sec := rfl
@[simp] theorem emit_secOver (o : Output) : (s.emit o).secOver = s.secOver := rfl
@[simp] theorem emit_rings (o : Output) : (s.emit o).rings = s.rings := rfl
@[simp] theorem emit_ctxs (o : Output) : (s.emit o).ctxs = s.ctxs := rfl
@[simp] theorem emit_progs (o : Output) : (s.emit o).progs = s.progs := rfl
@[simp] theorem emit_ldCmd (o : Output) : (s.emit o).ldCmd = s.ldCmd := rfl
@[simp] theorem emit_engs (o : Output) : (s.emit o).engs = s.engs := rfl
@[simp] theorem emit_ready (o : Output) : (s.emit o).ready = s.ready := rfl
@[simp] theorem emit_stolen (o : Output) : (s.emit o).stolen = s.stolen := rfl
@[simp] theorem emit_staleSeen (o : Output) : (s.emit o).staleSeen = s.staleSeen := rfl
@[simp] theorem emit_tokens (o : Output) : (s.emit o).tokens = s.tokens := rfl
@[simp] theorem emit_sems (o : Output) : (s.emit o).sems = s.sems := rfl
@[simp] theorem emit_eps (o : Output) : (s.emit o).eps = s.eps := rfl
@[simp] theorem emit_devs (o : Output) : (s.emit o).devs = s.devs := rfl
@[simp] theorem emit_ports (o : Output) : (s.emit o).ports = s.ports := rfl
@[simp] theorem emit_resvP (o : Output) : (s.emit o).resvP = s.resvP := rfl
@[simp] theorem emit_resvE (o : Output) : (s.emit o).resvE = s.resvE := rfl
@[simp] theorem emit_resvF (o : Output) : (s.emit o).resvF = s.resvF := rfl
@[simp] theorem emit_resvG (o : Output) : (s.emit o).resvG = s.resvG := rfl
@[simp] theorem emit_deciding (o : Output) : (s.emit o).deciding = s.deciding := rfl
@[simp] theorem emit_board (o : Output) : (s.emit o).board = s.board := rfl
@[simp] theorem emit_hdrs (o : Output) : (s.emit o).hdrs = s.hdrs := rfl
@[simp] theorem emit_planners (o : Output) : (s.emit o).planners = s.planners := rfl
@[simp] theorem emit_sync (o : Output) : (s.emit o).sync = s.sync := rfl
@[simp] theorem emit_snapAt (o : Output) : (s.emit o).snapAt = s.snapAt := rfl
@[simp] theorem emit_flts (o : Output) : (s.emit o).flts = s.flts := rfl
@[simp] theorem emit_icPend (o : Output) : (s.emit o).icPend = s.icPend := rfl
@[simp] theorem emit_insA (o : Output) : (s.emit o).insA = s.insA := rfl
@[simp] theorem emit_insB (o : Output) : (s.emit o).insB = s.insB := rfl
@[simp] theorem emit_gpio (o : Output) : (s.emit o).gpio = s.gpio := rfl
@[simp] theorem emit_doms (o : Output) : (s.emit o).doms = s.doms := rfl
@[simp] theorem emit_avs (o : Output) : (s.emit o).avs = s.avs := rfl
@[simp] theorem emit_preds (o : Output) : (s.emit o).preds = s.preds := rfl
@[simp] theorem emit_pairA (o : Output) : (s.emit o).pairA = s.pairA := rfl
@[simp] theorem emit_pairB (o : Output) : (s.emit o).pairB = s.pairB := rfl
@[simp] theorem emit_sramA (o : Output) : (s.emit o).sramA = s.sramA := rfl
@[simp] theorem emit_sramB (o : Output) : (s.emit o).sramB = s.sramB := rfl
@[simp] theorem emit_ckpt (o : Output) : (s.emit o).ckpt = s.ckpt := rfl
@[simp] theorem emit_starting (o : Output) : (s.emit o).starting = s.starting := rfl
@[simp] theorem emit_wdt (o : Output) : (s.emit o).wdt = s.wdt := rfl
@[simp] theorem emit_live (o : Output) : (s.emit o).live = s.live := rfl
@[simp] theorem emit_lats (o : Output) : (s.emit o).lats = s.lats := rfl
@[simp] theorem emit_mdmaQ (o : Output) : (s.emit o).mdmaQ = s.mdmaQ := rfl
@[simp] theorem emit_mdmaNew (o : Output) : (s.emit o).mdmaNew = s.mdmaNew := rfl
@[simp] theorem emit_mdmaFails (o : Output) : (s.emit o).mdmaFails = s.mdmaFails := rfl
@[simp] theorem emit_mdmaRun (o : Output) : (s.emit o).mdmaRun = s.mdmaRun := rfl
@[simp] theorem emit_keys (o : Output) : (s.emit o).keys = s.keys := rfl
@[simp] theorem emit_seqs (o : Output) : (s.emit o).seqs = s.seqs := rfl
@[simp] theorem emit_stage (o : Output) : (s.emit o).stage = s.stage := rfl
@[simp] theorem emit_keyCmd (o : Output) : (s.emit o).keyCmd = s.keyCmd := rfl
@[simp] theorem emit_sealOps (o : Output) : (s.emit o).sealOps = s.sealOps := rfl
@[simp] theorem emit_restoring (o : Output) : (s.emit o).restoring = s.restoring := rfl
@[simp] theorem emit_adjs (o : Output) : (s.emit o).adjs = s.adjs := rfl
@[simp] theorem emit_adjCmd (o : Output) : (s.emit o).adjCmd = s.adjCmd := rfl
@[simp] theorem emit_jtag (o : Output) : (s.emit o).jtag = s.jtag := rfl
@[simp] theorem emit_isolated (o : Output) : (s.emit o).isolated = s.isolated := rfl

/-! ## funcs -/

@[simp] theorem setFunc_pending (k : Nat) (x : Func) : (s.setFunc k x).pending = s.pending := rfl
@[simp] theorem setFunc_aon (k : Nat) (x : Func) : (s.setFunc k x).aon = s.aon := rfl
@[simp] theorem setFunc_regs (k : Nat) (x : Func) : (s.setFunc k x).regs = s.regs := rfl
@[simp] theorem setFunc_eff (k : Nat) (x : Func) : (s.setFunc k x).eff = s.eff := rfl
@[simp] theorem setFunc_latches (k : Nat) (x : Func) : (s.setFunc k x).latches = s.latches := rfl
@[simp] theorem setFunc_staged (k : Nat) (x : Func) : (s.setFunc k x).staged = s.staged := rfl
@[simp] theorem setFunc_cyc (k : Nat) (x : Func) : (s.setFunc k x).cyc = s.cyc := rfl
@[simp] theorem setFunc_readData (k : Nat) (x : Func) : (s.setFunc k x).readData = s.readData := rfl
@[simp] theorem setFunc_out (k : Nat) (x : Func) : (s.setFunc k x).out = s.out := rfl
@[simp] theorem setFunc_free (k : Nat) (x : Func) : (s.setFunc k x).free = s.free := rfl
@[simp] theorem setFunc_vecs (k : Nat) (x : Func) : (s.setFunc k x).vecs = s.vecs := rfl
@[simp] theorem setFunc_hps (k : Nat) (x : Func) : (s.setFunc k x).hps = s.hps := rfl
@[simp] theorem setFunc_atc (k : Nat) (x : Func) : (s.setFunc k x).atc = s.atc := rfl
@[simp] theorem setFunc_reqs (k : Nat) (x : Func) : (s.setFunc k x).reqs = s.reqs := rfl
@[simp] theorem setFunc_writes (k : Nat) (x : Func) : (s.setFunc k x).writes = s.writes := rfl
@[simp] theorem setFunc_tag (k : Nat) (x : Func) : (s.setFunc k x).tag = s.tag := rfl
@[simp] theorem setFunc_invals (k : Nat) (x : Func) : (s.setFunc k x).invals = s.invals := rfl
@[simp] theorem setFunc_claimTimer (k : Nat) (x : Func) : (s.setFunc k x).claimTimer = s.claimTimer := rfl
@[simp] theorem setFunc_aside (k : Nat) (x : Func) : (s.setFunc k x).aside = s.aside := rfl
@[simp] theorem setFunc_unbind (k : Nat) (x : Func) : (s.setFunc k x).unbind = s.unbind := rfl
@[simp] theorem setFunc_releasing (k : Nat) (x : Func) : (s.setFunc k x).releasing = s.releasing := rfl
@[simp] theorem setFunc_resets (k : Nat) (x : Func) : (s.setFunc k x).resets = s.resets := rfl
@[simp] theorem setFunc_lb (k : Nat) (x : Func) : (s.setFunc k x).lb = s.lb := rfl
@[simp] theorem setFunc_attP (k : Nat) (x : Func) : (s.setFunc k x).attP = s.attP := rfl
@[simp] theorem setFunc_att (k : Nat) (x : Func) : (s.setFunc k x).att = s.att := rfl
@[simp] theorem setFunc_epaOps (k : Nat) (x : Func) : (s.setFunc k x).epaOps = s.epaOps := rfl
@[simp] theorem setFunc_epaCmd (k : Nat) (x : Func) : (s.setFunc k x).epaCmd = s.epaCmd := rfl
@[simp] theorem setFunc_sec (k : Nat) (x : Func) : (s.setFunc k x).sec = s.sec := rfl
@[simp] theorem setFunc_secOver (k : Nat) (x : Func) : (s.setFunc k x).secOver = s.secOver := rfl
@[simp] theorem setFunc_rings (k : Nat) (x : Func) : (s.setFunc k x).rings = s.rings := rfl
@[simp] theorem setFunc_ctxs (k : Nat) (x : Func) : (s.setFunc k x).ctxs = s.ctxs := rfl
@[simp] theorem setFunc_progs (k : Nat) (x : Func) : (s.setFunc k x).progs = s.progs := rfl
@[simp] theorem setFunc_ldCmd (k : Nat) (x : Func) : (s.setFunc k x).ldCmd = s.ldCmd := rfl
@[simp] theorem setFunc_engs (k : Nat) (x : Func) : (s.setFunc k x).engs = s.engs := rfl
@[simp] theorem setFunc_ready (k : Nat) (x : Func) : (s.setFunc k x).ready = s.ready := rfl
@[simp] theorem setFunc_stolen (k : Nat) (x : Func) : (s.setFunc k x).stolen = s.stolen := rfl
@[simp] theorem setFunc_staleSeen (k : Nat) (x : Func) : (s.setFunc k x).staleSeen = s.staleSeen := rfl
@[simp] theorem setFunc_tokens (k : Nat) (x : Func) : (s.setFunc k x).tokens = s.tokens := rfl
@[simp] theorem setFunc_sems (k : Nat) (x : Func) : (s.setFunc k x).sems = s.sems := rfl
@[simp] theorem setFunc_eps (k : Nat) (x : Func) : (s.setFunc k x).eps = s.eps := rfl
@[simp] theorem setFunc_devs (k : Nat) (x : Func) : (s.setFunc k x).devs = s.devs := rfl
@[simp] theorem setFunc_ports (k : Nat) (x : Func) : (s.setFunc k x).ports = s.ports := rfl
@[simp] theorem setFunc_resvP (k : Nat) (x : Func) : (s.setFunc k x).resvP = s.resvP := rfl
@[simp] theorem setFunc_resvE (k : Nat) (x : Func) : (s.setFunc k x).resvE = s.resvE := rfl
@[simp] theorem setFunc_resvF (k : Nat) (x : Func) : (s.setFunc k x).resvF = s.resvF := rfl
@[simp] theorem setFunc_resvG (k : Nat) (x : Func) : (s.setFunc k x).resvG = s.resvG := rfl
@[simp] theorem setFunc_deciding (k : Nat) (x : Func) : (s.setFunc k x).deciding = s.deciding := rfl
@[simp] theorem setFunc_board (k : Nat) (x : Func) : (s.setFunc k x).board = s.board := rfl
@[simp] theorem setFunc_hdrs (k : Nat) (x : Func) : (s.setFunc k x).hdrs = s.hdrs := rfl
@[simp] theorem setFunc_planners (k : Nat) (x : Func) : (s.setFunc k x).planners = s.planners := rfl
@[simp] theorem setFunc_sync (k : Nat) (x : Func) : (s.setFunc k x).sync = s.sync := rfl
@[simp] theorem setFunc_snapAt (k : Nat) (x : Func) : (s.setFunc k x).snapAt = s.snapAt := rfl
@[simp] theorem setFunc_flts (k : Nat) (x : Func) : (s.setFunc k x).flts = s.flts := rfl
@[simp] theorem setFunc_icPend (k : Nat) (x : Func) : (s.setFunc k x).icPend = s.icPend := rfl
@[simp] theorem setFunc_insA (k : Nat) (x : Func) : (s.setFunc k x).insA = s.insA := rfl
@[simp] theorem setFunc_insB (k : Nat) (x : Func) : (s.setFunc k x).insB = s.insB := rfl
@[simp] theorem setFunc_gpio (k : Nat) (x : Func) : (s.setFunc k x).gpio = s.gpio := rfl
@[simp] theorem setFunc_doms (k : Nat) (x : Func) : (s.setFunc k x).doms = s.doms := rfl
@[simp] theorem setFunc_avs (k : Nat) (x : Func) : (s.setFunc k x).avs = s.avs := rfl
@[simp] theorem setFunc_preds (k : Nat) (x : Func) : (s.setFunc k x).preds = s.preds := rfl
@[simp] theorem setFunc_pairA (k : Nat) (x : Func) : (s.setFunc k x).pairA = s.pairA := rfl
@[simp] theorem setFunc_pairB (k : Nat) (x : Func) : (s.setFunc k x).pairB = s.pairB := rfl
@[simp] theorem setFunc_sramA (k : Nat) (x : Func) : (s.setFunc k x).sramA = s.sramA := rfl
@[simp] theorem setFunc_sramB (k : Nat) (x : Func) : (s.setFunc k x).sramB = s.sramB := rfl
@[simp] theorem setFunc_ckpt (k : Nat) (x : Func) : (s.setFunc k x).ckpt = s.ckpt := rfl
@[simp] theorem setFunc_starting (k : Nat) (x : Func) : (s.setFunc k x).starting = s.starting := rfl
@[simp] theorem setFunc_wdt (k : Nat) (x : Func) : (s.setFunc k x).wdt = s.wdt := rfl
@[simp] theorem setFunc_live (k : Nat) (x : Func) : (s.setFunc k x).live = s.live := rfl
@[simp] theorem setFunc_lats (k : Nat) (x : Func) : (s.setFunc k x).lats = s.lats := rfl
@[simp] theorem setFunc_mdmaQ (k : Nat) (x : Func) : (s.setFunc k x).mdmaQ = s.mdmaQ := rfl
@[simp] theorem setFunc_mdmaNew (k : Nat) (x : Func) : (s.setFunc k x).mdmaNew = s.mdmaNew := rfl
@[simp] theorem setFunc_mdmaFails (k : Nat) (x : Func) : (s.setFunc k x).mdmaFails = s.mdmaFails := rfl
@[simp] theorem setFunc_mdmaRun (k : Nat) (x : Func) : (s.setFunc k x).mdmaRun = s.mdmaRun := rfl
@[simp] theorem setFunc_keys (k : Nat) (x : Func) : (s.setFunc k x).keys = s.keys := rfl
@[simp] theorem setFunc_seqs (k : Nat) (x : Func) : (s.setFunc k x).seqs = s.seqs := rfl
@[simp] theorem setFunc_stage (k : Nat) (x : Func) : (s.setFunc k x).stage = s.stage := rfl
@[simp] theorem setFunc_keyCmd (k : Nat) (x : Func) : (s.setFunc k x).keyCmd = s.keyCmd := rfl
@[simp] theorem setFunc_sealOps (k : Nat) (x : Func) : (s.setFunc k x).sealOps = s.sealOps := rfl
@[simp] theorem setFunc_restoring (k : Nat) (x : Func) : (s.setFunc k x).restoring = s.restoring := rfl
@[simp] theorem setFunc_adjs (k : Nat) (x : Func) : (s.setFunc k x).adjs = s.adjs := rfl
@[simp] theorem setFunc_adjCmd (k : Nat) (x : Func) : (s.setFunc k x).adjCmd = s.adjCmd := rfl
@[simp] theorem setFunc_jtag (k : Nat) (x : Func) : (s.setFunc k x).jtag = s.jtag := rfl
@[simp] theorem setFunc_isolated (k : Nat) (x : Func) : (s.setFunc k x).isolated = s.isolated := rfl
@[simp] theorem setFunc_rd (k : Nat) (x : Func) (r : Reg) : (s.setFunc k x).rd r = s.rd r := rfl
theorem setFunc_get (k j : Nat) (x : Func) : (s.setFunc k x).func j = if j = k then x else s.func j :=
  FMap.find_put _ _ _ _ _
@[simp] theorem setFunc_same (k : Nat) (x : Func) : (s.setFunc k x).func k = x := FMap.find_put_same _ _ _ _
theorem setFunc_wf (k : Nat) (x : Func) (h : FMap.wf Func.init s.funcs = true) : FMap.wf Func.init (s.setFunc k x).funcs = true :=
  FMap.wf_put _ _ h

/-! ## vecs -/

@[simp] theorem setVec_pending (k : Nat) (x : Vec) : (s.setVec k x).pending = s.pending := rfl
@[simp] theorem setVec_aon (k : Nat) (x : Vec) : (s.setVec k x).aon = s.aon := rfl
@[simp] theorem setVec_regs (k : Nat) (x : Vec) : (s.setVec k x).regs = s.regs := rfl
@[simp] theorem setVec_eff (k : Nat) (x : Vec) : (s.setVec k x).eff = s.eff := rfl
@[simp] theorem setVec_out (k : Nat) (x : Vec) : (s.setVec k x).out = s.out := rfl
@[simp] theorem setVec_free (k : Nat) (x : Vec) : (s.setVec k x).free = s.free := rfl
@[simp] theorem setVec_ctxs (k : Nat) (x : Vec) : (s.setVec k x).ctxs = s.ctxs := rfl
@[simp] theorem setVec_ports (k : Nat) (x : Vec) : (s.setVec k x).ports = s.ports := rfl
@[simp] theorem setVec_sramA (k : Nat) (x : Vec) : (s.setVec k x).sramA = s.sramA := rfl
@[simp] theorem setVec_sramB (k : Nat) (x : Vec) : (s.setVec k x).sramB = s.sramB := rfl
@[simp] theorem setVec_rd (k : Nat) (x : Vec) (r : Reg) : (s.setVec k x).rd r = s.rd r := rfl
theorem setVec_get (k j : Nat) (x : Vec) : (s.setVec k x).vec j = if j = k then x else s.vec j :=
  FMap.find_put _ _ _ _ _
@[simp] theorem setVec_same (k : Nat) (x : Vec) : (s.setVec k x).vec k = x := FMap.find_put_same _ _ _ _
theorem setVec_wf (k : Nat) (x : Vec) (h : FMap.wf Vec.init s.vecs = true) : FMap.wf Vec.init (s.setVec k x).vecs = true :=
  FMap.wf_put _ _ h

/-! ## hps -/

@[simp] theorem setHp_pending (k : Nat) (x : Hp) : (s.setHp k x).pending = s.pending := rfl
@[simp] theorem setHp_aon (k : Nat) (x : Hp) : (s.setHp k x).aon = s.aon := rfl
@[simp] theorem setHp_regs (k : Nat) (x : Hp) : (s.setHp k x).regs = s.regs := rfl
@[simp] theorem setHp_eff (k : Nat) (x : Hp) : (s.setHp k x).eff = s.eff := rfl
@[simp] theorem setHp_out (k : Nat) (x : Hp) : (s.setHp k x).out = s.out := rfl
@[simp] theorem setHp_free (k : Nat) (x : Hp) : (s.setHp k x).free = s.free := rfl
@[simp] theorem setHp_ctxs (k : Nat) (x : Hp) : (s.setHp k x).ctxs = s.ctxs := rfl
@[simp] theorem setHp_ports (k : Nat) (x : Hp) : (s.setHp k x).ports = s.ports := rfl
@[simp] theorem setHp_sramA (k : Nat) (x : Hp) : (s.setHp k x).sramA = s.sramA := rfl
@[simp] theorem setHp_sramB (k : Nat) (x : Hp) : (s.setHp k x).sramB = s.sramB := rfl
@[simp] theorem setHp_rd (k : Nat) (x : Hp) (r : Reg) : (s.setHp k x).rd r = s.rd r := rfl
theorem setHp_get (k j : Nat) (x : Hp) : (s.setHp k x).hp j = if j = k then x else s.hp j :=
  FMap.find_put _ _ _ _ _
@[simp] theorem setHp_same (k : Nat) (x : Hp) : (s.setHp k x).hp k = x := FMap.find_put_same _ _ _ _
theorem setHp_wf (k : Nat) (x : Hp) (h : FMap.wf Hp.init s.hps = true) : FMap.wf Hp.init (s.setHp k x).hps = true :=
  FMap.wf_put _ _ h

/-! ## attP -/

@[simp] theorem setAtp_pending (k : Nat) (x : AttCfg) : (s.setAtp k x).pending = s.pending := rfl
@[simp] theorem setAtp_aon (k : Nat) (x : AttCfg) : (s.setAtp k x).aon = s.aon := rfl
@[simp] theorem setAtp_regs (k : Nat) (x : AttCfg) : (s.setAtp k x).regs = s.regs := rfl
@[simp] theorem setAtp_eff (k : Nat) (x : AttCfg) : (s.setAtp k x).eff = s.eff := rfl
@[simp] theorem setAtp_out (k : Nat) (x : AttCfg) : (s.setAtp k x).out = s.out := rfl
@[simp] theorem setAtp_free (k : Nat) (x : AttCfg) : (s.setAtp k x).free = s.free := rfl
@[simp] theorem setAtp_ctxs (k : Nat) (x : AttCfg) : (s.setAtp k x).ctxs = s.ctxs := rfl
@[simp] theorem setAtp_ports (k : Nat) (x : AttCfg) : (s.setAtp k x).ports = s.ports := rfl
@[simp] theorem setAtp_sramA (k : Nat) (x : AttCfg) : (s.setAtp k x).sramA = s.sramA := rfl
@[simp] theorem setAtp_sramB (k : Nat) (x : AttCfg) : (s.setAtp k x).sramB = s.sramB := rfl
@[simp] theorem setAtp_rd (k : Nat) (x : AttCfg) (r : Reg) : (s.setAtp k x).rd r = s.rd r := rfl
theorem setAtp_get (k j : Nat) (x : AttCfg) : (s.setAtp k x).atp j = if j = k then x else s.atp j :=
  FMap.find_put _ _ _ _ _
@[simp] theorem setAtp_same (k : Nat) (x : AttCfg) : (s.setAtp k x).atp k = x := FMap.find_put_same _ _ _ _
theorem setAtp_wf (k : Nat) (x : AttCfg) (h : FMap.wf AttCfg.empty s.attP = true) : FMap.wf AttCfg.empty (s.setAtp k x).attP = true :=
  FMap.wf_put _ _ h

/-! ## att -/

@[simp] theorem setAtE_pending (k : Nat) (x : Att) : (s.setAtE k x).pending = s.pending := rfl
@[simp] theorem setAtE_aon (k : Nat) (x : Att) : (s.setAtE k x).aon = s.aon := rfl
@[simp] theorem setAtE_regs (k : Nat) (x : Att) : (s.setAtE k x).regs = s.regs := rfl
@[simp] theorem setAtE_eff (k : Nat) (x : Att) : (s.setAtE k x).eff = s.eff := rfl
@[simp] theorem setAtE_out (k : Nat) (x : Att) : (s.setAtE k x).out = s.out := rfl
@[simp] theorem setAtE_free (k : Nat) (x : Att) : (s.setAtE k x).free = s.free := rfl
@[simp] theorem setAtE_ctxs (k : Nat) (x : Att) : (s.setAtE k x).ctxs = s.ctxs := rfl
@[simp] theorem setAtE_ports (k : Nat) (x : Att) : (s.setAtE k x).ports = s.ports := rfl
@[simp] theorem setAtE_sramA (k : Nat) (x : Att) : (s.setAtE k x).sramA = s.sramA := rfl
@[simp] theorem setAtE_sramB (k : Nat) (x : Att) : (s.setAtE k x).sramB = s.sramB := rfl
@[simp] theorem setAtE_rd (k : Nat) (x : Att) (r : Reg) : (s.setAtE k x).rd r = s.rd r := rfl
theorem setAtE_get (k j : Nat) (x : Att) : (s.setAtE k x).atE j = if j = k then x else s.atE j :=
  FMap.find_put _ _ _ _ _
@[simp] theorem setAtE_same (k : Nat) (x : Att) : (s.setAtE k x).atE k = x := FMap.find_put_same _ _ _ _
theorem setAtE_wf (k : Nat) (x : Att) (h : FMap.wf Att.empty s.att = true) : FMap.wf Att.empty (s.setAtE k x).att = true :=
  FMap.wf_put _ _ h

/-! ## rings -/

@[simp] theorem setRing_pending (k : Nat) (x : Ring) : (s.setRing k x).pending = s.pending := rfl
@[simp] theorem setRing_aon (k : Nat) (x : Ring) : (s.setRing k x).aon = s.aon := rfl
@[simp] theorem setRing_regs (k : Nat) (x : Ring) : (s.setRing k x).regs = s.regs := rfl
@[simp] theorem setRing_eff (k : Nat) (x : Ring) : (s.setRing k x).eff = s.eff := rfl
@[simp] theorem setRing_latches (k : Nat) (x : Ring) : (s.setRing k x).latches = s.latches := rfl
@[simp] theorem setRing_staged (k : Nat) (x : Ring) : (s.setRing k x).staged = s.staged := rfl
@[simp] theorem setRing_cyc (k : Nat) (x : Ring) : (s.setRing k x).cyc = s.cyc := rfl
@[simp] theorem setRing_readData (k : Nat) (x : Ring) : (s.setRing k x).readData = s.readData := rfl
@[simp] theorem setRing_out (k : Nat) (x : Ring) : (s.setRing k x).out = s.out := rfl
@[simp] theorem setRing_free (k : Nat) (x : Ring) : (s.setRing k x).free = s.free := rfl
@[simp] theorem setRing_funcs (k : Nat) (x : Ring) : (s.setRing k x).funcs = s.funcs := rfl
@[simp] theorem setRing_vecs (k : Nat) (x : Ring) : (s.setRing k x).vecs = s.vecs := rfl
@[simp] theorem setRing_hps (k : Nat) (x : Ring) : (s.setRing k x).hps = s.hps := rfl
@[simp] theorem setRing_atc (k : Nat) (x : Ring) : (s.setRing k x).atc = s.atc := rfl
@[simp] theorem setRing_reqs (k : Nat) (x : Ring) : (s.setRing k x).reqs = s.reqs := rfl
@[simp] theorem setRing_writes (k : Nat) (x : Ring) : (s.setRing k x).writes = s.writes := rfl
@[simp] theorem setRing_tag (k : Nat) (x : Ring) : (s.setRing k x).tag = s.tag := rfl
@[simp] theorem setRing_invals (k : Nat) (x : Ring) : (s.setRing k x).invals = s.invals := rfl
@[simp] theorem setRing_claimTimer (k : Nat) (x : Ring) : (s.setRing k x).claimTimer = s.claimTimer := rfl
@[simp] theorem setRing_aside (k : Nat) (x : Ring) : (s.setRing k x).aside = s.aside := rfl
@[simp] theorem setRing_unbind (k : Nat) (x : Ring) : (s.setRing k x).unbind = s.unbind := rfl
@[simp] theorem setRing_releasing (k : Nat) (x : Ring) : (s.setRing k x).releasing = s.releasing := rfl
@[simp] theorem setRing_resets (k : Nat) (x : Ring) : (s.setRing k x).resets = s.resets := rfl
@[simp] theorem setRing_lb (k : Nat) (x : Ring) : (s.setRing k x).lb = s.lb := rfl
@[simp] theorem setRing_attP (k : Nat) (x : Ring) : (s.setRing k x).attP = s.attP := rfl
@[simp] theorem setRing_att (k : Nat) (x : Ring) : (s.setRing k x).att = s.att := rfl
@[simp] theorem setRing_epaOps (k : Nat) (x : Ring) : (s.setRing k x).epaOps = s.epaOps := rfl
@[simp] theorem setRing_epaCmd (k : Nat) (x : Ring) : (s.setRing k x).epaCmd = s.epaCmd := rfl
@[simp] theorem setRing_sec (k : Nat) (x : Ring) : (s.setRing k x).sec = s.sec := rfl
@[simp] theorem setRing_secOver (k : Nat) (x : Ring) : (s.setRing k x).secOver = s.secOver := rfl
@[simp] theorem setRing_ctxs (k : Nat) (x : Ring) : (s.setRing k x).ctxs = s.ctxs := rfl
@[simp] theorem setRing_progs (k : Nat) (x : Ring) : (s.setRing k x).progs = s.progs := rfl
@[simp] theorem setRing_ldCmd (k : Nat) (x : Ring) : (s.setRing k x).ldCmd = s.ldCmd := rfl
@[simp] theorem setRing_engs (k : Nat) (x : Ring) : (s.setRing k x).engs = s.engs := rfl
@[simp] theorem setRing_ready (k : Nat) (x : Ring) : (s.setRing k x).ready = s.ready := rfl
@[simp] theorem setRing_stolen (k : Nat) (x : Ring) : (s.setRing k x).stolen = s.stolen := rfl
@[simp] theorem setRing_staleSeen (k : Nat) (x : Ring) : (s.setRing k x).staleSeen = s.staleSeen := rfl
@[simp] theorem setRing_tokens (k : Nat) (x : Ring) : (s.setRing k x).tokens = s.tokens := rfl
@[simp] theorem setRing_sems (k : Nat) (x : Ring) : (s.setRing k x).sems = s.sems := rfl
@[simp] theorem setRing_eps (k : Nat) (x : Ring) : (s.setRing k x).eps = s.eps := rfl
@[simp] theorem setRing_devs (k : Nat) (x : Ring) : (s.setRing k x).devs = s.devs := rfl
@[simp] theorem setRing_ports (k : Nat) (x : Ring) : (s.setRing k x).ports = s.ports := rfl
@[simp] theorem setRing_resvP (k : Nat) (x : Ring) : (s.setRing k x).resvP = s.resvP := rfl
@[simp] theorem setRing_resvE (k : Nat) (x : Ring) : (s.setRing k x).resvE = s.resvE := rfl
@[simp] theorem setRing_resvF (k : Nat) (x : Ring) : (s.setRing k x).resvF = s.resvF := rfl
@[simp] theorem setRing_resvG (k : Nat) (x : Ring) : (s.setRing k x).resvG = s.resvG := rfl
@[simp] theorem setRing_deciding (k : Nat) (x : Ring) : (s.setRing k x).deciding = s.deciding := rfl
@[simp] theorem setRing_board (k : Nat) (x : Ring) : (s.setRing k x).board = s.board := rfl
@[simp] theorem setRing_hdrs (k : Nat) (x : Ring) : (s.setRing k x).hdrs = s.hdrs := rfl
@[simp] theorem setRing_planners (k : Nat) (x : Ring) : (s.setRing k x).planners = s.planners := rfl
@[simp] theorem setRing_sync (k : Nat) (x : Ring) : (s.setRing k x).sync = s.sync := rfl
@[simp] theorem setRing_snapAt (k : Nat) (x : Ring) : (s.setRing k x).snapAt = s.snapAt := rfl
@[simp] theorem setRing_flts (k : Nat) (x : Ring) : (s.setRing k x).flts = s.flts := rfl
@[simp] theorem setRing_icPend (k : Nat) (x : Ring) : (s.setRing k x).icPend = s.icPend := rfl
@[simp] theorem setRing_insA (k : Nat) (x : Ring) : (s.setRing k x).insA = s.insA := rfl
@[simp] theorem setRing_insB (k : Nat) (x : Ring) : (s.setRing k x).insB = s.insB := rfl
@[simp] theorem setRing_gpio (k : Nat) (x : Ring) : (s.setRing k x).gpio = s.gpio := rfl
@[simp] theorem setRing_doms (k : Nat) (x : Ring) : (s.setRing k x).doms = s.doms := rfl
@[simp] theorem setRing_avs (k : Nat) (x : Ring) : (s.setRing k x).avs = s.avs := rfl
@[simp] theorem setRing_preds (k : Nat) (x : Ring) : (s.setRing k x).preds = s.preds := rfl
@[simp] theorem setRing_pairA (k : Nat) (x : Ring) : (s.setRing k x).pairA = s.pairA := rfl
@[simp] theorem setRing_pairB (k : Nat) (x : Ring) : (s.setRing k x).pairB = s.pairB := rfl
@[simp] theorem setRing_sramA (k : Nat) (x : Ring) : (s.setRing k x).sramA = s.sramA := rfl
@[simp] theorem setRing_sramB (k : Nat) (x : Ring) : (s.setRing k x).sramB = s.sramB := rfl
@[simp] theorem setRing_ckpt (k : Nat) (x : Ring) : (s.setRing k x).ckpt = s.ckpt := rfl
@[simp] theorem setRing_starting (k : Nat) (x : Ring) : (s.setRing k x).starting = s.starting := rfl
@[simp] theorem setRing_wdt (k : Nat) (x : Ring) : (s.setRing k x).wdt = s.wdt := rfl
@[simp] theorem setRing_live (k : Nat) (x : Ring) : (s.setRing k x).live = s.live := rfl
@[simp] theorem setRing_lats (k : Nat) (x : Ring) : (s.setRing k x).lats = s.lats := rfl
@[simp] theorem setRing_mdmaQ (k : Nat) (x : Ring) : (s.setRing k x).mdmaQ = s.mdmaQ := rfl
@[simp] theorem setRing_mdmaNew (k : Nat) (x : Ring) : (s.setRing k x).mdmaNew = s.mdmaNew := rfl
@[simp] theorem setRing_mdmaFails (k : Nat) (x : Ring) : (s.setRing k x).mdmaFails = s.mdmaFails := rfl
@[simp] theorem setRing_mdmaRun (k : Nat) (x : Ring) : (s.setRing k x).mdmaRun = s.mdmaRun := rfl
@[simp] theorem setRing_keys (k : Nat) (x : Ring) : (s.setRing k x).keys = s.keys := rfl
@[simp] theorem setRing_seqs (k : Nat) (x : Ring) : (s.setRing k x).seqs = s.seqs := rfl
@[simp] theorem setRing_stage (k : Nat) (x : Ring) : (s.setRing k x).stage = s.stage := rfl
@[simp] theorem setRing_keyCmd (k : Nat) (x : Ring) : (s.setRing k x).keyCmd = s.keyCmd := rfl
@[simp] theorem setRing_sealOps (k : Nat) (x : Ring) : (s.setRing k x).sealOps = s.sealOps := rfl
@[simp] theorem setRing_restoring (k : Nat) (x : Ring) : (s.setRing k x).restoring = s.restoring := rfl
@[simp] theorem setRing_adjs (k : Nat) (x : Ring) : (s.setRing k x).adjs = s.adjs := rfl
@[simp] theorem setRing_adjCmd (k : Nat) (x : Ring) : (s.setRing k x).adjCmd = s.adjCmd := rfl
@[simp] theorem setRing_jtag (k : Nat) (x : Ring) : (s.setRing k x).jtag = s.jtag := rfl
@[simp] theorem setRing_isolated (k : Nat) (x : Ring) : (s.setRing k x).isolated = s.isolated := rfl
@[simp] theorem setRing_rd (k : Nat) (x : Ring) (r : Reg) : (s.setRing k x).rd r = s.rd r := rfl
theorem setRing_get (k j : Nat) (x : Ring) : (s.setRing k x).ring j = if j = k then x else s.ring j :=
  FMap.find_put _ _ _ _ _
@[simp] theorem setRing_same (k : Nat) (x : Ring) : (s.setRing k x).ring k = x := FMap.find_put_same _ _ _ _
theorem setRing_wf (k : Nat) (x : Ring) (h : FMap.wf Ring.init s.rings = true) : FMap.wf Ring.init (s.setRing k x).rings = true :=
  FMap.wf_put _ _ h

/-! ## ctxs -/

@[simp] theorem setCtx_pending (k : Nat) (x : Ctx) : (s.setCtx k x).pending = s.pending := rfl
@[simp] theorem setCtx_aon (k : Nat) (x : Ctx) : (s.setCtx k x).aon = s.aon := rfl
@[simp] theorem setCtx_regs (k : Nat) (x : Ctx) : (s.setCtx k x).regs = s.regs := rfl
@[simp] theorem setCtx_eff (k : Nat) (x : Ctx) : (s.setCtx k x).eff = s.eff := rfl
@[simp] theorem setCtx_latches (k : Nat) (x : Ctx) : (s.setCtx k x).latches = s.latches := rfl
@[simp] theorem setCtx_staged (k : Nat) (x : Ctx) : (s.setCtx k x).staged = s.staged := rfl
@[simp] theorem setCtx_cyc (k : Nat) (x : Ctx) : (s.setCtx k x).cyc = s.cyc := rfl
@[simp] theorem setCtx_readData (k : Nat) (x : Ctx) : (s.setCtx k x).readData = s.readData := rfl
@[simp] theorem setCtx_out (k : Nat) (x : Ctx) : (s.setCtx k x).out = s.out := rfl
@[simp] theorem setCtx_free (k : Nat) (x : Ctx) : (s.setCtx k x).free = s.free := rfl
@[simp] theorem setCtx_funcs (k : Nat) (x : Ctx) : (s.setCtx k x).funcs = s.funcs := rfl
@[simp] theorem setCtx_vecs (k : Nat) (x : Ctx) : (s.setCtx k x).vecs = s.vecs := rfl
@[simp] theorem setCtx_hps (k : Nat) (x : Ctx) : (s.setCtx k x).hps = s.hps := rfl
@[simp] theorem setCtx_atc (k : Nat) (x : Ctx) : (s.setCtx k x).atc = s.atc := rfl
@[simp] theorem setCtx_reqs (k : Nat) (x : Ctx) : (s.setCtx k x).reqs = s.reqs := rfl
@[simp] theorem setCtx_writes (k : Nat) (x : Ctx) : (s.setCtx k x).writes = s.writes := rfl
@[simp] theorem setCtx_tag (k : Nat) (x : Ctx) : (s.setCtx k x).tag = s.tag := rfl
@[simp] theorem setCtx_invals (k : Nat) (x : Ctx) : (s.setCtx k x).invals = s.invals := rfl
@[simp] theorem setCtx_claimTimer (k : Nat) (x : Ctx) : (s.setCtx k x).claimTimer = s.claimTimer := rfl
@[simp] theorem setCtx_aside (k : Nat) (x : Ctx) : (s.setCtx k x).aside = s.aside := rfl
@[simp] theorem setCtx_unbind (k : Nat) (x : Ctx) : (s.setCtx k x).unbind = s.unbind := rfl
@[simp] theorem setCtx_releasing (k : Nat) (x : Ctx) : (s.setCtx k x).releasing = s.releasing := rfl
@[simp] theorem setCtx_resets (k : Nat) (x : Ctx) : (s.setCtx k x).resets = s.resets := rfl
@[simp] theorem setCtx_lb (k : Nat) (x : Ctx) : (s.setCtx k x).lb = s.lb := rfl
@[simp] theorem setCtx_attP (k : Nat) (x : Ctx) : (s.setCtx k x).attP = s.attP := rfl
@[simp] theorem setCtx_att (k : Nat) (x : Ctx) : (s.setCtx k x).att = s.att := rfl
@[simp] theorem setCtx_epaOps (k : Nat) (x : Ctx) : (s.setCtx k x).epaOps = s.epaOps := rfl
@[simp] theorem setCtx_epaCmd (k : Nat) (x : Ctx) : (s.setCtx k x).epaCmd = s.epaCmd := rfl
@[simp] theorem setCtx_sec (k : Nat) (x : Ctx) : (s.setCtx k x).sec = s.sec := rfl
@[simp] theorem setCtx_secOver (k : Nat) (x : Ctx) : (s.setCtx k x).secOver = s.secOver := rfl
@[simp] theorem setCtx_rings (k : Nat) (x : Ctx) : (s.setCtx k x).rings = s.rings := rfl
@[simp] theorem setCtx_progs (k : Nat) (x : Ctx) : (s.setCtx k x).progs = s.progs := rfl
@[simp] theorem setCtx_ldCmd (k : Nat) (x : Ctx) : (s.setCtx k x).ldCmd = s.ldCmd := rfl
@[simp] theorem setCtx_engs (k : Nat) (x : Ctx) : (s.setCtx k x).engs = s.engs := rfl
@[simp] theorem setCtx_ready (k : Nat) (x : Ctx) : (s.setCtx k x).ready = s.ready := rfl
@[simp] theorem setCtx_stolen (k : Nat) (x : Ctx) : (s.setCtx k x).stolen = s.stolen := rfl
@[simp] theorem setCtx_staleSeen (k : Nat) (x : Ctx) : (s.setCtx k x).staleSeen = s.staleSeen := rfl
@[simp] theorem setCtx_tokens (k : Nat) (x : Ctx) : (s.setCtx k x).tokens = s.tokens := rfl
@[simp] theorem setCtx_sems (k : Nat) (x : Ctx) : (s.setCtx k x).sems = s.sems := rfl
@[simp] theorem setCtx_eps (k : Nat) (x : Ctx) : (s.setCtx k x).eps = s.eps := rfl
@[simp] theorem setCtx_devs (k : Nat) (x : Ctx) : (s.setCtx k x).devs = s.devs := rfl
@[simp] theorem setCtx_ports (k : Nat) (x : Ctx) : (s.setCtx k x).ports = s.ports := rfl
@[simp] theorem setCtx_resvP (k : Nat) (x : Ctx) : (s.setCtx k x).resvP = s.resvP := rfl
@[simp] theorem setCtx_resvE (k : Nat) (x : Ctx) : (s.setCtx k x).resvE = s.resvE := rfl
@[simp] theorem setCtx_resvF (k : Nat) (x : Ctx) : (s.setCtx k x).resvF = s.resvF := rfl
@[simp] theorem setCtx_resvG (k : Nat) (x : Ctx) : (s.setCtx k x).resvG = s.resvG := rfl
@[simp] theorem setCtx_deciding (k : Nat) (x : Ctx) : (s.setCtx k x).deciding = s.deciding := rfl
@[simp] theorem setCtx_board (k : Nat) (x : Ctx) : (s.setCtx k x).board = s.board := rfl
@[simp] theorem setCtx_hdrs (k : Nat) (x : Ctx) : (s.setCtx k x).hdrs = s.hdrs := rfl
@[simp] theorem setCtx_planners (k : Nat) (x : Ctx) : (s.setCtx k x).planners = s.planners := rfl
@[simp] theorem setCtx_sync (k : Nat) (x : Ctx) : (s.setCtx k x).sync = s.sync := rfl
@[simp] theorem setCtx_snapAt (k : Nat) (x : Ctx) : (s.setCtx k x).snapAt = s.snapAt := rfl
@[simp] theorem setCtx_flts (k : Nat) (x : Ctx) : (s.setCtx k x).flts = s.flts := rfl
@[simp] theorem setCtx_icPend (k : Nat) (x : Ctx) : (s.setCtx k x).icPend = s.icPend := rfl
@[simp] theorem setCtx_insA (k : Nat) (x : Ctx) : (s.setCtx k x).insA = s.insA := rfl
@[simp] theorem setCtx_insB (k : Nat) (x : Ctx) : (s.setCtx k x).insB = s.insB := rfl
@[simp] theorem setCtx_gpio (k : Nat) (x : Ctx) : (s.setCtx k x).gpio = s.gpio := rfl
@[simp] theorem setCtx_doms (k : Nat) (x : Ctx) : (s.setCtx k x).doms = s.doms := rfl
@[simp] theorem setCtx_avs (k : Nat) (x : Ctx) : (s.setCtx k x).avs = s.avs := rfl
@[simp] theorem setCtx_preds (k : Nat) (x : Ctx) : (s.setCtx k x).preds = s.preds := rfl
@[simp] theorem setCtx_pairA (k : Nat) (x : Ctx) : (s.setCtx k x).pairA = s.pairA := rfl
@[simp] theorem setCtx_pairB (k : Nat) (x : Ctx) : (s.setCtx k x).pairB = s.pairB := rfl
@[simp] theorem setCtx_sramA (k : Nat) (x : Ctx) : (s.setCtx k x).sramA = s.sramA := rfl
@[simp] theorem setCtx_sramB (k : Nat) (x : Ctx) : (s.setCtx k x).sramB = s.sramB := rfl
@[simp] theorem setCtx_ckpt (k : Nat) (x : Ctx) : (s.setCtx k x).ckpt = s.ckpt := rfl
@[simp] theorem setCtx_starting (k : Nat) (x : Ctx) : (s.setCtx k x).starting = s.starting := rfl
@[simp] theorem setCtx_wdt (k : Nat) (x : Ctx) : (s.setCtx k x).wdt = s.wdt := rfl
@[simp] theorem setCtx_live (k : Nat) (x : Ctx) : (s.setCtx k x).live = s.live := rfl
@[simp] theorem setCtx_lats (k : Nat) (x : Ctx) : (s.setCtx k x).lats = s.lats := rfl
@[simp] theorem setCtx_mdmaQ (k : Nat) (x : Ctx) : (s.setCtx k x).mdmaQ = s.mdmaQ := rfl
@[simp] theorem setCtx_mdmaNew (k : Nat) (x : Ctx) : (s.setCtx k x).mdmaNew = s.mdmaNew := rfl
@[simp] theorem setCtx_mdmaFails (k : Nat) (x : Ctx) : (s.setCtx k x).mdmaFails = s.mdmaFails := rfl
@[simp] theorem setCtx_mdmaRun (k : Nat) (x : Ctx) : (s.setCtx k x).mdmaRun = s.mdmaRun := rfl
@[simp] theorem setCtx_keys (k : Nat) (x : Ctx) : (s.setCtx k x).keys = s.keys := rfl
@[simp] theorem setCtx_seqs (k : Nat) (x : Ctx) : (s.setCtx k x).seqs = s.seqs := rfl
@[simp] theorem setCtx_stage (k : Nat) (x : Ctx) : (s.setCtx k x).stage = s.stage := rfl
@[simp] theorem setCtx_keyCmd (k : Nat) (x : Ctx) : (s.setCtx k x).keyCmd = s.keyCmd := rfl
@[simp] theorem setCtx_sealOps (k : Nat) (x : Ctx) : (s.setCtx k x).sealOps = s.sealOps := rfl
@[simp] theorem setCtx_restoring (k : Nat) (x : Ctx) : (s.setCtx k x).restoring = s.restoring := rfl
@[simp] theorem setCtx_adjs (k : Nat) (x : Ctx) : (s.setCtx k x).adjs = s.adjs := rfl
@[simp] theorem setCtx_adjCmd (k : Nat) (x : Ctx) : (s.setCtx k x).adjCmd = s.adjCmd := rfl
@[simp] theorem setCtx_jtag (k : Nat) (x : Ctx) : (s.setCtx k x).jtag = s.jtag := rfl
@[simp] theorem setCtx_isolated (k : Nat) (x : Ctx) : (s.setCtx k x).isolated = s.isolated := rfl
@[simp] theorem setCtx_rd (k : Nat) (x : Ctx) (r : Reg) : (s.setCtx k x).rd r = s.rd r := rfl
theorem setCtx_get (k j : Nat) (x : Ctx) : (s.setCtx k x).ctx j = if j = k then x else s.ctx j :=
  FMap.find_put _ _ _ _ _
@[simp] theorem setCtx_same (k : Nat) (x : Ctx) : (s.setCtx k x).ctx k = x := FMap.find_put_same _ _ _ _
theorem setCtx_wf (k : Nat) (x : Ctx) (h : FMap.wf Ctx.free s.ctxs = true) : FMap.wf Ctx.free (s.setCtx k x).ctxs = true :=
  FMap.wf_put _ _ h

/-! ## progs -/

@[simp] theorem setProg_pending (k : Nat) (x : Prog) : (s.setProg k x).pending = s.pending := rfl
@[simp] theorem setProg_aon (k : Nat) (x : Prog) : (s.setProg k x).aon = s.aon := rfl
@[simp] theorem setProg_regs (k : Nat) (x : Prog) : (s.setProg k x).regs = s.regs := rfl
@[simp] theorem setProg_eff (k : Nat) (x : Prog) : (s.setProg k x).eff = s.eff := rfl
@[simp] theorem setProg_out (k : Nat) (x : Prog) : (s.setProg k x).out = s.out := rfl
@[simp] theorem setProg_free (k : Nat) (x : Prog) : (s.setProg k x).free = s.free := rfl
@[simp] theorem setProg_ctxs (k : Nat) (x : Prog) : (s.setProg k x).ctxs = s.ctxs := rfl
@[simp] theorem setProg_ports (k : Nat) (x : Prog) : (s.setProg k x).ports = s.ports := rfl
@[simp] theorem setProg_sramA (k : Nat) (x : Prog) : (s.setProg k x).sramA = s.sramA := rfl
@[simp] theorem setProg_sramB (k : Nat) (x : Prog) : (s.setProg k x).sramB = s.sramB := rfl
@[simp] theorem setProg_rd (k : Nat) (x : Prog) (r : Reg) : (s.setProg k x).rd r = s.rd r := rfl
theorem setProg_get (k j : Nat) (x : Prog) : (s.setProg k x).prog j = if j = k then x else s.prog j :=
  FMap.find_put _ _ _ _ _
@[simp] theorem setProg_same (k : Nat) (x : Prog) : (s.setProg k x).prog k = x := FMap.find_put_same _ _ _ _
theorem setProg_wf (k : Nat) (x : Prog) (h : FMap.wf Prog.empty s.progs = true) : FMap.wf Prog.empty (s.setProg k x).progs = true :=
  FMap.wf_put _ _ h

/-! ## engs -/

@[simp] theorem setEng_pending (k : Nat) (x : Eng) : (s.setEng k x).pending = s.pending := rfl
@[simp] theorem setEng_aon (k : Nat) (x : Eng) : (s.setEng k x).aon = s.aon := rfl
@[simp] theorem setEng_regs (k : Nat) (x : Eng) : (s.setEng k x).regs = s.regs := rfl
@[simp] theorem setEng_eff (k : Nat) (x : Eng) : (s.setEng k x).eff = s.eff := rfl
@[simp] theorem setEng_latches (k : Nat) (x : Eng) : (s.setEng k x).latches = s.latches := rfl
@[simp] theorem setEng_staged (k : Nat) (x : Eng) : (s.setEng k x).staged = s.staged := rfl
@[simp] theorem setEng_cyc (k : Nat) (x : Eng) : (s.setEng k x).cyc = s.cyc := rfl
@[simp] theorem setEng_readData (k : Nat) (x : Eng) : (s.setEng k x).readData = s.readData := rfl
@[simp] theorem setEng_out (k : Nat) (x : Eng) : (s.setEng k x).out = s.out := rfl
@[simp] theorem setEng_free (k : Nat) (x : Eng) : (s.setEng k x).free = s.free := rfl
@[simp] theorem setEng_funcs (k : Nat) (x : Eng) : (s.setEng k x).funcs = s.funcs := rfl
@[simp] theorem setEng_vecs (k : Nat) (x : Eng) : (s.setEng k x).vecs = s.vecs := rfl
@[simp] theorem setEng_hps (k : Nat) (x : Eng) : (s.setEng k x).hps = s.hps := rfl
@[simp] theorem setEng_atc (k : Nat) (x : Eng) : (s.setEng k x).atc = s.atc := rfl
@[simp] theorem setEng_reqs (k : Nat) (x : Eng) : (s.setEng k x).reqs = s.reqs := rfl
@[simp] theorem setEng_writes (k : Nat) (x : Eng) : (s.setEng k x).writes = s.writes := rfl
@[simp] theorem setEng_tag (k : Nat) (x : Eng) : (s.setEng k x).tag = s.tag := rfl
@[simp] theorem setEng_invals (k : Nat) (x : Eng) : (s.setEng k x).invals = s.invals := rfl
@[simp] theorem setEng_claimTimer (k : Nat) (x : Eng) : (s.setEng k x).claimTimer = s.claimTimer := rfl
@[simp] theorem setEng_aside (k : Nat) (x : Eng) : (s.setEng k x).aside = s.aside := rfl
@[simp] theorem setEng_unbind (k : Nat) (x : Eng) : (s.setEng k x).unbind = s.unbind := rfl
@[simp] theorem setEng_releasing (k : Nat) (x : Eng) : (s.setEng k x).releasing = s.releasing := rfl
@[simp] theorem setEng_resets (k : Nat) (x : Eng) : (s.setEng k x).resets = s.resets := rfl
@[simp] theorem setEng_lb (k : Nat) (x : Eng) : (s.setEng k x).lb = s.lb := rfl
@[simp] theorem setEng_attP (k : Nat) (x : Eng) : (s.setEng k x).attP = s.attP := rfl
@[simp] theorem setEng_att (k : Nat) (x : Eng) : (s.setEng k x).att = s.att := rfl
@[simp] theorem setEng_epaOps (k : Nat) (x : Eng) : (s.setEng k x).epaOps = s.epaOps := rfl
@[simp] theorem setEng_epaCmd (k : Nat) (x : Eng) : (s.setEng k x).epaCmd = s.epaCmd := rfl
@[simp] theorem setEng_sec (k : Nat) (x : Eng) : (s.setEng k x).sec = s.sec := rfl
@[simp] theorem setEng_secOver (k : Nat) (x : Eng) : (s.setEng k x).secOver = s.secOver := rfl
@[simp] theorem setEng_rings (k : Nat) (x : Eng) : (s.setEng k x).rings = s.rings := rfl
@[simp] theorem setEng_ctxs (k : Nat) (x : Eng) : (s.setEng k x).ctxs = s.ctxs := rfl
@[simp] theorem setEng_progs (k : Nat) (x : Eng) : (s.setEng k x).progs = s.progs := rfl
@[simp] theorem setEng_ldCmd (k : Nat) (x : Eng) : (s.setEng k x).ldCmd = s.ldCmd := rfl
@[simp] theorem setEng_ready (k : Nat) (x : Eng) : (s.setEng k x).ready = s.ready := rfl
@[simp] theorem setEng_stolen (k : Nat) (x : Eng) : (s.setEng k x).stolen = s.stolen := rfl
@[simp] theorem setEng_staleSeen (k : Nat) (x : Eng) : (s.setEng k x).staleSeen = s.staleSeen := rfl
@[simp] theorem setEng_tokens (k : Nat) (x : Eng) : (s.setEng k x).tokens = s.tokens := rfl
@[simp] theorem setEng_sems (k : Nat) (x : Eng) : (s.setEng k x).sems = s.sems := rfl
@[simp] theorem setEng_eps (k : Nat) (x : Eng) : (s.setEng k x).eps = s.eps := rfl
@[simp] theorem setEng_devs (k : Nat) (x : Eng) : (s.setEng k x).devs = s.devs := rfl
@[simp] theorem setEng_ports (k : Nat) (x : Eng) : (s.setEng k x).ports = s.ports := rfl
@[simp] theorem setEng_resvP (k : Nat) (x : Eng) : (s.setEng k x).resvP = s.resvP := rfl
@[simp] theorem setEng_resvE (k : Nat) (x : Eng) : (s.setEng k x).resvE = s.resvE := rfl
@[simp] theorem setEng_resvF (k : Nat) (x : Eng) : (s.setEng k x).resvF = s.resvF := rfl
@[simp] theorem setEng_resvG (k : Nat) (x : Eng) : (s.setEng k x).resvG = s.resvG := rfl
@[simp] theorem setEng_deciding (k : Nat) (x : Eng) : (s.setEng k x).deciding = s.deciding := rfl
@[simp] theorem setEng_board (k : Nat) (x : Eng) : (s.setEng k x).board = s.board := rfl
@[simp] theorem setEng_hdrs (k : Nat) (x : Eng) : (s.setEng k x).hdrs = s.hdrs := rfl
@[simp] theorem setEng_planners (k : Nat) (x : Eng) : (s.setEng k x).planners = s.planners := rfl
@[simp] theorem setEng_sync (k : Nat) (x : Eng) : (s.setEng k x).sync = s.sync := rfl
@[simp] theorem setEng_snapAt (k : Nat) (x : Eng) : (s.setEng k x).snapAt = s.snapAt := rfl
@[simp] theorem setEng_flts (k : Nat) (x : Eng) : (s.setEng k x).flts = s.flts := rfl
@[simp] theorem setEng_icPend (k : Nat) (x : Eng) : (s.setEng k x).icPend = s.icPend := rfl
@[simp] theorem setEng_insA (k : Nat) (x : Eng) : (s.setEng k x).insA = s.insA := rfl
@[simp] theorem setEng_insB (k : Nat) (x : Eng) : (s.setEng k x).insB = s.insB := rfl
@[simp] theorem setEng_gpio (k : Nat) (x : Eng) : (s.setEng k x).gpio = s.gpio := rfl
@[simp] theorem setEng_doms (k : Nat) (x : Eng) : (s.setEng k x).doms = s.doms := rfl
@[simp] theorem setEng_avs (k : Nat) (x : Eng) : (s.setEng k x).avs = s.avs := rfl
@[simp] theorem setEng_preds (k : Nat) (x : Eng) : (s.setEng k x).preds = s.preds := rfl
@[simp] theorem setEng_pairA (k : Nat) (x : Eng) : (s.setEng k x).pairA = s.pairA := rfl
@[simp] theorem setEng_pairB (k : Nat) (x : Eng) : (s.setEng k x).pairB = s.pairB := rfl
@[simp] theorem setEng_sramA (k : Nat) (x : Eng) : (s.setEng k x).sramA = s.sramA := rfl
@[simp] theorem setEng_sramB (k : Nat) (x : Eng) : (s.setEng k x).sramB = s.sramB := rfl
@[simp] theorem setEng_ckpt (k : Nat) (x : Eng) : (s.setEng k x).ckpt = s.ckpt := rfl
@[simp] theorem setEng_starting (k : Nat) (x : Eng) : (s.setEng k x).starting = s.starting := rfl
@[simp] theorem setEng_wdt (k : Nat) (x : Eng) : (s.setEng k x).wdt = s.wdt := rfl
@[simp] theorem setEng_live (k : Nat) (x : Eng) : (s.setEng k x).live = s.live := rfl
@[simp] theorem setEng_lats (k : Nat) (x : Eng) : (s.setEng k x).lats = s.lats := rfl
@[simp] theorem setEng_mdmaQ (k : Nat) (x : Eng) : (s.setEng k x).mdmaQ = s.mdmaQ := rfl
@[simp] theorem setEng_mdmaNew (k : Nat) (x : Eng) : (s.setEng k x).mdmaNew = s.mdmaNew := rfl
@[simp] theorem setEng_mdmaFails (k : Nat) (x : Eng) : (s.setEng k x).mdmaFails = s.mdmaFails := rfl
@[simp] theorem setEng_mdmaRun (k : Nat) (x : Eng) : (s.setEng k x).mdmaRun = s.mdmaRun := rfl
@[simp] theorem setEng_keys (k : Nat) (x : Eng) : (s.setEng k x).keys = s.keys := rfl
@[simp] theorem setEng_seqs (k : Nat) (x : Eng) : (s.setEng k x).seqs = s.seqs := rfl
@[simp] theorem setEng_stage (k : Nat) (x : Eng) : (s.setEng k x).stage = s.stage := rfl
@[simp] theorem setEng_keyCmd (k : Nat) (x : Eng) : (s.setEng k x).keyCmd = s.keyCmd := rfl
@[simp] theorem setEng_sealOps (k : Nat) (x : Eng) : (s.setEng k x).sealOps = s.sealOps := rfl
@[simp] theorem setEng_restoring (k : Nat) (x : Eng) : (s.setEng k x).restoring = s.restoring := rfl
@[simp] theorem setEng_adjs (k : Nat) (x : Eng) : (s.setEng k x).adjs = s.adjs := rfl
@[simp] theorem setEng_adjCmd (k : Nat) (x : Eng) : (s.setEng k x).adjCmd = s.adjCmd := rfl
@[simp] theorem setEng_jtag (k : Nat) (x : Eng) : (s.setEng k x).jtag = s.jtag := rfl
@[simp] theorem setEng_isolated (k : Nat) (x : Eng) : (s.setEng k x).isolated = s.isolated := rfl
@[simp] theorem setEng_rd (k : Nat) (x : Eng) (r : Reg) : (s.setEng k x).rd r = s.rd r := rfl
theorem setEng_get (k j : Nat) (x : Eng) : (s.setEng k x).eng j = if j = k then x else s.eng j :=
  FMap.find_put _ _ _ _ _
@[simp] theorem setEng_same (k : Nat) (x : Eng) : (s.setEng k x).eng k = x := FMap.find_put_same _ _ _ _
theorem setEng_wf (k : Nat) (x : Eng) (h : FMap.wf Eng.free s.engs = true) : FMap.wf Eng.free (s.setEng k x).engs = true :=
  FMap.wf_put _ _ h

/-! ## ready -/

@[simp] theorem setRlist_pending (k : Nat) (x : (List Nat)) : (s.setRlist k x).pending = s.pending := rfl
@[simp] theorem setRlist_aon (k : Nat) (x : (List Nat)) : (s.setRlist k x).aon = s.aon := rfl
@[simp] theorem setRlist_regs (k : Nat) (x : (List Nat)) : (s.setRlist k x).regs = s.regs := rfl
@[simp] theorem setRlist_eff (k : Nat) (x : (List Nat)) : (s.setRlist k x).eff = s.eff := rfl
@[simp] theorem setRlist_out (k : Nat) (x : (List Nat)) : (s.setRlist k x).out = s.out := rfl
@[simp] theorem setRlist_free (k : Nat) (x : (List Nat)) : (s.setRlist k x).free = s.free := rfl
@[simp] theorem setRlist_ctxs (k : Nat) (x : (List Nat)) : (s.setRlist k x).ctxs = s.ctxs := rfl
@[simp] theorem setRlist_ports (k : Nat) (x : (List Nat)) : (s.setRlist k x).ports = s.ports := rfl
@[simp] theorem setRlist_sramA (k : Nat) (x : (List Nat)) : (s.setRlist k x).sramA = s.sramA := rfl
@[simp] theorem setRlist_sramB (k : Nat) (x : (List Nat)) : (s.setRlist k x).sramB = s.sramB := rfl
@[simp] theorem setRlist_rd (k : Nat) (x : (List Nat)) (r : Reg) : (s.setRlist k x).rd r = s.rd r := rfl
theorem setRlist_get (k j : Nat) (x : (List Nat)) : (s.setRlist k x).rlist j = if j = k then x else s.rlist j :=
  FMap.find_put _ _ _ _ _
@[simp] theorem setRlist_same (k : Nat) (x : (List Nat)) : (s.setRlist k x).rlist k = x := FMap.find_put_same _ _ _ _
theorem setRlist_wf (k : Nat) (x : (List Nat)) (h : FMap.wf [] s.ready = true) : FMap.wf [] (s.setRlist k x).ready = true :=
  FMap.wf_put _ _ h

/-! ## tokens -/

@[simp] theorem setToken_pending (k : Nat) (x : Token) : (s.setToken k x).pending = s.pending := rfl
@[simp] theorem setToken_aon (k : Nat) (x : Token) : (s.setToken k x).aon = s.aon := rfl
@[simp] theorem setToken_regs (k : Nat) (x : Token) : (s.setToken k x).regs = s.regs := rfl
@[simp] theorem setToken_eff (k : Nat) (x : Token) : (s.setToken k x).eff = s.eff := rfl
@[simp] theorem setToken_out (k : Nat) (x : Token) : (s.setToken k x).out = s.out := rfl
@[simp] theorem setToken_free (k : Nat) (x : Token) : (s.setToken k x).free = s.free := rfl
@[simp] theorem setToken_ctxs (k : Nat) (x : Token) : (s.setToken k x).ctxs = s.ctxs := rfl
@[simp] theorem setToken_ports (k : Nat) (x : Token) : (s.setToken k x).ports = s.ports := rfl
@[simp] theorem setToken_sramA (k : Nat) (x : Token) : (s.setToken k x).sramA = s.sramA := rfl
@[simp] theorem setToken_sramB (k : Nat) (x : Token) : (s.setToken k x).sramB = s.sramB := rfl
@[simp] theorem setToken_rd (k : Nat) (x : Token) (r : Reg) : (s.setToken k x).rd r = s.rd r := rfl
theorem setToken_get (k j : Nat) (x : Token) : (s.setToken k x).token j = if j = k then x else s.token j :=
  FMap.find_put _ _ _ _ _
@[simp] theorem setToken_same (k : Nat) (x : Token) : (s.setToken k x).token k = x := FMap.find_put_same _ _ _ _
theorem setToken_wf (k : Nat) (x : Token) (h : FMap.wf Token.free s.tokens = true) : FMap.wf Token.free (s.setToken k x).tokens = true :=
  FMap.wf_put _ _ h

/-! ## sems -/

@[simp] theorem setSem_pending (k : Nat) (x : Sem) : (s.setSem k x).pending = s.pending := rfl
@[simp] theorem setSem_aon (k : Nat) (x : Sem) : (s.setSem k x).aon = s.aon := rfl
@[simp] theorem setSem_regs (k : Nat) (x : Sem) : (s.setSem k x).regs = s.regs := rfl
@[simp] theorem setSem_eff (k : Nat) (x : Sem) : (s.setSem k x).eff = s.eff := rfl
@[simp] theorem setSem_out (k : Nat) (x : Sem) : (s.setSem k x).out = s.out := rfl
@[simp] theorem setSem_free (k : Nat) (x : Sem) : (s.setSem k x).free = s.free := rfl
@[simp] theorem setSem_ctxs (k : Nat) (x : Sem) : (s.setSem k x).ctxs = s.ctxs := rfl
@[simp] theorem setSem_ports (k : Nat) (x : Sem) : (s.setSem k x).ports = s.ports := rfl
@[simp] theorem setSem_sramA (k : Nat) (x : Sem) : (s.setSem k x).sramA = s.sramA := rfl
@[simp] theorem setSem_sramB (k : Nat) (x : Sem) : (s.setSem k x).sramB = s.sramB := rfl
@[simp] theorem setSem_rd (k : Nat) (x : Sem) (r : Reg) : (s.setSem k x).rd r = s.rd r := rfl
theorem setSem_get (k j : Nat) (x : Sem) : (s.setSem k x).sem j = if j = k then x else s.sem j :=
  FMap.find_put _ _ _ _ _
@[simp] theorem setSem_same (k : Nat) (x : Sem) : (s.setSem k x).sem k = x := FMap.find_put_same _ _ _ _
theorem setSem_wf (k : Nat) (x : Sem) (h : FMap.wf Sem.free s.sems = true) : FMap.wf Sem.free (s.setSem k x).sems = true :=
  FMap.wf_put _ _ h

/-! ## eps -/

@[simp] theorem setEpc_pending (k : Nat) (x : Ep) : (s.setEpc k x).pending = s.pending := rfl
@[simp] theorem setEpc_aon (k : Nat) (x : Ep) : (s.setEpc k x).aon = s.aon := rfl
@[simp] theorem setEpc_regs (k : Nat) (x : Ep) : (s.setEpc k x).regs = s.regs := rfl
@[simp] theorem setEpc_eff (k : Nat) (x : Ep) : (s.setEpc k x).eff = s.eff := rfl
@[simp] theorem setEpc_out (k : Nat) (x : Ep) : (s.setEpc k x).out = s.out := rfl
@[simp] theorem setEpc_free (k : Nat) (x : Ep) : (s.setEpc k x).free = s.free := rfl
@[simp] theorem setEpc_ctxs (k : Nat) (x : Ep) : (s.setEpc k x).ctxs = s.ctxs := rfl
@[simp] theorem setEpc_ports (k : Nat) (x : Ep) : (s.setEpc k x).ports = s.ports := rfl
@[simp] theorem setEpc_sramA (k : Nat) (x : Ep) : (s.setEpc k x).sramA = s.sramA := rfl
@[simp] theorem setEpc_sramB (k : Nat) (x : Ep) : (s.setEpc k x).sramB = s.sramB := rfl
@[simp] theorem setEpc_rd (k : Nat) (x : Ep) (r : Reg) : (s.setEpc k x).rd r = s.rd r := rfl
theorem setEpc_get (k j : Nat) (x : Ep) : (s.setEpc k x).epc j = if j = k then x else s.epc j :=
  FMap.find_put _ _ _ _ _
@[simp] theorem setEpc_same (k : Nat) (x : Ep) : (s.setEpc k x).epc k = x := FMap.find_put_same _ _ _ _
theorem setEpc_wf (k : Nat) (x : Ep) (h : FMap.wf Ep.empty s.eps = true) : FMap.wf Ep.empty (s.setEpc k x).eps = true :=
  FMap.wf_put _ _ h

/-! ## devs -/

@[simp] theorem setDev_pending (k : Nat) (x : Dev) : (s.setDev k x).pending = s.pending := rfl
@[simp] theorem setDev_aon (k : Nat) (x : Dev) : (s.setDev k x).aon = s.aon := rfl
@[simp] theorem setDev_regs (k : Nat) (x : Dev) : (s.setDev k x).regs = s.regs := rfl
@[simp] theorem setDev_eff (k : Nat) (x : Dev) : (s.setDev k x).eff = s.eff := rfl
@[simp] theorem setDev_out (k : Nat) (x : Dev) : (s.setDev k x).out = s.out := rfl
@[simp] theorem setDev_free (k : Nat) (x : Dev) : (s.setDev k x).free = s.free := rfl
@[simp] theorem setDev_ctxs (k : Nat) (x : Dev) : (s.setDev k x).ctxs = s.ctxs := rfl
@[simp] theorem setDev_ports (k : Nat) (x : Dev) : (s.setDev k x).ports = s.ports := rfl
@[simp] theorem setDev_sramA (k : Nat) (x : Dev) : (s.setDev k x).sramA = s.sramA := rfl
@[simp] theorem setDev_sramB (k : Nat) (x : Dev) : (s.setDev k x).sramB = s.sramB := rfl
@[simp] theorem setDev_rd (k : Nat) (x : Dev) (r : Reg) : (s.setDev k x).rd r = s.rd r := rfl
theorem setDev_get (k j : Nat) (x : Dev) : (s.setDev k x).dev j = if j = k then x else s.dev j :=
  FMap.find_put _ _ _ _ _
@[simp] theorem setDev_same (k : Nat) (x : Dev) : (s.setDev k x).dev k = x := FMap.find_put_same _ _ _ _
theorem setDev_wf (k : Nat) (x : Dev) (h : FMap.wf Dev.empty s.devs = true) : FMap.wf Dev.empty (s.setDev k x).devs = true :=
  FMap.wf_put _ _ h

/-! ## ports -/

@[simp] theorem setPort_pending (k : Nat) (x : Port) : (s.setPort k x).pending = s.pending := rfl
@[simp] theorem setPort_aon (k : Nat) (x : Port) : (s.setPort k x).aon = s.aon := rfl
@[simp] theorem setPort_regs (k : Nat) (x : Port) : (s.setPort k x).regs = s.regs := rfl
@[simp] theorem setPort_eff (k : Nat) (x : Port) : (s.setPort k x).eff = s.eff := rfl
@[simp] theorem setPort_latches (k : Nat) (x : Port) : (s.setPort k x).latches = s.latches := rfl
@[simp] theorem setPort_staged (k : Nat) (x : Port) : (s.setPort k x).staged = s.staged := rfl
@[simp] theorem setPort_cyc (k : Nat) (x : Port) : (s.setPort k x).cyc = s.cyc := rfl
@[simp] theorem setPort_readData (k : Nat) (x : Port) : (s.setPort k x).readData = s.readData := rfl
@[simp] theorem setPort_out (k : Nat) (x : Port) : (s.setPort k x).out = s.out := rfl
@[simp] theorem setPort_free (k : Nat) (x : Port) : (s.setPort k x).free = s.free := rfl
@[simp] theorem setPort_funcs (k : Nat) (x : Port) : (s.setPort k x).funcs = s.funcs := rfl
@[simp] theorem setPort_vecs (k : Nat) (x : Port) : (s.setPort k x).vecs = s.vecs := rfl
@[simp] theorem setPort_hps (k : Nat) (x : Port) : (s.setPort k x).hps = s.hps := rfl
@[simp] theorem setPort_atc (k : Nat) (x : Port) : (s.setPort k x).atc = s.atc := rfl
@[simp] theorem setPort_reqs (k : Nat) (x : Port) : (s.setPort k x).reqs = s.reqs := rfl
@[simp] theorem setPort_writes (k : Nat) (x : Port) : (s.setPort k x).writes = s.writes := rfl
@[simp] theorem setPort_tag (k : Nat) (x : Port) : (s.setPort k x).tag = s.tag := rfl
@[simp] theorem setPort_invals (k : Nat) (x : Port) : (s.setPort k x).invals = s.invals := rfl
@[simp] theorem setPort_claimTimer (k : Nat) (x : Port) : (s.setPort k x).claimTimer = s.claimTimer := rfl
@[simp] theorem setPort_aside (k : Nat) (x : Port) : (s.setPort k x).aside = s.aside := rfl
@[simp] theorem setPort_unbind (k : Nat) (x : Port) : (s.setPort k x).unbind = s.unbind := rfl
@[simp] theorem setPort_releasing (k : Nat) (x : Port) : (s.setPort k x).releasing = s.releasing := rfl
@[simp] theorem setPort_resets (k : Nat) (x : Port) : (s.setPort k x).resets = s.resets := rfl
@[simp] theorem setPort_lb (k : Nat) (x : Port) : (s.setPort k x).lb = s.lb := rfl
@[simp] theorem setPort_attP (k : Nat) (x : Port) : (s.setPort k x).attP = s.attP := rfl
@[simp] theorem setPort_att (k : Nat) (x : Port) : (s.setPort k x).att = s.att := rfl
@[simp] theorem setPort_epaOps (k : Nat) (x : Port) : (s.setPort k x).epaOps = s.epaOps := rfl
@[simp] theorem setPort_epaCmd (k : Nat) (x : Port) : (s.setPort k x).epaCmd = s.epaCmd := rfl
@[simp] theorem setPort_sec (k : Nat) (x : Port) : (s.setPort k x).sec = s.sec := rfl
@[simp] theorem setPort_secOver (k : Nat) (x : Port) : (s.setPort k x).secOver = s.secOver := rfl
@[simp] theorem setPort_rings (k : Nat) (x : Port) : (s.setPort k x).rings = s.rings := rfl
@[simp] theorem setPort_ctxs (k : Nat) (x : Port) : (s.setPort k x).ctxs = s.ctxs := rfl
@[simp] theorem setPort_progs (k : Nat) (x : Port) : (s.setPort k x).progs = s.progs := rfl
@[simp] theorem setPort_ldCmd (k : Nat) (x : Port) : (s.setPort k x).ldCmd = s.ldCmd := rfl
@[simp] theorem setPort_engs (k : Nat) (x : Port) : (s.setPort k x).engs = s.engs := rfl
@[simp] theorem setPort_ready (k : Nat) (x : Port) : (s.setPort k x).ready = s.ready := rfl
@[simp] theorem setPort_stolen (k : Nat) (x : Port) : (s.setPort k x).stolen = s.stolen := rfl
@[simp] theorem setPort_staleSeen (k : Nat) (x : Port) : (s.setPort k x).staleSeen = s.staleSeen := rfl
@[simp] theorem setPort_tokens (k : Nat) (x : Port) : (s.setPort k x).tokens = s.tokens := rfl
@[simp] theorem setPort_sems (k : Nat) (x : Port) : (s.setPort k x).sems = s.sems := rfl
@[simp] theorem setPort_eps (k : Nat) (x : Port) : (s.setPort k x).eps = s.eps := rfl
@[simp] theorem setPort_devs (k : Nat) (x : Port) : (s.setPort k x).devs = s.devs := rfl
@[simp] theorem setPort_resvP (k : Nat) (x : Port) : (s.setPort k x).resvP = s.resvP := rfl
@[simp] theorem setPort_resvE (k : Nat) (x : Port) : (s.setPort k x).resvE = s.resvE := rfl
@[simp] theorem setPort_resvF (k : Nat) (x : Port) : (s.setPort k x).resvF = s.resvF := rfl
@[simp] theorem setPort_resvG (k : Nat) (x : Port) : (s.setPort k x).resvG = s.resvG := rfl
@[simp] theorem setPort_deciding (k : Nat) (x : Port) : (s.setPort k x).deciding = s.deciding := rfl
@[simp] theorem setPort_board (k : Nat) (x : Port) : (s.setPort k x).board = s.board := rfl
@[simp] theorem setPort_hdrs (k : Nat) (x : Port) : (s.setPort k x).hdrs = s.hdrs := rfl
@[simp] theorem setPort_planners (k : Nat) (x : Port) : (s.setPort k x).planners = s.planners := rfl
@[simp] theorem setPort_sync (k : Nat) (x : Port) : (s.setPort k x).sync = s.sync := rfl
@[simp] theorem setPort_snapAt (k : Nat) (x : Port) : (s.setPort k x).snapAt = s.snapAt := rfl
@[simp] theorem setPort_flts (k : Nat) (x : Port) : (s.setPort k x).flts = s.flts := rfl
@[simp] theorem setPort_icPend (k : Nat) (x : Port) : (s.setPort k x).icPend = s.icPend := rfl
@[simp] theorem setPort_insA (k : Nat) (x : Port) : (s.setPort k x).insA = s.insA := rfl
@[simp] theorem setPort_insB (k : Nat) (x : Port) : (s.setPort k x).insB = s.insB := rfl
@[simp] theorem setPort_gpio (k : Nat) (x : Port) : (s.setPort k x).gpio = s.gpio := rfl
@[simp] theorem setPort_doms (k : Nat) (x : Port) : (s.setPort k x).doms = s.doms := rfl
@[simp] theorem setPort_avs (k : Nat) (x : Port) : (s.setPort k x).avs = s.avs := rfl
@[simp] theorem setPort_preds (k : Nat) (x : Port) : (s.setPort k x).preds = s.preds := rfl
@[simp] theorem setPort_pairA (k : Nat) (x : Port) : (s.setPort k x).pairA = s.pairA := rfl
@[simp] theorem setPort_pairB (k : Nat) (x : Port) : (s.setPort k x).pairB = s.pairB := rfl
@[simp] theorem setPort_sramA (k : Nat) (x : Port) : (s.setPort k x).sramA = s.sramA := rfl
@[simp] theorem setPort_sramB (k : Nat) (x : Port) : (s.setPort k x).sramB = s.sramB := rfl
@[simp] theorem setPort_ckpt (k : Nat) (x : Port) : (s.setPort k x).ckpt = s.ckpt := rfl
@[simp] theorem setPort_starting (k : Nat) (x : Port) : (s.setPort k x).starting = s.starting := rfl
@[simp] theorem setPort_wdt (k : Nat) (x : Port) : (s.setPort k x).wdt = s.wdt := rfl
@[simp] theorem setPort_live (k : Nat) (x : Port) : (s.setPort k x).live = s.live := rfl
@[simp] theorem setPort_lats (k : Nat) (x : Port) : (s.setPort k x).lats = s.lats := rfl
@[simp] theorem setPort_mdmaQ (k : Nat) (x : Port) : (s.setPort k x).mdmaQ = s.mdmaQ := rfl
@[simp] theorem setPort_mdmaNew (k : Nat) (x : Port) : (s.setPort k x).mdmaNew = s.mdmaNew := rfl
@[simp] theorem setPort_mdmaFails (k : Nat) (x : Port) : (s.setPort k x).mdmaFails = s.mdmaFails := rfl
@[simp] theorem setPort_mdmaRun (k : Nat) (x : Port) : (s.setPort k x).mdmaRun = s.mdmaRun := rfl
@[simp] theorem setPort_keys (k : Nat) (x : Port) : (s.setPort k x).keys = s.keys := rfl
@[simp] theorem setPort_seqs (k : Nat) (x : Port) : (s.setPort k x).seqs = s.seqs := rfl
@[simp] theorem setPort_stage (k : Nat) (x : Port) : (s.setPort k x).stage = s.stage := rfl
@[simp] theorem setPort_keyCmd (k : Nat) (x : Port) : (s.setPort k x).keyCmd = s.keyCmd := rfl
@[simp] theorem setPort_sealOps (k : Nat) (x : Port) : (s.setPort k x).sealOps = s.sealOps := rfl
@[simp] theorem setPort_restoring (k : Nat) (x : Port) : (s.setPort k x).restoring = s.restoring := rfl
@[simp] theorem setPort_adjs (k : Nat) (x : Port) : (s.setPort k x).adjs = s.adjs := rfl
@[simp] theorem setPort_adjCmd (k : Nat) (x : Port) : (s.setPort k x).adjCmd = s.adjCmd := rfl
@[simp] theorem setPort_jtag (k : Nat) (x : Port) : (s.setPort k x).jtag = s.jtag := rfl
@[simp] theorem setPort_isolated (k : Nat) (x : Port) : (s.setPort k x).isolated = s.isolated := rfl
@[simp] theorem setPort_rd (k : Nat) (x : Port) (r : Reg) : (s.setPort k x).rd r = s.rd r := rfl
theorem setPort_get (k j : Nat) (x : Port) : (s.setPort k x).port j = if j = k then x else s.port j :=
  FMap.find_put _ _ _ _ _
@[simp] theorem setPort_same (k : Nat) (x : Port) : (s.setPort k x).port k = x := FMap.find_put_same _ _ _ _
theorem setPort_wf (k : Nat) (x : Port) (h : FMap.wf Port.init s.ports = true) : FMap.wf Port.init (s.setPort k x).ports = true :=
  FMap.wf_put _ _ h

/-! ## resvP -/

@[simp] theorem setRsvP_pending (k : Nat) (x : Resv) : (s.setRsvP k x).pending = s.pending := rfl
@[simp] theorem setRsvP_aon (k : Nat) (x : Resv) : (s.setRsvP k x).aon = s.aon := rfl
@[simp] theorem setRsvP_regs (k : Nat) (x : Resv) : (s.setRsvP k x).regs = s.regs := rfl
@[simp] theorem setRsvP_eff (k : Nat) (x : Resv) : (s.setRsvP k x).eff = s.eff := rfl
@[simp] theorem setRsvP_out (k : Nat) (x : Resv) : (s.setRsvP k x).out = s.out := rfl
@[simp] theorem setRsvP_free (k : Nat) (x : Resv) : (s.setRsvP k x).free = s.free := rfl
@[simp] theorem setRsvP_ctxs (k : Nat) (x : Resv) : (s.setRsvP k x).ctxs = s.ctxs := rfl
@[simp] theorem setRsvP_ports (k : Nat) (x : Resv) : (s.setRsvP k x).ports = s.ports := rfl
@[simp] theorem setRsvP_sramA (k : Nat) (x : Resv) : (s.setRsvP k x).sramA = s.sramA := rfl
@[simp] theorem setRsvP_sramB (k : Nat) (x : Resv) : (s.setRsvP k x).sramB = s.sramB := rfl
@[simp] theorem setRsvP_rd (k : Nat) (x : Resv) (r : Reg) : (s.setRsvP k x).rd r = s.rd r := rfl
theorem setRsvP_get (k j : Nat) (x : Resv) : (s.setRsvP k x).rsvP j = if j = k then x else s.rsvP j :=
  FMap.find_put _ _ _ _ _
@[simp] theorem setRsvP_same (k : Nat) (x : Resv) : (s.setRsvP k x).rsvP k = x := FMap.find_put_same _ _ _ _
theorem setRsvP_wf (k : Nat) (x : Resv) (h : FMap.wf Resv.empty s.resvP = true) : FMap.wf Resv.empty (s.setRsvP k x).resvP = true :=
  FMap.wf_put _ _ h

/-! ## resvE -/

@[simp] theorem setRsvE_pending (k : Nat) (x : Resv) : (s.setRsvE k x).pending = s.pending := rfl
@[simp] theorem setRsvE_aon (k : Nat) (x : Resv) : (s.setRsvE k x).aon = s.aon := rfl
@[simp] theorem setRsvE_regs (k : Nat) (x : Resv) : (s.setRsvE k x).regs = s.regs := rfl
@[simp] theorem setRsvE_eff (k : Nat) (x : Resv) : (s.setRsvE k x).eff = s.eff := rfl
@[simp] theorem setRsvE_out (k : Nat) (x : Resv) : (s.setRsvE k x).out = s.out := rfl
@[simp] theorem setRsvE_free (k : Nat) (x : Resv) : (s.setRsvE k x).free = s.free := rfl
@[simp] theorem setRsvE_ctxs (k : Nat) (x : Resv) : (s.setRsvE k x).ctxs = s.ctxs := rfl
@[simp] theorem setRsvE_ports (k : Nat) (x : Resv) : (s.setRsvE k x).ports = s.ports := rfl
@[simp] theorem setRsvE_sramA (k : Nat) (x : Resv) : (s.setRsvE k x).sramA = s.sramA := rfl
@[simp] theorem setRsvE_sramB (k : Nat) (x : Resv) : (s.setRsvE k x).sramB = s.sramB := rfl
@[simp] theorem setRsvE_rd (k : Nat) (x : Resv) (r : Reg) : (s.setRsvE k x).rd r = s.rd r := rfl
theorem setRsvE_get (k j : Nat) (x : Resv) : (s.setRsvE k x).rsvE j = if j = k then x else s.rsvE j :=
  FMap.find_put _ _ _ _ _
@[simp] theorem setRsvE_same (k : Nat) (x : Resv) : (s.setRsvE k x).rsvE k = x := FMap.find_put_same _ _ _ _
theorem setRsvE_wf (k : Nat) (x : Resv) (h : FMap.wf Resv.empty s.resvE = true) : FMap.wf Resv.empty (s.setRsvE k x).resvE = true :=
  FMap.wf_put _ _ h

/-! ## hdrs -/

@[simp] theorem setHdr_pending (k : Nat) (x : BoardHdr) : (s.setHdr k x).pending = s.pending := rfl
@[simp] theorem setHdr_aon (k : Nat) (x : BoardHdr) : (s.setHdr k x).aon = s.aon := rfl
@[simp] theorem setHdr_regs (k : Nat) (x : BoardHdr) : (s.setHdr k x).regs = s.regs := rfl
@[simp] theorem setHdr_eff (k : Nat) (x : BoardHdr) : (s.setHdr k x).eff = s.eff := rfl
@[simp] theorem setHdr_out (k : Nat) (x : BoardHdr) : (s.setHdr k x).out = s.out := rfl
@[simp] theorem setHdr_free (k : Nat) (x : BoardHdr) : (s.setHdr k x).free = s.free := rfl
@[simp] theorem setHdr_ctxs (k : Nat) (x : BoardHdr) : (s.setHdr k x).ctxs = s.ctxs := rfl
@[simp] theorem setHdr_ports (k : Nat) (x : BoardHdr) : (s.setHdr k x).ports = s.ports := rfl
@[simp] theorem setHdr_sramA (k : Nat) (x : BoardHdr) : (s.setHdr k x).sramA = s.sramA := rfl
@[simp] theorem setHdr_sramB (k : Nat) (x : BoardHdr) : (s.setHdr k x).sramB = s.sramB := rfl
@[simp] theorem setHdr_rd (k : Nat) (x : BoardHdr) (r : Reg) : (s.setHdr k x).rd r = s.rd r := rfl
theorem setHdr_get (k j : Nat) (x : BoardHdr) : (s.setHdr k x).hdr j = if j = k then x else s.hdr j :=
  FMap.find_put _ _ _ _ _
@[simp] theorem setHdr_same (k : Nat) (x : BoardHdr) : (s.setHdr k x).hdr k = x := FMap.find_put_same _ _ _ _
theorem setHdr_wf (k : Nat) (x : BoardHdr) (h : FMap.wf BoardHdr.empty s.hdrs = true) : FMap.wf BoardHdr.empty (s.setHdr k x).hdrs = true :=
  FMap.wf_put _ _ h

/-! ## board -/

@[simp] theorem setBline_pending (k : Nat) (x : (List (Word64 × Nat))) : (s.setBline k x).pending = s.pending := rfl
@[simp] theorem setBline_aon (k : Nat) (x : (List (Word64 × Nat))) : (s.setBline k x).aon = s.aon := rfl
@[simp] theorem setBline_regs (k : Nat) (x : (List (Word64 × Nat))) : (s.setBline k x).regs = s.regs := rfl
@[simp] theorem setBline_eff (k : Nat) (x : (List (Word64 × Nat))) : (s.setBline k x).eff = s.eff := rfl
@[simp] theorem setBline_out (k : Nat) (x : (List (Word64 × Nat))) : (s.setBline k x).out = s.out := rfl
@[simp] theorem setBline_free (k : Nat) (x : (List (Word64 × Nat))) : (s.setBline k x).free = s.free := rfl
@[simp] theorem setBline_ctxs (k : Nat) (x : (List (Word64 × Nat))) : (s.setBline k x).ctxs = s.ctxs := rfl
@[simp] theorem setBline_ports (k : Nat) (x : (List (Word64 × Nat))) : (s.setBline k x).ports = s.ports := rfl
@[simp] theorem setBline_sramA (k : Nat) (x : (List (Word64 × Nat))) : (s.setBline k x).sramA = s.sramA := rfl
@[simp] theorem setBline_sramB (k : Nat) (x : (List (Word64 × Nat))) : (s.setBline k x).sramB = s.sramB := rfl
@[simp] theorem setBline_rd (k : Nat) (x : (List (Word64 × Nat))) (r : Reg) : (s.setBline k x).rd r = s.rd r := rfl
theorem setBline_get (k j : Nat) (x : (List (Word64 × Nat))) : (s.setBline k x).bline j = if j = k then x else s.bline j :=
  FMap.find_put _ _ _ _ _
@[simp] theorem setBline_same (k : Nat) (x : (List (Word64 × Nat))) : (s.setBline k x).bline k = x := FMap.find_put_same _ _ _ _
theorem setBline_wf (k : Nat) (x : (List (Word64 × Nat))) (h : FMap.wf [] s.board = true) : FMap.wf [] (s.setBline k x).board = true :=
  FMap.wf_put _ _ h

/-! ## planners -/

@[simp] theorem setPlan_pending (k : Nat) (x : Planner) : (s.setPlan k x).pending = s.pending := rfl
@[simp] theorem setPlan_aon (k : Nat) (x : Planner) : (s.setPlan k x).aon = s.aon := rfl
@[simp] theorem setPlan_regs (k : Nat) (x : Planner) : (s.setPlan k x).regs = s.regs := rfl
@[simp] theorem setPlan_eff (k : Nat) (x : Planner) : (s.setPlan k x).eff = s.eff := rfl
@[simp] theorem setPlan_out (k : Nat) (x : Planner) : (s.setPlan k x).out = s.out := rfl
@[simp] theorem setPlan_free (k : Nat) (x : Planner) : (s.setPlan k x).free = s.free := rfl
@[simp] theorem setPlan_ctxs (k : Nat) (x : Planner) : (s.setPlan k x).ctxs = s.ctxs := rfl
@[simp] theorem setPlan_ports (k : Nat) (x : Planner) : (s.setPlan k x).ports = s.ports := rfl
@[simp] theorem setPlan_sramA (k : Nat) (x : Planner) : (s.setPlan k x).sramA = s.sramA := rfl
@[simp] theorem setPlan_sramB (k : Nat) (x : Planner) : (s.setPlan k x).sramB = s.sramB := rfl
@[simp] theorem setPlan_rd (k : Nat) (x : Planner) (r : Reg) : (s.setPlan k x).rd r = s.rd r := rfl
theorem setPlan_get (k j : Nat) (x : Planner) : (s.setPlan k x).plan j = if j = k then x else s.plan j :=
  FMap.find_put _ _ _ _ _
@[simp] theorem setPlan_same (k : Nat) (x : Planner) : (s.setPlan k x).plan k = x := FMap.find_put_same _ _ _ _
theorem setPlan_wf (k : Nat) (x : Planner) (h : FMap.wf Planner.init s.planners = true) : FMap.wf Planner.init (s.setPlan k x).planners = true :=
  FMap.wf_put _ _ h

/-! ## flts -/

@[simp] theorem setFlt_pending (k : Nat) (x : FltSrc) : (s.setFlt k x).pending = s.pending := rfl
@[simp] theorem setFlt_aon (k : Nat) (x : FltSrc) : (s.setFlt k x).aon = s.aon := rfl
@[simp] theorem setFlt_regs (k : Nat) (x : FltSrc) : (s.setFlt k x).regs = s.regs := rfl
@[simp] theorem setFlt_eff (k : Nat) (x : FltSrc) : (s.setFlt k x).eff = s.eff := rfl
@[simp] theorem setFlt_out (k : Nat) (x : FltSrc) : (s.setFlt k x).out = s.out := rfl
@[simp] theorem setFlt_free (k : Nat) (x : FltSrc) : (s.setFlt k x).free = s.free := rfl
@[simp] theorem setFlt_ctxs (k : Nat) (x : FltSrc) : (s.setFlt k x).ctxs = s.ctxs := rfl
@[simp] theorem setFlt_ports (k : Nat) (x : FltSrc) : (s.setFlt k x).ports = s.ports := rfl
@[simp] theorem setFlt_sramA (k : Nat) (x : FltSrc) : (s.setFlt k x).sramA = s.sramA := rfl
@[simp] theorem setFlt_sramB (k : Nat) (x : FltSrc) : (s.setFlt k x).sramB = s.sramB := rfl
@[simp] theorem setFlt_rd (k : Nat) (x : FltSrc) (r : Reg) : (s.setFlt k x).rd r = s.rd r := rfl
theorem setFlt_get (k j : Nat) (x : FltSrc) : (s.setFlt k x).flt j = if j = k then x else s.flt j :=
  FMap.find_put _ _ _ _ _
@[simp] theorem setFlt_same (k : Nat) (x : FltSrc) : (s.setFlt k x).flt k = x := FMap.find_put_same _ _ _ _
theorem setFlt_wf (k : Nat) (x : FltSrc) (h : FMap.wf FltSrc.init s.flts = true) : FMap.wf FltSrc.init (s.setFlt k x).flts = true :=
  FMap.wf_put _ _ h

/-! ## gpio -/

@[simp] theorem setGpi_pending (k : Nat) (x : Gpio) : (s.setGpi k x).pending = s.pending := rfl
@[simp] theorem setGpi_aon (k : Nat) (x : Gpio) : (s.setGpi k x).aon = s.aon := rfl
@[simp] theorem setGpi_regs (k : Nat) (x : Gpio) : (s.setGpi k x).regs = s.regs := rfl
@[simp] theorem setGpi_eff (k : Nat) (x : Gpio) : (s.setGpi k x).eff = s.eff := rfl
@[simp] theorem setGpi_out (k : Nat) (x : Gpio) : (s.setGpi k x).out = s.out := rfl
@[simp] theorem setGpi_free (k : Nat) (x : Gpio) : (s.setGpi k x).free = s.free := rfl
@[simp] theorem setGpi_ctxs (k : Nat) (x : Gpio) : (s.setGpi k x).ctxs = s.ctxs := rfl
@[simp] theorem setGpi_ports (k : Nat) (x : Gpio) : (s.setGpi k x).ports = s.ports := rfl
@[simp] theorem setGpi_sramA (k : Nat) (x : Gpio) : (s.setGpi k x).sramA = s.sramA := rfl
@[simp] theorem setGpi_sramB (k : Nat) (x : Gpio) : (s.setGpi k x).sramB = s.sramB := rfl
@[simp] theorem setGpi_rd (k : Nat) (x : Gpio) (r : Reg) : (s.setGpi k x).rd r = s.rd r := rfl
theorem setGpi_get (k j : Nat) (x : Gpio) : (s.setGpi k x).gpi j = if j = k then x else s.gpi j :=
  FMap.find_put _ _ _ _ _
@[simp] theorem setGpi_same (k : Nat) (x : Gpio) : (s.setGpi k x).gpi k = x := FMap.find_put_same _ _ _ _
theorem setGpi_wf (k : Nat) (x : Gpio) (h : FMap.wf Gpio.init s.gpio = true) : FMap.wf Gpio.init (s.setGpi k x).gpio = true :=
  FMap.wf_put _ _ h

/-! ## doms -/

@[simp] theorem setDom_pending (k : Nat) (x : Dom) : (s.setDom k x).pending = s.pending := rfl
@[simp] theorem setDom_aon (k : Nat) (x : Dom) : (s.setDom k x).aon = s.aon := rfl
@[simp] theorem setDom_regs (k : Nat) (x : Dom) : (s.setDom k x).regs = s.regs := rfl
@[simp] theorem setDom_eff (k : Nat) (x : Dom) : (s.setDom k x).eff = s.eff := rfl
@[simp] theorem setDom_latches (k : Nat) (x : Dom) : (s.setDom k x).latches = s.latches := rfl
@[simp] theorem setDom_staged (k : Nat) (x : Dom) : (s.setDom k x).staged = s.staged := rfl
@[simp] theorem setDom_cyc (k : Nat) (x : Dom) : (s.setDom k x).cyc = s.cyc := rfl
@[simp] theorem setDom_readData (k : Nat) (x : Dom) : (s.setDom k x).readData = s.readData := rfl
@[simp] theorem setDom_out (k : Nat) (x : Dom) : (s.setDom k x).out = s.out := rfl
@[simp] theorem setDom_free (k : Nat) (x : Dom) : (s.setDom k x).free = s.free := rfl
@[simp] theorem setDom_funcs (k : Nat) (x : Dom) : (s.setDom k x).funcs = s.funcs := rfl
@[simp] theorem setDom_vecs (k : Nat) (x : Dom) : (s.setDom k x).vecs = s.vecs := rfl
@[simp] theorem setDom_hps (k : Nat) (x : Dom) : (s.setDom k x).hps = s.hps := rfl
@[simp] theorem setDom_atc (k : Nat) (x : Dom) : (s.setDom k x).atc = s.atc := rfl
@[simp] theorem setDom_reqs (k : Nat) (x : Dom) : (s.setDom k x).reqs = s.reqs := rfl
@[simp] theorem setDom_writes (k : Nat) (x : Dom) : (s.setDom k x).writes = s.writes := rfl
@[simp] theorem setDom_tag (k : Nat) (x : Dom) : (s.setDom k x).tag = s.tag := rfl
@[simp] theorem setDom_invals (k : Nat) (x : Dom) : (s.setDom k x).invals = s.invals := rfl
@[simp] theorem setDom_claimTimer (k : Nat) (x : Dom) : (s.setDom k x).claimTimer = s.claimTimer := rfl
@[simp] theorem setDom_aside (k : Nat) (x : Dom) : (s.setDom k x).aside = s.aside := rfl
@[simp] theorem setDom_unbind (k : Nat) (x : Dom) : (s.setDom k x).unbind = s.unbind := rfl
@[simp] theorem setDom_releasing (k : Nat) (x : Dom) : (s.setDom k x).releasing = s.releasing := rfl
@[simp] theorem setDom_resets (k : Nat) (x : Dom) : (s.setDom k x).resets = s.resets := rfl
@[simp] theorem setDom_lb (k : Nat) (x : Dom) : (s.setDom k x).lb = s.lb := rfl
@[simp] theorem setDom_attP (k : Nat) (x : Dom) : (s.setDom k x).attP = s.attP := rfl
@[simp] theorem setDom_att (k : Nat) (x : Dom) : (s.setDom k x).att = s.att := rfl
@[simp] theorem setDom_epaOps (k : Nat) (x : Dom) : (s.setDom k x).epaOps = s.epaOps := rfl
@[simp] theorem setDom_epaCmd (k : Nat) (x : Dom) : (s.setDom k x).epaCmd = s.epaCmd := rfl
@[simp] theorem setDom_sec (k : Nat) (x : Dom) : (s.setDom k x).sec = s.sec := rfl
@[simp] theorem setDom_secOver (k : Nat) (x : Dom) : (s.setDom k x).secOver = s.secOver := rfl
@[simp] theorem setDom_rings (k : Nat) (x : Dom) : (s.setDom k x).rings = s.rings := rfl
@[simp] theorem setDom_ctxs (k : Nat) (x : Dom) : (s.setDom k x).ctxs = s.ctxs := rfl
@[simp] theorem setDom_progs (k : Nat) (x : Dom) : (s.setDom k x).progs = s.progs := rfl
@[simp] theorem setDom_ldCmd (k : Nat) (x : Dom) : (s.setDom k x).ldCmd = s.ldCmd := rfl
@[simp] theorem setDom_engs (k : Nat) (x : Dom) : (s.setDom k x).engs = s.engs := rfl
@[simp] theorem setDom_ready (k : Nat) (x : Dom) : (s.setDom k x).ready = s.ready := rfl
@[simp] theorem setDom_stolen (k : Nat) (x : Dom) : (s.setDom k x).stolen = s.stolen := rfl
@[simp] theorem setDom_staleSeen (k : Nat) (x : Dom) : (s.setDom k x).staleSeen = s.staleSeen := rfl
@[simp] theorem setDom_tokens (k : Nat) (x : Dom) : (s.setDom k x).tokens = s.tokens := rfl
@[simp] theorem setDom_sems (k : Nat) (x : Dom) : (s.setDom k x).sems = s.sems := rfl
@[simp] theorem setDom_eps (k : Nat) (x : Dom) : (s.setDom k x).eps = s.eps := rfl
@[simp] theorem setDom_devs (k : Nat) (x : Dom) : (s.setDom k x).devs = s.devs := rfl
@[simp] theorem setDom_ports (k : Nat) (x : Dom) : (s.setDom k x).ports = s.ports := rfl
@[simp] theorem setDom_resvP (k : Nat) (x : Dom) : (s.setDom k x).resvP = s.resvP := rfl
@[simp] theorem setDom_resvE (k : Nat) (x : Dom) : (s.setDom k x).resvE = s.resvE := rfl
@[simp] theorem setDom_resvF (k : Nat) (x : Dom) : (s.setDom k x).resvF = s.resvF := rfl
@[simp] theorem setDom_resvG (k : Nat) (x : Dom) : (s.setDom k x).resvG = s.resvG := rfl
@[simp] theorem setDom_deciding (k : Nat) (x : Dom) : (s.setDom k x).deciding = s.deciding := rfl
@[simp] theorem setDom_board (k : Nat) (x : Dom) : (s.setDom k x).board = s.board := rfl
@[simp] theorem setDom_hdrs (k : Nat) (x : Dom) : (s.setDom k x).hdrs = s.hdrs := rfl
@[simp] theorem setDom_planners (k : Nat) (x : Dom) : (s.setDom k x).planners = s.planners := rfl
@[simp] theorem setDom_sync (k : Nat) (x : Dom) : (s.setDom k x).sync = s.sync := rfl
@[simp] theorem setDom_snapAt (k : Nat) (x : Dom) : (s.setDom k x).snapAt = s.snapAt := rfl
@[simp] theorem setDom_flts (k : Nat) (x : Dom) : (s.setDom k x).flts = s.flts := rfl
@[simp] theorem setDom_icPend (k : Nat) (x : Dom) : (s.setDom k x).icPend = s.icPend := rfl
@[simp] theorem setDom_insA (k : Nat) (x : Dom) : (s.setDom k x).insA = s.insA := rfl
@[simp] theorem setDom_insB (k : Nat) (x : Dom) : (s.setDom k x).insB = s.insB := rfl
@[simp] theorem setDom_gpio (k : Nat) (x : Dom) : (s.setDom k x).gpio = s.gpio := rfl
@[simp] theorem setDom_avs (k : Nat) (x : Dom) : (s.setDom k x).avs = s.avs := rfl
@[simp] theorem setDom_preds (k : Nat) (x : Dom) : (s.setDom k x).preds = s.preds := rfl
@[simp] theorem setDom_pairA (k : Nat) (x : Dom) : (s.setDom k x).pairA = s.pairA := rfl
@[simp] theorem setDom_pairB (k : Nat) (x : Dom) : (s.setDom k x).pairB = s.pairB := rfl
@[simp] theorem setDom_sramA (k : Nat) (x : Dom) : (s.setDom k x).sramA = s.sramA := rfl
@[simp] theorem setDom_sramB (k : Nat) (x : Dom) : (s.setDom k x).sramB = s.sramB := rfl
@[simp] theorem setDom_ckpt (k : Nat) (x : Dom) : (s.setDom k x).ckpt = s.ckpt := rfl
@[simp] theorem setDom_starting (k : Nat) (x : Dom) : (s.setDom k x).starting = s.starting := rfl
@[simp] theorem setDom_wdt (k : Nat) (x : Dom) : (s.setDom k x).wdt = s.wdt := rfl
@[simp] theorem setDom_live (k : Nat) (x : Dom) : (s.setDom k x).live = s.live := rfl
@[simp] theorem setDom_lats (k : Nat) (x : Dom) : (s.setDom k x).lats = s.lats := rfl
@[simp] theorem setDom_mdmaQ (k : Nat) (x : Dom) : (s.setDom k x).mdmaQ = s.mdmaQ := rfl
@[simp] theorem setDom_mdmaNew (k : Nat) (x : Dom) : (s.setDom k x).mdmaNew = s.mdmaNew := rfl
@[simp] theorem setDom_mdmaFails (k : Nat) (x : Dom) : (s.setDom k x).mdmaFails = s.mdmaFails := rfl
@[simp] theorem setDom_mdmaRun (k : Nat) (x : Dom) : (s.setDom k x).mdmaRun = s.mdmaRun := rfl
@[simp] theorem setDom_keys (k : Nat) (x : Dom) : (s.setDom k x).keys = s.keys := rfl
@[simp] theorem setDom_seqs (k : Nat) (x : Dom) : (s.setDom k x).seqs = s.seqs := rfl
@[simp] theorem setDom_stage (k : Nat) (x : Dom) : (s.setDom k x).stage = s.stage := rfl
@[simp] theorem setDom_keyCmd (k : Nat) (x : Dom) : (s.setDom k x).keyCmd = s.keyCmd := rfl
@[simp] theorem setDom_sealOps (k : Nat) (x : Dom) : (s.setDom k x).sealOps = s.sealOps := rfl
@[simp] theorem setDom_restoring (k : Nat) (x : Dom) : (s.setDom k x).restoring = s.restoring := rfl
@[simp] theorem setDom_adjs (k : Nat) (x : Dom) : (s.setDom k x).adjs = s.adjs := rfl
@[simp] theorem setDom_adjCmd (k : Nat) (x : Dom) : (s.setDom k x).adjCmd = s.adjCmd := rfl
@[simp] theorem setDom_jtag (k : Nat) (x : Dom) : (s.setDom k x).jtag = s.jtag := rfl
@[simp] theorem setDom_isolated (k : Nat) (x : Dom) : (s.setDom k x).isolated = s.isolated := rfl
@[simp] theorem setDom_rd (k : Nat) (x : Dom) (r : Reg) : (s.setDom k x).rd r = s.rd r := rfl
theorem setDom_get (k j : Nat) (x : Dom) : (s.setDom k x).dom j = if j = k then x else s.dom j :=
  FMap.find_put _ _ _ _ _
@[simp] theorem setDom_same (k : Nat) (x : Dom) : (s.setDom k x).dom k = x := FMap.find_put_same _ _ _ _
theorem setDom_wf (k : Nat) (x : Dom) (h : FMap.wf Dom.init s.doms = true) : FMap.wf Dom.init (s.setDom k x).doms = true :=
  FMap.wf_put _ _ h

/-! ## preds -/

@[simp] theorem setPred_pending (k : Nat) (x : Pred) : (s.setPred k x).pending = s.pending := rfl
@[simp] theorem setPred_aon (k : Nat) (x : Pred) : (s.setPred k x).aon = s.aon := rfl
@[simp] theorem setPred_regs (k : Nat) (x : Pred) : (s.setPred k x).regs = s.regs := rfl
@[simp] theorem setPred_eff (k : Nat) (x : Pred) : (s.setPred k x).eff = s.eff := rfl
@[simp] theorem setPred_out (k : Nat) (x : Pred) : (s.setPred k x).out = s.out := rfl
@[simp] theorem setPred_free (k : Nat) (x : Pred) : (s.setPred k x).free = s.free := rfl
@[simp] theorem setPred_ctxs (k : Nat) (x : Pred) : (s.setPred k x).ctxs = s.ctxs := rfl
@[simp] theorem setPred_ports (k : Nat) (x : Pred) : (s.setPred k x).ports = s.ports := rfl
@[simp] theorem setPred_sramA (k : Nat) (x : Pred) : (s.setPred k x).sramA = s.sramA := rfl
@[simp] theorem setPred_sramB (k : Nat) (x : Pred) : (s.setPred k x).sramB = s.sramB := rfl
@[simp] theorem setPred_rd (k : Nat) (x : Pred) (r : Reg) : (s.setPred k x).rd r = s.rd r := rfl
theorem setPred_get (k j : Nat) (x : Pred) : (s.setPred k x).pred j = if j = k then x else s.pred j :=
  FMap.find_put _ _ _ _ _
@[simp] theorem setPred_same (k : Nat) (x : Pred) : (s.setPred k x).pred k = x := FMap.find_put_same _ _ _ _
theorem setPred_wf (k : Nat) (x : Pred) (h : FMap.wf Pred.init s.preds = true) : FMap.wf Pred.init (s.setPred k x).preds = true :=
  FMap.wf_put _ _ h

/-! ## adjs -/

@[simp] theorem setAdj_pending (k : Nat) (x : Adj) : (s.setAdj k x).pending = s.pending := rfl
@[simp] theorem setAdj_aon (k : Nat) (x : Adj) : (s.setAdj k x).aon = s.aon := rfl
@[simp] theorem setAdj_regs (k : Nat) (x : Adj) : (s.setAdj k x).regs = s.regs := rfl
@[simp] theorem setAdj_eff (k : Nat) (x : Adj) : (s.setAdj k x).eff = s.eff := rfl
@[simp] theorem setAdj_out (k : Nat) (x : Adj) : (s.setAdj k x).out = s.out := rfl
@[simp] theorem setAdj_free (k : Nat) (x : Adj) : (s.setAdj k x).free = s.free := rfl
@[simp] theorem setAdj_ctxs (k : Nat) (x : Adj) : (s.setAdj k x).ctxs = s.ctxs := rfl
@[simp] theorem setAdj_ports (k : Nat) (x : Adj) : (s.setAdj k x).ports = s.ports := rfl
@[simp] theorem setAdj_sramA (k : Nat) (x : Adj) : (s.setAdj k x).sramA = s.sramA := rfl
@[simp] theorem setAdj_sramB (k : Nat) (x : Adj) : (s.setAdj k x).sramB = s.sramB := rfl
@[simp] theorem setAdj_rd (k : Nat) (x : Adj) (r : Reg) : (s.setAdj k x).rd r = s.rd r := rfl
theorem setAdj_get (k j : Nat) (x : Adj) : (s.setAdj k x).adj j = if j = k then x else s.adj j :=
  FMap.find_put _ _ _ _ _
@[simp] theorem setAdj_same (k : Nat) (x : Adj) : (s.setAdj k x).adj k = x := FMap.find_put_same _ _ _ _
theorem setAdj_wf (k : Nat) (x : Adj) (h : FMap.wf Adj.init s.adjs = true) : FMap.wf Adj.init (s.setAdj k x).adjs = true :=
  FMap.wf_put _ _ h

/-! ## lb -/

@[simp] theorem setLbOf_pending (k : Nat) (x : Nat) : (s.setLbOf k x).pending = s.pending := rfl
@[simp] theorem setLbOf_aon (k : Nat) (x : Nat) : (s.setLbOf k x).aon = s.aon := rfl
@[simp] theorem setLbOf_regs (k : Nat) (x : Nat) : (s.setLbOf k x).regs = s.regs := rfl
@[simp] theorem setLbOf_eff (k : Nat) (x : Nat) : (s.setLbOf k x).eff = s.eff := rfl
@[simp] theorem setLbOf_out (k : Nat) (x : Nat) : (s.setLbOf k x).out = s.out := rfl
@[simp] theorem setLbOf_free (k : Nat) (x : Nat) : (s.setLbOf k x).free = s.free := rfl
@[simp] theorem setLbOf_ctxs (k : Nat) (x : Nat) : (s.setLbOf k x).ctxs = s.ctxs := rfl
@[simp] theorem setLbOf_ports (k : Nat) (x : Nat) : (s.setLbOf k x).ports = s.ports := rfl
@[simp] theorem setLbOf_sramA (k : Nat) (x : Nat) : (s.setLbOf k x).sramA = s.sramA := rfl
@[simp] theorem setLbOf_sramB (k : Nat) (x : Nat) : (s.setLbOf k x).sramB = s.sramB := rfl
@[simp] theorem setLbOf_rd (k : Nat) (x : Nat) (r : Reg) : (s.setLbOf k x).rd r = s.rd r := rfl
theorem setLbOf_get (k j : Nat) (x : Nat) : (s.setLbOf k x).lbOf j = if j = k then x else s.lbOf j :=
  FMap.find_put _ _ _ _ _
@[simp] theorem setLbOf_same (k : Nat) (x : Nat) : (s.setLbOf k x).lbOf k = x := FMap.find_put_same _ _ _ _
theorem setLbOf_wf (k : Nat) (x : Nat) (h : FMap.wf 0 s.lb = true) : FMap.wf 0 (s.setLbOf k x).lb = true :=
  FMap.wf_put _ _ h

/-! ## aside -/

@[simp] theorem setAsideOf_pending (k : Nat) (x : Nat) : (s.setAsideOf k x).pending = s.pending := rfl
@[simp] theorem setAsideOf_aon (k : Nat) (x : Nat) : (s.setAsideOf k x).aon = s.aon := rfl
@[simp] theorem setAsideOf_regs (k : Nat) (x : Nat) : (s.setAsideOf k x).regs = s.regs := rfl
@[simp] theorem setAsideOf_eff (k : Nat) (x : Nat) : (s.setAsideOf k x).eff = s.eff := rfl
@[simp] theorem setAsideOf_out (k : Nat) (x : Nat) : (s.setAsideOf k x).out = s.out := rfl
@[simp] theorem setAsideOf_free (k : Nat) (x : Nat) : (s.setAsideOf k x).free = s.free := rfl
@[simp] theorem setAsideOf_ctxs (k : Nat) (x : Nat) : (s.setAsideOf k x).ctxs = s.ctxs := rfl
@[simp] theorem setAsideOf_ports (k : Nat) (x : Nat) : (s.setAsideOf k x).ports = s.ports := rfl
@[simp] theorem setAsideOf_sramA (k : Nat) (x : Nat) : (s.setAsideOf k x).sramA = s.sramA := rfl
@[simp] theorem setAsideOf_sramB (k : Nat) (x : Nat) : (s.setAsideOf k x).sramB = s.sramB := rfl
@[simp] theorem setAsideOf_rd (k : Nat) (x : Nat) (r : Reg) : (s.setAsideOf k x).rd r = s.rd r := rfl
theorem setAsideOf_get (k j : Nat) (x : Nat) : (s.setAsideOf k x).asideOf j = if j = k then x else s.asideOf j :=
  FMap.find_put _ _ _ _ _
@[simp] theorem setAsideOf_same (k : Nat) (x : Nat) : (s.setAsideOf k x).asideOf k = x := FMap.find_put_same _ _ _ _
theorem setAsideOf_wf (k : Nat) (x : Nat) (h : FMap.wf 0 s.aside = true) : FMap.wf 0 (s.setAsideOf k x).aside = true :=
  FMap.wf_put _ _ h

/-! ## stolen -/

@[simp] theorem setStolenOf_pending (k : Nat) (x : Nat) : (s.setStolenOf k x).pending = s.pending := rfl
@[simp] theorem setStolenOf_aon (k : Nat) (x : Nat) : (s.setStolenOf k x).aon = s.aon := rfl
@[simp] theorem setStolenOf_regs (k : Nat) (x : Nat) : (s.setStolenOf k x).regs = s.regs := rfl
@[simp] theorem setStolenOf_eff (k : Nat) (x : Nat) : (s.setStolenOf k x).eff = s.eff := rfl
@[simp] theorem setStolenOf_out (k : Nat) (x : Nat) : (s.setStolenOf k x).out = s.out := rfl
@[simp] theorem setStolenOf_free (k : Nat) (x : Nat) : (s.setStolenOf k x).free = s.free := rfl
@[simp] theorem setStolenOf_ctxs (k : Nat) (x : Nat) : (s.setStolenOf k x).ctxs = s.ctxs := rfl
@[simp] theorem setStolenOf_ports (k : Nat) (x : Nat) : (s.setStolenOf k x).ports = s.ports := rfl
@[simp] theorem setStolenOf_sramA (k : Nat) (x : Nat) : (s.setStolenOf k x).sramA = s.sramA := rfl
@[simp] theorem setStolenOf_sramB (k : Nat) (x : Nat) : (s.setStolenOf k x).sramB = s.sramB := rfl
@[simp] theorem setStolenOf_rd (k : Nat) (x : Nat) (r : Reg) : (s.setStolenOf k x).rd r = s.rd r := rfl
theorem setStolenOf_get (k j : Nat) (x : Nat) : (s.setStolenOf k x).stolenOf j = if j = k then x else s.stolenOf j :=
  FMap.find_put _ _ _ _ _
@[simp] theorem setStolenOf_same (k : Nat) (x : Nat) : (s.setStolenOf k x).stolenOf k = x := FMap.find_put_same _ _ _ _
theorem setStolenOf_wf (k : Nat) (x : Nat) (h : FMap.wf 0 s.stolen = true) : FMap.wf 0 (s.setStolenOf k x).stolen = true :=
  FMap.wf_put _ _ h

/-! ## sec -/

@[simp] theorem setSecOf_pending (k : Nat) (x : (Option Nat)) : (s.setSecOf k x).pending = s.pending := rfl
@[simp] theorem setSecOf_aon (k : Nat) (x : (Option Nat)) : (s.setSecOf k x).aon = s.aon := rfl
@[simp] theorem setSecOf_regs (k : Nat) (x : (Option Nat)) : (s.setSecOf k x).regs = s.regs := rfl
@[simp] theorem setSecOf_eff (k : Nat) (x : (Option Nat)) : (s.setSecOf k x).eff = s.eff := rfl
@[simp] theorem setSecOf_out (k : Nat) (x : (Option Nat)) : (s.setSecOf k x).out = s.out := rfl
@[simp] theorem setSecOf_free (k : Nat) (x : (Option Nat)) : (s.setSecOf k x).free = s.free := rfl
@[simp] theorem setSecOf_ctxs (k : Nat) (x : (Option Nat)) : (s.setSecOf k x).ctxs = s.ctxs := rfl
@[simp] theorem setSecOf_ports (k : Nat) (x : (Option Nat)) : (s.setSecOf k x).ports = s.ports := rfl
@[simp] theorem setSecOf_sramA (k : Nat) (x : (Option Nat)) : (s.setSecOf k x).sramA = s.sramA := rfl
@[simp] theorem setSecOf_sramB (k : Nat) (x : (Option Nat)) : (s.setSecOf k x).sramB = s.sramB := rfl
@[simp] theorem setSecOf_rd (k : Nat) (x : (Option Nat)) (r : Reg) : (s.setSecOf k x).rd r = s.rd r := rfl
theorem setSecOf_get (k j : Nat) (x : (Option Nat)) : (s.setSecOf k x).secOf j = if j = k then x else s.secOf j :=
  FMap.find_put _ _ _ _ _
@[simp] theorem setSecOf_same (k : Nat) (x : (Option Nat)) : (s.setSecOf k x).secOf k = x := FMap.find_put_same _ _ _ _
theorem setSecOf_wf (k : Nat) (x : (Option Nat)) (h : FMap.wf none s.sec = true) : FMap.wf none (s.setSecOf k x).sec = true :=
  FMap.wf_put _ _ h

/-! ## seqs -/

@[simp] theorem setSeqOf_pending (k : Nat) (x : Nat) : (s.setSeqOf k x).pending = s.pending := rfl
@[simp] theorem setSeqOf_aon (k : Nat) (x : Nat) : (s.setSeqOf k x).aon = s.aon := rfl
@[simp] theorem setSeqOf_regs (k : Nat) (x : Nat) : (s.setSeqOf k x).regs = s.regs := rfl
@[simp] theorem setSeqOf_eff (k : Nat) (x : Nat) : (s.setSeqOf k x).eff = s.eff := rfl
@[simp] theorem setSeqOf_out (k : Nat) (x : Nat) : (s.setSeqOf k x).out = s.out := rfl
@[simp] theorem setSeqOf_free (k : Nat) (x : Nat) : (s.setSeqOf k x).free = s.free := rfl
@[simp] theorem setSeqOf_ctxs (k : Nat) (x : Nat) : (s.setSeqOf k x).ctxs = s.ctxs := rfl
@[simp] theorem setSeqOf_ports (k : Nat) (x : Nat) : (s.setSeqOf k x).ports = s.ports := rfl
@[simp] theorem setSeqOf_sramA (k : Nat) (x : Nat) : (s.setSeqOf k x).sramA = s.sramA := rfl
@[simp] theorem setSeqOf_sramB (k : Nat) (x : Nat) : (s.setSeqOf k x).sramB = s.sramB := rfl
@[simp] theorem setSeqOf_rd (k : Nat) (x : Nat) (r : Reg) : (s.setSeqOf k x).rd r = s.rd r := rfl
theorem setSeqOf_get (k j : Nat) (x : Nat) : (s.setSeqOf k x).seqOf j = if j = k then x else s.seqOf j :=
  FMap.find_put _ _ _ _ _
@[simp] theorem setSeqOf_same (k : Nat) (x : Nat) : (s.setSeqOf k x).seqOf k = x := FMap.find_put_same _ _ _ _
theorem setSeqOf_wf (k : Nat) (x : Nat) (h : FMap.wf 0 s.seqs = true) : FMap.wf 0 (s.setSeqOf k x).seqs = true :=
  FMap.wf_put _ _ h

/-! ## keys -/

@[simp] theorem setKeyOf_pending (k : Nat) (x : (List Word32)) : (s.setKeyOf k x).pending = s.pending := rfl
@[simp] theorem setKeyOf_aon (k : Nat) (x : (List Word32)) : (s.setKeyOf k x).aon = s.aon := rfl
@[simp] theorem setKeyOf_regs (k : Nat) (x : (List Word32)) : (s.setKeyOf k x).regs = s.regs := rfl
@[simp] theorem setKeyOf_eff (k : Nat) (x : (List Word32)) : (s.setKeyOf k x).eff = s.eff := rfl
@[simp] theorem setKeyOf_out (k : Nat) (x : (List Word32)) : (s.setKeyOf k x).out = s.out := rfl
@[simp] theorem setKeyOf_free (k : Nat) (x : (List Word32)) : (s.setKeyOf k x).free = s.free := rfl
@[simp] theorem setKeyOf_ctxs (k : Nat) (x : (List Word32)) : (s.setKeyOf k x).ctxs = s.ctxs := rfl
@[simp] theorem setKeyOf_ports (k : Nat) (x : (List Word32)) : (s.setKeyOf k x).ports = s.ports := rfl
@[simp] theorem setKeyOf_sramA (k : Nat) (x : (List Word32)) : (s.setKeyOf k x).sramA = s.sramA := rfl
@[simp] theorem setKeyOf_sramB (k : Nat) (x : (List Word32)) : (s.setKeyOf k x).sramB = s.sramB := rfl
@[simp] theorem setKeyOf_rd (k : Nat) (x : (List Word32)) (r : Reg) : (s.setKeyOf k x).rd r = s.rd r := rfl
theorem setKeyOf_get (k j : Nat) (x : (List Word32)) : (s.setKeyOf k x).keyOf j = if j = k then x else s.keyOf j :=
  FMap.find_put _ _ _ _ _
@[simp] theorem setKeyOf_same (k : Nat) (x : (List Word32)) : (s.setKeyOf k x).keyOf k = x := FMap.find_put_same _ _ _ _
theorem setKeyOf_wf (k : Nat) (x : (List Word32)) (h : FMap.wf [] s.keys = true) : FMap.wf [] (s.setKeyOf k x).keys = true :=
  FMap.wf_put _ _ h

/-! ## live -/

@[simp] theorem setLiveOf_pending (k : Nat) (x : Nat) : (s.setLiveOf k x).pending = s.pending := rfl
@[simp] theorem setLiveOf_aon (k : Nat) (x : Nat) : (s.setLiveOf k x).aon = s.aon := rfl
@[simp] theorem setLiveOf_regs (k : Nat) (x : Nat) : (s.setLiveOf k x).regs = s.regs := rfl
@[simp] theorem setLiveOf_eff (k : Nat) (x : Nat) : (s.setLiveOf k x).eff = s.eff := rfl
@[simp] theorem setLiveOf_out (k : Nat) (x : Nat) : (s.setLiveOf k x).out = s.out := rfl
@[simp] theorem setLiveOf_free (k : Nat) (x : Nat) : (s.setLiveOf k x).free = s.free := rfl
@[simp] theorem setLiveOf_ctxs (k : Nat) (x : Nat) : (s.setLiveOf k x).ctxs = s.ctxs := rfl
@[simp] theorem setLiveOf_ports (k : Nat) (x : Nat) : (s.setLiveOf k x).ports = s.ports := rfl
@[simp] theorem setLiveOf_sramA (k : Nat) (x : Nat) : (s.setLiveOf k x).sramA = s.sramA := rfl
@[simp] theorem setLiveOf_sramB (k : Nat) (x : Nat) : (s.setLiveOf k x).sramB = s.sramB := rfl
@[simp] theorem setLiveOf_rd (k : Nat) (x : Nat) (r : Reg) : (s.setLiveOf k x).rd r = s.rd r := rfl
theorem setLiveOf_get (k j : Nat) (x : Nat) : (s.setLiveOf k x).liveOf j = if j = k then x else s.liveOf j :=
  FMap.find_put _ _ _ _ _
@[simp] theorem setLiveOf_same (k : Nat) (x : Nat) : (s.setLiveOf k x).liveOf k = x := FMap.find_put_same _ _ _ _
theorem setLiveOf_wf (k : Nat) (x : Nat) (h : FMap.wf 0 s.live = true) : FMap.wf 0 (s.setLiveOf k x).live = true :=
  FMap.wf_put _ _ h

end Sys2Proof.Machine
end

