-- ==== Sys2Proof/Laws/Regs.lean ====
section
/-!
SUPPORT. Registers: what a register or a field reads as after a register or a field has been written.
-/
namespace Sys2Proof.Machine

variable (s : State)

@[simp] theorem rd_wr_same (r : Reg) (v : Word64) : (s.wr r v).rd r = v := FMap.find_put_same _ _ _ _

theorem rd_wr_ne {r q : Reg} (v : Word64) (h : q.addr ≠ r.addr) : (s.wr r v).rd q = s.rd q :=
  FMap.find_put_any _ _ _ _ h

@[simp] theorem getF_setF_same (r : Reg) (f : Fld) (x : Nat) (hf : f.ok = true) :
    (s.setF r f x).getF r f = x % 2 ^ f.width := by
  simp [State.setF, State.getF, Fld.get_put_same _ _ _ hf]

theorem getF_setF_apart (r : Reg) (f g : Fld) (x : Nat) (hf : f.ok = true) (h : g.apart f = true) :
    (s.setF r f x).getF r g = s.getF r g := by
  simp [State.setF, State.getF, Fld.get_put_apart g f _ _ hf h]

theorem rd_setF_ne {r q : Reg} (f : Fld) (x : Nat) (h : q.addr ≠ r.addr) : (s.setF r f x).rd q = s.rd q :=
  rd_wr_ne s _ h

theorem getF_setF_ne {r q : Reg} (f g : Fld) (x : Nat) (h : q.addr ≠ r.addr) :
    (s.setF r f x).getF q g = s.getF q g := by
  simp [State.getF, rd_setF_ne s f x h]

/-- A bit set by hardware: the register as `setF` leaves it, and the note of R11 beside it. -/
@[simp] theorem set1_rd (r q : Reg) (f : Fld) : (s.set1 r f).rd q = (s.setF r f 1).rd q := rfl
@[simp] theorem set1_regs (r : Reg) (f : Fld) : (s.set1 r f).regs = (s.setF r f 1).regs := rfl
@[simp] theorem noteWrite_rd (r q : Reg) : (s.noteWrite r).rd q = s.rd q := rfl
@[simp] theorem clr1_eq (r : Reg) (f : Fld) : s.clr1 r f = s.setF r f 0 := rfl

theorem emit_rd (o : Output) (r : Reg) : (s.emit o).rd r = s.rd r := rfl

/-- A register returned to its reset value reads as that value. -/
theorem rd_resetReg (r : Reg) : (s.resetReg r).rd r = r.resetVal := by
  simp [State.rd, State.resetReg, FMap.find_drop]

end Sys2Proof.Machine
end

