-- ==== Sys2Proof/Safety.lean ====
section
/-!
DEFINITION. What counts as a safe step, and the terms in which claims are made: what a command answers, and which part
of the state it leaves alone.
-/
namespace Sys2Proof.Machine

/-- A step that neither faults nor refuses. -/
def safeStep (s : State) : Prop := ∃ t, step s = .next t

/-- The command answers a next state, of which `P` holds. -/
def Answers (i : Instr) (s : State) (P : State → Prop) : Prop := ∃ t, exec i s = .next t ∧ P t

/-- No cold reset is held: supplies are good and RESET_N is high. -/
def State.up (s : State) : Bool := !s.coldHeld

/-- A write by `q` to register `r` is accepted: no cold reset is held, the requester reaches the register and is not barred
from it, and the register's page and domain answer (R9, R82, R93, R131). -/
def State.accepts (s : State) (q : Requester) (r : Reg) : Bool :=
  s.up && s.reaches q r.loc && !(s.barred q r.loc) && !(s.pageShut r.loc) && s.regLive r

/-- A write by `q` to a location passes the checks on who may write where: no cold reset is held, the requester reaches the
location and is not barred from it, and its page answers (R9, R81, R82, R132, R446). -/
def State.opens (s : State) (q : Requester) (l : Loc) : Bool :=
  s.up && s.reaches q l && !(s.barred q l) && !(s.pageShut l)

/-- No condition has moved a root port's path in this REF cycle: the next one is decided alone (R52). -/
def State.calm (s : State) (n : Nat) (ss : Bool) : Bool := (s.path n ss).moved != s.now + 1

/-- The PHY half of a root port that serves the path is off, or on its way back, under a rule whose target is OFF: it senses
nothing on its pins (R399). -/
def State.phyOff (s : State) (n : Nat) (ss : Bool) : Prop :=
  let d := if ss then 100 + n else 116 + n
  (s.domSt d = dOff ∨ s.domSt d = dReturning) ∧ (s.dom d).target = 2

/-- Registers that change when a management pair in WFI is woken: `WAKE` of both pairs, what the return of their domains
shows, and a self-test that it abandons (R388, R389, R421, R501). -/
def wakeRegs : List Nat :=
  [(Reg.icSts 0).addr, (Reg.icSts 1).addr, (Reg.pwrSts 160).addr, (Reg.pwrSts 161).addr, (Reg.pwrCtl 160).addr,
    (Reg.pwrCtl 161).addr, (Reg.glbBistSts).addr]

/-- Nothing but context `c` differs. -/
def OnlyCtx (s t : State) (c : Nat) : Prop := (∀ j, j ≠ c → t.ctx j = s.ctx j) ∧ { t with ctxs := s.ctxs } = s

/-- Nothing but registers differs, and the model's note of what has happened to registers in this cycle; and of registers only
the ones with the addresses listed. -/
def OnlyRegs (s t : State) (l : List Nat) : Prop :=
  (∀ r : Reg, r.addr ∉ l → t.rd r = s.rd r) ∧ { t with regs := s.regs, cyc := s.cyc } = s

/-- Registers other than those with the addresses listed read as before. -/
def KeepsRegs (s t : State) (l : List Nat) : Prop := ∀ r : Reg, r.addr ∉ l → t.rd r = s.rd r

/-- The activation of context `c` is at an instruction boundary at which it issues the word `w`: it is Running on an engine
that is not held by DOZE, no end condition waits, its slice is not being adjourned, the word stands at its `pc`, and
it has fuel (R175, R182, R368). -/
def State.issues (s : State) (c : Nat) (w : Word32) : Bool :=
  s.up && (match (s.ctx c).act with
    | .running te => !(s.eng te).doze
    | _ => false) && (s.ctx c).endCode == none && !(s.frozen (s.ctx c).slice) && s.wordAt (s.ctx c) w &&
    decide (0 < (s.ctx c).fuel)

/-- The context after an instruction that goes on at the next index: one unit of fuel is spent. -/
def Ctx.went (x : Ctx) : Ctx := { x with pc := x.pc + 1, fuel := x.fuel - 1 }

/-- The instruction writes `v` to g[d], sets Z and N from it and C as given, and changes nothing else. -/
def GivesResult (i : Instr) (s : State) (c d : Nat) (v : Word64) (carry : Bool) : Prop :=
  Answers i s (fun t => OnlyCtx s t c ∧
    t.ctx c = { ((s.ctx c).setReg d v).went with z := v == 0, c := carry, n := v.msb })

/-- The instruction writes `v` to g[d], and changes no flag and nothing else. -/
def GivesValue (i : Instr) (s : State) (c d : Nat) (v : Word64) : Prop :=
  Answers i s (fun t => OnlyCtx s t c ∧ t.ctx c = ((s.ctx c).setReg d v).went)

/-- The instruction sets the three flags, and changes nothing else. -/
def GivesFlags (i : Instr) (s : State) (c : Nat) (z cf n : Bool) : Prop :=
  Answers i s (fun t => OnlyCtx s t c ∧ t.ctx c = { (s.ctx c).went with z := z, c := cf, n := n })

/-- The item is no longer parked: it stands in its ready list, or an engine has taken it. -/
def State.resumed (s : State) (c : Nat) : Prop := (s.ctx c).act = .ready ∨ ∃ te, (s.ctx c).act = .running te

/-- Nothing that belongs to the item's instruction waits at the sequencer: no operation is outstanding, and none waits for
an engine. -/
def Ctx.idleBus (x : Ctx) : Bool := x.op == none && x.go == none

/-- No activation has anything at the sequencer. -/
def State.noBus (s : State) : Bool := s.ctxs.all (fun q => q.2.idleBus)

/-- A bus instruction with request `r`, on a handle whose token the activation holds: it is performed, and its operation
stands in the sequencer's queue; with A = 0 the item parks, with A = 1 it goes on (R204, R209). -/
def StartsBus (i : Instr) (s : State) (c : Nat) (r : BusReq) : Prop :=
  let x := s.ctx c
  let a := s.attCfg x.slice r.handle
  x.op = none → s.busEnds c r = none → s.busRefused c r = false → s.busFault c r = none → x.cur = some r.handle →
    a.mode ≠ 2 → s.queueUse (s.epDev a.ep).port < 512 →
    Answers i s (fun t => (t.ctx c).c = false ∧ (t.ctx c).pc = x.pc + 1 ∧ (t.ctx c).step = min 65535 (x.step + 1) ∧
      (t.ctx c).g = x.g ∧ (if r.async then (t.ctx c).act = x.act else (t.ctx c).act = .parked .op) ∧
      ∃ o, (t.ctx c).op = some o ∧ o.req = r ∧ o.ep = a.ep ∧ o.stage = .queued ∧ o.moved = 0 ∧ o.result = none)

/-- A bus instruction that Table 7 refuses: C = 1, `st` is OK with 0 bytes, the step index rises, and nothing else
happens (R194, R206). -/
def RefusesBus (i : Instr) (s : State) (c : Nat) (r : BusReq) : Prop :=
  let x := s.ctx c
  x.op = none → s.busEnds c r = none → s.busRefused c r = true →
    Answers i s (fun t => OnlyCtx s t c ∧
      t.ctx c = { x.went with
        c := true, st := 0, step := min 65535 (x.step + 1), hops := s.getF .dspMvCfg DSP_MV_CFG.HOPS, romUs := 0 })

/-- Registers whose writes do nothing beyond their own fields, among those of 32 bits. -/
def plainRegs (r : Reg) : Prop :=
  r = .mbxMcsr ∨ r = .plnSyncCfg ∨ r = .fltRcfg ∨ r = .pwrBias ∨ r = .fltForceAux ∨ ∃ n, r = .portOc n

/-- Every register outside the always-on island, and every structure outside it, is at its reset value. -/
def State.coreClear (t : State) : Prop :=
  (∀ r : Reg, keepAddr false r.addr = false → t.rd r = r.resetVal) ∧ t.ctxs = [] ∧ t.rings = [] ∧ t.eps = [] ∧
  t.devs = [] ∧ t.progs = [] ∧ t.engs = [] ∧ t.sems = [] ∧ t.board = [] ∧ t.funcs = [] ∧ t.flts = [] ∧ t.keys = [] ∧
  t.sramA = [] ∧ t.sramB = [] ∧ t.mdmaRun = none

/-- Fetch `q` of ring `r` of slice `i` comes back with entry `e` first, which the scanner takes into context `c`: the scan is
under way, the ring has nothing else taken, the entry is owned and not malformed (R109, R142, R145, R154), and the ring
lies in the slice's windows. -/
def State.takesEntry (s : State) (i r : Nat) (e : Entry) (q : HostReq) (c : Nat) : Prop :=
  s.up ∧ i < 256 ∧ r < 64 ∧ s.inSram i = false ∧ s.reqs = [q] ∧ s.fetchOf i r = some q ∧ 64 ≤ q.len ∧
  (s.ring (rKey i r)).scanning ∧ (s.ring (rKey i r)).taken = [] ∧ s.writes = [] ∧ s.scanOk i r ∧ s.scanRoom i r ∧
  e.phase = ((s.ring (rKey i r)).lap + 1) % 2 ∧ s.validate i e = 0 ∧ s.pickCtx e.ctx = some c ∧
  ∀ k n, k + n ≤ s.ringN i r → s.hostOk i ((s.rd (.ringBase i r)).toNat + 64 * k) (64 * n)

/-- The ring then holds one taken entry, from the position that `SCAN` showed, of which `P` holds. -/
def State.tookEntry (s t : State) (i r : Nat) (e : Entry) (P : Taken → Prop) : Prop :=
  ∃ x, (t.ring (rKey i r)).taken = [x] ∧ x.idx = s.getF (.ringSts i r) RING_STS.SCAN ∧
    x.lap = (s.ring (rKey i r)).lap ∧ x.op = e.opcode ∧ x.tag = e.tag ∧ x.ioc = e.ioc ∧ P x

/-- The invariant of the always-on island: REF cycles within the microframe, ACLK's accumulator, and a report of a long RESET_N hold. -/
def State.islandOk (s : State) : Prop :=
  s.aon.refCycle < 3125 ∧ s.aon.acc < 512 ∧ (s.aon.refRunning → s.aon.acc = 0) ∧ (s.aon.extDue → s.coldHeld)

end Sys2Proof.Machine
end

