-- ==== Sys2Proof/Laws/Kwarvo.lean ====
section
/-!
SUPPORT. What the shared operations of the Kwarvo instructions do: a command that acts on the device, and the issue of
one instruction.
-/
namespace Sys2Proof.Machine

variable {s : State} {c : Nat} {w : Word32}

/-- What a command on the device answers: with a cold reset held the same state, else its effect, the always-on island
and the queue left alone. -/
theorem onDevice_up (f : State → State) (h : s.up = true) :
    onDevice f s = .next { f s with aon := s.aon, pending := s.pending } := by
  simp [State.up] at h; simp [onDevice, h]

theorem onDevice_held (f : State → State) (h : s.coldHeld = true) : onDevice f s = .next s := by
  simp [onDevice, h]

/-- Everything a command on the device can do. -/
theorem onDevice_cases (f : State → State) (t : State) (h : onDevice f s = .next t) :
    (s.coldHeld = true ∧ t = s) ∨
      (s.up = true ∧ t = { f s with aon := s.aon, pending := s.pending }) := by
  unfold onDevice at h
  cases hc : s.coldHeld <;> simp [hc] at h
  · exact .inr ⟨by simp [State.up, hc], h.symm⟩
  · exact .inl ⟨rfl, h.symm⟩

/-- The parts of an issue. -/
theorem issues_iff : s.issues c w = true ↔ s.up = true ∧
    (∃ te, (s.ctx c).act = .running te ∧ (s.eng te).doze = false) ∧ (s.ctx c).endCode = none ∧
    s.frozen (s.ctx c).slice = false ∧ s.wordAt (s.ctx c) w = true ∧ 0 < (s.ctx c).fuel := by
  unfold State.issues
  cases h : (s.ctx c).act <;> simp [h, and_assoc]

/-- The issue of an instruction: a unit of fuel is charged, and the instruction does its work. -/
theorem issue_eq (h : s.issues c w = true) (f : State → State) :
    s.issue c w f = f (s.modCtx c (fun x => { x with fuel := x.fuel - 1 })) := by
  obtain ⟨_, ⟨te, ha, hd⟩, he, hf, hw, hu⟩ := issues_iff.1 h
  have hu' : (s.ctx c).fuel ≠ 0 := by omega
  simp [State.issue, ha, he, hd, hf, hw, hu']

theorem insert_insert {α : Type} (k : Nat) (a b : α) (m : FMap α) :
    FMap.insert k a (FMap.insert k b m) = FMap.insert k a m := by
  induction m with
  | nil => simp [FMap.insert]
  | cons p t ih =>
    obtain ⟨i, v⟩ := p
    by_cases h1 : k < i
    · simp [FMap.insert, h1]
    · by_cases h2 : i = k
      · subst h2; simp [FMap.insert]
      · simp [FMap.insert, h1, h2, ih]

/-- A context written twice. -/
theorem setCtx_setCtx (x y : Ctx) (hx : x ≠ Ctx.free) (hy : y ≠ Ctx.free) :
    (s.setCtx c x).setCtx c y = s.setCtx c y := by
  simp [State.setCtx, FMap.put, hx, hy, insert_insert]

theorem issues_act (h : s.issues c w = true) : (s.ctx c).act ≠ .free := by
  obtain ⟨_, ⟨te, ha, _⟩, _⟩ := issues_iff.1 h
  simp [ha]

theorem ne_free {x : Ctx} (h : x.act ≠ .free) : x ≠ Ctx.free := by
  intro e; subst e; exact h rfl

theorem modCtx_eq (g : Ctx → Ctx) : s.modCtx c g = s.setCtx c (g (s.ctx c)) := rfl

/-- An instruction that only changes its context: what it answers. -/
theorem kwarvo_eq (h : s.issues c w = true) (g : Ctx → Ctx)
    (hg : (g { s.ctx c with fuel := (s.ctx c).fuel - 1 }).act ≠ .free) :
    kwarvo c w g s = .next (s.setCtx c (g { s.ctx c with fuel := (s.ctx c).fuel - 1 })) := by
  unfold kwarvo
  rw [onDevice_up _ (issues_iff.1 h).1, issue_eq h]
  simp only [modCtx_eq, setCtx_same]
  rw [setCtx_setCtx _ _ (ne_free (by simpa using issues_act h)) (ne_free hg)]
  rfl

/-- An instruction with an effect on more than its context: what it answers. -/
theorem kwarvoS_eq (h : s.issues c w = true) (g : State → State) :
    kwarvoS c w g s = .next { g (s.setCtx c { s.ctx c with fuel := (s.ctx c).fuel - 1 }) with
      aon := s.aon, pending := s.pending } := by
  unfold kwarvoS
  rw [onDevice_up _ (issues_iff.1 h).1, issue_eq h]
  rfl

/-- Writing one context leaves everything else alone. -/
theorem onlyCtx_setCtx (x : Ctx) : OnlyCtx s (s.setCtx c x) c :=
  ⟨fun j hj => by rw [setCtx_get]; simp [hj], rfl⟩

@[simp] theorem setReg_act (x : Ctx) (d : Nat) (v : Word64) : (x.setReg d v).act = x.act := by
  unfold Ctx.setReg; split <;> rfl
@[simp] theorem setReg_fuel (x : Ctx) (d : Nat) (v : Word64) : (x.setReg d v).fuel = x.fuel := by
  unfold Ctx.setReg; split <;> rfl
@[simp] theorem setReg_pc (x : Ctx) (d : Nat) (v : Word64) : (x.setReg d v).pc = x.pc := by
  unfold Ctx.setReg; split <;> rfl

/-- What a register reads as after a write: g0 always as 0. -/
theorem reg_setReg (x : Ctx) (d i : Nat) (v : Word64) :
    (x.setReg d v).reg i = if i = 0 then 0 else if i = d then v else x.reg i := by
  unfold Ctx.setReg Ctx.reg
  by_cases h : i = 0
  · simp [h]
  · by_cases hd : d = 0
    · subst hd; simp [h]
    · simp [hd, h, FMap.find_put]

end Sys2Proof.Machine
end

