-- ==== Sys2Proof/Certificates/Slice0/Obligations.lean ====
section
/-!
DEFINITION. The statements about this model: what each command does, where it completes and what it leaves alone, over
every state that meets the hypotheses, and what holds over every step. "Answers i s P" says that command `i` on `s` answers a
next state of which `P` holds.
-/
open Sys2Proof Sys2Proof.Machine

/-- A step takes the command at the front of the queue and runs it on the state with the queue's rest; on an empty queue one
REF cycle passes (the model's choice, log entry 1).

The model's own choices in it, no rules of the specification: log entry 1 (the idle cycle). -/
def Obligations.StepRunsFrontCommand : Prop :=
  (∀ (s : State) (i : Instr) (q : List Instr), s.pending = i :: q → step s = exec i { s with pending := q }) ∧
  (∀ s : State, s.pending = [] → step s = .next s.idle ∧ (s.idle).pending = [] ∧
    (s.idle).aon.clockCount = s.aon.clockCount)

/-- Every command completes with a next state, and leaves the rest of the queue to the steps that follow.

The model's own choices in it, no rules of the specification: log entry 9 (a command whose subject does not exist). -/
def Obligations.EveryCommandAnswers : Prop :=
  ∀ (s : State) (i : Instr), Answers i s (fun t => t.pending = s.pending)

/-- The Clock count over one step (R272): it is kept, or rises by 1 at a tick or, while REF is stopped, from ACLK, or is set to
0 by the supply of the always-on island. No other command changes it.

The model's own choices in it, no rules of the specification: log entry 1 (idle steps leave the count). -/
def Obligations.ClockCountOverSteps : Prop :=
  ∀ (s t : State), step s = .next t →
    t.aon.clockCount = s.aon.clockCount ∨
    (t.aon.clockCount = s.aon.clockCount + 1 ∧ s.aon.vddAon ∧
      ((s.pending.head? = some .clockTick ∧ s.aon.refRunning) ∨
       (s.pending.head? = some .aclkClockCountAdvance ∧ s.aon.refRunning = false))) ∨
    (t.aon.clockCount = 0 ∧ (s.pending.head? = some .vddAonFail ∨
      ∃ x r p st b, s.pending.head? = some (.powerOnReset x r p st b)))

/-- An invariant that every step keeps: the cycle within the microframe stays below 3,125, ACLK's accumulator stays below 512
and is 0 while REF runs, and a report of a long RESET_N hold waits only while a cold reset is held (R271, R273, R478). -/
def Obligations.IslandInvariantKept : Prop :=
  ∀ (s t : State), s.islandOk → step s = .next t → t.islandOk

/-- The state after reset (R6, R472, R485, R486): every register at its reset value, an empty queue, every domain ON, SRAM
zero, no context, every root port OFF; and the invariant of the always-on island holds.

The model's own choices in it, no rules of the specification: log entries 2, 4, 5 and 19 (own fields, FLT_CFG63, straps
and pins, fuses). -/
def Obligations.ResetState : Prop :=
  State.reset.pending = [] ∧ (∀ r : Reg, State.reset.rd r = r.resetVal) ∧ State.reset.up ∧
  (∀ d, d < 168 → State.reset.domOn d) ∧ (∀ b a, State.reset.sram b a = 0) ∧
  (∀ c, State.reset.ctx c = Ctx.free) ∧ (∀ n ss, n < 20 → State.reset.pathSt n ss = pOff) ∧
  State.reset.aon.clockCount = 0 ∧ State.reset.islandOk

/-- Table 4 (R196): arithmetic, logic and moves.

Compare instructions (R198). -/
def Obligations.ArithmeticLogicCompare : Prop :=
  (∀ (s : State) (c d a b k x : Nat) (imm : BitVec 16), k = ((s.ctx c).reg b).toNat % 64 →
    let A := (s.ctx c).reg a
    let B := (s.ctx c).reg b
    let j := imm.toNat % 64
    (s.issues c (wordR 0x01 d a b) → GivesResult (.add c d a b) s c d (A + B) (decide (2 ^ 64 ≤ A.toNat + B.toNat))) ∧
    (s.issues c (wordR 0x02 d a b) → GivesResult (.sub c d a b) s c d (A - B) (decide (A.toNat < B.toNat))) ∧
    (s.issues c (wordR 0x03 d a b) → GivesResult (.andd c d a b) s c d (A &&& B) false) ∧
    (s.issues c (wordR 0x04 d a b) → GivesResult (.orr c d a b) s c d (A ||| B) false) ∧
    (s.issues c (wordR 0x05 d a b) → GivesResult (.xor c d a b) s c d (A ^^^ B) false) ∧
    (s.issues c (wordR 0x06 d a b) →
      GivesResult (.shl c d a b) s c d (A <<< k) (decide (k ≠ 0) && A.getLsbD (64 - k))) ∧
    (s.issues c (wordR 0x07 d a b) →
      GivesResult (.shr c d a b) s c d (A >>> k) (decide (k ≠ 0) && A.getLsbD (k - 1))) ∧
    (s.issues c (wordR 0x08 d a b) →
      GivesResult (.sar c d a b) s c d (A.sshiftRight k) (decide (k ≠ 0) && A.getLsbD (k - 1))) ∧
    (s.issues c (wordR 0x09 d a b) →
      GivesResult (.mul c d a b) s c d (A * B) (decide (2 ^ 64 ≤ A.toNat * B.toNat))) ∧
    (s.issues c (wordI 0x0A d a 0 imm) →
      GivesResult (.addi c d a imm) s c d (A + imm.signExtend 64)
        (decide (2 ^ 64 ≤ A.toNat + (imm.signExtend 64 : Word64).toNat))) ∧
    (s.issues c (wordI 0x0B d a 0 imm) → GivesResult (.andi c d a imm) s c d (A &&& imm.setWidth 64) false) ∧
    (s.issues c (wordI 0x0C d a 0 imm) → GivesResult (.ori c d a imm) s c d (A ||| imm.setWidth 64) false) ∧
    (s.issues c (wordI 0x0D d a 0 imm) → GivesResult (.xori c d a imm) s c d (A ^^^ imm.setWidth 64) false) ∧
    (s.issues c (wordI 0x0E d a 0 imm) →
      GivesResult (.shli c d a imm) s c d (A <<< j) (decide (j ≠ 0) && A.getLsbD (64 - j))) ∧
    (s.issues c (wordI 0x0F d a 0 imm) →
      GivesResult (.shri c d a imm) s c d (A >>> j) (decide (j ≠ 0) && A.getLsbD (j - 1))) ∧
    (s.issues c (wordI 0x10 d a 0 imm) →
      GivesResult (.sari c d a imm) s c d (A.sshiftRight j) (decide (j ≠ 0) && A.getLsbD (j - 1))) ∧
    (s.issues c (wordI 0x11 d 0 x imm) → GivesValue (.movi c d x imm) s c d ((imm.setWidth 64 : Word64) <<< (16 * x))) ∧
    (s.issues c (wordI 0x12 d 0 x imm) → x < 4 → 
      Answers (.movk c d x imm) s (fun t => OnlyCtx s t c ∧ ∃ v, t.ctx c = ((s.ctx c).setReg d v).went ∧
        ∀ i, i < 64 → v.getLsbD i = if 16 * x ≤ i ∧ i < 16 * x + 16 then imm.getLsbD (i - 16 * x)
          else ((s.ctx c).reg d).getLsbD i)) ∧
    (s.issues c (wordS 0x13 d x) → x < 7 → GivesValue (.mfs c d x) s c d
      (match x with
        | 0 => BitVec.ofNat 64 (s.ctx c).pc
        | 1 => (s.ctx c).st
        | 2 => BitVec.ofNat 64 ((s.ctx c).fuel - 1)
        | 3 => (s.ctx c).prg
        | 4 => BitVec.ofNat 64 (s.ctx c).ep
        | 5 => BitVec.ofNat 64 (s.ctx c).slice
        | _ => s.clk)) ∧
    (s.issues c (wordS 0x14 4 a) →
      Answers (.mts c 4 a) s (fun t => OnlyCtx s t c ∧ t.ctx c = { (s.ctx c).went with ep := A.toNat % 65536 }))) ∧
  (∀ (s : State) (c a b : Nat) (imm : BitVec 16) (m : BitVec 8),
    let A := (s.ctx c).reg a
    let B := (s.ctx c).reg b
    let I : Word64 := imm.signExtend 64
    let k := imm.toNat % 64
    let code := (s.ctx c).st.toNat % 256
    (s.issues c (wordR 0x15 0 a b) →
      GivesFlags (.cmp c a b) s c (A == B) (decide (A.toNat < B.toNat)) (decide (A.toInt < B.toInt))) ∧
    (s.issues c (wordI 0x16 0 a 0 imm) →
      GivesFlags (.cmpi c a imm) s c (A == I) (decide (A.toNat < I.toNat)) (decide (A.toInt < I.toInt))) ∧
    (s.issues c (wordR 0x17 0 a b) → GivesFlags (.tst c a b) s c (A &&& B == 0) false (A &&& B).msb) ∧
    (s.issues c (wordI 0x18 0 a 0 imm) → GivesFlags (.btst c a imm) s c (!A.getLsbD k) false (A.getLsbD k)) ∧
    (s.issues c (wordC 0x19 m.toNat) →
      GivesFlags (.stcmp c m) s c (code == m.toNat) false (decide (code ≠ 0))))

/-- Branches (R199), CALL, and RET at a depth above 0 (R200). -/
def Obligations.BranchCallReturn : Prop :=
  ∀ (s : State) (c cond target : Nat),
    let x := s.ctx c
    let y := { x with fuel := x.fuel - 1 }
    let taken : Bool := match cond with
      | 0 => true
      | 1 => x.z
      | 2 => !x.z
      | 3 => x.c
      | 4 => !x.c
      | 5 => x.n
      | 6 => !x.n
      | 7 => x.c || x.z
      | 8 => !x.c && !x.z
      | 9 => x.n || x.z
      | 10 => !x.n && !x.z
      | _ => false
    (s.issues c (wordJ 0x1A cond target) → cond < 11 →
      Answers (.b c cond target) s (fun t => OnlyCtx s t c ∧
        t.ctx c = { y with pc := if taken then target else x.pc + 1 })) ∧
    (s.issues c (wordJ 0x1B 0 target) →
      Answers (.call c target) s (fun t => OnlyCtx s t c ∧
        t.ctx c = { y with stack := (x.pc + 1) :: x.stack, pc := target })) ∧
    (∀ r l, s.issues c (wordN 0x1C) → x.stack = r :: l →
      Answers (.ret c) s (fun t => OnlyCtx s t c ∧ t.ctx c = { y with stack := l, pc := r }))

/-- The pad (R201): the address is (g[a] + offset) modulo 256, aligned down; LDP extends with zeros, STP stores the low
bytes; neither changes a flag. -/
def Obligations.PadAccess : Prop :=
  ∀ (s : State) (c d a size off : Nat), size < 4 → off < 256 →
    let x := s.ctx c
    let n := 2 ^ size
    let p := ((x.reg a).toNat + off) % 256 / n * n
    (s.issues c (wordM 0x1D d a size (BitVec.ofNat 16 off)) →
      ∃ v : Word64, GivesValue (.ldp c d a size off) s c d v ∧
        (∀ i, i < n → v.toNat / 256 ^ i % 256 = (x.padAt (p + i)).toNat) ∧ v.toNat < 256 ^ n) ∧
    (s.issues c (wordM 0x1E d a size (BitVec.ofNat 16 off)) →
      Answers (.stp c d a size off) s (fun t => OnlyCtx s t c ∧
        t.ctx c = { x.went with pad := (t.ctx c).pad } ∧
        (∀ i, i < n → ((t.ctx c).padAt (p + i)).toNat = (x.reg d).toNat / 256 ^ i % 256) ∧
        ∀ q, q < 256 → (∀ i, i < n → q ≠ p + i) → (t.ctx c).padAt q = x.padAt q))

/-- Bus instructions at issue (R204 to R206, R209): performed, or refused.

The model's own choices in it, no rules of the specification: log entry 7 (instructions of ROM programs). -/
def Obligations.BusInstructionIssue : Prop :=
  ∀ (s : State) (c a b : Nat) (as : Bool), 
    let x := s.ctx c
    let g := fun (k : Nat) => x.reg k
    ∀ p ∈ ([
      (.setup c as a, wordX 0x21 as a 0, { busReq .setup as x.ep with setup := g a }),
      (.inn c as a b, wordX 0x22 as a b, { busReq .inn as x.ep with addr := (g a).toNat, len := (g b).toNat }),
      (.out c as a b, wordX 0x23 as a b, { busReq .out as x.ep with addr := (g a).toNat, len := (g b).toNat }),
      (.ping c as, wordX 0x24 as 0 0, busReq .ping as x.ep),
      (.status c as, wordX 0x25 as 0 0, busReq .status as x.ep),
      (.isoin c as a, wordX 0x26 as a 0, isoReq .isoin as x.ep (g a) (g (a + 1)) (g (a + 2)) (g (a + 3))),
      (.isoout c as a, wordX 0x27 as a 0, isoReq .isoout as x.ep (g a) (g (a + 1)) (g (a + 2)) (g (a + 3))),
      (.stream c as a, wordX 0x28 as a 0, moverReq .stream as x.ep (g a) (g (a + 1))),
      (.gather c as a, wordX 0x29 as a 0, moverReq .gather as x.ep (g a) (g (a + 1))),
      (.scatter c as a, wordX 0x2A as a 0, moverReq .scatter as x.ep (g a) (g (a + 1)))] :
        List (Instr × Word32 × BusReq)),
      s.issues c p.2.1 → StartsBus p.1 s c p.2.2 ∧ RefusesBus p.1 s c p.2.2

/-- HLD and HST at issue: with an aligned address that R83 accepts, the request or write is made and the instruction
parks (R202).

The events that end a host access: the data of an HLD reaches g[d] extended with zeros; an HST returns when its write
leaves the port; `st` is OK with the access size and C = 0 (R202).

The model's own choices in it, no rules of the specification: log entry 76. -/
def Obligations.HostAccesses : Prop :=
  (∀ (s : State) (c d a size : Nat) (off : BitVec 16),
    let x := s.ctx c
    let n := 2 ^ size
    let addr := (x.reg a + off.signExtend 64).toNat
    addr % n = 0 → s.hostOk x.slice addr n → s.inSram x.slice = false →
    (s.issues c (wordM 0x1F d a size off) →
      Answers (.hld c d a size off) s (fun t => (t.ctx c).act = .parked (.hld d size) ∧ (t.ctx c).pc = x.pc + 1 ∧
        (t.ctx c).g = x.g ∧ ∃ q ∈ t.reqs, q.tag = s.tag ∧ q.slice = x.slice ∧ q.ctx = c ∧ q.addr = addr ∧ q.len = n ∧
          q.purpose = .hld d size)) ∧
    (s.issues c (wordM 0x20 d a size off) →
      Answers (.hst c d a size off) s (fun t => (t.ctx c).act = .parked (.hst s.tag) ∧ (t.ctx c).pc = x.pc + 1 ∧
        (t.ctx c).g = x.g ∧ ∃ w ∈ t.writes, w.tag = s.tag ∧ w.slice = x.slice ∧ w.addr = addr ∧ w.kind = .hst ∧
          w.bytes = (List.range n).map (fun i => BitVec.ofNat 8 ((x.reg d).toNat / 256 ^ i % 256))))) ∧
  ((∀ (s : State) (c d size : Nat) (data : Word64) (q : HostReq), s.up → size < 4 →
    (s.ctx c).act = .parked (.hld d size) → (s.ctx c).endCode = none → s.noBus → s.inSram q.slice = false →
    s.reqs = [q] → s.writes = [] → q.ctx = c → q.phase = .issued → q.purpose = .hld d size → q.len = 2 ^ size →
    Answers (.hldCompletion c data) s (fun t => t.resumed c ∧ t.reqs = [] ∧ (t.ctx c).c = false ∧
      (t.ctx c).st = BitVec.ofNat 64 (2 ^ size * 2 ^ 32) ∧
      ∀ i, (t.ctx c).reg i = if i ≠ 0 ∧ i = d then BitVec.ofNat 64 (data.toNat % 256 ^ (2 ^ size)) else (s.ctx c).reg i)) ∧
  (∀ (s : State) (c : Nat) (w : PWrite), s.up → (s.ctx c).act = .parked (.hst w.tag) → (s.ctx c).endCode = none →
    s.noBus → c < 16384 → s.writes = [w] → w.ctx = c → w.kind = .hst → s.canLeave w → s.reqs = [] →
    s.inSram w.slice = false → s.lats = [] →
    Answers (.postedWriteDeparture w.tag) s (fun t => t.resumed c ∧ w ∉ t.writes ∧ (t.ctx c).c = false ∧
      (t.ctx c).st = stWord 0 w.bytes.length ∧ ∀ i, (t.ctx c).reg i = (s.ctx c).reg i)))

/-- WAIT and WAITCLK: at once, or after a park that an event, a timeout or the Clock ends (R217, R218). A Clock tick in the
issue cycle is an event of WAIT (R216). -/
def Obligations.WaitInstructions : Prop :=
  (∀ (s : State) (c d r : Nat) (m : BitVec 4),
    let x := s.ctx c
    let us := (x.reg r).toNat % 2 ^ 32
    let tick := s.atTick && x.tickSeen != s.aon.clockCount
    let got := (x.events + if tick then 4 else 0) &&& m.toNat
    s.issues c (wordW 0x2C d r m.toNat) →
    (got ≠ 0 → Answers (.wait c d r m) s (fun t => OnlyCtx s t c ∧ (t.ctx c).pc = x.pc + 1 ∧ (t.ctx c).c = false ∧
      (t.ctx c).events = x.events - (x.events &&& m.toNat) ∧
      (t.ctx c).tickSeen = (if got.testBit 2 then s.aon.clockCount else x.tickSeen) ∧
      ∀ i, (t.ctx c).reg i = if i ≠ 0 ∧ i = d then BitVec.ofNat 64 got else x.reg i)) ∧
    (got = 0 → (m ≠ 0 ∨ us ≠ 0) → Answers (.wait c d r m) s (fun t => (t.ctx c).pc = x.pc + 1 ∧
      (t.ctx c).act = .parked (.wait d m.toNat (if us = 0 then none else some (s.now + 25 * us)))))) ∧
  (∀ (s : State) (c d m dl : Nat), s.up → (s.ctx c).act = .parked (.wait d m (some dl)) → dl ≤ s.now →
    s.frozen (s.ctx c).slice = false → (s.ctx c).endCode = none → (s.ctx c).idleBus →
    Answers (.waitTimeout c) s (fun t => t.resumed c ∧ (t.ctx c).st = 5 ∧ (t.ctx c).c = false ∧
      ∀ i, (t.ctx c).reg i = if i = d then 0 else (s.ctx c).reg i)) ∧
  (∀ (s : State) (c a : Nat),
    let x := s.ctx c
    s.issues c (wordU 0x2D a) →
    (((x.reg a) - s.clk).toInt ≤ 0 → Answers (.waitclk c a) s (fun t => OnlyCtx s t c ∧
      t.ctx c = { x.went with st := 0, c := false })) ∧
    (0 < ((x.reg a) - s.clk).toInt → Answers (.waitclk c a) s (fun t => (t.ctx c).pc = x.pc + 1 ∧
      (t.ctx c).act = .parked (.waitclk (x.reg a))))) ∧
  (∀ (s : State) (c : Nat) (v : Word64), s.up → (s.ctx c).act = .parked (.waitclk v) → (v - s.clk).toInt ≤ 0 →
    s.frozen (s.ctx c).slice = false → (s.ctx c).endCode = none → (s.ctx c).idleBus →
    Answers (.waitclkReached c) s (fun t => t.resumed c ∧ (t.ctx c).st = 0 ∧ (t.ctx c).c = false))

/-- LOCK, TRYLOCK and UNLOCK of a semaphore that the slice may use (R220, R221, R262), the order of a wait behind earlier
ones and beside one of the same cycle (R261), and the refusal of a number above 1,023.

The semaphore registers (R259, R262): `SEM_CFG` is refused while the semaphore is held; RELEASE frees a held one and
marks it abandoned. -/
def Obligations.Semaphores : Prop :=
  (∀ (s : State) (c a : Nat),
    let x := s.ctx c
    let i := (x.reg a).toNat
    let m := s.sem i
    let code : Word64 := if m.abn then 0x0C else 0
    (s.issues c (wordU 0x2E a) → i < 1024 → s.semUsable i x.slice → x.locks.length < 4 → m.owner = none → i ∉ x.locks →
      Answers (.lock c a) s (fun t => (t.sem i).owner = some c ∧ (t.sem i).abn = false ∧
        t.ctx c = { x.went with st := code, c := false, locks := i :: x.locks })) ∧
    (s.issues c (wordU 0x2E a) → i < 1024 → s.semUsable i x.slice → x.locks.length < 4 → m.owner ≠ none →
      m.owner ≠ some c → (∀ j ∈ m.queue, (s.ctx j).since ≠ s.now) →
      Answers (.lock c a) s (fun t => (t.ctx c).act = .parked (.lock i) ∧ (t.sem i) = { m with queue := m.queue ++ [c] })) ∧
    (∀ j, s.issues c (wordU 0x2E a) → i < 1024 → s.semUsable i x.slice → x.locks.length < 4 → m.owner ≠ none →
      m.owner ≠ some c → m.queue = [j] → (s.ctx j).since = s.now → j ≠ c → j < 16384 → c < 16384 →
      Answers (.lock c a) s (fun t => (t.ctx c).act = .parked (.lock i) ∧ (t.sem i) = { m with queue :=
        if x.slice < (s.ctx j).slice ∨ (x.slice = (s.ctx j).slice ∧ c < j) then [c, j] else [j, c] })) ∧
    (s.issues c (wordU 0x2F a) → i < 1024 → s.semUsable i x.slice → x.locks.length < 4 → m.owner = none → i ∉ x.locks →
      Answers (.trylock c a) s (fun t => (t.sem i).owner = some c ∧ (t.sem i).abn = false ∧
        t.ctx c = { x.went with st := code, c := false, z := true, locks := i :: x.locks })) ∧
    (s.issues c (wordU 0x2F a) → i < 1024 → s.semUsable i x.slice → x.locks.length < 4 → m.owner ≠ none →
      m.owner ≠ some c →
      Answers (.trylock c a) s (fun t => OnlyCtx s t c ∧ t.ctx c = { x.went with st := 0, c := false, z := false })) ∧
    (s.issues c (wordU 0x30 a) → i < 1024 → s.semUsable i x.slice → i ∈ x.locks → m.owner = some c → m.queue = [] →
      Answers (.unlock c a) s (fun t => t.sem i = { m with owner := none } ∧
        t.ctx c = { x.went with st := 0, c := false, locks := x.locks.filter (· != i) })) ∧
    (1023 < i →
      (s.issues c (wordU 0x2E a) → Answers (.lock c a) s (fun t => OnlyCtx s t c ∧ t.ctx c = { x.went with st := 0, c := true })) ∧
      (s.issues c (wordU 0x2F a) → Answers (.trylock c a) s (fun t => OnlyCtx s t c ∧ t.ctx c = { x.went with st := 0, c := true })) ∧
      (s.issues c (wordU 0x30 a) → Answers (.unlock c a) s (fun t => OnlyCtx s t c ∧ t.ctx c = { x.went with st := 0, c := true })))) ∧
  ((∀ (s : State) (q : Requester) (i : Nat) (v : Word32), i < 1024 → s.accepts q (.semCfg i) → (s.sem i).owner = none →
    (s.sem i).queue = [] → s.flag (.semCfg i) SEM_CFG.ARB = false →
    Answers (.semCfgWrite q i v) s (fun t => OnlyRegs s t [(Reg.semCfg i).addr] ∧
      t.getF (.semCfg i) SEM_CFG.EN = SEM_CFG.EN.get (v.setWidth 64) ∧
      t.getF (.semCfg i) SEM_CFG.SLICE = SEM_CFG.SLICE.get (v.setWidth 64))) ∧
  (∀ (s : State) (q : Requester) (i c : Nat), i < 1024 → s.accepts q .semCtl → (s.sem i).owner = some c →
    (s.sem i).queue = [] →
    Answers (.semCtlRelease q i) s (fun t => (t.sem i).owner = none ∧ (t.sem i).abn = true ∧ i ∉ (t.ctx c).locks ∧
      t.getF .semAbnCnt SEM_ABN_CNT.COUNT = (s.getF .semAbnCnt SEM_ABN_CNT.COUNT + 1) % 2 ^ SEM_ABN_CNT.COUNT.width)))

/-- POST, YIELD, SPAWN, FENCE, CANCEL and DOZE (R219, R222 to R225, R227).

The model's own choices in it, no rules of the specification: log entry 76. -/
def Obligations.WorkControl : Prop :=
  (∀ (s : State) (c code : Nat) (e : Taken),
    let x := s.ctx c
    s.issues c (wordC 0x31 code) → code < 256 → x.idleBus → x.seq = [] → x.cur = none → x.locks = [] → x.arbs = [] →
    x.parent = none → x.kids = [] → (x.prog < 64 → (s.prog (x.slice * 64 + x.prog)).unloading = false) → e.ctx = some c →
    (s.ring (rKey x.slice x.ring)).taken = [e] →
    Answers (.post c code) s (fun t => t.ctx c = Ctx.free ∧ (t.ring (rKey x.slice x.ring)).taken =
      [{ e with ctx := none, result := some ⟨code, x.step, min (x.bytes + x.kidBytes) 0xFFFFFFFF, s.clk.toNat⟩ }])) ∧
  (∀ (s : State) (c : Nat),
    let x := s.ctx c
    s.issues c (wordN 0x32) →
    (s.eligibleFrom x.cluster x.pri = false → Answers (.yield c) s (fun t => OnlyCtx s t c ∧ t.ctx c = x.went)) ∧
    (s.eligibleFrom x.cluster x.pri = true → (∀ j ∈ s.rlist (x.cluster * 8 + x.pri), s.joinedNow false j = false) →
      Answers (.yield c) s (fun t =>
      t.ctx c = { x.went with act := .ready } ∧
      t.rlist (x.cluster * 8 + x.pri) = s.rlist (x.cluster * 8 + x.pri) ++ [c])) ∧
    (∀ j, s.eligibleFrom x.cluster x.pri = true → s.rlist (x.cluster * 8 + x.pri) = [j] → s.joinedNow false j →
      Answers (.yield c) s (fun t => t.ctx c = { x.went with act := .ready } ∧
      t.rlist (x.cluster * 8 + x.pri) = if c < j then [c, j] else [j, c]))) ∧
  (∀ (s : State) (c prog a h off k : Nat),
    let x := s.ctx c
    s.issues c (wordP 0x33 prog a h off) → k < 16384 → (s.ctx k).act = .free → s.spawnRefused c prog = false →
    s.romStart x.slice ((x.reg h).toNat % 65536) prog (x.childArgs a) = none →
    Answers (.spawn c prog a h off k) s (fun t => (t.ctx c).c = false ∧ (t.ctx c).st = 0 ∧ (t.ctx c).pc = x.pc + 1 ∧
      (t.ctx c).kids = k :: x.kids ∧ t.resumed k ∧ (t.ctx k).parent = some (c, off / 8 * 8) ∧ (t.ctx k).prog = prog ∧
      (t.ctx k).slice = x.slice ∧ (t.ctx k).pri = x.pri ∧ (t.ctx k).cluster = x.cluster ∧ (t.ctx k).pc = 0 ∧
      (t.ctx k).ep = (x.reg h).toNat % 65536)) ∧
  (∀ (s : State) (c : Nat),
    let x := s.ctx c
    s.issues c (wordN 0x34) →
    (s.writesGone c → Answers (.fence c) s (fun t => OnlyCtx s t c ∧ t.ctx c = x.went)) ∧
    (s.writesGone c = false → Answers (.fence c) s (fun t => (t.ctx c).act = .parked .fence ∧ (t.ctx c).pc = x.pc + 1))) ∧
  (∀ (s : State) (c : Nat), s.up → (s.ctx c).act = .parked .fence → (s.ctx c).endCode = none → (s.ctx c).idleBus →
    s.writesGone c → Answers (.instructionFenceDone c) s (fun t => t.resumed c)) ∧
  (∀ (s : State) (c : Nat),
    let x := s.ctx c
    s.issues c (wordN 0x2B) → x.op = none → x.opRes = none →
    Answers (.cancel c) s (fun t => OnlyCtx s t c ∧ t.ctx c = { x.went with c := false })) ∧
  (∀ (s : State) (c te : Nat),
    let x := s.ctx c
    s.issues c (wordC 0x36 0) → x.act = .running te →
    (s.getF (.pwrCtl (te / 2)) PWR_CTL.MODE = 0 → Answers (.doze c) s (fun t => OnlyCtx s t c ∧
      t.ctx c = { x.went with st := 0, c := true })) ∧
    (s.getF (.pwrCtl (te / 2)) PWR_CTL.MODE ≠ 0 → Answers (.doze c) s (fun t => t.eng te = { s.eng te with doze := true } ∧
      (t.ctx c).pc = x.pc)))

/-- The end and the boundary of a bus operation (R186, R209, R216, R245). -/
def Obligations.BusOperationEvents : Prop :=
  (∀ (s : State) (c code : Nat) (o : Op),
    let x := s.ctx c
    s.up → x.act = .parked .op → x.endCode = none → x.go = none → x.op = some o → o.result = some code →
    s.onWire c = false → s.unaddressed c o code = false →
    Answers (.busOperationEnd c) s (fun t => t.resumed c ∧ (t.ctx c).op = none ∧ (t.ctx c).st = stWord code o.moved ∧
      (t.ctx c).g = x.g ∧ (t.ctx c).pc = x.pc)) ∧
  (∀ (s : State) (c code : Nat) (o : Op) (te : Nat),
    let x := s.ctx c
    s.up → x.act = .running te → x.op = some o → o.result = some code → s.onWire c = false →
    s.unaddressed c o code = false →
    Answers (.busOperationEnd c) s (fun t => (t.ctx c).act = .running te ∧ (t.ctx c).op = none ∧ (t.ctx c).st = x.st ∧
      (t.ctx c).evOp = true ∧ (t.ctx c).opRes = some (code, o.moved))) ∧
  (∀ (s : State) (c : Nat) (o : Op),
    let x := s.ctx c
    s.up → x.act = .parked .op → x.endCode = none → x.op = some o → o.req.kind = .gather → o.req.async = false →
    o.result = none → o.bnd = true → o.held = false → s.underWay c = false → s.frozen x.slice = false →
    s.higherWork x.cluster x.pri → s.cycle.joins = [] →
    Answers (.busOperationBoundary c) s (fun t => OnlyCtx s t c ∧
      t.ctx c = { x with act := .suspended, evPkt := true, op := some { o with bnd := false, held := true } }))

/-- Engines (R235, R243, R246): an engine that has written its item back is free; an item that is preempted returns to the
head of its level; a suspended item leaves its state when no higher work is left. -/
def Obligations.EngineEvents : Prop :=
  (∀ (s : State) (te : Nat), s.up → (s.eng te).wb = true → s.getF (.pwrSts (te / 2)) PWR_STS.STATE = 0 →
    s.ready = [] →
    Answers (.engineFree te) s (fun t => t.eng te = Eng.free ∧ { t with engs := s.engs } = s)) ∧
  (∀ (s : State) (te c : Nat),
    let x := s.ctx c
    let off := s.getF (.pwrSts (te / 2)) PWR_STS.STATE = 1
    s.up → s.eng te = Eng.holds c → x.act = .running te →
    (off ∨ (s.handedN (te / 8) < s.eligibleAbove (te / 8) x.pri ∧ s.freeEng (te / 8) = none)) →
    (∀ j ∈ s.rlist (x.cluster * 8 + x.pri), s.joinedNow true j = false) →
    Answers (.quantumPreempt te) s (fun t => t.eng te = { Eng.leaving with handed := !off } ∧ t.ctx c = { x with act := .ready } ∧
      t.rlist (x.cluster * 8 + x.pri) = c :: s.rlist (x.cluster * 8 + x.pri))) ∧
  (∀ (s : State) (c : Nat),
    let x := s.ctx c
    s.up → x.act = .suspended → s.higherWork x.cluster x.pri = false → s.frozen x.slice = false →
    s.freeEng x.cluster = none → (∀ j ∈ s.rlist (x.cluster * 8 + x.pri), s.joinedNow true j = false) →
    Answers (.suspendLeave c) s (fun t => t.ctx c = { x with act := .ready } ∧
      t.rlist (x.cluster * 8 + x.pri) = c :: s.rlist (x.cluster * 8 + x.pri)))

/-- Stealing, and the neighbour order with the counts of the period that has ended, which are dropped while ADAPT is 0 (R249,
R254, R255), and the end of a stalemate's victim at a Clock tick (R268, R269). -/
def Obligations.StealResortStalemate : Prop :=
  (∀ (s : State) (k v c : Nat),
    let x := s.ctx c
    s.up → k < 20 → v < 20 → k ≠ v → s.clIdle k → s.victims k = [v] → s.topItem v 8 = some c → x.idleBus →
    x.cluster = v → x.act = .ready →
    Answers (.steal k) s (fun t => t.resumed c ∧ (t.ctx c).cluster = k ∧ (t.ctx c).g = x.g ∧
      t.getF (.dspClSteal k) DSP_CL_STEAL.IN = (s.getF (.dspClSteal k) DSP_CL_STEAL.IN + 1) % 2 ^ DSP_CL_STEAL.IN.width ∧
      t.getF (.dspClSteal v) DSP_CL_STEAL.OUT = (s.getF (.dspClSteal v) DSP_CL_STEAL.OUT + 1) % 2 ^ DSP_CL_STEAL.OUT.width)) ∧
  (∀ (s : State), s.up → s.flag .dspCtl DSP_CTL.ADAPT → s.stolen = [] →
    Answers .neighbourResort s (fun t => t.stolen = [] ∧ ∀ k, k < 20 → t.rd (.dspClNbr k) = Reg.resetVal (.dspClNbr k))) ∧
  (∀ (s : State), s.up → s.flag .dspCtl DSP_CTL.ADAPT →
    Answers .neighbourResort s (fun t => t.stolen = [] ∧ ∀ k, k < 20 →
      ((List.range 8).map (t.neighbour k)).Perm (staticOrder k) ∧
      ∀ i j, i < j → j < 8 → s.stolenOf (k * 32 + t.neighbour k j) ≤ s.stolenOf (k * 32 + t.neighbour k i))) ∧
  (∀ (s : State), s.up → s.flag .dspCtl DSP_CTL.ADAPT = false →
    exec .neighbourResort s = .next { s with stolen := [] }) ∧
  (∀ (s : State) (c : Nat), s.up → s.atTick → s.staleSeen ≠ s.aon.clockCount → s.staleVictims = [c] → c < 16384 → (s.ctx c).slice < 256 →
    Answers .stalemateDetection s (fun t => t.flag .dspStale DSP_STALE.VALID ∧
      t.getF .dspStale DSP_STALE.CTX = c ∧ t.getF .dspStale DSP_STALE.SLICE = (s.ctx c).slice)) ∧
  (∀ (s : State), s.up → s.atTick = false ∨ s.staleSeen = s.aon.clockCount → exec .stalemateDetection s = .next s)

/-- Transitions of a USB 2.0 path that the device or time causes (Table 3 of chapter 2).

A PHY half that is off senses no connect, disconnect or resume (R399).

Conditions that meet in one cycle (R52): a disconnect decided together with a software request that has moved the path from
ENABLED wins; a babble decided together with `PP` = 0 leaves only its change bit.

The model's own choices in it, no rules of the specification: log entries 13, 36 and 37 (link states, change bits, SPEED). -/
def Obligations.Usb2PathEvents : Prop :=
  (∀ (s : State) (n : Nat) (low : Bool), n < 20 → s.up → s.calm n false →
    let st := s.pathSt n false
    (s.phyOff n false → ∀ i, i = .usb2Connect n low ∨ i = .usb2Disconnect n ∨ i = .deviceResumeK n → exec i s = .next s) ∧
    (st = pDisconnected → ¬ s.phyOff n false → Answers (.usb2Connect n low) s (fun t => t.pathSt n false = pQualify ∧
      t.flag (.portSts n) PORT_STS.CSC ∧ (t.path n false).low = low)) ∧
    (st = pQualify → Answers (.debounceExpiry n) s (fun t => t.pathSt n false = pAttached)) ∧
    (st = pResetting → (s.path n false).low = false →
      Answers (.deviceChirp n) s (fun t => (t.path n false).chirp = true ∧ t.pathSt n false = pResetting)) ∧
    (st = pResetting → Answers (.busResetEnd n) s (fun t => t.pathSt n false = pEnabled ∧
      t.flag (.portSts n) PORT_STS.RSC ∧ t.getF (.portSts n) PORT_STS.SPEED =
        if (s.path n false).low then 1 else if (s.path n false).chirp then 3 else 2)) ∧
    Answers (.trafficHoldEnd n) s (fun t => (t.path n false).quiet = false ∧ t.regs = s.regs) ∧
    (st = pSuspended → Answers (.suspendIdleL2 n) s (fun t => OnlyRegs s t [(Reg.portLink n).addr] ∧
      t.getF (.portLink n) PORT_LINK.LSTATE = 3)) ∧
    (st = pSuspended → ¬ s.phyOff n false → Answers (.deviceResumeK n) s (fun t => t.pathSt n false = pResuming ∧
      t.flag (.portSts n) PORT_STS.LSC)) ∧
    (st = pResuming → Answers (.resumeEnd n) s (fun t => t.pathSt n false = pEnabled)) ∧
    (2 ≤ st → st ≤ 8 → ¬ s.phyOff n false → Answers (.usb2Disconnect n) s (fun t => t.pathSt n false = pDisconnected ∧
      t.flag (.portSts n) PORT_STS.CSC)) ∧
    (st = pEnabled → Answers (.frameBabble n) s (fun t => t.pathSt n false = pDisabled ∧
      t.flag (.portSts n) PORT_STS.PEC))) ∧
  (∀ (s : State) (n : Nat), n < 20 → s.up → s.calm n false = false → (s.path n false).was = pEnabled →
    ((s.path n false).prec = precSw → ¬ s.phyOff n false → Answers (.usb2Disconnect n) s (fun t => t.pathSt n false = pDisconnected ∧
      t.flag (.portSts n) PORT_STS.CSC ∧ t.flag (.portSts n) PORT_STS.PEC)) ∧
    ((s.path n false).prec = precPp → Answers (.frameBabble n) s (fun t => t.pathSt n false = s.pathSt n false ∧
      t.flag (.portSts n) PORT_STS.PEC)))

/-- Transitions of a SuperSpeed path that the device, the link or time causes (Table 3 of chapter 2), on the ports that
have one. A PHY half that is off senses no terminations and no wake (R399).

The model's own choices in it, no rules of the specification: log entries 13 and 36 (link states, change bits). -/
def Obligations.SuperSpeedPathEvents : Prop :=
  ∀ (s : State) (n speed : Nat), n < 16 → s.up → speed < 8 → s.calm n true →
    let st := s.pathSt n true
    (s.phyOff n true → ∀ i, i = .ssTerminationsDetected n ∨ i = .ssTerminationsAbsent n ∨ i = .ssU3Wake n →
      exec i s = .next s) ∧
    (st = pDisconnected → ¬ s.phyOff n true → Answers (.ssTerminationsDetected n) s (fun t => t.pathSt n true = pQualify ∧
      t.flag (.portSts n) PORT_STS.SCSC)) ∧
    (st = pQualify → Answers (.ssLinkU0 n speed) s (fun t => t.pathSt n true = pEnabled ∧
      t.getF (.portSts n) PORT_STS.SSPEED = speed)) ∧
    (st = pResetting → Answers (.ssLinkU0 n speed) s (fun t => t.pathSt n true = pEnabled ∧
      t.getF (.portSts n) PORT_STS.SSPEED = speed ∧ t.flag (.portSts n) PORT_STS.SRSC)) ∧
    (st = pQualify → (s.path n true).pollFails < 2 → Answers (.ssPollingFail n) s (fun t =>
      t.pathSt n true = pDisconnected ∧ (t.path n true).pollFails = (s.path n true).pollFails + 1)) ∧
    (st = pQualify → 2 ≤ (s.path n true).pollFails → Answers (.ssPollingFail n) s (fun t =>
      t.pathSt n true = pDisabled)) ∧
    (st = pResetting → Answers (.hotResetEscalate n) s (fun t => (t.path n true).warm = true ∧
      t.pathSt n true = pResetting)) ∧
    (st = pResetting → (s.path n true).warm → Answers (.warmResetTimeout n) s (fun t =>
      t.pathSt n true = pDisconnected ∧ t.flag (.portSts n) PORT_STS.SCSC)) ∧
    (st = pSuspended → ¬ s.phyOff n true → Answers (.ssU3Wake n) s (fun t => t.pathSt n true = pResuming ∧
      t.flag (.portSts n) PORT_STS.SLSC)) ∧
    (st = pResuming → Answers (.ssResumeTimeout n) s (fun t => t.pathSt n true = pDisconnected ∧
      t.flag (.portSts n) PORT_STS.SCSC)) ∧
    (st = pEnabled → Answers (.ssRecoveryFail n) s (fun t => t.pathSt n true = pDisabled ∧
      t.flag (.portSts n) PORT_STS.SPEC)) ∧
    (st = pEnabled → Answers (.ssLinkRecovery n) s (fun t => OnlyRegs s t [(Reg.portLink n).addr] ∧
      t.pathSt n true = pEnabled)) ∧
    (2 ≤ st → st ≤ 8 → ¬ s.phyOff n true → Answers (.ssTerminationsAbsent n) s (fun t => t.pathSt n true = pDisconnected ∧
      t.flag (.portSts n) PORT_STS.SCSC)) ∧
    (2 ≤ st → st ≤ 8 → (s.port n).flip = false → s.pinsOn 167 → Answers (.flipChange n true) s (fun t =>
      (t.port n).flip = true ∧ t.flag (.portSts n) PORT_STS.FLC ∧ t.pathSt n true = pDisconnected))

/-- Requests in `PORT_CTL` (R51, R53): each takes its path to the state of Table 3; a request that Table 3 does not list for
the state sets `REQ_IGN`; `PP` = 0 takes both paths to OFF. While the sequencer's domain keeps a saved copy, a write changes
the copy and no path (R391).

The model's own choices in it, no rules of the specification: log entries 13, 16 and 38 (link states, loopback counts, TEST). -/
def Obligations.PortControlRequests : Prop :=
  (∀ (s : State) (q : Requester) (n : Nat) (ss : Bool), n < 20 → s.accepts q (.portCtl n) →
    (s.savedCopy (.portCtl n)).isSome → ∀ i, i = .portCtlReset q n ss ∨ i = .portCtlPpWrite q n false ∨
      i = .portCtlTestWrite q n 4 → Answers i s (fun t => t.regs = s.regs ∧ t.ports = s.ports)) ∧
  ∀ (s : State) (q : Requester) (n : Nat) (ss : Bool), n < 20 → (ss = true → n < 16) → s.accepts q (.portCtl n) →
    s.calm n false → s.calm n true → s.domOn (80 + n) → s.savedCopy (.portCtl n) = none →
    let st := s.pathSt n ss
    let quiet := s.getF (.portCtl n) PORT_CTL.TEST = 0 ∧ s.flag (.portCtl n) PORT_CTL.PP
    (quiet → st = pEnabled → Answers (.portCtlReset q n ss) s (fun t => t.pathSt n ss = pResetting)) ∧
    (quiet → st = pEnabled → Answers (.portCtlSuspend q n ss) s (fun t => t.pathSt n ss = pSuspended)) ∧
    (quiet → st = pSuspended → Answers (.portCtlResume q n ss) s (fun t => t.pathSt n ss = pResuming)) ∧
    (quiet → st = pEnabled → Answers (.portCtlDisable q n ss) s (fun t => t.pathSt n ss = pDisabled)) ∧
    (quiet → n < 16 → s.pathSt n true = pEnabled → Answers (.portCtlWreset q n) s (fun t =>
      t.pathSt n true = pResetting ∧ (t.path n true).warm = true)) ∧
    (quiet → st = pDisconnected →
      Answers (.portCtlReset q n ss) s (fun t => t.flag (.portSts n) PORT_STS.REQ_IGN ∧ t.pathSt n ss = st) ∧
      Answers (.portCtlSuspend q n ss) s (fun t => t.flag (.portSts n) PORT_STS.REQ_IGN ∧ t.pathSt n ss = st) ∧
      Answers (.portCtlResume q n ss) s (fun t => t.flag (.portSts n) PORT_STS.REQ_IGN ∧ t.pathSt n ss = st) ∧
      Answers (.portCtlDisable q n ss) s (fun t => t.flag (.portSts n) PORT_STS.REQ_IGN ∧ t.pathSt n ss = st)) ∧
    (quiet → s.pathSt n false = pEnabled → Answers (.portCtlTestWrite q n 4) s (fun t => t.pathSt n false = pTest ∧
      t.getF (.portCtl n) PORT_CTL.TEST = 4)) ∧
    (s.getF (.portCtl n) PORT_CTL.TEST = 0 → s.pathSt n false ≠ pOvercurrent →
      Answers (.portCtlPpWrite q n false) s (fun t => t.pathSt n false = pOff ∧ t.flag (.portCtl n) PORT_CTL.PP = false)) ∧
    (s.getF (.portCtl n) PORT_CTL.TEST = 0 → s.pathSt n false ≠ pOvercurrent → s.gangOf n = none → s.domLive 167 →
      s.aon.portCycle = none →
      Answers (.portCtlPpWrite q n true) s (fun t => (t.port n).pwren = true ∧ t.flag (.portCtl n) PORT_CTL.PP))

/-- PGOOD, over-current, gangs and battery charging (R49, R60 to R64, R71).

L1 and U1/U2 (R65 to R67) and ERDY (R70).

The model's own choices in it, no rules of the specification: log entries 13 and 73 (link states, filter times). -/
def Obligations.PortAndLinkPower : Prop :=
  (∀ (s : State) (n : Nat), n < 20 → s.up →
    (s.pathSt n false = pOff → s.flag (.portCtl n) PORT_CTL.PP → s.aon.portCycle = none →
      s.flag (.portTstSts n) PORT_TST_STS.RUN = false → s.getF (.portCfg n) PORT_CFG.BC_MODE ≠ 2 →
      Answers (.pgoodElapsed n false) s (fun t => t.pathSt n false = pDisconnected)) ∧
    (s.pathSt n false = pOff → s.flag (.portCtl n) PORT_CTL.PP → s.aon.portCycle = none →
      s.flag (.portTstSts n) PORT_TST_STS.RUN = false → s.getF (.portCfg n) PORT_CFG.BC_MODE = 2 →
      Answers (.pgoodElapsed n false) s (fun t => t.pathSt n false = pDcp)) ∧
    (∀ ss, s.flag (.portTstSts n) PORT_TST_STS.RUN → exec (.pgoodElapsed n ss) s = .next s) ∧
    (∀ b, s.pinsOn 167 → (s.port n).oc.sample ≠ b → Answers (.ociChange n b) s (fun t =>
      let time := if s.now < (s.port n).inrush then s.getF (.portOc n) PORT_OC.INRUSH_FLT * 100
        else s.getF (.portOc n) PORT_OC.FILTER
      (t.port n).oc.sample = b ∧
      (time ≠ 0 → (t.port n).oc.counting = decide (b ≠ (s.port n).oc.active) ∧ (t.port n).oc.time = time ∧
        (t.port n).oc.active = (s.port n).oc.active ∧ t.regs = s.regs) ∧
      (time = 0 → (t.port n).oc.counting = false ∧ (t.port n).oc.active = b))) ∧
    ((s.port n).oc.counting → (s.port n).oc.sample → (s.port n).pwren → s.gangOf n = none →
      Answers (.ocFilterExpiry n) s (fun t => t.pathSt n false = pOvercurrent ∧ (t.port n).pwren = false ∧
        t.flag (.portSts n) PORT_STS.OCA ∧ t.flag (.portSts n) PORT_STS.OCC)) ∧
    ((s.port n).oc.counting → (s.port n).oc.sample = false → s.gangOf n = none →
      Answers (.ocInactiveFilterExpiry n) s (fun t => (t.port n).oc.active = false ∧ (t.port n).oc.counting = false ∧
        t.flag (.portSts n) PORT_STS.OCA = false)) ∧
    (s.pathSt n false = pDisconnected → (s.path n false).bcMode = 1 → Answers (.cdpVdpSrc n true) s (fun t =>
      (t.port n).vdm = true ∧ t.regs = s.regs)) ∧
    (∀ (q : Requester) (g : Nat) (v : Word32), g < 4 → s.accepts q (.portGang g) →
      s.gangRefused g (v.setWidth 64) = false →
      Answers (.portGangWrite q g v) s (fun t =>
        t.getF (.portGang g) PORT_GANG.EN = PORT_GANG.EN.get (v.setWidth 64) ∧
        t.getF (.portGang g) PORT_GANG.SRC = PORT_GANG.SRC.get (v.setWidth 64) ∧
        t.getF (.portGang g) PORT_GANG.MEMBERS = PORT_GANG.MEMBERS.get (v.setWidth 64)))) ∧
  (∀ (s : State) (n : Nat), n < 20 → s.up →
    (∀ besl, besl < 16 → (s.pred (pKey n false)).lpm = some besl →
      Answers (.lpmL1Response n .ack) s (fun t => t.getF (.portLink n) PORT_LINK.LSTATE = 2 ∧
        t.getF (.portLink n) PORT_LINK.BESL = besl ∧ t.getF (.portLink n) PORT_LINK.LPM_RESP = 1 ∧
        (t.pred (pKey n false)).lpm = none) ∧
      Answers (.lpmL1Response n .stall) s (fun t => t.getF (.portLink n) PORT_LINK.LPM_RESP = 3 ∧
        (t.path n false).l1Stall = true ∧
        t.getF (.portLink n) PORT_LINK.LSTATE = s.getF (.portLink n) PORT_LINK.LSTATE)) ∧
    (s.getF (.portLink n) PORT_LINK.LSTATE = 2 → Answers (.l1RemoteWake n) s (fun t =>
      t.getF (.portLink n) PORT_LINK.LSTATE = 1 ∧ t.flag (.portSts n) PORT_STS.LSC ∧ 
      OnlyRegs s t [(Reg.portLink n).addr, (Reg.portSts n).addr])) ∧
    (n < 16 → s.pathSt n true = pEnabled → s.getF (.portLink n) PORT_LINK.SLSTATE = 1 →
      s.cfgFlag n PORT_CFG.UX_ACC → s.cfgFlag n PORT_CFG.U2_EN →
      Answers (.deviceLgoUx n true) s (fun t => t.getF (.portLink n) PORT_LINK.SLSTATE = 3 ∧
        OnlyRegs s t [(Reg.portLink n).addr])) ∧
    (∀ ep stream, stream ∈ (s.epc ep).nrdy → (s.epInfo ep).typ ≠ 3 →
      Answers (.erdyReceived ep stream) s (fun t => { t with eps := s.eps } = s ∧ (∀ k, k ≠ ep → t.epc k = s.epc k) ∧
        t.epc ep = { s.epc ep with nrdy := (s.epc ep).nrdy.filter (· != stream) })) ∧
    (∀ ep stream, stream ∉ (s.epc ep).nrdy →
      Answers (.erdyReceived ep stream) s (fun t => { t with eps := s.eps } = s ∧ (∀ k, k ≠ ep → t.epc k = s.epc k) ∧
        stream ∈ (t.epc ep).erdy ∧ (∀ x, x ≠ stream → (x ∈ (t.epc ep).erdy ↔ x ∈ (s.epc ep).erdy)) ∧
        (t.epc ep).nrdy = (s.epc ep).nrdy)))

/-- Reads of the halves of a 64-bit register (R10, R15, R16): a low half is live and loads the requester's latch; a high
half is the latched one if the latch is valid, the live one otherwise; nothing else changes. A read of 8 bytes returns both
live halves, and loads no latch (R13).

A write of a register: a 32-bit write (R8), the halves of a 64-bit register and a 64-bit write (R18). The 64-bit
registers shown are the service DMA's source addresses. `PORT_SEQ_CFG` keeps the setting in force until the next rank
boundary. A W1C bit that hardware sets in the cycle of the write, before it or with it, stays 1 (R11), shown for
`PORT_TST_STS`. -/
def Obligations.RegisterAccesses : Prop :=
  ((∀ (s : State) (q : Requester) (l : Loc) (r : Reg), s.up → s.reaches q l → s.pageEmpty l = false →
    cellAt l = .low r →
    Answers (.lowHalfRead q ⟨l, 4⟩) s (fun t => t.readData = [(s.regRead q r).lo] ∧
      t.latches.find none (s.halfKey q r) = some (s.regRead q r).hi ∧
      (∀ k, k ≠ s.halfKey q r → t.latches.find none k = s.latches.find none k) ∧
      { t with readData := s.readData, latches := s.latches } = s)) ∧
  (∀ (s : State) (q : Requester) (l : Loc) (r : Reg) (h : Word32), s.up → s.reaches q (locPlus l 4) →
    s.pageEmpty (locPlus l 4) = false → cellAt (locPlus l 4) = .high r → s.latches.find none (s.halfKey q r) = some h →
    exec (.highHalfRead q l) s = .next { s with readData := [h] }) ∧
  (∀ (s : State) (q : Requester) (l : Loc) (r : Reg), s.up → s.reaches q (locPlus l 4) →
    s.pageEmpty (locPlus l 4) = false → cellAt (locPlus l 4) = .high r → s.latches.find none (s.halfKey q r) = none →
    exec (.highHalfRead q l) s = .next { s with readData := [(s.regRead q r).hi] }) ∧
  (∀ (s : State) (q : Requester) (l : Loc) (r : Reg), s.up → s.reaches q l → locOff l % 8 = 0 → s.pageEmpty l = false →
    s.pageEmpty (locPlus l 4) = false → cellAt l = .low r → cellAt (locPlus l 4) = .high r →
    exec (.lowHalfRead q ⟨l, 8⟩) s = .next { s with readData := [(s.regRead q r).lo, (s.regRead q r).hi] })) ∧
  ((∀ (s : State) (q : Requester) (l : Loc) (r : Reg) (v hw : Word32), s.opens q l → inLibrary l = false →
    cellAt l = .word r → plainRegs r → s.savedCopy r = none →
    Answers (.registerWrite q l ⟨v, hw⟩) s (fun t => OnlyRegs s t [r.addr] ∧
      t.rd r = applyFields (v.setWidth 64) r.fields (s.rd r))) ∧
  (∀ (s : State) (q : Requester) (l : Loc) (n : Nat) (v hw : Word32), s.opens q l → inLibrary l = false →
    cellAt l = .word (.portSeqCfg n) → s.savedCopy (.portSeqCfg n) = none →
    Answers (.registerWrite q l ⟨v, hw⟩) s (fun t => KeepsRegs s t [(Reg.portSeqCfg n).addr] ∧
      t.rd (.portSeqCfg n) = applyFields (v.setWidth 64) (Reg.portSeqCfg n).fields (s.rd (.portSeqCfg n)) ∧
      t.seqAt n s.rankNow = s.seqAt n s.rankNow ∧ ∀ k, s.rankNow < k → t.seqAt n k = t.rd (.portSeqCfg n))) ∧
  (∀ (s : State) (q : Requester) (l : Loc) (n : Nat) (v hw : Word32), s.opens q l → inLibrary l = false →
    cellAt l = .word (.portTstSts n) → s.regLive (.portTstSts n) →
    Answers (.registerWrite q l ⟨v, hw⟩) s (fun t => OnlyRegs s t [(Reg.portTstSts n).addr] ∧
      t.flag (.portTstSts n) PORT_TST_STS.LOST =
        (s.flag (.portTstSts n) PORT_TST_STS.LOST && (!(v.getLsbD 29) || hw.getLsbD 29 || (s.roseIn (.portTstSts n)).getLsbD 29)) ∧
      t.flag (.portTstSts n) PORT_TST_STS.REJ =
        (s.flag (.portTstSts n) PORT_TST_STS.REJ && (!(v.getLsbD 28) || hw.getLsbD 28 || (s.roseIn (.portTstSts n)).getLsbD 28)) ∧
      t.flag (.portTstSts n) PORT_TST_STS.RUN = s.flag (.portTstSts n) PORT_TST_STS.RUN)) ∧
  (∀ (s : State) (q : Requester) (l : Loc) (r : Reg) (v : Word32), s.opens q l → inLibrary l = false →
    cellAt l = .low r → (∀ i k, r ≠ .db i k) →
    Answers (.lowHalfWrite q l v) s (fun t => t.staged.find none (s.halfKey q r) = some v ∧
      (∀ k, k ≠ s.halfKey q r → t.staged.find none k = s.staged.find none k) ∧ { t with staged := s.staged } = s)) ∧
  (∀ (s : State) (q : Requester) (l : Loc) (c : Nat) (v lo : Word32) (hw : Word64), s.opens q (locPlus l 4) →
    inLibrary (locPlus l 4) = false → cellAt (locPlus l 4) = .high (.mdmaSrc c) → s.mdmaBusy c = false →
    s.staged.find none (s.halfKey q (.mdmaSrc c)) = some lo →
    Answers (.highHalfWrite q l ⟨v, hw⟩) s (fun t => t.rd (.mdmaSrc c) = Word64.ofHalves v lo ∧
      t.staged.find none (s.halfKey q (.mdmaSrc c)) = none ∧ KeepsRegs s t [(Reg.mdmaSrc c).addr])) ∧
  (∀ (s : State) (q : Requester) (l : Loc) (c : Nat) (v : Word32) (hw : Word64), s.opens q (locPlus l 4) →
    inLibrary (locPlus l 4) = false → cellAt (locPlus l 4) = .high (.mdmaSrc c) → s.mdmaBusy c = false →
    s.staged.find none (s.halfKey q (.mdmaSrc c)) = none →
    Answers (.highHalfWrite q l ⟨v, hw⟩) s (fun t => t.rd (.mdmaSrc c) = Word64.ofHalves v (s.rd (.mdmaSrc c)).lo ∧
      KeepsRegs s t [(Reg.mdmaSrc c).addr])) ∧
  (∀ (s : State) (q : Requester) (l : Loc) (c : Nat) (v hw : Word64), s.opens q l → cellAt l = .low (.mdmaSrc c) →
    s.mdmaBusy c = false →
    Answers (.write64 q l ⟨v, hw⟩) s (fun t => t.rd (.mdmaSrc c) = v ∧ t.staged.find none (s.halfKey q (.mdmaSrc c)) = none ∧
      KeepsRegs s t [(Reg.mdmaSrc c).addr])))

/-- Accesses that R12 turns away: each ends as its requester determines, and as an event of the ACCESS source where the
rule says it is recorded; what the ACCESS source counts of it, `FLT_STS49` shows (R424).

Writes that never reach the register (R9, R82, R446, R504): manager space written by the manager function without the
claim changes no register but the fault unit's; a write where no register is, changes nothing; one through a function with
Memory Space Enable 0 ends with Unsupported Request (R82), and a core's access to an address that its map does not list in a
bus error (R445).

What recording an access violation can change: registers of the fault unit, its records, and, where a management pair in WFI
is woken, `WAKE` and the return of its domain; nothing else of the state (R12, R421, R422, R424, R437).

The model's own choices in it, no rules of the specification: log entry 69 (misaligned reads). -/
def Obligations.AccessesTurnedAway : Prop :=
  ((∀ (s : State) (l : Loc) (n : Nat) (write : Bool), s.up → s.reaches .ma l →
    exec (.misalignedAccess .ma ⟨l, n⟩ write) s = .next { s with out := .busError :: s.out }) ∧
  (∀ (s : State) (l : Loc) (n : Nat) (write : Bool), s.up → s.reaches .mb l →
    exec (.misalignedAccess .mb ⟨l, n⟩ write) s = .next { s with out := .busError :: s.out }) ∧
  (∀ (s : State) (p fn n : Nat) (l : Loc), s.up → s.reaches (.func p fn) l →
    exec (.misalignedAccess (.func p fn) ⟨l, n⟩ true) s = .next (s.violation (.func p fn) l)) ∧
  (∀ (s : State) (p fn n : Nat) (l : Loc), s.up → s.reaches (.func p fn) l →
    exec (.misalignedAccess (.func p fn) ⟨l, n⟩ false) s =
      .next ({ s with readData := s.misRead (.func p fn) l n }.violation (.func p fn) l)) ∧
  (∀ (s : State) (l : Loc) (n : Nat), s.up → s.reaches .jtag l →
    exec (.misalignedAccess .jtag ⟨l, n⟩ false) s =
      .next ({ s with readData := List.replicate ((locOff l % 4 + n + 3) / 4) 0 }.violation .jtag l)) ∧
  (∀ (s : State) (q : Requester) (l : Loc), s.up → s.reaches q l →
    exec (.narrowWrite q l) s = .next (s.violation q l)) ∧
  (∀ (s : State) (q : Requester) (l : Loc), s.flag (.fltCfg 49) FLT_CFG.EN = false → s.violation q l = s) ∧
  (∀ (s : State) (q : Requester) (l : Loc), s.flag (.fltCfg 49) FLT_CFG.EN → s.getF (.fltSts 49) FLT_STS.STATE = 0 →
    (s.violation q l).getF (.fltSts 49) FLT_STS.COUNT = 1 ∧
    (s.violation q l).getF (.fltSts 49) FLT_STS.STATE = (if s.getF (.fltCfg 49) FLT_CFG.N ≤ 1 then 2 else 1))) ∧
  ((∀ (s : State) (p fn a : Nat) (v hw : Word32), s.up → s.reaches (.func p fn) (.mgr a) → a ≠ 0x410 → s.claim ≠ claimHost →
    exec (.registerWrite (.func p fn) (.mgr a) ⟨v, hw⟩) s = .next (s.violation (.func p fn) (.mgr a))) ∧
  (∀ (s : State) (q : Requester) (l : Loc) (v hw : Word32), s.up → s.place q l = .none ∨ s.place q l = .empty →
    exec (.registerWrite q l ⟨v, hw⟩) s = .next s) ∧
  (∀ (s : State) (p fn : Nat) (l : Loc) (v hw : Word32), s.up → s.place (.func p fn) l = .ur →
    exec (.registerWrite (.func p fn) l ⟨v, hw⟩) s = .next (s.unsupported p fn)) ∧
  (∀ (s : State) (q : Requester) (l : Loc) (v hw : Word32), s.up → s.place q l = .unlisted →
    exec (.registerWrite q l ⟨v, hw⟩) s = .next { s with out := .busError :: s.out }) ∧
  (∀ (s : State) (q : Requester) (l : Loc) (v hw : Word32), s.opens q l → inLibrary l = false → cellAt l = .none →
    exec (.registerWrite q l ⟨v, hw⟩) s = .next s)) ∧
  (∀ (s : State) (q : Requester) (l : Loc), (s.flt 49).entry < 32 →
    let t := s.violation q l
    (∀ r : Reg, r.addr < 0x10000 ∨ 0x11000 ≤ r.addr → r.addr ∉ wakeRegs → t.rd r = s.rd r) ∧
    (∀ d, d ≠ 160 → d ≠ 161 → t.dom d = s.dom d) ∧
    { t with regs := s.regs, flts := s.flts, doms := s.doms, cyc := s.cyc } = s)

/-- Supplies and RESET_N (R472, R473, R477, R478, R512, R519): what begins a cold reset leaves the island and its registers
alone and clears everything else; the last condition to become good samples the straps; the Clock count is untouched.

The power-on reset and the start-up (R272, R444, R472, R476, R488, R500): the Clock count is 0; with the supplies good
and RESET_N high the straps are sampled and the active pair is the first whose self-test passed; with BOOT_SRC
high, or with no valid directory, the boot ROM enters recovery; else it runs the first slot in the order TRIAL, GOOD, OLD whose
image passes (R380, R467, R487).

The model's own choices in it, no rules of the specification: log entries 6, 23 and 63 (start-up at once, boot findings). -/
def Obligations.SuppliesAndPowerOn : Prop :=
  ((∀ (s : State) (k : Nat), s.up →
    Answers (.railPowerFail k) s (fun t =>
      t.aon = { s.aon with railsGood := false, badRails := k :: s.aon.badRails.filter (· != k) } ∧ t.coreClear ∧
      t.getF .glbRstSts GLB_RST_STS.CAUSE = 5 ∧ t.rd .glbSvc = s.rd .glbSvc ∧ t.rd .pwrWline = s.rd .pwrWline)) ∧
  (∀ (s : State), s.up →
    Answers .resetNAssert s (fun t => t.aon = { s.aon with resetN := false, resetLow := s.now + 1 } ∧ t.coreClear ∧
      t.getF .glbRstSts GLB_RST_STS.CAUSE = 1 ∧ t.rd .glbSvc = s.rd .glbSvc ∧ t.rd .pwrWline = s.rd .pwrWline)) ∧
  (∀ (s : State) (st : Straps) (b : Boot), s.aon.vddAon → s.aon.railsGood = false → s.aon.resetN = false →
    exec (.railsGood st b) s = .next { s with aon := { s.aon with railsGood := true, badRails := [] } }) ∧
  (∀ (s : State) (st : Straps) (b : Boot), s.aon.vddAon → s.aon.railsGood = false → s.aon.resetN →
    Answers (.railsGood st b) s (fun t => t.up ∧ t.aon.straps = st ∧ t.aon.clockCount = s.aon.clockCount)) ∧
  (∀ (s : State) (hold : Nat) (st : Straps) (b : Boot), s.aon.vddAon → s.aon.resetN = false → s.aon.railsGood = false →
    Answers (.resetNRelease hold st b) s (fun t =>
      t.aon = { s.aon with resetN := true, svcArmed := false, extDue := decide (32768 < hold) } ∧
      t.getF .glbRstSts GLB_RST_STS.HOLD = min 0x3FFFFFF (hold * 1000 / 32768) ∧
      t.getF .glbRstSts GLB_RST_STS.EXT = (decide (32768 < hold)).toNat ∧
      OnlyRegs s { t with aon := s.aon } [(Reg.glbRstSts).addr])) ∧
  (∀ (s : State) (hold : Nat) (st : Straps) (b : Boot), s.aon.vddAon → s.aon.resetN = false → s.aon.railsGood →
    Answers (.resetNRelease hold st b) s (fun t => t.up ∧ t.aon.straps = st ∧ t.aon.clockCount = s.aon.clockCount ∧
      t.getF .glbRstSts GLB_RST_STS.HOLD = min 0x3FFFFFF (hold * 1000 / 32768))) ∧
  (∀ (s : State), s.aon.vddAon →
    Answers .vddAonFail s (fun t => t.aon.vddAon = false ∧ t.aon.clockCount = 0 ∧ (∀ r : Reg, t.rd r = r.resetVal) ∧
      t.coreClear)) ∧
  (∀ (s : State), s.aon.vddAon → exec .aclkLoss s = .next { s with aon := { s.aon with extAclk := false } })) ∧
  ((∀ (s : State) (ext svc : Bool) (st : Straps) (b : Boot), Answers (.powerOnReset ext false ⟨true, svc⟩ st b) s (fun t =>
    t.aon = { Aon.reset with extAclk := ext, railsGood := false, badRails := List.range 6 } ∧ t.coreClear ∧ t.pending = s.pending ∧
    t.flag .glbSvc GLB_SVC.HELD = svc ∧ ∀ r : Reg, (svc → r ≠ .glbSvc) → t.rd r = r.resetVal)) ∧
  (∀ (s : State) (ext svc : Bool) (st : Straps) (b : Boot), st.bootSrc ≠ 0 →
    Answers (.powerOnReset ext true ⟨true, svc⟩ st b) s (fun t =>
      t.aon = { Aon.reset with extAclk := ext, straps := st } ∧ t.pending = s.pending ∧
      t.getF .glbMgtSts GLB_MGT_STS.ACTIVE = (!b.maOk).toNat ∧ t.getF .glbBistSts GLB_BIST_STS.MA_OK = b.maOk.toNat ∧
      t.getF .glbBistSts GLB_BIST_STS.MB_OK = b.mbOk.toNat ∧ t.getF .glbBootSts GLB_BOOT_STS.STAGE = 4 ∧
      ∀ n, n < 20 → t.flag (.portCtl n) PORT_CTL.PP = false)) ∧
  (∀ (s : State) (ext svc : Bool) (st : Straps) (b : Boot), st.bootSrc = 0 → dirOf b.copy0 b.copy1 = none →
    Answers (.powerOnReset ext true ⟨true, svc⟩ st b) s (fun t => t.aon.straps = st ∧
      t.getF .glbBootSts GLB_BOOT_STS.STAGE = 4 ∧ t.getF .glbBootSts GLB_BOOT_STS.DIRBAD = 1)) ∧
  (∀ (s : State) (ext svc : Bool) (st : Straps) (b : Boot) (d : List Byte) (x : Bool) (l : List Bool), st.bootSrc = 0 →
    dirOf b.copy0 b.copy1 = some d → bootOrder d = x :: l →
    let code := (fwCheck (slotImg b d x)).1
    Answers (.powerOnReset ext true ⟨true, svc⟩ st b) s (fun t => t.aon.straps = st ∧
      t.getF .glbBootSts GLB_BOOT_STS.DIRBAD = 0 ∧
      t.getF .glbBootSts (if x then GLB_BOOT_STS.RESB else GLB_BOOT_STS.RESA) = code ∧
      (code = 0 → t.getF .glbBootSts GLB_BOOT_STS.STAGE = 3 ∧ t.getF .glbBootSts GLB_BOOT_STS.SLOT = 1 + x.toNat) ∧
      (code ≠ 0 → l = [] → t.getF .glbBootSts GLB_BOOT_STS.STAGE = 4))))

/-- The software warm reset (R484, R485): from the active pair, or the manager function while the host holds the claim; the
always-on island, straps and fault history stay; from another requester it is an access violation.

The model's own choices in it, no rules of the specification: log entries 6 and 23 (start-up at once, boot findings). -/
def Obligations.WarmReset : Prop :=
  (∀ (s : State) (q : Requester) (b : Boot), s.accepts q .glbRstCtl →
    ((s.isMgrFunc q ∧ s.claim = claimHost) ∨ (isPair q ∧ s.isActive q)) → s.aon.extDue = false →
    Answers (.glbRstWarm q b) s (fun t => t.aon = s.aon ∧ t.ctxs = [] ∧ t.rings = [] ∧ t.devs = [] ∧ t.progs = [] ∧
      t.getF .glbRstSts GLB_RST_STS.CAUSE = 4 ∧ t.rd .fltHsts = s.rd .fltHsts ∧ (∀ k, k < 256 →
        t.rd (.fltHist k) = s.rd (.fltHist k)) ∧ t.getF .glbMgtSts GLB_MGT_STS.ACTIVE = (!b.maOk).toNat ∧
      ∀ n, n < 20 → t.rd (.portCtl n) = (Reg.portCtl n).resetVal)) ∧
  (∀ (s : State) (q : Requester) (b : Boot), s.accepts q .glbRstCtl →
    ¬ ((s.isMgrFunc q ∧ s.claim = claimHost) ∨ (isPair q ∧ s.isActive q)) →
    exec (.glbRstWarm q b) s = .next (s.violation q (Reg.loc .glbRstCtl)))

/-- The service button (R480 to R483): the decisions of Table 2 and what each writes; a press decided while a cold reset is
held is discarded, as PORT_CYCLE and WARM are while a start-up or a warm reset runs, and COLD and STUCK in the ACLK cycle in
which RESET_N passes low (R479); the end of PORT_CYCLE.

The model's own choices in it, no rules of the specification: log entries 62 and 101 (when a reset runs, the ACLK cycle). -/
def Obligations.ServiceButton : Prop :=
  (∀ (s : State), s.aon.vddAon → s.flag .glbSvc GLB_SVC.HELD = false →
    Answers .svcPressStart s (fun t => t.flag .glbSvc GLB_SVC.HELD ∧
      t.aon = { s.aon with svcArmed := true, svcStuck := false } ∧
      OnlyRegs s { t with aon := s.aon } [(Reg.glbSvc).addr])) ∧
  (∀ (s : State) (k : Nat) (st : Straps) (b : Boot), s.up → s.flag .glbSvc GLB_SVC.HELD → s.aon.svcArmed →
    s.aon.svcStuck = false → k < 65536 → s.resetRuns = false →
    Answers (.svcPressDecide k st b) s (fun t => t.aon.portCycle = some s.now ∧ t.aon.svcArmed = false ∧
      t.getF .glbSvc GLB_SVC.ACT = 1 ∧ t.getF .glbSvc GLB_SVC.LEN = k * 1000 / 32768 ∧
      t.flag .glbSvc GLB_SVC.HELD = false)) ∧
  (∀ (s : State) (k : Nat) (st : Straps) (b : Boot), s.up → s.flag .glbSvc GLB_SVC.HELD → s.aon.svcArmed →
    s.aon.svcStuck = false → 65536 ≤ k → k ≤ 262144 → s.resetRuns = false →
    Answers (.svcPressDecide k st b) s (fun t => t.getF .glbSvc GLB_SVC.ACT = 2 ∧
      t.getF .glbSvc GLB_SVC.LEN = k * 1000 / 32768 ∧ t.getF .glbRstSts GLB_RST_STS.CAUSE = 3 ∧ t.ctxs = [] ∧
      t.aon.straps = s.aon.straps)) ∧
  (∀ (s : State) (k : Nat) (st : Straps) (b : Boot), s.up → s.flag .glbSvc GLB_SVC.HELD → s.aon.svcArmed →
    s.aon.svcStuck = false → 262144 < k → k ≤ 1966080 →
    Answers (.svcPressDecide k st b) s (fun t => t.getF .glbSvc GLB_SVC.ACT = 3 ∧
      t.getF .glbSvc GLB_SVC.LEN = min 65535 (k * 1000 / 32768) ∧ t.getF .glbRstSts GLB_RST_STS.CAUSE = 2 ∧ t.ctxs = [] ∧
      t.aon.straps = st)) ∧
  (∀ (s : State) (k : Nat) (st : Straps) (b : Boot), s.aon.vddAon → s.aon.resetN = false →
    s.flag .glbSvc GLB_SVC.HELD → s.aon.svcArmed → s.aon.svcStuck = false → k ≤ 1966080 →
    Answers (.svcPressDecide k st b) s (fun t =>
      t.getF .glbSvc GLB_SVC.ACT = (if k ≤ 262144 ∨ s.resetLowNow then 5 else 3) ∧
      OnlyRegs s { t with aon := s.aon } [(Reg.glbSvc).addr])) ∧
  (∀ (s : State) (k : Nat) (st : Straps) (b : Boot), s.up → s.flag .glbSvc GLB_SVC.HELD → s.aon.svcArmed →
    s.aon.svcStuck = false → k ≤ 262144 → s.resetRuns →
    Answers (.svcPressDecide k st b) s (fun t => t.getF .glbSvc GLB_SVC.ACT = 5 ∧
      t.aon = { s.aon with svcArmed := false, svcStuck := false } ∧ t.ctxs = s.ctxs)) ∧
  (∀ (s : State), s.aon.vddAon → s.coldHeld → s.resetLowNow → s.flag .glbSvc GLB_SVC.HELD → s.aon.svcArmed →
    s.aon.svcStuck = false →
    Answers .svcStuckDecision s (fun t => t.getF .glbSvc GLB_SVC.ACT = 5 ∧ t.aon = { s.aon with svcStuck := true } ∧
      t.flag .glbSvc GLB_SVC.STUCK = s.flag .glbSvc GLB_SVC.STUCK ∧ OnlyRegs s { t with aon := s.aon } [(Reg.glbSvc).addr])) ∧
  (∀ (s : State), s.up → s.flag .glbSvc GLB_SVC.HELD → s.aon.svcArmed → s.aon.svcStuck = false →
    Answers .svcStuckDecision s (fun t => t.flag .glbSvc GLB_SVC.STUCK ∧ t.getF .glbSvc GLB_SVC.ACT = 4 ∧
      t.getF .glbSvc GLB_SVC.LEN = 60000 ∧ t.aon = { s.aon with svcStuck := true })) ∧
  (∀ (s : State) (k : Nat), s.aon.vddAon → s.coldHeld → s.aon.portCycle = some k → k + 25000000 ≤ s.now →
    exec .portCycleEnd s = .next { s with aon := { s.aon with portCycle := none } }) ∧
  (∀ (s : State) (k : Nat), s.up → s.aon.portCycle = some k → k + 25000000 ≤ s.now →
    Answers .portCycleEnd s (fun t => t.aon = { s.aon with portCycle := none } ∧ t.regs = s.regs ∧ t.ctxs = s.ctxs))

/-- The Clock (R272, R273): a tick raises the count by 1 and starts a microframe; while REF is stopped the count comes from
ACLK, 125 units a cycle with 512 to the microframe.

The model's own choices in it, no rules of the specification: log entry 20 (the fraction of a microframe). -/
def Obligations.ClockCountCommands : Prop :=
  (∀ (s : State), s.aon.refRunning → s.aon.vddAon →
    Answers .clockTick s (fun t => t.aon = { s.aon with clockCount := s.aon.clockCount + 1, refCycle := 0 } ∧
      t.pending = s.pending)) ∧
  (∀ (s : State), s.aon.refRunning → s.aon.vddAon → s.coldHeld →
    exec .clockTick s = .next { s with aon := { s.aon with clockCount := s.aon.clockCount + 1, refCycle := 0 } }) ∧
  (∀ (s : State), s.aon.vddAon → s.aon.refRunning = false → s.aon.acc + 125 < 512 →
    exec .aclkClockCountAdvance s = .next { s with aon := { s.aon with acc := s.aon.acc + 125 } }) ∧
  (∀ (s : State), s.aon.vddAon → s.aon.refRunning = false → 512 ≤ s.aon.acc + 125 →
    exec .aclkClockCountAdvance s = .next { s with aon :=
      { s.aon with acc := s.aon.acc + 125 - 512, clockCount := s.aon.clockCount + 1 } }) ∧
  (∀ (s : State), s.up → s.aon.refRunning →
    Answers .refStop s (fun t => t.aon = { s.aon with refRunning := false, acc := s.aon.refCycle * 512 / 3125 } ∧
      t.getF .plnSyncSts PLN_SYNC_STS.STATE = (if s.getF .plnSyncSts PLN_SYNC_STS.STATE = 0 then 0 else 3) ∧
      KeepsRegs s t [(Reg.plnSyncSts).addr])) ∧
  (∀ (s : State), s.aon.vddAon → s.aon.refRunning = false →
    exec .refRestart s = .next { s with aon :=
      { s.aon with refRunning := true, refCycle := min 3124 (s.aon.acc * 3125 / 512), acc := 0 } })

/-- The snapshot (R274), and the commands of Clock synchronisation with what turns them away (R296, R299).

Edges of FSYNC_IN and their loss (R297, R299, R301, Table 14): the first edge starts a record; the edge that stays within
100 ns in ACQUIRE locks once a good one went before; the loss leads to HOLDOVER with the rate held.

The model's own choices in it, no rules of the specification: log entries 20, 60 and 75. -/
def Obligations.SnapshotAndSync : Prop :=
  ((∀ (s : State) (q : Requester), s.accepts q .plnSnapCtl →
    (s.snapAt ≠ some s.now →
      Answers (.snapshotTake q) s (fun t => t.rd .plnSnapClk = BitVec.ofNat 64 s.aon.clockCount ∧
        t.getF .plnSnapSub PLN_SNAP_SUB.SUB = s.aon.refCycle % 4096 ∧
        t.getF .plnSnapSub PLN_SNAP_SUB.KIND = (s.who q).1 % 4 ∧
        t.getF .plnSnapSub PLN_SNAP_SUB.ID = (s.who q).2.2 % 65536 ∧ t.snapAt = some s.now ∧
        OnlyRegs s { t with snapAt := s.snapAt } [(Reg.plnSnapClk).addr, (Reg.plnSnapSub).addr, (Reg.plnSnapEdge).addr])) ∧
    (s.snapAt = some s.now → Answers (.snapshotTake q) s (fun t => OnlyRegs s t [(Reg.plnSnapSub).addr]))) ∧
  (∀ (s : State) (q : Requester), s.accepts q .plnSyncCtl → s.syState = 0 →
    ratioOk (s.getF .plnSyncRatio PLN_SYNC_RATIO.NUM) (s.getF .plnSyncRatio PLN_SYNC_RATIO.DEN) → s.ofsOk →
    Answers (.syncStart q) s (fun t => t.syState = 1 ∧ t.flag .plnSyncSts PLN_SYNC_STS.ADOPTED = false ∧
      t.sync.num = s.getF .plnSyncRatio PLN_SYNC_RATIO.NUM ∧ t.sync.den = s.getF .plnSyncRatio PLN_SYNC_RATIO.DEN ∧
      t.sync.phi = s.syOfs ∧ t.sync.seen = false ∧ KeepsRegs s t [(Reg.plnSyncSts).addr])) ∧
  (∀ (s : State) (q : Requester), s.accepts q .plnSyncCtl → s.syState = 0 →
    ratioOk (s.getF .plnSyncRatio PLN_SYNC_RATIO.NUM) (s.getF .plnSyncRatio PLN_SYNC_RATIO.DEN) = false →
    Answers (.syncStart q) s (fun t => t.syState = 0 ∧ t.flag .plnSyncSts PLN_SYNC_STS.CFG_ERR ∧ t.sync = s.sync)) ∧
  (∀ (s : State) (q : Requester), s.accepts q .plnSyncCtl → s.syState ≠ 0 →
    Answers (.syncStop q) s (fun t => t.syState = 0 ∧ t.sync = { s.sync with corr := 0 } ∧
      KeepsRegs s t [(Reg.plnSyncSts).addr])) ∧
  (∀ (s : State) (q : Requester), s.accepts q .plnSyncCtl → s.syState = 4 →
    Answers (.syncSlew q) s (fun t => t.syState = 5 ∧ t.flag .plnSyncSts PLN_SYNC_STS.ADOPTED = false ∧
      t.sync.phi = s.syOfs ∧ (t.sync.corr = 256 ∨ t.sync.corr = -256) ∧ KeepsRegs s t [(Reg.plnSyncSts).addr])) ∧
  (∀ (s : State) (q : Requester), s.accepts q .plnSyncCtl → s.syState ≠ 4 →
    Answers (.syncSlew q) s (fun t => t.syState = s.syState ∧ t.flag .plnSyncSts PLN_SYNC_STS.CFG_ERR ∧ t.sync = s.sync))) ∧
  ((∀ (s : State) (sub : Nat), s.up → s.syState = 1 → s.pinsOn 167 → s.sync.seen = false →
    Answers (.fsyncEdge sub) s (fun t => t.sync.seen ∧ t.sync.j = 0 ∧ t.sync.anchor = s.sync.nearTick s.aon.clockCount sub
        s.sync.phi ∧ t.rd .plnTcrAnc = BitVec.ofNat 64 t.sync.anchor ∧
      t.getF .plnTcrSeq PLN_TCR_SEQ.SEQ = (s.getF .plnTcrSeq PLN_TCR_SEQ.SEQ + 1) % 2 ^ PLN_TCR_SEQ.SEQ.width ∧
      (t.syState = 1 ∨ (t.syState = 4 ∧ t.flag .plnSyncSts PLN_SYNC_STS.ADOPTED)) ∧
      t.flag .plnSyncSts PLN_SYNC_STS.SLOST = s.flag .plnSyncSts PLN_SYNC_STS.SLOST)) ∧
  (∀ (s : State) (sub : Nat), s.up → s.syState = 0 → exec (.fsyncEdge sub) s = .next s) ∧
  (∀ (s : State), s.up → s.syState = 1 ∨ s.syState = 2 ∨ s.syState = 4 →
    Answers .fsyncLossTimeout s (fun t => t.syState = 3 ∧ t.sync = { s.sync with before := s.syState, corr := 0 } ∧
      KeepsRegs s t [(Reg.plnSyncSts).addr])) ∧
  (∀ (s : State), s.up → s.syState = 5 →
    Answers .fsyncLossTimeout s (fun t => t.syState = 3 ∧ t.flag .plnSyncSts PLN_SYNC_STS.ADOPTED ∧
      t.sync.rate = s.sync.rate ∧ t.sync.corr = 0)))

/-- Link training and link loss of an upstream port (R74, R75, R77, R94, R97): what `GLB_HPp_STS` shows, when the claim timer
starts, and the port function reset. The reset's part in slices is shown where no slice is bound to the port. A port trains
to the widths its lanes allow (R72, R74), goes to L2/L3 Ready as it answers PME_Turn_Off (R77), and with Enter Compliance set
sends the compliance pattern once it has left Detect (R499).

The model's own choices in it, no rules of the specification: log entries 25 (LTSSM shown) and 78 (compliance, L2). -/
def Obligations.UpstreamLinkEvents : Prop :=
  ∀ (s : State) (p : Nat), p < 4 → s.up → s.present p →
    let free := ∀ i, i < 256 → s.resetCovers p (fun _ => true) i = false
    let plain := (s.hp p).lnkCtl2.testBit 4 = false
    (∀ (q : Requester), s.accepts q (.glbHpCtl p) → s.savedCopy (.glbHpCtl p) = none → s.lte p = false → plain →
      Answers (.hpLteWrite q p true) s (fun t => t.lte p ∧ t.getF (.glbHpSts p) GLB_HP_STS.LTSSM = 0 ∧
        (t.hp p).held16 = false ∧ (s.mgrPort = p → s.claimOpen → t.claimTimer = some s.now) ∧
        KeepsRegs s t [(Reg.glbHpCtl p).addr, (Reg.glbHpSts p).addr])) ∧
    (∀ (q : Requester), s.accepts q (.glbHpCtl p) → s.savedCopy (.glbHpCtl p) = none → s.lte p = false → (s.hp p).lnkCtl2.testBit 4 →
      Answers (.hpLteWrite q p true) s (fun t => t.lte p ∧ t.getF (.glbHpSts p) GLB_HP_STS.LTSSM = ltPolling ∧
        t.out = .compliance p ((s.hp p).lnkCtl2.testBit 10) (min ((s.hp p).lnkCtl2 % 16) (s.maxSpeed p))
          ((s.hp p).lnkCtl2 / 128) :: s.out ∧
        KeepsRegs s t [(Reg.glbHpCtl p).addr, (Reg.glbHpSts p).addr])) ∧
    (∀ (q : Requester), s.accepts q (.glbHpCtl p) → s.savedCopy (.glbHpCtl p) = none → s.lte p → s.dlUp p = false →
      Answers (.hpLteWrite q p false) s (fun t => t.lte p = false ∧ t.getF (.glbHpSts p) GLB_HP_STS.LTSSM = 7 ∧
        t.claimTimer = s.claimTimer ∧ KeepsRegs s t [(Reg.glbHpCtl p).addr, (Reg.glbHpSts p).addr])) ∧
    (∀ (q : Requester), s.accepts q (.glbHpCtl p) → s.savedCopy (.glbHpCtl p) = none →
      s.getF (.glbHpSts p) GLB_HP_STS.LTSSM = 3 →
      Answers (.hpRetrain q p) s (fun t => t.getF (.glbHpSts p) GLB_HP_STS.LTSSM = 4 ∧ (t.hp p).held16 = false ∧
        KeepsRegs s t [(Reg.glbHpCtl p).addr, (Reg.glbHpSts p).addr])) ∧
    (∀ (speed width : Nat), s.lte p → s.widthOk width = false → exec (.dlUp p speed width false) s = .next s) ∧
    (∀ (width : Nat), exec (.dlUp p 0 width false) s = .next s) ∧
    (∀ (speed width : Nat), s.lte p → 1 ≤ speed → speed ≤ 5 → s.widthOk width →
      s.dlUp p = false ∨ s.getF (.glbHpSts p) GLB_HP_STS.LTSSM ≠ ltL2 →
      Answers (.dlUp p speed width false) s (fun t => t.dlUp p ∧ t.getF (.glbHpSts p) GLB_HP_STS.LTSSM = 3 ∧
        t.getF (.glbHpSts p) GLB_HP_STS.SPEED =
          min speed (if (s.hp p).held16 then min 4 (s.maxSpeed p) else s.maxSpeed p) ∧
        (s.dlUp p = false → s.mgrPort = p → s.claimOpen → t.claimTimer = some s.now) ∧
        (t.hp p).held16 = (s.hp p).held16 ∧
        (s.dlUp p = false → 6 ≤ s.getF (.glbHpSts p) GLB_HP_STS.LTSSM → s.getF (.glbHpSts p) GLB_HP_STS.LTSSM < 10 →
          (t.hp p).sris = s.flag (.glbHpCtl p) GLB_HP_CTL.SRIS) ∧
        OnlyRegs s { t with claimTimer := s.claimTimer, hps := s.hps } [(Reg.glbHpSts p).addr])) ∧
    (free → s.dlUp p → s.claim = claimLocal → s.flag .glbMgrSts GLB_MGR_STS.HREQ = false →
      Answers (.linkDown p) s (fun t => t.dlUp p = false ∧ t.flag (.glbHpSts p) GLB_HP_STS.FRC ∧
        t.flag (.glbHpSts p) GLB_HP_STS.LDC ∧ (∀ fn, fn < 64 → t.func (fKey p fn) = Func.init) ∧
        t.ctxs = s.ctxs ∧ KeepsRegs s t [(Reg.glbHpSts p).addr])) ∧
    (free → s.lte p → s.claim = claimLocal → s.flag .glbMgrSts GLB_MGR_STS.HREQ = false →
      (plain → Answers (.hotResetReceived p false) s (fun t => t.getF (.glbHpSts p) GLB_HP_STS.LTSSM = 9 ∧
        t.flag (.glbHpSts p) GLB_HP_STS.FRC ∧ (∀ fn, fn < 64 → t.func (fKey p fn) = Func.init) ∧
        KeepsRegs s t [(Reg.glbHpSts p).addr])) ∧
      Answers (.hotResetReceived p true) s (fun t => t.getF (.glbHpSts p) GLB_HP_STS.LTSSM = 7 ∧
        t.flag (.glbHpSts p) GLB_HP_STS.FRC) ∧
      Answers (.routerLoopbackEntry p) s (fun t => t.getF (.glbHpSts p) GLB_HP_STS.LTSSM = 8 ∧
        t.flag (.glbHpSts p) GLB_HP_STS.FRC)) ∧
    (s.dlUp p → s.issuedPort p = 0 → (∀ w ∈ s.writes, w.issued = false ∨ s.inSram w.slice ∨ s.slPort w.slice ≠ p) →
      Answers (.pmeTurnOff p) s (fun t => t.out = .pmeToAck p :: s.out ∧ (t.hp p).turnOff = false ∧
        t.getF (.glbHpSts p) GLB_HP_STS.LTSSM = ltL2 ∧ OnlyRegs s { t with hps := s.hps, out := s.out } [(Reg.glbHpSts p).addr])) ∧
    (s.dlUp p → s.issuedPort p ≠ 0 →
      Answers (.pmeTurnOff p) s (fun t => t.out = s.out ∧ (t.hp p).turnOff = true ∧ t.regs = s.regs))

/-- Function-level reset and configuration requests (R78, R79, R97 to R100), and the host's errors (Table 6 of chapter 3). A
configuration read returns the field; NumVFs is written while VF Enable is 0 and is at most 63.

The model's own choices in it, no rules of the specification: log entries 14, 17, 24 and 79. -/
def Obligations.FunctionsAndErrors : Prop :=
  ∀ (s : State) (p fn : Nat), p < 4 → fn < 64 → s.up → s.present p →
    (s.fnExists p fn → fn ≠ 0 → (∀ i, i < 256 → s.resetCovers p (fun f => decide (fn = 0) || decide (f = fn)) i = false) →
      Answers (.flr p fn) s (fun t => t.func (fKey p fn) = Func.init ∧
        (∀ k, k ≠ fKey p fn → t.func k = s.func k) ∧ t.regs = s.regs ∧ t.claimTimer = s.claimTimer)) ∧
    (s.dlUp p → s.fnExists p fn →
      Answers (.configRequest p fn (.mse true)) s (fun t => (t.func (fKey p fn)) = { s.func (fKey p fn) with mse := true } ∧
        t.regs = s.regs ∧ ∀ k, k ≠ fKey p fn → t.func k = s.func k) ∧
      Answers (.configRequest p fn (.bme true)) s (fun t => (t.func (fKey p fn)) = { s.func (fKey p fn) with bme := true } ∧
        t.regs = s.regs) ∧
      (∀ b, Answers (.configRequest p fn (.captureBus b)) s (fun t =>
        (t.func (fKey p fn)) = { s.func (fKey p fn) with bus := b } ∧ t.regs = s.regs)) ∧
      (∀ x, exec (.configRequest p fn (.read x)) s =
        .next { s with readData := [(s.configVal p fn x).lo, (s.configVal p fn x).hi] })) ∧
    (s.dlUp p → ∀ num, num < 64 → (s.func (fKey p 0)).vfEnable = false →
      Answers (.configRequest p 0 (.vf true num)) s (fun t => (t.func (fKey p 0)).vfEnable ∧ (t.func (fKey p 0)).vfs = num ∧
        (∀ fn, fn < 64 → t.fnExists p fn = decide (fn ≤ num)) ∧ t.regs = s.regs)) ∧
    (s.configVal p 0 .totalVfs = 63 ∧ s.configVal p 0 .deviceId = (if p = s.mgrPort then 0x7122 else 0x7120) ∧
      s.configVal p fn .transactionsPending = BitVec.ofNat 64 (s.issuedFn (fKey p fn) != 0).toNat) ∧
    (s.dlUp p → s.fnExists p fn = false → s.flag (.fltCfg (40 + p)) FLT_CFG.EN = false →
      Answers (.configRequest p fn (.read .vendorId)) s (fun t => .unsupported p 0 ∈ t.out ∧ 20 ∈ (t.func (fKey p 0)).aer ∧
        t.regs = s.regs)) ∧
    (∀ why, s.fnExists p fn → s.flag (.fltCfg (40 + p)) FLT_CFG.EN = false →
      why ≠ UrCause.mseOff ∨ s.barOn p fn = false →
      Answers (.hostRequestUr p fn why) s (fun t => .unsupported p fn ∈ t.out ∧ 20 ∈ (t.func (fKey p fn)).aer ∧
        t.regs = s.regs)) ∧
    (∀ l, s.reaches (.func p fn) l → s.flag (.fltCfg (40 + p)) FLT_CFG.EN = false →
      Answers (.poisonedWrite (.func p fn) l) s (fun t => 12 ∈ (t.func (fKey p fn)).aer ∧ t.regs = s.regs)) ∧
    (Answers (.upstreamErrorDetected p fn .badTlp) s (fun t => 38 ∈ (t.func (fKey p 0)).aer ∧ t.regs = s.regs)) ∧
    (s.flag (.fltCfg (40 + p)) FLT_CFG.EN → s.getF (.fltSts (40 + p)) FLT_STS.STATE = 0 →
      2 ≤ s.getF (.fltCfg (40 + p)) FLT_CFG.N →
      Answers (.upstreamErrorDetected p fn .malformed) s (fun t => 18 ∈ (t.func (fKey p 0)).aer ∧
        t.getF (.fltSts (40 + p)) FLT_STS.COUNT = 1 ∧ t.getF (.fltSts (40 + p)) FLT_STS.STATE = 1))

/-- Translation, bus mastering and MSI-X (R85 to R92): an Invalidate Request drops what it names at once and is answered when
the writes issued with it have left; a pending vector sends one message once nothing holds it back. A read carries the PASID of
its slice's binding (R83).

The model's own choices in it, no rules of the specification: log entries 17 and 26. -/
def Obligations.TranslationAndVectors : Prop :=
  ∀ (s : State) (p fn : Nat), s.up →
    (∀ (pasid : Option Nat) (page pages : Nat) (glob : Bool), s.fnExists p fn →
      Answers (.atsInvalidateRequest p fn pasid page pages glob) s (fun t =>
        t.atc = s.atc.filter (fun a => !(a.hit p fn pasid page pages glob)) ∧
        (s.writes = [] → t.invals = s.invals ++ [(p, fn, [])]) ∧ { t with atc := s.atc, invals := s.invals } = s)) ∧
    (∀ l, s.invals = (p, fn, []) :: l →
      exec (.atsInvalidateCompletion p fn) s = .next { s with invals := l, out := .invalidateDone p fn :: s.out }) ∧
    (∀ tag m l, s.invals = (p, fn, tag :: m) :: l → exec (.atsInvalidateCompletion p fn) s = .next s) ∧
    (∀ vec, (s.func (fKey p fn)).msixEn → (s.vec (vKey p fn vec)).pba → s.vecHeld p fn vec = false →
      Answers (.msixPendingRelease p fn vec) s (fun t => t.out = .msix p fn vec :: s.out ∧
        t.vec (vKey p fn vec) = { s.vec (vKey p fn vec) with pba := false } ∧ t.regs = s.regs)) ∧
    (∀ q, s.reqs = [q] → s.writes = [] → s.canIssue q → s.slFn q.slice = fKey p fn → s.inSram q.slice = false →
      (s.func (fKey p fn)).bme → (s.func (fKey p fn)).d3hot = false → s.ctxs = [] →
      Answers (.busMasterEnableReturn p fn) s (fun t =>
        t.reqs = [{ q with phase := .issued, since := s.now, cto := s.ctoOf (s.slPort q.slice) }] ∧
        t.out = s.readTlp q :: s.out)) ∧
    (∀ (q : HostReq), s.atsOn q.slice = false → (∀ w, q.purpose ≠ .translate w) →
      s.readTlp q = .read (s.slPort q.slice) (s.slFunc q.slice) q.tag
        ⟨s.slPasid q.slice, false, false, (s.func (s.slFn q.slice)).ecrcGen⟩ q.addr q.len)

/-- The manager claim changes only as Table 4 of chapter 3 states, and a command that the table does not list sets `IGN`
(R93 to R95). -/
def Obligations.ManagerClaim : Prop :=
  ∀ (s : State) (q : Requester), s.accepts q .glbMgrClaim →
    (∀ token, s.isMgrFunc q → 0 < token → token < 65536 → s.claim = claimWaiting ∨ s.claim = claimAbandoned →
      Answers (.mgrClaim q token) s (fun t => t.claim = claimHost ∧ t.getF .glbMgrSts GLB_MGR_STS.TOKEN = token ∧
        t.claimTimer = none ∧ OnlyRegs s { t with claimTimer := s.claimTimer } [(Reg.glbMgrSts).addr])) ∧
    (∀ token, s.isMgrFunc q → 0 < token → token < 65536 → s.claim = claimLocal →
      Answers (.mgrClaim q token) s (fun t => t.claim = claimLocal ∧ t.flag .glbMgrSts GLB_MGR_STS.HREQ ∧
        t.getF .glbMgrSts GLB_MGR_STS.TOKEN = token)) ∧
    (∀ token, isPair q = false → s.isMgrFunc q = false ∨ token = 0 ∨ s.claim = claimHost →
      Answers (.mgrClaim q token) s (fun t => t.claim = s.claim ∧ t.flag .glbMgrSts GLB_MGR_STS.IGN ∧
        t.getF .glbMgrSts GLB_MGR_STS.TOKEN = s.getF .glbMgrSts GLB_MGR_STS.TOKEN ∧
        OnlyRegs s t [(Reg.glbMgrSts).addr])) ∧
    (s.isMgrFunc q → s.claim = claimHost →
      Answers (.mgrRelease q (s.getF .glbMgrSts GLB_MGR_STS.TOKEN)) s (fun t => t.claim = claimWaiting ∧
        t.getF .glbMgrSts GLB_MGR_STS.TOKEN = 0 ∧ t.claimTimer = some s.now)) ∧
    (∀ token, isPair q → s.isActive q = false →
      Answers (.mgrClaim q token) s (fun t => t.claim = s.claim ∧ t.flag .glbMgrSts GLB_MGR_STS.IGN ∧
        t.getF .glbMgrSts GLB_MGR_STS.TOKEN = s.getF .glbMgrSts GLB_MGR_STS.TOKEN)) ∧
    (isPair q → s.isActive q → s.claim = claimLocal → s.flag .glbMgrSts GLB_MGR_STS.HREQ →
      Answers (.localRelease q) s (fun t => t.claim = claimHost ∧ t.flag .glbMgrSts GLB_MGR_STS.HREQ = false ∧
        t.getF .glbMgrSts GLB_MGR_STS.TOKEN = s.getF .glbMgrSts GLB_MGR_STS.TOKEN) ∧
      Answers (.localDecline q) s (fun t => t.claim = claimLocal ∧ t.flag .glbMgrSts GLB_MGR_STS.HREQ = false ∧
        t.getF .glbMgrSts GLB_MGR_STS.TOKEN = 0)) ∧
    (isPair q → s.isActive q → s.flag .glbMgrSts GLB_MGR_STS.HREQ = false →
      Answers (.localRelease q) s (fun t => t.flag .glbMgrSts GLB_MGR_STS.IGN ∧ t.claim = s.claim) ∧
      Answers (.localDecline q) s (fun t => t.flag .glbMgrSts GLB_MGR_STS.IGN ∧ t.claim = s.claim)) ∧
    (∀ t0, s.claim = claimWaiting ∨ s.claim = claimAbandoned → s.claimTimer = some t0 →
      t0 + s.getF .glbMgrTmo GLB_MGR_TMO.TIMEOUT * 250000 ≤ s.now →
      Answers .claimTimerExpiry s (fun t => t.claim = claimLocal ∧ t.claimTimer = none ∧ t.irqPend 300)) ∧
    (∀ v : Word32, s.accepts q .glbMgrTmo →
      Answers (.mgrTmoWrite q v) s (fun t =>
        t.getF .glbMgrTmo GLB_MGR_TMO.TIMEOUT = GLB_MGR_TMO.TIMEOUT.get (v.setWidth 64) ∧
        OnlyRegs s t [(Reg.glbMgrTmo).addr]))

/-- Binding and quotas (R103, R106, R107, R110, R112): an accepted write changes the slice's block alone and leaves the
effective value to the tick; a refused one leaves it and sets `REJ`. -/
def Obligations.BindingAndQuotas : Prop :=
  ∀ (s : State) (q : Requester) (i : Nat), 0 < i → i < 256 → s.accepts q (.slcBind i) →
    (∀ v : Word32, s.bound i = false → SLC_BIND.VALID.get (v.setWidth 64) ≠ 0 → s.bindRefused i (v.setWidth 64) = false →
      Answers (.slcBindWrite q i v) s (fun t => t.flag (.slcBind i) SLC_BIND.VALID ∧
        t.getF (.slcBind i) SLC_BIND.PORT = SLC_BIND.PORT.get (v.setWidth 64) ∧
        t.getF (.slcBind i) SLC_BIND.FUNC = SLC_BIND.FUNC.get (v.setWidth 64) ∧
        t.getF (.slcBind i) SLC_BIND.PASID = SLC_BIND.PASID.get (v.setWidth 64) ∧
        t.flag (.slcCsr i) SLC_CSR.ACTIVE = s.flag (.slcCsr i) SLC_CSR.ACTIVE ∧
        OnlyRegs s t [(Reg.slcBind i).addr])) ∧
    (∀ v : Word32, s.bound i → Answers (.slcBindWrite q i v) s (fun t => t.flag (.slcCsr i) SLC_CSR.REJ ∧
      OnlyRegs s t [(Reg.slcCsr i).addr])) ∧
    (∀ v : Word32, s.bound i = false → SLC_BIND.VALID.get (v.setWidth 64) ≠ 0 →
      s.present (SLC_BIND.PORT.get (v.setWidth 64)) = false →
      Answers (.slcBindWrite q i v) s (fun t => t.flag (.slcCsr i) SLC_CSR.REJ ∧ t.bound i = false ∧
        OnlyRegs s t [(Reg.slcCsr i).addr])) ∧
    (∀ v : Word64, s.accepts q (.slcQmem i) →
      s.sumOthers i .slcQmem SLC_QMEM.CTX + SLC_QMEM.CTX.get v ≤ 16384 →
      s.sumOthers i .slcQmem SLC_QMEM.LB + SLC_QMEM.LB.get v ≤ 4096 - s.getF .portGpool PORT_GPOOL.SIZE →
      Answers (.slcQuotaWrite q i .qmem v) s (fun t =>
        t.getF (.slcQmem i) SLC_QMEM.CTX = SLC_QMEM.CTX.get v ∧ t.getF (.slcQmem i) SLC_QMEM.LB = SLC_QMEM.LB.get v ∧
        t.rdE (.slcQmem i) = s.rdE (.slcQmem i) ∧ OnlyRegs s t [(Reg.slcQmem i).addr])) ∧
    (∀ v : Word64, s.accepts q (.slcQmem i) → 16384 < s.sumOthers i .slcQmem SLC_QMEM.CTX + SLC_QMEM.CTX.get v →
      Answers (.slcQuotaWrite q i .qmem v) s (fun t => t.flag (.slcCsr i) SLC_CSR.REJ ∧
        OnlyRegs s t [(Reg.slcCsr i).addr]))

/-- Fence, reset and unbind of a slice (R105, R131 to R133). A fence keeps the first cause; an item that waits for host
memory keeps SLICE_FENCED until its boundary; a reset abandons reads and discards unsent writes; what a fence
does to further items is shown where the slice has none.

The model's own choices in it, no rules of the specification: log entry 28. -/
def Obligations.SliceFenceAndReset : Prop :=
  ∀ (s : State) (q : Requester) (i : Nat), 0 < i → i < 256 → s.accepts q (.slcCsr i) →
    let idle := s.ctxsOf i (fun x => x.act == .other) = [] ∧ s.ctxsOf i Ctx.going = []
    (idle → s.inReset i = false → s.fenced i = false → s.cycle.joins = [] →
      Answers (.slcFence q i) s (fun t => t.fenced i ∧ t.getF (.slcCsr i) SLC_CSR.FCAUSE = 2 ∧
        (∀ r, r < 64 → (t.ring (rKey i r)).scanning = false) ∧ t.ctxs = s.ctxs)) ∧
    (idle → s.inReset i = false → s.fenced i →
      Answers (.slcFence q i) s (fun t => t.fenced i ∧
        t.getF (.slcCsr i) SLC_CSR.FCAUSE = s.getF (.slcCsr i) SLC_CSR.FCAUSE)) ∧
    (∀ c d a, s.inReset i = false → s.ctxsOf i (fun x => x.act == .other) = [] → s.ctxsOf i Ctx.going = [c] →
      (s.ctx c).act = .parked (.hld d a) → (s.ctx c).going →
      Answers (.slcFence q i) s (fun t => t.fenced i ∧
        t.ctx c = { s.ctx c with endCode := some (endMin (s.ctx c).endCode stSliceFenced) })) ∧
    (s.inReset i → exec (.slcFence q i) s = .next s) ∧
    (s.inReset i → exec (.slcReset q i) s = .next s) ∧
    (s.inReset i = false →
      Answers (.slcReset q i) s (fun t => t.inReset i ∧ (∀ w ∈ t.writes, w.slice ≠ i) ∧ (∀ r ∈ t.reqs, r.slice ≠ i)) ∧
      Answers (.slcUnbind q i) s (fun t => t.inReset i ∧ i ∈ t.unbind) ∧
      (s.accepts q (.slCsr i) → Answers (.slCsrReset q i) s (fun t => t.inReset i))) ∧
    (s.inReset i → i ∉ s.releasing → s.ctxsOf i Ctx.live = [] →
      (∀ k m, (k, m) ∈ s.sems → ∀ c, m.owner = some c → (s.ctx c).slice ≠ i) →
      Answers (.sliceResetComplete i) s (fun t => t.inReset i = false ∧ t.fenced i = false ∧
        t.getF (.slcCsr i) SLC_CSR.FCAUSE = 0 ∧ t.rd (.ringCtl i 0) = (Reg.ringCtl i 0).resetVal ∧
        t.rd (.mbxCsr i) = (Reg.mbxCsr i).resetVal ∧ t.flag (.mbxRst (i / 32)) ⟨i % 32, i % 32⟩)) ∧
    (s.accepts q (.slcCsr 0) → Answers (.slcFence q 0) s (fun t => t.flag (.slcCsr 0) SLC_CSR.REJ ∧
      OnlyRegs s t [(Reg.slcCsr 0).addr]))

/-- Assignment commands (R114 to R118, Table 6 of chapter 4): a command whose checks pass changes the pending table and
sets `BUSY`; its end clears `BUSY`, shows the result and leaves the change to the tick.

The model's own choices in it, no rules of the specification: log entries 18 and 32. -/
def Obligations.AssignmentCommands : Prop :=
  ∀ (s : State) (q : Requester), s.accepts q .slcEpaCs → s.flag .slcEpaCs SLC_EPA_CS.BUSY = false →
    let k := s.epaKey
    (defKey k = false → s.bound (k / 65536) →
      (s.epaCfg.mode ≠ 3 → s.assignCode k s.epaCfg = 0 →
        Answers (.epaAssign q) s (fun t => t.flag .slcEpaCs SLC_EPA_CS.BUSY ∧ t.atp k = s.epaCfg ∧
          (∀ j, j ≠ k → t.atp j = s.atp j) ∧ t.att = s.att ∧ t.epaCmd = some (0, some (.assign k s.epaCfg)))) ∧
      ((s.atp k).live →
        Answers (.epaUnassign q) s (fun t => t.flag .slcEpaCs SLC_EPA_CS.BUSY ∧ t.atp k = AttCfg.empty ∧ t.att = s.att ∧
          t.epaCmd = some (0, some (.unassign k))) ∧
        Answers (.epaUpdate q) s (fun t => t.flag .slcEpaCs SLC_EPA_CS.BUSY ∧ t.atp k = (s.atp k).upd s.epaCfg ∧
          t.att = s.att ∧ t.epaCmd = some (0, some (.update k s.epaCfg))) ∧
        Answers (.epaSecRevoke q) s (fun t => t.flag .slcEpaCs SLC_EPA_CS.BUSY ∧ t.attP = s.attP ∧ t.att = s.att ∧
          t.epaCmd = some (0, some (.secEnd k true)))) ∧
      (s.retargetCode k s.epaCfg.ep = 0 →
        Answers (.epaRetarget q) s (fun t => t.flag .slcEpaCs SLC_EPA_CS.BUSY ∧ (t.atp k).ep = s.epaCfg.ep ∧
          (t.atp k).mode = (s.atp k).mode ∧ t.att = s.att ∧ t.epaCmd = some (0, some (.retarget k s.epaCfg.ep)))) ∧
      ((s.atp k).live = false →
        Answers (.epaUnassign q) s (fun t => t.attP = s.attP ∧ t.epaCmd = some (4, none)) ∧
        Answers (.epaUpdate q) s (fun t => t.attP = s.attP ∧ t.epaCmd = some (4, none)))) ∧
    (∀ code, 6 ≤ code → code < 16 →
      Answers (.epaBadCommand q code) s (fun t => t.flag .slcEpaCs SLC_EPA_CS.BUSY ∧ t.attP = s.attP ∧
        t.epaCmd = some (13, none))) ∧
    (∀ r o, r < 256 → s.epaCmd = some (r, o) →
      Answers .epaCommandDone s (fun t => t.flag .slcEpaCs SLC_EPA_CS.BUSY = false ∧
        t.getF .slcEpaCs SLC_EPA_CS.RESULT = r % 2 ^ SLC_EPA_CS.RESULT.width ∧ t.epaCmd = none ∧
        t.epaOps = s.epaOps ++ o.toList ∧ OnlyRegs s { t with epaCmd := s.epaCmd, epaOps := s.epaOps }
          [(Reg.slcEpaCs).addr]))

/-- Operations of the handle view (R119): the handle is selected and the operation waits for the tick; on an unassigned
handle, and while the slice is fenced or in reset, nothing waits.

The model's own choices in it, no rules of the specification: log entry 32. -/
def Obligations.HandleView : Prop :=
  ∀ (s : State) (q : Requester) (i h : Nat), i < 256 → h < 65536 → s.accepts q (.epvCsr i) →
    ((s.atE (hKey i h)).cfg.live → s.fenced i = false → s.inReset i = false →
      let done (t : State) (o : EpaOp) : Prop := t.epaOps = s.epaOps ++ [o] ∧ t.getF (epvSel q i) EPV_CSR.HANDLE = h ∧
        OnlyRegs s { t with epaOps := s.epaOps } [(epvSel q i).addr]
      Answers (.gsafeSet q i h) s (fun t => done t (.gsafe (hKey i h) true)) ∧
      Answers (.gsafeClr q i h) s (fun t => done t (.gsafe (hKey i h) false)) ∧
      Answers (.secClaim q i h) s (fun t => done t (.secClaim (hKey i h))) ∧
      Answers (.secRelease q i h) s (fun t => done t (.secEnd (hKey i h) false)) ∧
      Answers (.lostClr q i h) s (fun t => done t (.lostClr (hKey i h)))) ∧
    ((s.atE (hKey i h)).cfg.live = false →
      Answers (.gsafeSet q i h) s (fun t => t.epaOps = s.epaOps ∧ t.getF (epvSel q i) EPV_CSR.HANDLE = h) ∧
      Answers (.secClaim q i h) s (fun t => t.epaOps = s.epaOps ∧ t.getF (epvSel q i) EPV_CSR.HANDLE = h))

/-- Mailboxes (R128): the four doorbells and acknowledgements of Table 9's message passing. -/
def Obligations.Mailboxes : Prop :=
  ∀ (s : State) (q : Requester) (i : Nat), 0 < i → i < 256 →
    (s.accepts q (.mbxCsr i) → s.flag (.mbxCsr i) MBX_CSR.OUT_BUSY = false →
      Answers (.mbxSliceDb q i) s (fun t => t.flag (.mbxCsr i) MBX_CSR.OUT_BUSY ∧ t.irqPend i ∧
        t.flag (.mbxCsr i) MBX_CSR.OVR = s.flag (.mbxCsr i) MBX_CSR.OVR)) ∧
    (s.accepts q (.mbxCsr i) → s.flag (.mbxCsr i) MBX_CSR.OUT_BUSY →
      Answers (.mbxSliceDb q i) s (fun t => t.flag (.mbxCsr i) MBX_CSR.OUT_BUSY ∧ t.flag (.mbxCsr i) MBX_CSR.OVR ∧
        OnlyRegs s t [(Reg.mbxCsr i).addr])) ∧
    (s.accepts q (.mbxCsr i) → s.flag (.mbxCsr i) MBX_CSR.IN_FULL →
      Answers (.mbxInAck q i) s (fun t => t.flag (.mbxCsr i) MBX_CSR.IN_FULL = false ∧
        t.flag (.mbxCsr i) MBX_CSR.OUT_BUSY = s.flag (.mbxCsr i) MBX_CSR.OUT_BUSY ∧ OnlyRegs s t [(Reg.mbxCsr i).addr])) ∧
    (s.accepts q (.mbxSCsr i) → s.flag (.mbxCsr i) MBX_CSR.IN_FULL = false →
      Answers (.mbxMgrDb q i) s (fun t => t.flag (.mbxCsr i) MBX_CSR.IN_FULL ∧ t.flag (.mbxCsr i) MBX_CSR.IN_NEW)) ∧
    (s.accepts q (.mbxSCsr i) → s.flag (.mbxCsr i) MBX_CSR.IN_FULL → exec (.mbxMgrDb q i) s = .next s) ∧
    (s.accepts q (.mbxSCsr i) → s.flag (.mbxCsr i) MBX_CSR.OUT_BUSY →
      Answers (.mbxMgrAck q i) s (fun t => t.flag (.mbxCsr i) MBX_CSR.OUT_BUSY = false ∧
        t.flag (.mbxCsr i) MBX_CSR.OUT_DONE)) ∧
    (s.accepts q (.mbxSCsr i) → s.flag (.mbxCsr i) MBX_CSR.OUT_BUSY = false → exec (.mbxMgrAck q i) s = .next s)

/-- The entries of a ring as they are taken (R140): what each brings about when nothing stands before it. A ROM program whose
arguments are out of range, a reserved one, and HUB_PORT on a device at tier 7 end without running (R45, R188).

Malformed entries (R154, R155): the scanner takes nothing, and the slice, if it is not slice 0, is fenced with FCAUSE 1.
Shown on slices without items. -/
def Obligations.RingEntries : Prop :=
  (∀ (s : State) (i r : Nat) (e : Entry) (q : HostReq) (c : Nat), s.takesEntry i r e q c →
    let a := s.attCfg i e.handle
    (e.opcode = 2 → Answers (.entryNop i r e) s (fun t => s.tookEntry t i r e (fun x =>
      x.result = some ⟨stOk, 0, 0, s.clk.toNat⟩ ∧ x.ctx = none) ∧ (t.ctx c).act = .free)) ∧
    (e.opcode = 3 → Answers (.entryFence i r e) s (fun t => s.tookEntry t i r e (fun x =>
      x.result = some ⟨stOk, 0, 0, s.clk.toNat⟩))) ∧
    (e.opcode = 4 → Answers (.entryAbort i r e) s (fun t => s.tookEntry t i r e (fun x =>
      x.result = some ⟨stOk, 0, 0, s.clk.toNat⟩))) ∧
    (e.opcode = 5 → s.reserveOk i e.handle → a.live → a.detached = false →
      Answers (.entryReserve i r e) s (fun t => s.tookEntry t i r e (fun x => x.result = none ∧ x.ctx = some c) ∧
        t.deciding = s.deciding ++ [c])) ∧
    (e.opcode = 5 → a.live = false → Answers (.entryReserve i r e) s (fun t => s.tookEntry t i r e (fun x =>
      ∃ n, x.result = some ⟨stAborted, 0, n, s.clk.toNat⟩) ∧ t.deciding = s.deciding)) ∧
    (e.opcode = 6 → a.live → a.detached = false → Answers (.entryRelease i r e) s (fun t =>
      s.tookEntry t i r e (fun x => ∃ n, x.result = some ⟨stOk, 0, n, s.clk.toNat⟩) ∧
      (t.rsvP (hKey i e.handle)).live = false)) ∧
    (e.opcode = 1 → a.live → a.detached = false → s.romStart i e.handle e.prog e.args = none →
      s.token (hKey i e.handle) = Token.free →
      Answers (.entryInvoke i r e) s (fun t => s.tookEntry t i r e (fun x => x.result = none ∧ x.ctx = some c) ∧
        t.resumed c ∧ (t.ctx c).prog = e.prog ∧ (t.ctx c).g = e.args ∧ (t.ctx c).args = argsOf e.handle e.args ∧
        (t.ctx c).ep = e.handle ∧ (t.ctx c).pc = 0 ∧
        (t.ctx c).fuel = s.fuelOf i e.prog ∧ (t.ctx c).cur = some e.handle)) ∧
    (e.opcode = 1 → a.live = false → Answers (.entryInvoke i r e) s (fun t =>
      s.tookEntry t i r e (fun x => x.result = some ⟨stAborted, 0, 0, s.clk.toNat⟩))) ∧
    (∀ k, e.opcode = 1 → a.live → a.detached = false → s.romStart i e.handle e.prog e.args = some k →
      Answers (.entryInvoke i r e) s (fun t => s.tookEntry t i r e (fun x => x.result = some ⟨k, 0, 0, s.clk.toNat⟩))) ∧
    (Answers (.entryFetchComplete i r [{ e with ctx := c }]) s (fun t =>
      s.tookEntry t i r e (fun _ => True) ∧ t.getF (.ringSts i r) RING_STS.SCAN =
        (if s.getF (.ringSts i r) RING_STS.SCAN + 1 = s.ringN i r then 0
         else (s.getF (.ringSts i r) RING_STS.SCAN + 1) % 65536)))) ∧
  (∀ (s : State) (i r : Nat) (e : Entry) (q : HostReq) (l : List Entry), s.up → 0 < i → i < 256 → r < 64 →
    s.fetchOf i r = some q → s.reqs = [q] → 64 ≤ q.len → (s.ring (rKey i r)).scanning → (s.ring (rKey i r)).taken = [] →
    s.scanOk i r → s.scanRoom i r → e.phase = ((s.ring (rKey i r)).lap + 1) % 2 → s.validate i e ≠ 0 →
    s.ctxsOf i (fun x => x.act == .other) = [] → s.ctxsOf i Ctx.going = [] →
    Answers (.entryFetchComplete i r (e :: l)) s (fun t => t.fenced i ∧ t.getF (.slcCsr i) SLC_CSR.FCAUSE = 1 ∧
      t.flag (.ringSts i r) RING_STS.MAL ∧ t.getF (.ringSts i r) RING_STS.MCAUSE = s.validate i e ∧
      t.getF (.ringSts i r) RING_STS.SCAN = s.getF (.ringSts i r) RING_STS.SCAN ∧
      (t.ring (rKey i r)).scanning = false ∧
      s.tookEntry t i r e (fun x => x.mal ∧ x.result = some ⟨stMalformed, 0, 0, s.clk.toNat⟩)))

/-- The scanner and its doorbells (R144, R145): a doorbell starts a scan with a read of up to 8 entries, or is remembered; on a
ring that is not enabled, and on a fenced slice, it is ignored; a scan that ended for want of room goes on. The read keeps to
Max Read Request Size and a 4 KiB page (R83). -/
def Obligations.DoorbellsAndScans : Prop :=
  ∀ (s : State) (q : Requester) (i r : Nat), i < 256 → r < 64 →
    let g := s.ring (rKey i r)
    let k := s.getF (.ringSts i r) RING_STS.SCAN
    let a := (s.rd (.ringBase i r)).toNat + 64 * k
    let n := min (min 8 (s.ringN i r - k)) (max 1 (s.readMax i a / 64))
    let fetches (t : State) : Prop := (t.ring (rKey i r)).scanning ∧ (t.ring (rKey i r)).rescan = false ∧
      ∃ w, t.reqs = s.reqs ++ [w] ∧ w.slice = i ∧ w.addr = a ∧ w.len = 64 * n ∧ w.purpose = .ringFetch r ∧ w.tag = s.tag
    (s.opens q (.page i (dbOff r)) → s.scanOk i r → s.scanRoom i r → g.scanning = false → s.hostOk i a (64 * n) →
      s.atsOn i = false → s.reqs = [] → s.writes = [] → Answers (.doorbell q i r) s fetches) ∧
    (s.opens q (.page i (dbOff r)) → s.scanOk i r → g.scanning →
      Answers (.doorbell q i r) s (fun t => t.ring (rKey i r) = { g with rescan := true } ∧
        { t with rings := s.rings } = s)) ∧
    (s.opens q (.page i (dbOff r)) → s.flag (.ringCtl i r) RING_CTL.EN = false ∨ s.fenced i →
      exec (.doorbell q i r) s = .next s) ∧
    (s.up → g.blocked → g.scanning = false → s.scanOk i r → s.scanRoom i r → s.hostOk i a (64 * n) → s.atsOn i = false →
      s.reqs = [] → s.writes = [] → Answers (.scanResume i r) s fetches)

/-- Ring control (R136 to R138, R157): an accepted enable starts at index 0 of lap 0; a refused one sets `ENREJ`; shutdown;
a change of `IE` clears the pending count and stops the timer; the timer's expiry is an interrupt event.

The model's own choices in it, no rules of the specification: log entries 33 and 34. -/
def Obligations.RingControl : Prop :=
  ∀ (s : State) (q : Requester) (i r : Nat), i < 256 → r < 64 → s.accepts q (.ringCtl i r) →
    (∀ v : Word32, s.ringOpen i r → RING_CTL.IE.get (v.setWidth 64) = s.getF (.ringCtl i r) RING_CTL.IE →
      RING_CTL.SIZE.get (v.setWidth 64) = s.getF (.ringCtl i r) RING_CTL.SIZE →
      RING_CTL.VEC.get (v.setWidth 64) = s.getF (.ringCtl i r) RING_CTL.VEC → s.enRefused i r = false →
      Answers (.ringEnable q i r v) s (fun t => t.flag (.ringCtl i r) RING_CTL.EN ∧ t.rd (.ringDone i r) = 0 ∧
        t.getF (.ringSts i r) RING_STS.SCAN = 0 ∧ t.flag (.ringSts i r) RING_STS.IDLE = false ∧
        (t.ring (rKey i r)).lap = 0 ∧ (t.ring (rKey i r)).taken = [] ∧
        KeepsRegs s t [(Reg.ringCtl i r).addr, (Reg.ringDone i r).addr, (Reg.ringSts i r).addr])) ∧
    (∀ v : Word32, s.ringOpen i r → RING_CTL.SIZE.get (v.setWidth 64) < 4 →
      Answers (.ringEnable q i r v) s (fun t => t.flag (.ringCtl i r) RING_CTL.EN = false ∧
        t.flag (.ringSts i r) RING_STS.ENREJ)) ∧
    (s.flag (.ringCtl i r) RING_CTL.EN →
      Answers (.ringShutdown q i r) s (fun t => t.flag (.ringCtl i r) RING_CTL.EN = false ∧
        (t.ring (rKey i r)).scanning = false ∧ (t.ring (rKey i r)).taken = (s.ring (rKey i r)).taken ∧
        ((s.ring (rKey i r)).taken = [] → (s.ring (rKey i r)).timer = false → t.flag (.ringSts i r) RING_STS.IDLE) ∧
        KeepsRegs s t [(Reg.ringCtl i r).addr, (Reg.ringSts i r).addr])) ∧
    (Answers (.ringIeChange q i r) s (fun t =>
      t.getF (.ringCtl i r) RING_CTL.IE = 1 - s.getF (.ringCtl i r) RING_CTL.IE ∧ (t.ring (rKey i r)).pend = 0 ∧
      (t.ring (rKey i r)).timer = false ∧ (t.ring (rKey i r)).taken = (s.ring (rKey i r)).taken ∧
      KeepsRegs s t [(Reg.ringCtl i r).addr, (Reg.ringSts i r).addr])) ∧
    ((s.ring (rKey i r)).timer → ¬ (i = 0 ∧ s.isLocal) →
      Answers (.moderationTimerExpiry i r) s (fun t => (t.ring (rKey i r)).pend = 0 ∧
        (t.ring (rKey i r)).timer = false ∧ t = ((s.modClear i r).ringIrq i r).ringIdle i r))

/-- Publication (R38, R146, R147, R148, R153): the one finished entry of a ring is published as its status area and, after
it, the done head, both with Relaxed Ordering clear; `RING_DONE` takes the value written; a ring that is shut down is then
idle, and loses `EN` where the 7120 has shut it down (R113, R157, R158); nothing is published while an earlier entry is
unfinished, its data has not left, or a write issued before for the same function has not left (R38).

The model's own choices in it, no rules of the specification: log entries 34 and 74. -/
def Obligations.Publication : Prop :=
  ∀ (s : State) (i r : Nat) (x : Taken) (v : Result), i < 256 → r < 64 → s.up → s.inSram i = false →
    s.mayIssue i → s.frozen i = false → s.inReset i = false → s.flag .fltHold FLT_HOLD.HALT = false →
    s.atsOn i = false → 8 ≤ (s.func (s.slFn i)).mps → (s.ring (rKey i r)).stopped = false →
    s.flag (.ringTsa i r) RING_TSA.TSE = false → s.hostOk i (s.stAddr i r x.idx) 8 → s.hostOk i (s.dhAddr i r) 8 →
    s.stAddr i r x.idx % 8 = 0 → s.dhAddr i r % 8 = 0 → s.wroteNow (.ringCtl i r) = false →
    let p := x.pos (s.ringN i r) + 1
    let head := p / s.ringN i r * 65536 + p % s.ringN i r
    let put (a : Nat) (n : Nat) : Output := .write (s.slPort i) (s.slFunc i) ⟨s.slPasid i, false, false, (s.func (s.slFn i)).ecrcGen⟩ a
      (leBytes 8 n)
    ((s.ring (rKey i r)).taken = [x] → x.result = some v → s.itemWrites i r x.idx x.lap = false → s.fnClear i →
      s.flag (.ringCtl i r) RING_CTL.IE = false →
      Answers (.workItemFinish i r) s (fun t =>
        t.out = put (s.dhAddr i r) head :: put (s.stAddr i r x.idx) (statusWord x.lap v) :: s.out ∧
        t.rd (.ringDone i r) = BitVec.ofNat 64 head ∧ (t.ring (rKey i r)).taken = [] ∧
        (t.ring (rKey i r)).pend = (s.ring (rKey i r)).pend + 1 ∧
        (s.ringOn i r → KeepsRegs s t [(Reg.ringDone i r).addr]) ∧
        (s.ringOn i r = false → (s.ring (rKey i r)).timer = false → t.flag (.ringSts i r) RING_STS.IDLE ∧
          ((s.ring (rKey i r)).shut → t.flag (.ringCtl i r) RING_CTL.EN = false)))) ∧
    ((s.ring (rKey i r)).taken = [x] → x.result = none → exec (.workItemFinish i r) s = .next s) ∧
    ((s.ring (rKey i r)).taken = [x] → x.result = some v → s.itemWrites i r x.idx x.lap ∨ s.fnClear i = false →
      exec (.workItemFinish i r) s = .next s)

/-- Loading programs (R170 to R172): a command is accepted while none runs, and ends with its result; a program whose checks
pass stands in the Library; a program without activations is removed by its UNLOAD.

The model's own choices in it, no rules of the specification: log entry 35. -/
def Obligations.ProgramLoading : Prop :=
  ∀ (s : State) (q : Requester) (sl id : Nat), sl < 256 → id < 64 →
    (s.accepts q .dspLdCtl → s.ldBusy = false →
      Answers (.dspLoad q sl id) s (fun t => t.ldBusy ∧ t.ldCmd = some (1, sl, id) ∧ t.progs = s.progs) ∧
      Answers (.dspUnload q sl id) s (fun t => t.ldBusy ∧ t.ldCmd = some (2, sl, id) ∧ t.progs = s.progs) ∧
      (∀ code, 3 ≤ code → code < 16 → Answers (.dspLdBadCommand q code) s (fun t => t.ldBusy = false ∧
        t.getF .dspLdSts DSP_LD_STS.RESULT = 0x0E ∧ t.irqPend 311 ∧ t.progs = s.progs))) ∧
    (s.accepts q .dspLdCtl → s.ldBusy → exec (.dspLoad q sl id) s = .next s ∧ exec (.dspUnload q sl id) s = .next s) ∧
    (∀ ws blocks, s.up → s.inSram 0 = false → s.ldCmd = some (1, sl, id) → s.reqs = [] → s.loadResult sl id (some ws) = (0, 0) →
      Answers (.loadComplete (some ws) blocks) s (fun t => t.ldBusy = false ∧ t.ldCmd = none ∧ t.irqPend 311 ∧
        t.getF .dspLdSts DSP_LD_STS.RESULT = 0 ∧ (t.prog (sl * 64 + id)).live ∧
        (t.prog (sl * 64 + id)).head = ws.take 4 ∧
        (t.prog (sl * 64 + id)).words = (ws.drop 4).take (imageCount ws) ∧ (t.prog (sl * 64 + id)).fuel = imageFuel ws ∧
        ∀ k, k ≠ sl * 64 + id → t.prog k = s.prog k)) ∧
    (∀ ws blocks k n, s.up → s.inSram 0 = false → s.ldCmd = some (1, sl, id) → s.reqs = [] →
      s.loadResult sl id (some ws) = (k, n) → 6 ≤ k → k < 16 → n < 2 ^ 14 →
      Answers (.loadComplete (some ws) blocks) s (fun t => t.ldBusy = false ∧ t.getF .dspLdSts DSP_LD_STS.RESULT = k ∧
        t.getF .dspLdSts DSP_LD_STS.DETAIL = n ∧ t.progs = s.progs)) ∧
    (s.up → s.ldCmd = some (2, sl, id) → s.bound sl → (s.prog (sl * 64 + id)).live →
      (s.prog (sl * 64 + id)).unloading = false → s.ctxs = [] →
      Answers .unloadComplete s (fun t => t.ldBusy = false ∧ t.getF .dspLdSts DSP_LD_STS.RESULT = 0 ∧
        t.prog (sl * 64 + id) = Prog.empty ∧ ∀ k, k ≠ sl * 64 + id → t.prog k = s.prog k))

/-- Admission, builds and reinstatement (R140, R287, R288, R290, R291, R294): a RESERVE that fits is booked at its phase and
completes with OK; one that does not completes with BANDWIDTH and leaves the old reservation; a builder that
finishes has written the lines of its five ports.

The model's own choices in it, no rules of the specification: log entry 61. -/
def Obligations.BoardCommands : Prop :=
  (∀ (s : State) (j c p : Nat) (y : Taken),
    let x := s.ctx c
    let k := hKey x.slice x.ep
    let v : Resv := ⟨true, (s.attCfg x.slice x.ep).ep, (x.reg 1).toNat, (x.reg 2).toNat, 0,
      if (s.rsvP k).live then ((s.rsvP k).gen + 1) % 256 else 0⟩
    s.up → s.pairOn j → s.deciding = [c] → s.pairOf c = j → (s.ring (rKey x.slice x.ring)).taken = [y] →
    y.ctx = some c → y.result = none → x.prog = 64 → s.admitAt k v = some p →
    Answers (.reserveDecision j) s (fun t => t.rsvP k = { v with phase := p } ∧ t.resvE = s.resvE ∧ t.deciding = [] ∧
      (t.ring (rKey x.slice x.ring)).taken =
        [{ y with ctx := none, result := some ⟨stOk, 0, min v.bytes 0xFFFFFFFF, s.clk.toNat⟩ }])) ∧
  (∀ (s : State) (j c : Nat) (y : Taken),
    let x := s.ctx c
    let k := hKey x.slice x.ep
    let v : Resv := ⟨true, (s.attCfg x.slice x.ep).ep, (x.reg 1).toNat, (x.reg 2).toNat, 0,
      if (s.rsvP k).live then ((s.rsvP k).gen + 1) % 256 else 0⟩
    s.up → s.pairOn j → s.deciding = [c] → s.pairOf c = j → (s.ring (rKey x.slice x.ring)).taken = [y] →
    y.ctx = some c → y.result = none → x.prog = 64 → s.admitAt k v = none →
    Answers (.reserveDecision j) s (fun t => t.resvP = s.resvP ∧ t.deciding = [] ∧
      (t.ring (rKey x.slice x.ring)).taken =
        [{ y with ctx := none, result := some ⟨stBandwidth, 0, min (s.reservedNow k) 0xFFFFFFFF, s.clk.toNat⟩ }])) ∧
  (∀ (s : State) (pl n : Nat), pl < 8 → 5 * (pl / 2) ≤ n → n < 5 * (pl / 2) + 5 → s.up → (s.plan (pl / 2)).going →
    s.pairOn (pl / 2) → s.builder pl → (s.plan (pl / 2)).built = false →
    Answers (.boardBuildDone pl true) s (fun t => t.plan (pl / 2) = { s.plan (pl / 2) with built := true } ∧
      t.bline (lineKey (s.aon.clockCount + 2) n 0) = s.build20 n (s.aon.clockCount + 2) ∧
      (n < 16 → t.bline (lineKey (s.aon.clockCount + 2) n 1) = s.buildSS n (s.aon.clockCount + 2) false ∧
        t.bline (lineKey (s.aon.clockCount + 2) n 2) = s.buildSS n (s.aon.clockCount + 2) true) ∧
      { t with board := s.board, planners := s.planners } = s)) ∧
  (∀ (s : State) (pl : Nat) (equal : Bool), pl < 8 → s.up → (s.plan (pl / 2)).going → s.pairOn (pl / 2) →
    s.builder pl = false → s.checker pl → (s.plan (pl / 2)).joined → (s.plan (pl / 2)).checked = false →
    (s.plan (pl / 2)).swap = false →
    Answers (.boardBuildDone pl equal) s (fun t =>
      t.plan (pl / 2) = { s.plan (pl / 2) with checked := true, equal := equal } ∧ { t with planners := s.planners } = s)) ∧
  (∀ (s : State) (q : Requester) (j : Nat), j < 4 → s.accepts q .plnCtl → 2 ≤ s.role j →
    Answers (.plnReinstate q j) s (fun t => t.plan j = { s.plan j with rejoin := true } ∧
      { t with planners := s.planners } = s)) ∧
  (∀ (s : State) (q : Requester) (j : Nat), j < 4 → s.accepts q .plnCtl → s.role j < 2 →
    exec (.plnReinstate q j) s = .next s)

/-- Key slots (R360, R363): a LOAD copies the eight staged words and ends with the slot valid, its generation one higher and
its sequence counter 0; an ERASE empties the slot at once.

SEAL and the operations of the seal unit (R226, R361, R365): the instruction parks with its operation queued; a bad block
is refused with C = 1; an open whose tag does not match has been performed, and leaves `st`; an operation starts with a copy of its slot and reads its source; once all it reads is there it makes
its output, and it ends when that has been issued (R364), sealing with the tag in the pad.

The model's own choices in it, no rules of the specification: log entries 11, 44 and 47. -/
def Obligations.KeysAndSeal : Prop :=
  (∀ (s : State) (q : Requester) (k use : Nat), k < 32 → use < 8 → s.accepts q .sealKeyCtl →
    (s.flag .sealKeySts SEAL_KEY_STS.BUSY = false →
      (∀ key, s.staged8 = some key →
        Answers (.sealKeyLoad q k use) s (fun t => t.flag .sealKeySts SEAL_KEY_STS.BUSY ∧
          t.keyCmd = some (1, k, use, key) ∧ t.stage = [] ∧ OnlyRegs s { t with keyCmd := s.keyCmd, stage := s.stage }
            [(Reg.sealKeySts).addr])) ∧
      (s.staged8 = none → Answers (.sealKeyLoad q k use) s (fun t => t.getF .sealKeySts SEAL_KEY_STS.RESULT = 1 ∧
        t.flag .sealKeySts SEAL_KEY_STS.BUSY = false ∧ t.irqPend 312 ∧ t.keys = s.keys)) ∧
      (s.claimsUnder k = [] → (∀ o ∈ s.sealOps, o.holds k = false) →
        Answers (.sealKeyErase q k) s (fun t => t.flag .sealKeySts SEAL_KEY_STS.BUSY ∧
          t.flag (.sealSlot k) SEAL_SLOT.VALID = false ∧ t.keyOf k = [] ∧
          t.getF (.sealSlot k) SEAL_SLOT.GEN = (s.getF (.sealSlot k) SEAL_SLOT.GEN + 1) % 2 ^ SEAL_SLOT.GEN.width ∧
          t.keyCmd = some (2, k, 0, []))) ∧
      (∀ code, 3 ≤ code → code < 16 → Answers (.sealKeyBadCommand q code) s (fun t =>
        t.getF .sealKeySts SEAL_KEY_STS.RESULT = 2 ∧ t.irqPend 312 ∧ t.keys = s.keys ∧ t.keyCmd = none))) ∧
    (s.flag .sealKeySts SEAL_KEY_STS.BUSY → exec (.sealKeyLoad q k use) s = .next s) ∧
    (∀ key, s.keyCmd = some (1, k, use, key) →
      Answers .keyLoadComplete s (fun t => t.flag (.sealSlot k) SEAL_SLOT.VALID ∧
        t.getF (.sealSlot k) SEAL_SLOT.USE = use % 2 ^ SEAL_SLOT.USE.width ∧
        t.getF (.sealSlot k) SEAL_SLOT.GEN = (s.getF (.sealSlot k) SEAL_SLOT.GEN + 1) % 2 ^ SEAL_SLOT.GEN.width ∧
        t.keyOf k = key ∧ t.seqOf k = 0 ∧ t.flag .sealKeySts SEAL_KEY_STS.BUSY = false ∧
        t.getF .sealKeySts SEAL_KEY_STS.RESULT = 0 ∧ t.keyCmd = none)) ∧
    (s.keyCmd = some (2, k, 0, []) →
      Answers .sealEraseDone s (fun t => t.flag .sealKeySts SEAL_KEY_STS.BUSY = false ∧
        t.getF .sealKeySts SEAL_KEY_STS.RESULT = 0 ∧ t.irqPend 312 ∧ t.keyCmd = none))) ∧
  ((∀ (s : State) (c mode a : Nat), mode < 2 → a < 16 → s.issues c (wordK 0x35 mode a) →
    let x := s.ctx c
    let k := (x.reg a).toNat % 256 / 64 * 64
    let b := s.blockOf c k
    (b.ok = false → Answers (.seal c mode a) s (fun t => OnlyCtx s t c ∧
      t.ctx c = { x.went with c := true, n := false, st := 0 })) ∧
    (b.ok → s.hostOk x.slice b.src b.len → s.hostOk x.slice b.aad b.aadLen → s.hostOk x.slice b.dst b.len →
      Answers (.seal c mode a) s (fun t => (t.ctx c).act = .parked .sealOp ∧ (t.ctx c).pc = x.pc + 1 ∧ (t.ctx c).g = x.g ∧
        t.sealOps = s.sealOps ++ [⟨.instr c (decide (mode = 1)) b.len b.dst k, b.slot, false, 0, [], 0, x.padBytes k 64, [], [], false⟩]))) ∧
  (∀ (s : State) (o : SealOp) (c len dst blk : Nat) (opening : Bool), s.up → s.sealOps = [o] → o.started = false →
    o.use = .instr c opening len dst blk → s.domLive 162 →
    s.sealRunning < 8 →
    (s.slotKey o.slot 0 ≠ [] → o.src.length < (sealBlock o.blk).len → s.reqs = [] → s.writes = [] →
      s.atsOn (s.ctx c).slice = false →
      Answers .sealOpStart s (fun t => t.sealOps =
        [{ o with started := true, key := s.slotKey o.slot 0, gen := s.getF (.sealSlot o.slot) SEAL_SLOT.GEN,
                  seq := s.seqOf o.slot }] ∧
        ∃ w, t.reqs = [w] ∧ w.purpose = .sealSource ∧ w.ctx = c ∧ w.addr = (sealBlock o.blk).src + o.src.length)) ∧
    (s.slotKey o.slot 0 = [] → (s.ctx c).act = .parked .sealOp → (s.ctx c).endCode = none → (s.ctx c).idleBus →
      Answers .sealOpStart s (fun t => t.sealOps = [] ∧ t.resumed c ∧ (t.ctx c).c = true ∧ (t.ctx c).n = false))) ∧
  (∀ (s : State) (o : SealOp) (c len dst blk : Nat) (opening : Bool) (q : HostReq) (d : List Byte), s.up → s.sealOps = [o] →
    o.use = .instr c opening len dst blk → s.reqs = [q] → q.phase = .issued → q.purpose = .sealSource → q.ctx = c →
    s.inSram q.slice = false → d.length = q.len → (sealBlock o.blk).len ≤ o.src.length + q.len →
    (sealBlock o.blk).aadLen ≤ o.aad.length → s.writes = [] →
    let o' := { o with src := o.src ++ d }
    (o'.mismatch = false → s.hostOk (s.ctx c).slice (sealBlock o.blk).dst (gcmText o.key o.nonce o'.src).length) →
    Answers (.completionReceived (s.slPort q.slice) q.tag .ok d) s (fun t => t.sealOps = [{ o' with out := true }] ∧
      (if o'.mismatch then t.writes.length = s.writes.length
       else ∃ w, w ∈ t.writes ∧ w.addr = (sealBlock o.blk).dst ∧ w.ctx = c ∧ w.bytes = gcmText o.key o.nonce o'.src))) ∧
  (∀ (s : State) (o : SealOp) (c len dst blk : Nat) (opening : Bool), s.up → s.sealOps = [o] → o.out →
    o.use = .instr c opening len dst blk → s.sealUnsent c = false → blk ≤ 192 →
    (s.ctx c).act = .parked .sealOp → (s.ctx c).endCode = none → (s.ctx c).idleBus →
    Answers (.sealOpComplete 0) s (fun t => t.sealOps = [] ∧ t.resumed c ∧ t.writes = s.writes ∧
      (t.ctx c).c = o.mismatch ∧ (t.ctx c).n = o.mismatch ∧ (o.mismatch → (t.ctx c).st = (s.ctx c).st) ∧
      (o.mismatch = false → (t.ctx c).st = stWord stOk len ∧
        (opening = false → (t.ctx c).padBytes (blk + 40) 16 = o.tag (gcmText o.key o.nonce o.src))))) ∧
  (∀ (s : State) (o : SealOp) (c len dst blk : Nat) (opening : Bool), s.up → s.sealOps = [o] →
    o.use = .instr c opening len dst blk → o.out = false ∨ s.sealUnsent c → exec (.sealOpComplete 0) s = .next s))

/-- Device identities and firmware verification (R376, R380): the checks of an image in their order, each with its code; an image
outside the SRAM ends with FETCH; the result is shown, with the key hash that matched.

The model's own choices in it, no rules of the specification: log entries 11 and 47. -/
def Obligations.IdentitiesAndVerification : Prop :=
  ∀ (s : State) (q : Requester) (d : Nat), 0 < d → d < 2048 →
    (s.accepts q .sealIdCtl → (s.dev d).live →
      Answers (.sealIdWrite q d) s (fun t =>
        (t.dev d) = { s.dev d with ident := identOf ((List.range 8).map (fun w => (s.rd (.sealId w)).lo)) } ∧
        ∀ e, e ≠ d → t.dev e = s.dev e)) ∧
    (s.accepts q .sealIdCtl →
      Answers (.sealIdRead q d) s (fun t => t.devs = s.devs ∧
        ∀ w, w < 8 → t.rd (.sealId w) = ((s.dev d).ident.getD w 0).setWidth 64)) ∧
    (∀ len, len < 2 ^ 24 → s.accepts q .sealFwCtl → s.flag .sealFwSts SEAL_FW_STS.BUSY = false →
      Answers (.fwVerifyGo q len) s (fun t => t.flag .sealFwSts SEAL_FW_STS.BUSY ∧
        OnlyRegs s t [(Reg.sealFwCtl).addr, (Reg.sealFwSts).addr])) ∧
    (s.up → s.flag .sealFwSts SEAL_FW_STS.BUSY → ∀ fetched key, Answers (.fwVerifyDone fetched key) s (fun t =>
      t.flag .sealFwSts SEAL_FW_STS.BUSY = false ∧ t.getF .sealFwSts SEAL_FW_STS.RESULT = (s.fwResult fetched key).1 ∧
      t.getF .sealFwSts SEAL_FW_STS.KEY =
        ((s.fwResult fetched key).2.getD (s.getF .sealFwSts SEAL_FW_STS.KEY)) % 2 ^ SEAL_FW_STS.KEY.width ∧
      t.irqPend 312)) ∧
    (∀ key, s.fwResult false key = (6, none)) ∧
    (ownRange (s.rd .sealFwAddr).toNat (s.getF .sealFwCtl SEAL_FW_CTL.LEN) = false → ∀ fetched key,
      s.fwResult fetched key = (6, none)) ∧
    (ownRange (s.rd .sealFwAddr).toNat (s.getF .sealFwCtl SEAL_FW_CTL.LEN) → ∀ key, s.fwResult true key =
      fwCheck (s.localRead (s.rd .sealFwAddr).toNat (s.getF .sealFwCtl SEAL_FW_CTL.LEN)) key) ∧
    (∀ (img : List Byte) (key : Nat), Config.fwParses img → key < 4 → Config.fusedKeyHash key = Config.fwKeyHash img →
      (fwCheck img key).2 = some key) ∧
    (∀ img : List Byte,
      (Config.fwParses img = false → fwCheck img = (1, none)) ∧
      (Config.fwParses img → (∀ k, k < 4 → Config.fusedKeyHash k ≠ Config.fwKeyHash img) → fwCheck img = (2, none)) ∧
      (∀ k, Config.fwParses img → k < 4 → Config.fusedKeyHash k = Config.fwKeyHash img →
        (∀ j, j < k → Config.fusedKeyHash j ≠ Config.fwKeyHash img) →
        (fwCheck img).2 = some k ∧
        (Config.revokedKeys.getLsbD k → (fwCheck img).1 = 3) ∧
        (Config.revokedKeys.getLsbD k = false →
          (Config.fwVersion img < Config.fusedMinVersion → (fwCheck img).1 = 4) ∧
          (Config.fusedMinVersion ≤ Config.fwVersion img → (fwCheck img).1 = if Config.fwSigOk img then 0 else 5))))

/-- Adjourn commands (R367 to R378): each is accepted in the state that lists it and ends with BAD_STATE in another; FREEZE
completes with the slice FROZEN; SAVE holds the record's operation; RELEASE resets the slice; THAW waits for the tick.
The freeze of items is shown where the slice has none.

Ends of adjourn commands (R368, R371, R375): a FREEZE with nothing of the slice in an engine, on the wire or unwritten;
a SAVE whose record has been written or could not be, and the issue of its writes; a RESTORE whose record cannot be read, fails
a check, each with its code in their order, or passes them, after which the slice is FROZEN at the next tick.

The model's own choices in it, no rules of the specification: log entries 45, 46 and 47. -/
def Obligations.AdjournAndRestore : Prop :=
  (∀ (s : State) (q : Requester) (i k : Nat), 0 < i → i < 256 → k < 32 → s.accepts q .sealAdjCtl →
    s.flag .sealAdjSts SEAL_ADJ_STS.BUSY = false →
    let st := (s.adj i).state
    (st = 0 → s.fenced i = false → s.inReset i = false → s.mine i = [] →
      Answers (.adjFreeze q i k) s (fun t => t.flag .sealAdjSts SEAL_ADJ_STS.BUSY ∧ (t.adj i).state = 1 ∧
        t.adjCmd = some (1, i, k) ∧ t.frozen i)) ∧
    (st ≠ 0 → Answers (.adjFreeze q i k) s (fun t => t.flag .sealAdjSts SEAL_ADJ_STS.BUSY = false ∧
      t.getF .sealAdjSts SEAL_ADJ_STS.RESULT = 1 ∧ t.adj i = s.adj i ∧ t.irqPend 312)) ∧
    (st = 2 → (s.recordOf i 0).big = false → s.sealOps = [] → s.sealFree → s.slotKey k 2 ≠ [] →
      Answers (.adjSave q i k) s (fun t => t.flag .sealAdjSts SEAL_ADJ_STS.BUSY ∧ (t.adj i).state = 3 ∧
        t.adjCmd = some (2, i, k) ∧ t.seqOf k = (s.seqOf k + 1) % 2 ^ 64 ∧
        ∃ o, t.sealOps = [o] ∧ o.use = .save i ∧ o.started ∧ o.key = s.slotKey k 2 ∧ o.seq = s.seqOf k)) ∧
    (st = 2 → (s.recordOf i 0).big → Answers (.adjSave q i k) s (fun t => t.getF .sealAdjSts SEAL_ADJ_STS.RESULT = 4 ∧
      t.flag .sealAdjSts SEAL_ADJ_STS.BUSY = false ∧ (t.adj i).state = 2)) ∧
    (st ≠ 2 → Answers (.adjSave q i k) s (fun t => t.getF .sealAdjSts SEAL_ADJ_STS.RESULT = 1 ∧ t.adj i = s.adj i) ∧
      Answers (.adjRelease q i k) s (fun t => t.getF .sealAdjSts SEAL_ADJ_STS.RESULT = 1 ∧ t.adj i = s.adj i) ∧
      Answers (.adjThaw q i k) s (fun t => t.getF .sealAdjSts SEAL_ADJ_STS.RESULT = 1 ∧ t.adj i = s.adj i)) ∧
    (st = 2 → s.inReset i = false →
      Answers (.adjRelease q i k) s (fun t => t.inReset i ∧ i ∈ t.releasing ∧ t.adjCmd = some (3, i, k))) ∧
    (st = 0 → s.restoreOk i → s.sealOps = [] →
      Answers (.adjRestore q i k) s (fun t => t.flag .sealAdjSts SEAL_ADJ_STS.BUSY ∧ (t.adj i).state = 4 ∧
        ∃ o, t.sealOps = [o] ∧ o.use = .restore i ∧ o.started = s.sealFree)) ∧
    (st = 2 → Answers (.adjThaw q i k) s (fun t => t.flag .sealAdjSts SEAL_ADJ_STS.BUSY ∧ (t.adj i).thaw ∧
      (t.adj i).state = 2 ∧ t.adjCmd = some (5, i, k) ∧ t.ctxs = s.ctxs)) ∧
    (∀ code, 6 ≤ code → code < 16 → Answers (.adjBadCommand q code) s (fun t =>
      t.getF .sealAdjSts SEAL_ADJ_STS.RESULT = 0x0C ∧ t.irqPend 312 ∧ t.adjs = s.adjs))) ∧
  (∀ (s : State) (i k : Nat), 0 < i → i < 256 → s.up →
    (s.adjCmd = some (1, i, k) → s.freezeDone i → s.mine i = [] →
      Answers .freezeComplete s (fun t => t.adj i = ⟨2, s.aon.clockCount, s.now, false, []⟩ ∧ t.adjCmd = none ∧
        t.flag .sealAdjSts SEAL_ADJ_STS.BUSY = false ∧ t.getF .sealAdjSts SEAL_ADJ_STS.RESULT = 0 ∧ t.irqPend 312)) ∧
    (∀ o : SealOp, s.adjCmd = some (2, i, k) → s.sealOps = [o] → o.use = .save i → o.started →
      let r := s.recordOf i o.seq
      let a := (s.rd .sealAdjAddr).toNat
      s.hostOk 0 a r.len →
      Answers (.saveComplete false) s (fun t => (t.adj i).state = 2 ∧ t.getF .sealAdjSts SEAL_ADJ_STS.RESULT = 3 ∧
        t.adjCmd = none ∧ t.sealOps = [] ∧ t.out = s.out) ∧
      (o.out = false → (∀ r ∈ s.reqs, r.slice ≠ i) → (∀ w ∈ s.writes, w.slice ≠ i) → s.recordGo a r.len true →
        exec (.saveComplete true) s = .next { s.sendWrite 0 a (r.bytes o.key) with sealOps := [{ o with out := true }] }) ∧
      (o.out → r.len < 2 ^ 24 →
        Answers (.saveComplete true) s (fun t => (t.adj i).state = 2 ∧ t.getF .sealAdjSts SEAL_ADJ_STS.RESULT = 0 ∧
          t.getF .sealAdjLen SEAL_ADJ_LEN.LEN = r.len ∧ t.adjCmd = none ∧ t.sealOps = [] ∧ t.out = s.out))) ∧
    (∀ o : SealOp, s.adjCmd = some (4, i, k) → s.sealOps = [o] → o.use = .restore i → o.started →
      s.hostOk 0 (s.rd .sealAdjAddr).toNat (s.getF .sealAdjLen SEAL_ADJ_LEN.LEN) →
      Answers (.restoreComplete .fails) s (fun t => t.adj i = Adj.init ∧ t.adjCmd = none ∧ t.sealOps = [] ∧
        t.getF .sealAdjSts SEAL_ADJ_STS.RESULT = 3)) ∧
    (∀ (o : SealOp) (b : List Byte) (r : SliceRecord), s.adjCmd = some (4, i, k) → s.sealOps = [o] → o.use = .restore i →
      o.started → s.inSram 0 = false →
      let a := (s.rd .sealAdjAddr).toNat
      let n := s.getF .sealAdjLen SEAL_ADJ_LEN.LEN
      let code := s.restoreResult i o.key b n r
      s.hostOk 0 a n → s.recordGo a n false → b.length = n → code = 6 ∨ code = 2 ∨ code = 5 ∨ r.bytes o.key = b →
      (code ≠ 0 → Answers (.restoreComplete (.reads b r)) s (fun t => t.adj i = Adj.init ∧ t.adjCmd = none ∧
        t.sealOps = [] ∧ t.restoring = s.restoring ∧ t.getF .sealAdjSts SEAL_ADJ_STS.RESULT = code)) ∧
      (code = 0 → Answers (.restoreComplete (.reads b r)) s (fun t => t.restoring = some r ∧ t.sealOps = [] ∧
        t.adjCmd = s.adjCmd ∧ t.adjs = s.adjs ∧ t.regs = s.regs ∧ t.ctxs = s.ctxs))) ∧
    (∀ (key : List Word32) (b : List Byte) (n : Nat) (r : SliceRecord),
      (recordFormat b n = false → s.restoreResult i key b n r = 6) ∧
      (recordFormat b n → key = [] → s.restoreResult i key b n r = 2) ∧
      (recordFormat b n → key ≠ [] → recordTagOk key b n = false → s.restoreResult i key b n r = 5) ∧
      (recordFormat b n → key ≠ [] → recordTagOk key b n → s.restoreResult i key b n r = s.restoreCheck i r)) ∧
    (∀ r : SliceRecord, s.restoreCheck i r = 0 → r.ctxs.length ≤ s.getE (.slcQmem i) SLC_QMEM.CTX ∧
      r.handles.length ≤ s.getE (.slcQep i) SLC_QEP.HANDLES ∧
      (∀ g ∈ r.rings, g.r < s.getE (.slcQeng i) SLC_QENG.RINGS) ∧
      (∀ p ∈ r.progs, (s.prog (i * 64 + p.1)).live ∧ (s.prog (i * 64 + p.1)).sha = p.2) ∧
      ∀ m ∈ r.sems, s.flag (.semCfg m.1) SEM_CFG.EN ∧ s.getF (.semCfg m.1) SEM_CFG.SLICE = i ∧
        s.flag (.semCfg m.1) SEM_CFG.ARB = false ∧ (s.sem m.1).owner = none ∧ (s.sem m.1).queue = []) ∧
    (∀ r : SliceRecord, s.adjCmd = some (4, i, k) → s.restoring = some r → s.aon.refRunning → s.aon.vddAon →
      Answers .clockTick s (fun t => (∃ l, t.adj i = ⟨2, r.clock, r.time, false, l⟩) ∧ t.adjCmd = none ∧ t.restoring = none ∧
        t.getF .sealAdjSts SEAL_ADJ_STS.RESULT = 0 ∧ t.flag .sealAdjSts SEAL_ADJ_STS.BUSY = false)))

/-- What a port sequencer starts (R303, R305, R308, R318, R322, R324): a waiting request gets a place in the queue; the next
placement of the line's file is skipped, or asks an interrupt endpoint for its report, unless a transaction has failed in the
interval or NRDY has parked it (R70, R313), or waits for room in the FIFO; a SETUP is sent; a gambit is issued, and on a 2.0
line goes on with an IN per packet.

The model's own choices in it, no rules of the specification: log entries 40 and 43. -/
def Obligations.SequencerStarts : Prop :=
  ∀ (s : State) (n l : Nat), n < 20 → l < 3 → s.up → (s.port n).lines.length = 3 →
    let x := s.seqLine n l
    let due (w : Word64) := x.mf + 1 - opBits w 30 27
    (∀ c y o, s.ctxs = [(c, y)] → y.op = some o → o.port = n → o.stage = .place → y.act = .parked .op → o.pos.next = none →
      s.frozen y.slice = false → Answers (.requestQueueAdmit n) s (fun t => (t.ctx c) = { y with op := some { o with
        stage := .queued, order := (s.port n).order } } ∧ t.regs = s.regs)) ∧
    (x.mf = s.aon.clockCount → (s.placements n l x.mf)[x.k]? = none → x.extra = [] →
      Answers (.placementStart n l) s (fun t => t.seqLine n l = x ∧ t.ctxs = s.ctxs ∧ t.out = s.out ∧ t.regs = s.regs)) ∧
    (∀ w k, x.mf = s.aon.clockCount → (s.placements n l x.mf)[x.k]? = some (w, k) → x.txn = none →
      (s.skipped w k → Answers (.placementStart n l) s (fun t => t.seqLine n l = { x with k := x.k + 1 } ∧
        t.ctxs = s.ctxs ∧ t.out = s.out ∧ t.regs = s.regs)) ∧
      (∀ c, s.skipped w k = false → s.canDrive n (lineSS l) → s.fifoRoom n → opBits w 48 45 = 2 → (s.atE k).cfg.mode ≠ 1 →
        s.servedBy k (s.rsvE k).ep (· == .inn) = some c → (s.epInfo (s.rsvE k).ep).polled (due w) →
        s.capRoom 1 (s.ctx c).slice (granules (s.epInfo (s.rsvE k).ep).mps) →
        Answers (.placementStart n l) s (fun t => t.seqLine n l =
            { x with k := x.k + 1, txn := some ⟨(s.rsvE k).ep, some c, false, 1, false, 0, true, due w⟩ } ∧
          t.out = .usb n l (s.rsvE k).ep 1 [] :: s.out)) ∧
      (s.skipped w k = false → s.canDrive n (lineSS l) → s.fifoRoom n → opBits w 48 45 = 2 → (s.atE k).cfg.mode = 1 →
        (s.epInfo (s.rsvE k).ep).polled (due w) → s.capRoom 1 0 (granules (s.epInfo (s.rsvE k).ep).mps) →
        Answers (.placementStart n l) s (fun t => t.seqLine n l =
            { x with k := x.k + 1, txn := some ⟨(s.rsvE k).ep, none, false, 1, false, 0, true, due w⟩ } ∧
          t.out = .usb n l (s.rsvE k).ep 1 [] :: s.out ∧ t.ctxs = s.ctxs)) ∧
      (s.skipped w k = false → s.canDrive n (lineSS l) → s.fifoRoom n → opBits w 48 45 = 2 →
        (s.epInfo (s.rsvE k).ep).polled (due w) = false →
        Answers (.placementStart n l) s (fun t => t.seqLine n l = { x with k := x.k + 1 } ∧ t.ctxs = s.ctxs ∧
          t.out = s.out)) ∧
      (∀ c, s.skipped w k = false → s.canDrive n (lineSS l) → s.fifoRoom n = false → opBits w 48 45 = 2 →
        (s.atE k).cfg.mode ≠ 1 → s.servedBy k (s.rsvE k).ep (· == .inn) = some c →
        (s.epInfo (s.rsvE k).ep).polled (due w) → s.capRoom 1 (s.ctx c).slice (granules (s.epInfo (s.rsvE k).ep).mps) →
        Answers (.placementStart n l) s (fun t => t.seqLine n l = x ∧ t.ctxs = s.ctxs ∧ t.out = s.out))) ∧
    (∀ rank np c y o, s.ctxs = [(c, y)] → y.op = some o → o.port = n → o.req.kind = .setup → (s.epInfo o.ep).typ = 0 →
      (s.epDev o.ep).ss = false → (s.epDev o.ep).way ≠ 2 → o.pos.next = none → o.pos.segs = [] → o.buf = [] →
      (s.epInfo o.ep).parked = none → s.sendable c o → s.txnOf c o = false → l = 0 → x.txn = none → s.canDrive n false →
      s.fifoRoom n →
      Answers (.asyncTransactionStart n l rank np) s (fun t =>
        (t.seqLine n l).txn = some ⟨o.ep, some c, false, 1, false, 0, false, 0⟩ ∧
        t.out = .usb n l o.ep 0 (leBytes 8 o.req.setup.toNat) :: s.out ∧
        (t.ctx c).op = some { o with pkts := 1, flight := some 0 })) ∧
    (∀ rank np e, x.rank = s.aon.clockCount * 64 + rank % 64 → x.txn = none → x.more = none → s.canDrive n (lineSS l) →
      s.linkOn n (lineSS l) → PORT_SEQ_CFG.GMB_EN.get (s.seqAt n x.rank) ≠ 0 →
      x.gambits < PORT_SEQ_CFG.GMB_BUDGET.get (s.seqAt n x.rank) → s.fifoRoom n → s.gambitEp n l = some e →
      Answers (.gambitStart n l rank np) s (fun t => (∃ k, t.seqLine n l = { x with
          gambits := x.gambits + 1, lastGambit := e, txn := some ⟨e, none, true, k, false, 0, true, 0⟩ } ∧ 0 < k ∧
          k ≤ max 1 (4 - (s.epc e).pend.length)) ∧
        t.getF (.portGmbCnt n) PORT_GMB_CNT.ISSUED =
          (s.getF (.portGmbCnt n) PORT_GMB_CNT.ISSUED + 1) % 2 ^ PORT_GMB_CNT.ISSUED.width ∧
        t.out = .usb n l e 1 [] :: s.out ∧ t.ctxs = s.ctxs ∧ KeepsRegs s t [(Reg.portGmbCnt n).addr])) ∧
    (∀ rank np e k, x.rank = s.aon.clockCount * 64 + rank % 64 → x.txn = none → s.canDrive n (lineSS l) →
      s.linkOn n (lineSS l) → s.fifoRoom n → s.gambitNext n l = some (e, k) →
      Answers (.gambitStart n l rank np) s (fun t =>
        t.seqLine n l = { x with txn := some ⟨e, none, true, k, false, 0, true, 0⟩ } ∧ t.regs = s.regs ∧ t.ctxs = s.ctxs ∧
        t.out = .usb n l e 1 [] :: s.out)) ∧
    (∀ rank np, PORT_SEQ_CFG.GMB_EN.get (s.seqAt n (s.aon.clockCount * 64 + rank % 64)) = 0 → x.more = none →
      Answers (.gambitStart n l rank np) s (fun t => t.regs = s.regs ∧ t.out = s.out ∧ t.ctxs = s.ctxs ∧
        (t.seqLine n l).txn = x.txn))

/-- Responses on a 2.0 line to a transaction of the only work item, and what it brings into an empty Packet Return FIFO (R68,
R310 to R316): ACK, NAK, which parks the endpoint, STALL, a data packet, and a transaction error, the third of which in a row
brings an item that ends the request when it is read. None of them is a packet boundary (R186).

The model's own choices in it, no rules of the specification: log entry 39. -/
def Obligations.Responses : Prop :=
  ∀ (s : State) (n c : Nat) (y : Ctx) (o : Op), n < 20 → s.up → (s.port n).lines.length = 3 → s.ctxs = [(c, y)] →
    y.op = some o → o.port = n → (s.port n).fifo = Fifo.init →
    (∃ asks mf, (s.seqLine n 0).txn = some ⟨o.ep, some c, false, 1, false, 0, asks, mf⟩) →
    let ended (t : State) : Prop := (t.seqLine n 0).txn = none ∧
      ∃ p, (t.ctx c).op = some p ∧ p.req = o.req ∧ p.moved = o.moved ∧ p.result = o.result ∧ p.bnd = o.bnd
    let errs (t : State) : Nat := ((t.ctx c).op.map Op.errs).getD 0
    let gives (t : State) (P : Item → Prop) : Prop := ∃ i, (t.port n).fifo.items = [i] ∧ i.ctx = some c ∧ i.ep = o.ep ∧
      i.whole ∧ P i
    let typ := (s.epInfo o.ep).typ
    (∀ lba, typ = 0 → o.req.kind = .setup → o.flight = some 0 →
      Answers (.responseReceived n ⟨0, .ack, [], true, lba⟩) s (fun t => ended t ∧ errs t = 0 ∧
        gives t (fun i => i.code = 0 ∧ i.last ∧ i.hasData = false) ∧
        t.getF (.portPrfNote n) PORT_PRF_NOTE.NOTES =
          (s.getF (.portPrfNote n) PORT_PRF_NOTE.NOTES + 1) % 2 ^ PORT_PRF_NOTE.NOTES.width)) ∧
    (∀ lba, typ = 2 → (s.epInfo o.ep).dirIn → o.req.kind = .inn →
      Answers (.responseReceived n ⟨0, .nak, [], true, lba⟩) s (fun t => ended t ∧ errs t = 0 ∧
        (t.port n).fifo = Fifo.init ∧ (t.epc o.ep).parked = some (s.port n).order) ∧
      Answers (.responseReceived n ⟨0, .stall, [], true, lba⟩) s (fun t => ended t ∧ errs t = 0 ∧
        gives t (fun i => i.code = stStall ∧ i.last)) ∧
      (∀ d : List Byte, d.length ≤ (s.epInfo o.ep).mps → d.length ≤ 24 →
        Answers (.responseReceived n ⟨0, .data, d, true, lba⟩) s (fun t => ended t ∧ errs t = 0 ∧
          gives t (fun i => i.code = 0 ∧ i.data = d ∧ i.hasData ∧ i.short = decide (d.length < (s.epInfo o.ep).mps)))) ∧
      (∀ d : List Byte, (s.epInfo o.ep).mps < d.length →
        Answers (.responseReceived n ⟨0, .data, d, true, lba⟩) s (fun t => ended t ∧
          gives t (fun i => i.code = stBabble ∧ i.last))) ∧
      (o.errs < 2 → Answers (.responseTimeout n 0) s (fun t => ended t ∧ errs t = o.errs + 1 ∧
        (t.port n).fifo = Fifo.init ∧ t.getF (.portXerr n) PORT_XERR.ERRS =
          (s.getF (.portXerr n) PORT_XERR.ERRS + 1) % 2 ^ PORT_XERR.ERRS.width ∧
        t.getF (.portXerr n) PORT_XERR.ENDED = s.getF (.portXerr n) PORT_XERR.ENDED)) ∧
      (2 ≤ o.errs → Answers (.responseTimeout n 0) s (fun t => ended t ∧ gives t (fun i => i.code = stXactErr ∧ i.last) ∧
        t.getF (.portXerr n) PORT_XERR.ENDED = s.getF (.portXerr n) PORT_XERR.ENDED)))

/-- The Packet Return FIFO (R316 to R321): a held word is written when stage 31 is empty; the item read is handed to its
request; a pointer error loses what stands in the FIFO and ends the requests. A PHY that loses lock is an event of
its port's fault source (R422).

The model's own choices in it, no rules of the specification: log entry 41. -/
def Obligations.ReturnFifo : Prop :=
  ∀ (s : State) (n : Nat), n < 20 → s.up →
    let f := (s.port n).fifo
    (∀ w rest, f.held = w :: rest → f.top → f.stages.length = 32 →
      Answers (.fifoWriteComplete n) s (fun t => (t.port n).fifo.held = rest ∧ (t.port n).fifo.occ = f.occ + 1 ∧
        (t.port n).fifo.wptr = (f.wptr + 1) % 64 ∧ (t.port n).fifo.wptr2 = (f.wptr2 + 1) % 64 ∧
        (t.port n).fifo.rptr = f.rptr ∧ t.ctxs = s.ctxs)) ∧
    (∀ i c y o, f.items = [i] → i.whole → i.gambit = false → i.ctx = some c → s.ctxs = [(c, y)] → y.op = some o →
      o.result = none → i.sec = none → (s.epInfo o.ep).typ ≠ 1 → (s.epInfo o.ep).typ ≠ 3 →
      (i.code = 0 → i.hasData = false → i.last →
        Answers (.returnItemRead n) s (fun t => (t.ctx c).op = some { o with result := some stOk } ∧
          (t.port n).fifo.items = [] ∧ (t.port n).fifo.rptr = (f.rptr + i.words) % 64)) ∧
      (i.code ≠ 0 →
        Answers (.returnItemRead n) s (fun t => (t.ctx c).op = some { o with result := some i.code } ∧
          (o.port = n → t.getF (.portXerr n) PORT_XERR.ENDED =
            (s.getF (.portXerr n) PORT_XERR.ENDED + (decide (i.code = stXactErr)).toNat) % 2 ^ PORT_XERR.ENDED.width) ∧
          (t.port n).fifo.items = [] ∧ (t.port n).fifo.rptr = (f.rptr + i.words) % 64))) ∧
    (∀ i c y o, f.items = [i] → f.occ = i.words → 0 < i.words → f.held = [] → i.ctx = some c → c < 16384 → s.ctxs = [(c, y)] →
      y.op = some o → o.result = none → s.flag (.fltCfg (20 + n)) FLT_CFG.EN = false →
      Answers (.prfPointerError n) s (fun t => (t.port n).fifo = Fifo.init ∧ t.flag (.portPrfSts n) PORT_PRF_STS.PERR ∧
        (t.ctx c).op = some { o with result := some stXactErr } ∧
        t.getF (.portPrfLoss n) PORT_PRF_LOSS.ITEMS =
          (s.getF (.portPrfLoss n) PORT_PRF_LOSS.ITEMS + 1) % 2 ^ PORT_PRF_LOSS.ITEMS.width ∧
        t.getF (.portXerr n) PORT_XERR.ENDED =
          (s.getF (.portXerr n) PORT_XERR.ENDED + 1) % 2 ^ PORT_XERR.ENDED.width)) ∧
    (∀ ss, s.flag (.fltCfg (20 + n)) FLT_CFG.EN → s.getF (.fltSts (20 + n)) FLT_STS.STATE = 0 →
      2 ≤ s.getF (.fltCfg (20 + n)) FLT_CFG.N →
      Answers (.phyPllLockLoss n ss) s (fun t => t.getF (.fltSts (20 + n)) FLT_STS.COUNT = 1 ∧
        t.getF (.fltSts (20 + n)) FLT_STS.STATE = 1 ∧ t.ports = s.ports ∧ t.ctxs = s.ctxs)) ∧
    (∀ ss, s.flag (.fltCfg (20 + n)) FLT_CFG.EN = false → exec (.phyPllLockLoss n ss) s = .next s)

/-- `PORT_DET` and `PORT_GPOOL` (R330, R331): a detach marks the device and every device routed through it, and one to which
nothing refers any more has its context freed (R118); an endpoint that is assigned still refers to it. One that names
no live device of the port sets `IGN`; a pool size that the effective quotas leave no room for is refused. -/
def Obligations.DetachAndPool : Prop :=
  ∀ (s : State) (q : Requester),
    let assigned (k : Nat) : Prop := ∃ p ∈ s.att, p.2.cfg.live ∧ (s.epc p.2.cfg.ep).live ∧ (s.epc p.2.cfg.ep).dev = k
    let out (t : State) (k : Nat) : Prop :=
      ((t.dev k).detached ∨ t.dev k = Dev.empty) ∧ (assigned k → (t.dev k).detached)
    (∀ n d, n < 20 → d < 2048 → s.accepts q (.portDet n) →
      ((s.dev d).live → (s.dev d).port = n → (s.dev d).detached = false →
        Answers (.portDetDetach q n d) s (fun t => out t d ∧
          ∀ k, (s.dev d).route.length < (s.dev k).route.length → (s.dev d).through (s.dev k) → out t k)) ∧
      ((s.dev d).live = false ∨ (s.dev d).port ≠ n ∨ (s.dev d).detached →
        Answers (.portDetDetach q n d) s (fun t => t.flag (.portDet n) PORT_DET.IGN ∧
          OnlyRegs s t [(Reg.portDet n).addr]))) ∧
    (∀ v : Word32, s.accepts q .portGpool →
      let size := PORT_GPOOL.SIZE.get (v.setWidth 64)
      let lbs := sumSlices (fun j => s.getF (.slcQmem j) SLC_QMEM.LB)
      (size ≤ 2048 → lbs ≤ 4096 - size →
        Answers (.gpoolSizeWrite q v) s (fun t => t.getF .portGpool PORT_GPOOL.SIZE = size ∧
          OnlyRegs s t [(Reg.portGpool).addr])) ∧
      (2048 < size ∨ 4096 - size < lbs →
        exec (.gpoolSizeWrite q v) s = .next (s.violation q Reg.portGpool.loc)))

/-- Completions of the block's reads (R346 to R349): data for an OUT reaches the landing buffer; a failed read waits to be
issued again, with a new tag, no earlier than 1 µs after the failure; an unexpected completion is recorded and discarded.

The model's own choices in it, no rules of the specification: log entry 26. -/
def Obligations.CompletionsAndRetries : Prop :=
  ∀ (s : State) (q : HostReq) (p : Nat), s.up → s.reqs = [q] → s.inSram q.slice = false → s.slPort q.slice = p → p < 4 →
    let failed : HostReq := { q with phase := .failed, fails := q.fails + 1, since := s.now }
    let links := (List.range 4).map (fun k => (Reg.glbHpSts k).addr)
    (∀ c y o d, q.phase = .issued → q.purpose = .outData → q.ctx = c → s.ctxs = [(c, y)] → y.op = some o →
      (segAt o.pos.segs o.buf.length).map Prod.fst = some q.addr → o.pos.next = none → d.length = q.len →
      s.writes = [] → o.remain ≤ o.buf.length + d.length ∨ o.result ≠ none ∨ o.stage ≠ .queued →
      Answers (.completionReceived p q.tag .ok d) s (fun t => (t.ctx c).op = some { o with buf := o.buf ++ d } ∧
        KeepsRegs s t links)) ∧
    (q.phase = .issued → q.fails < 3 → q.unwanted = false → s.writes = [] →
      Answers (.completionReceived p q.tag .ur []) s (fun t => failed ∈ t.reqs ∧ t.ctxs = s.ctxs ∧ KeepsRegs s t links) ∧
      Answers (.completionReceived p q.tag .ca []) s (fun t => failed ∈ t.reqs ∧ t.ctxs = s.ctxs ∧ KeepsRegs s t links)) ∧
    (∀ r d tag, tag ≠ q.tag → s.present p → s.flag (.fltCfg (40 + p)) FLT_CFG.EN = false →
      Answers (.completionReceived p tag r d) s (fun t => aerUc ∈ (t.func (fKey p 0)).aer ∧ t.reqs = s.reqs ∧
        t.ctxs = s.ctxs ∧ t.regs = s.regs)) ∧
    (s.timed q → q.fails < 3 → q.unwanted = false → s.writes = [] → s.flag (.fltCfg (40 + p)) FLT_CFG.EN = false →
      Answers (.completionTimeout q.tag) s (fun t => failed ∈ t.reqs ∧ t.ctxs = s.ctxs ∧ KeepsRegs s t links ∧
        aerCto ∈ (t.func (fKey p (s.slFunc q.slice))).aer)) ∧
    (s.timed q = false → exec (.completionTimeout q.tag) s = .next s) ∧
    (s.now < q.since + 25 → exec (.requestRetry q.tag) s = .next s) ∧
    (q.phase = .failed → q.fails < 4 → q.since + 25 ≤ s.now → s.writes = [] → s.canIssue { q with tag := s.tag, phase := .waiting } →
      Answers (.requestRetry q.tag) s (fun t =>
        t.reqs = [{ q with tag := s.tag, phase := .issued, since := s.now, cto := s.ctoOf p }] ∧ t.tag = s.tag + 1 ∧
        t.out = s.readTlp { q with tag := s.tag } :: s.out ∧
        t.getF .dspMvFcnt DSP_MV_FCNT.RETRY =
          (s.getF .dspMvFcnt DSP_MV_FCNT.RETRY + 1) % 2 ^ DSP_MV_FCNT.RETRY.width ∧
        KeepsRegs s t [(Reg.dspMvFcnt).addr]))

/-- The service DMA (R351 to R358): START queues the channel, in ascending order among those of the same cycle, or halts it on
fields that are not valid; a queued channel runs; a burst moves elements; STOP; the fourth failure of an access in a row, reads
and writes of a run apart, or of a descriptor's read, halts the channel; the end of a run. The checkpoint banks take no writes but the engine's
(R447).

The model's own choices in it, no rules of the specification: log entries 70 and 77. -/
def Obligations.ServiceDma : Prop :=
  ∀ (s : State) (c : Nat), c < 8 → s.up →
    let busy (t : State) := t.flag (.mdmaSts c) MDMA_STS.BUSY
    let code (t : State) := t.getF (.mdmaSts c) MDMA_STS.CODE
    (∀ q, s.accepts q (.mdmaCtl c) → s.mdmaBusy c = false → s.flag (.mdmaSts c) MDMA_STS.HALT = false →
      (s.flag (.mdmaCtl c) MDMA_CTL.CHAIN ∨ s.mdmaRegsOk c →
        Answers (.mdmaStart q c) s (fun t => busy t ∧ (s.mdmaNew.1 ≠ s.now → t.mdmaQ = s.mdmaQ ++ [c]) ∧
          (∀ l d, s.mdmaNew = (s.now, 1) → s.mdmaQ = l ++ [d] →
            t.mdmaQ = l ++ (if c < d then [c, d] else if d < c then [d, c] else [c])) ∧ t.mdmaRun = s.mdmaRun ∧
          KeepsRegs s t [(Reg.mdmaSts c).addr, (Reg.mdmaCtl c).addr])) ∧
      (s.flag (.mdmaCtl c) MDMA_CTL.CHAIN = false → s.mdmaRegsOk c = false →
        Answers (.mdmaStart q c) s (fun t => busy t = false ∧ t.flag (.mdmaSts c) MDMA_STS.HALT ∧ code t = 2 ∧
          t.mdmaQ = s.mdmaQ ∧ t.mdmaRun = s.mdmaRun))) ∧
    (∀ q, s.accepts q (.mdmaCtl c) → s.mdmaBusy c ∨ s.flag (.mdmaSts c) MDMA_STS.HALT →
      Answers (.mdmaStart q c) s (fun t => t.flag (.mdmaSts c) MDMA_STS.IGN ∧ busy t = busy s ∧ t.mdmaQ = s.mdmaQ ∧
        t.mdmaRun = s.mdmaRun)) ∧
    (∀ q x, s.accepts q (.mdmaCtl c) → s.mdmaRun = some x → x.ch = c →
      Answers (.mdmaStop q c) s (fun t => t.mdmaRun = some { x with stop := true } ∧ t.mdmaQ = s.mdmaQ)) ∧
    (∀ q, s.accepts q (.mdmaCtl c) → s.mdmaRun = none → c ∈ s.mdmaQ →
      Answers (.mdmaStop q c) s (fun t => c ∉ t.mdmaQ ∧ busy t = false ∧ code t = 3)) ∧
    (∀ l, s.mdmaRun = none → s.mdmaQ = c :: l → s.flag (.mdmaCtl c) MDMA_CTL.CHAIN = false →
      Answers .mdmaRunStart s (fun t => t.mdmaRun = some (s.mdmaRegRun c) ∧ t.mdmaQ = l.filter (· != c) ∧
        t.flag (.mdmaSts c) MDMA_STS.RUN ∧ KeepsRegs s t [(Reg.mdmaSts c).addr])) ∧
    (∀ l, s.mdmaRun = none → s.mdmaQ = c :: l → s.flag (.mdmaCtl c) MDMA_CTL.CHAIN → s.sramA = [] →
      0x11000000 ≤ s.mdmaDesc c → s.mdmaDesc c + 32 ≤ 0x11100000 →
      Answers .mdmaRunStart s (fun t => t.mdmaRun = none ∧ t.mdmaQ = l.filter (· != c) ∧ busy t = false ∧
        t.flag (.mdmaSts c) MDMA_STS.RUN = false ∧ t.flag (.mdmaSts c) MDMA_STS.EMPTY)) ∧
    (∀ x a b, s.mdmaRun = some x → x.stop = false → x.esize = 0 → x.burst = 0 → x.sinc → x.dinc → 0 < x.left →
      a < 2 ^ 20 → b < 2 ^ 20 → x.src = 0x11000000 + a → x.dst = 0x11000000 + b →
      Answers .mdmaBurst s (fun t => t.mdmaRun = some { x with
          src := x.src + 1, dst := x.dst + 1, left := x.left - 1, moved := x.moved + 1, fails := 0, failW := false } ∧
        t.sram false b = (if inBank b then s.sram false b else s.sram false a) ∧
        (∀ k, k ≠ b → t.sram false k = s.sram false k) ∧
        { t with mdmaRun := s.mdmaRun, sramA := s.sramA } = s)) ∧
    (∀ x, s.mdmaRun = some x → x.fails < 3 ∨ x.failW ≠ s.failsWrite x →
      exec .mdmaAccessFail s = .next { s with free := s.free + 1, mdmaRun := some { x with
        fails := (if x.failW = s.failsWrite x then x.fails else 0) + 1, failW := s.failsWrite x } }) ∧
    (∀ l, s.mdmaRun = none → s.mdmaQ = c :: l → s.flag (.mdmaCtl c) MDMA_CTL.CHAIN →
      (s.mdmaFails < 3 → exec .mdmaAccessFail s = .next { s with mdmaFails := s.mdmaFails + 1 }) ∧
      (3 ≤ s.mdmaFails → Answers .mdmaAccessFail s (fun t => t.mdmaRun = none ∧ c ∉ t.mdmaQ ∧
        t.flag (.mdmaSts c) MDMA_STS.HALT ∧ code t = 1 ∧ busy t = false ∧
        t.getF (.mdmaSts c) MDMA_STS.BYTES = 0))) ∧
    (∀ x, s.mdmaRun = some x → x.ch = c → 3 ≤ x.fails → x.failW = s.failsWrite x → x.chain = none →
      Answers .mdmaAccessFail s (fun t => t.mdmaRun = none ∧ t.flag (.mdmaSts c) MDMA_STS.HALT ∧ code t = 1 ∧
        busy t = false ∧ t.flag (.mdmaSts c) MDMA_STS.RUN = false ∧
        t.getF (.mdmaSts c) MDMA_STS.BYTES = x.moved % 2 ^ 24)) ∧
    (∀ x, s.mdmaRun = some x → x.ch = c → x.chain = none → x.stop = false → x.left = 0 →
      Answers .mdmaRunEnd s (fun t => t.mdmaRun = none ∧ code t = 0 ∧ busy t = false ∧
        t.flag (.mdmaSts c) MDMA_STS.RUN = false ∧ t.flag (.mdmaSts c) MDMA_STS.DONE ∧
        t.getF (.mdmaSts c) MDMA_STS.BYTES = x.moved % 2 ^ 24)) ∧
    (∀ x, s.mdmaRun = some x → x.ch = c → x.chain = none → x.stop →
      Answers .mdmaRunEnd s (fun t => t.mdmaRun = none ∧ code t = 3 ∧ busy t = false ∧
        t.flag (.mdmaSts c) MDMA_STS.RUN = false ∧ KeepsRegs s t [(Reg.mdmaSts c).addr]))

/-- Power domains (R384 to R394): an accepted `MODE` makes the domain PENDING, a refused one sets `IGN`; entry goes step by
step, the save list being copied in its second, and a wake cancels it at an abort point; in the cycle of the request the request wins (R384); a wake event starts the
return, which ends in ON; a domain drops to its idle bias once `HOLD` has passed without traffic (R394).

The model's own choices in it, no rules of the specification: log entries 22, 49 and 50. -/
def Obligations.PowerDomains : Prop :=
  ∀ (s : State) (d : Nat), d < 168 → s.up →
    let wakes (t : State) (d src : Nat) : Prop := t.domSt d = dReturning ∧ t.getF (.pwrSts d) PWR_STS.WSRC = src ∧
      t.flag (.pwrSts d) PWR_STS.WOKE ∧ t.getF (.pwrSts d) PWR_STS.RSTEP = 0 ∧ t.getF (.pwrCtl d) PWR_CTL.MODE = 0
    let asleep (d : Nat) : Prop := s.domSt d = dRetention ∨ s.domSt d = dOff
    (∀ q mode, s.accepts q (.pwrCtl d) → s.domSt d = dOn →
      ((mode = 1 ∨ mode = 2) → s.entryRefused d mode = false →
        Answers (.pwrEntryRequest q d mode) s (fun t => t.domSt d = dPending ∧
          t.getF (.pwrCtl d) PWR_CTL.MODE = mode ∧ (t.dom d).target = mode ∧ (t.dom d).step = 0)) ∧
      ((mode = 1 ∨ mode = 2) → s.entryRefused d mode → s.flag (.fltCfg 49) FLT_CFG.EN = false →
        Answers (.pwrEntryRequest q d mode) s (fun t => t.domSt d = dOn ∧ t.flag (.pwrSts d) PWR_STS.IGN ∧
          t.getF (.pwrCtl d) PWR_CTL.MODE = s.getF (.pwrCtl d) PWR_CTL.MODE ∧ t.dom d = s.dom d ∧
          ∀ e, e ≠ 160 → e ≠ 161 → t.dom e = s.dom e))) ∧
    (∀ q, s.accepts q (.pwrCtl d) → asleep d → s.neededOn d →
      Answers (.pwrWakeWrite q d) s (fun t => wakes t d 1)) ∧
    (s.domSt d = dPending → s.entryReady d →
      Answers (.domainEntryStart d) s (fun t => t.domSt d = dEntering ∧ (t.dom d).step = 0 ∧ (t.dom d).wake = none)) ∧
    (s.domSt d ≠ dPending ∨ s.entryReady d = false → exec (.domainEntryStart d) s = .next s) ∧
    (s.domSt d = dEntering → (s.dom d).wake = none →
      ((s.dom d).step < 4 →
        Answers (.entryStepComplete d false) s (fun t => (t.dom d).step = (s.dom d).step + 1 ∧ t.regs = s.regs ∧
          (∀ e, e ≠ d → t.dom e = s.dom e) ∧
          ((s.dom d).step ≠ 1 → t.dom d = { s.dom d with step := (s.dom d).step + 1 }) ∧
          ((s.dom d).step = 1 → ∀ r ∈ savedRegs d, t.savedCopy r = some (s.rd r))) ∧
        Answers (.entryStepComplete d true) s (fun t => t.domSt d = dOn ∧ t.flag (.pwrSts d) PWR_STS.ABT ∧
          t.getF (.pwrSts d) PWR_STS.APT = (s.dom d).step + 1 ∧ t.getF (.pwrCtl d) PWR_CTL.MODE = 0)) ∧
      ((s.dom d).step = 4 → ∀ w,
        Answers (.entryStepComplete d w) s (fun t =>
          t.domSt d = (if (s.dom d).target = 1 then dRetention else dOff) ∧
          t.getF (.pwrSts d) PWR_STS.ENTRIES =
            (s.getF (.pwrSts d) PWR_STS.ENTRIES + 1) % 2 ^ PWR_STS.ENTRIES.width))) ∧
    (s.domSt d = dReturning →
      (s.neededOn d → s.getF (.pwrSts d) PWR_STS.RSTEP < 3 →
        Answers (.returnStepReady d) s (fun t => t.domSt d = dReturning ∧
          t.getF (.pwrSts d) PWR_STS.RSTEP = s.getF (.pwrSts d) PWR_STS.RSTEP + 1 ∧
          OnlyRegs s t [(Reg.pwrSts d).addr])) ∧
      (s.neededOn d → s.getF (.pwrSts d) PWR_STS.RSTEP = 3 →
        Answers (.returnStepReady d) s (fun t => t.domSt d = dOn ∧ (t.dom d).copy = none)) ∧
      (s.neededOn d = false → exec (.returnStepReady d) s = .next s) ∧
      (s.flag (.fltCfg 55) FLT_CFG.EN = false →
        Answers (.returnStepStuck d) s (fun t => t.domSt d = dReturning ∧ t.flag (.pwrSts d) PWR_STS.STUCK ∧
          t.dom d = s.dom d))) ∧
    (s.flag (.pwrCtl d) PWR_CTL.DWAKE ∨ d = 160 ∨ d = 161 → s.demanded d → asleep d → s.neededOn d →
      Answers (.demandWake d) s (fun t => wakes t d (if d = 160 ∨ d = 161 then 6 else 2))) ∧
    (s.flag (.pwrCtl d) PWR_CTL.DWAKE → s.demanded d → s.domSt d = dPending → s.neededOn d →
      ((s.dom d).pendAt = s.now → Answers (.demandWake d) s (fun t => t.domSt d = dPending ∧
        t.flag (.pwrSts d) PWR_STS.WOKE)) ∧
      ((s.dom d).pendAt ≠ s.now → Answers (.demandWake d) s (fun t => t.domSt d = dOn ∧
        t.flag (.pwrSts d) PWR_STS.ABT ∧ t.getF (.pwrSts d) PWR_STS.APT = 0))) ∧
    (s.flag (.pwrCtl d) PWR_CTL.DWAKE = false → d ≠ 160 → d ≠ 161 → exec (.demandWake d) s = .next s) ∧
    (∀ n, n < 20 → asleep (80 + n) → s.domSt (116 + n) = dOn →
      ((s.getF .pwrWline PWR_WLINE.EN).testBit n → Answers (.nativeLineEvent n) s (fun t => wakes t (80 + n) 3)) ∧
      ((s.getF .pwrWline PWR_WLINE.EN).testBit n = false → exec (.nativeLineEvent n) s = .next s)) ∧
    (∀ n, n < 16 → asleep (80 + n) → s.domSt (116 + n) = dOn → s.domSt (100 + n) = dOn →
      (s.getF .pwrWcompat PWR_WCOMPAT.LFPS).testBit n → Answers (.lfpsWake n) s (fun t => wakes t (80 + n) 4)) ∧
    (∀ p, p < 4 → asleep (136 + p) → s.domSt 163 = dOn →
      ((s.getF .pwrWvbus PWR_WVBUS.EN).testBit p → Answers (.vbusSenseEvent p) s (fun t => wakes t (136 + p) 3)) ∧
      ((s.getF .pwrWcompat PWR_WCOMPAT.EI).testBit p → Answers (.eiExitWake p) s (fun t => wakes t (136 + p) 4))) ∧
    (s.domSt d = dOn → (s.dom d).busy → (s.dom d).last + 25 * max 1 (s.dom d).hold ≤ s.now →
      Answers (.biasHoldExpiry d) s (fun t => t.dom d = { s.dom d with
          busy := false, fbb := s.flag .pwrBias PWR_BIAS.FBB, rbb := s.flag .pwrBias PWR_BIAS.RBB,
          hold := s.getF .pwrBias PWR_BIAS.HOLD } ∧
        { t with doms := s.doms } = s)) ∧
    (s.now < (s.dom d).last + 25 * max 1 (s.dom d).hold → exec (.biasHoldExpiry d) s = .next s)

/-- The link-power predictor and the voltage loop (R403 to R409); nothing goes to the regulator while its I2C port is
unavailable (R399).

The model's own choices in it, no rules of the specification: log entries 21, 52 and 53. -/
def Obligations.PredictorsAndVoltage : Prop :=
  ∀ (s : State), s.up →
    let sts (t : State) (f : Fld) := t.getF .pwrAvsSts f
    (∀ n acc, n < 16 →
      let p := s.pred (pKey n true)
      let ready (k : Nat) : Prop := p.asked = false ∧ s.pathSt n true = pEnabled ∧ s.domLive (80 + n) ∧
        (s.path n true).quiet = false ∧ s.getF (.portLink n) PORT_LINK.SLSTATE = 1 ∧ (k = 2 ∨ k = 3) ∧
        s.cfgFlag n (if k = 3 then PORT_CFG.U2_EN else PORT_CFG.U1_EN) ∧
        s.dueWithin n true (s.getF (.pwrLpex n) (if k = 3 then PWR_LPEX.U2EL else PWR_LPEX.U1EL)) = false
      let asks (t : State) (k : Nat) : Prop := (t.pred (pKey n true)).asked ∧
        t.getF (.pwrLpst n 1) PWR_LPST.LAST = k ∧ t.getF (.portLink n) PORT_LINK.SLSTATE = (if acc then k else 1)
      (ready p.choice → p.idleFor s.now p.delay → Answers (.predictorDelayExpiry n true acc) s (fun t => asks t p.choice)) ∧
      (p.idleFor s.now p.delay = false → exec (.predictorDelayExpiry n true acc) s = .next s) ∧
      (ready p.deep → p.idleFor s.now p.force → p.bounded = false → Answers (.predictorForceExpiry n true acc) s (fun t => asks t p.deep ∧
        (t.pred (pKey n true)).bounded ∧ t.getF (.pwrLpcnt n 1) PWR_LPCNT.CLAMPS =
          (s.getF (.pwrLpcnt n 1) PWR_LPCNT.CLAMPS + 1) % 2 ^ PWR_LPCNT.CLAMPS.width))) ∧
    (∀ n acc, n < 20 →
      let p := s.pred (pKey n false)
      p.idleFor s.now p.delay → p.asked = false → p.choice = 1 → s.pathSt n false = pEnabled → s.domLive (80 + n) →
      (s.path n false).quiet = false → s.cfgFlag n PORT_CFG.L1_EN → (s.path n false).l1Stall = false → s.getF (.portLink n) PORT_LINK.LSTATE = 1 →
      s.dueWithin n false (beslTime p.besl + 50) = false →
      Answers (.predictorDelayExpiry n false acc) s (fun t => t.pred (pKey n false) =
          { p with asked := true, lpm := some p.besl } ∧ t.getF (.pwrLpst n 0) PWR_LPST.LAST = 1 ∧
        t.getF (.portLink n) PORT_LINK.LSTATE = 1)) ∧
    (∀ need, s.avsOn → s.pinsOn 166 → s.cstep = 0 → s.getF .pwrAvsPol PWR_AVS_POL.FLOOR ≤ need.getD 0 0 →
      need.getD 0 0 ≤ s.getF .pwrAvsPol PWR_AVS_POL.CEIL →
      let v := need.getD 0 0
      let w := if s.vout < v then min v (s.vout + 5) else if v < s.vout then max v (s.vout - 5) else s.vout
      Answers (.avsEvaluation need) s (fun t => sts t PWR_AVS_STS.VNEED = v ∧ t.cstep = 0 ∧ t.vout = w ∧
        t.out = (if s.vout = v then s.out else s.voutCommand w :: s.out) ∧
        KeepsRegs s t [(Reg.pwrAvsSts).addr])) ∧
    (s.avsOn = false → ∀ need, exec (.avsEvaluation need) s = .next s) ∧
    (∀ need, s.avsOn → s.pinsOn 166 = false → Answers (.avsEvaluation need) s (fun t => t.vout = s.vout ∧ t.out = s.out)) ∧
    (∀ at_, s.avsOn → s.avs.settling = some at_ → s.avs.goal ≤ 6 →
      (at_ ≤ s.now → Answers .avsSettleExpiry s (fun t => t.cstep = s.avs.goal ∧ t.avs = { s.avs with settling := none } ∧
        KeepsRegs s t [(Reg.pwrAvsSts).addr])) ∧
      (s.now < at_ → exec .avsSettleExpiry s = .next s)) ∧
    (s.avs.writing →
      Answers (.avsRegulatorWriteDone true) s (fun t => t.avs.writing = false ∧ t.avs.fails = 0 ∧
        t.avs.confirmed = s.vout ∧ { t with avs := s.avs } = s) ∧
      (s.avs.fails < 3 → Answers (.avsRegulatorWriteDone false) s (fun t =>
        t.avs = { s.avs with fails := s.avs.fails + 1 } ∧ t.regs = s.regs ∧
        t.out = if s.pinsOn 166 then s.voutCommand s.vout :: s.out else s.out)) ∧
      (3 ≤ s.avs.fails → s.avs.confirmed < 1024 → s.flag (.fltCfg 56) FLT_CFG.EN = false →
        Answers (.avsRegulatorWriteDone false) s (fun t => t.avs.writing = false ∧ t.avs.fails = 0 ∧
          t.flag .pwrAvsSts PWR_AVS_STS.BUSERR ∧ t.vout = s.avs.confirmed ∧
          t.cstep = stepFor s.avs.need s.avs.confirmed))) ∧
    (∀ q (v : Word32), s.accepts q .pwrAvsPol →
      let c := PWR_AVS_POL.CEIL.get (v.setWidth 64)
      let f := PWR_AVS_POL.FLOOR.get (v.setWidth 64)
      (c < f ∨ c < 650 ∨ 850 < c ∨ f < 650 →
        Answers (.avsPolicyWrite q v) s (fun t => t.flag .pwrAvsSts PWR_AVS_STS.IGN ∧ t.rd .pwrAvsPol = s.rd .pwrAvsPol ∧
          t.avs = s.avs ∧ t.vout = s.vout)) ∧
      (f ≤ c → c ≤ 850 → 650 ≤ f →
        Answers (.avsPolicyWrite q v) s (fun t => t.getF .pwrAvsPol PWR_AVS_POL.CEIL = c ∧
          t.getF .pwrAvsPol PWR_AVS_POL.FLOOR = f ∧
          t.flag .pwrAvsPol PWR_AVS_POL.EN = (PWR_AVS_POL.EN.get (v.setWidth 64) == 1) ∧
          (PWR_AVS_POL.EN.get (v.setWidth 64) = 0 → t.cstep = 0))))

/-- The interrupt controller (R410 to R418): software sources, pin filters, source set-up, claim and complete, and the pairs'
interrupt lines. A source that wakes a pair in WFI changes what the wake changes (R421).

The model's own choices in it, no rules of the specification: log entries 12 and 54. -/
def Obligations.InterruptController : Prop :=
  ∀ (s : State), s.up →
    let sts : List Nat := wakeRegs
    (∀ q (bits : BitVec 8), s.accepts q .icSwi →
      Answers (.icSwiWrite q bits) s (fun t => (∀ k, k < 8 → bits.getLsbD k → t.irqPend (404 + k)) ∧
        (∀ i, i < 404 ∨ 412 ≤ i → FMap.find false i t.icPend = FMap.find false i s.icPend) ∧ KeepsRegs s t sts)) ∧
    (∀ k level, k < 16 → s.pinsOn 166 →
      (s.gpioFilt k = 0 → (s.gpi k).level ≠ level →
        Answers (.gpioInputChange k level) s (fun t => t.gpi k = ⟨level, level, 0⟩ ∧
          (s.getF (.icSrc (318 + k)) IC_SRC.SENSE = 4 → t.irqPend (318 + k)) ∧
          (s.getF (.icSrc (318 + k)) IC_SRC.SENSE = (if level then 2 else 3) → t.irqPend (318 + k)) ∧
          KeepsRegs s t sts)) ∧
      (s.gpioFilt k ≠ 0 →
        Answers (.gpioInputChange k level) s (fun t => t.gpi k = { s.gpi k with pin := level } ∧
          { t with gpio := s.gpio, doms := s.doms } = s))) ∧
    (∀ k, k < 16 → s.pinsOn 166 → s.gpioFilt k ≠ 0 →
      let g := s.gpi k
      Answers .gpioFilterTick s (fun t => t.gpi k = (if g.pin = g.level then { g with count := 0 }
        else if s.gpioFilt k ≤ g.count + 1 then ⟨g.pin, g.pin, 0⟩ else { g with count := g.count + 1 }))) ∧
    (s.pinsOn 166 = false → exec .gpioFilterTick s = .next s ∧ ∀ k l, exec (.gpioInputChange k l) s = .next s) ∧
    (∀ q i (v : Word32), irqExists i → irqIsPin i = false → s.accepts q (.icSrc i) →
      Answers (.icSrcWrite q i v) s (fun t => (∀ f, f = IC_SRC.ENA ∨ f = IC_SRC.ENB ∨ f = IC_SRC.PRI →
          t.getF (.icSrc i) f = f.get (v.setWidth 64)) ∧ KeepsRegs s t ((Reg.icSrc i).addr :: sts))) ∧
    (∀ mb : Bool,
      let q : Requester := if mb then .mb else .ma
      let c : Reg := .icClaimed mb.toNat
      (∀ i, s.accepts q (.icClaim mb.toNat) → s.bestIrq mb = some i →
        s.deliverable mb i ∧ (∀ j, j < 412 → s.deliverable mb j →
          s.getF (.icSrc j) IC_SRC.PRI ≤ s.getF (.icSrc i) IC_SRC.PRI) ∧
        Answers (.icClaim q mb) s (fun t => t.inService mb i ∧ t.irqPend i = false ∧ t.getF c IC_CLAIMED.ID = i ∧
          t.getF c IC_CLAIMED.PRI = s.getF (.icSrc i) IC_SRC.PRI ∧ KeepsRegs s t [c.addr] ∧
          ((∀ j, j < 412 → j ≠ i → s.deliverable (!mb) j = false) → t.irqLine (!mb) = false))) ∧
      (s.irqLine mb ↔ ∃ i, i < 412 ∧ s.deliverable mb i) ∧ (s.irqLine mb = false → s.bestIrq mb = none) ∧
      (s.accepts q (.icClaim mb.toNat) → s.bestIrq mb = none →
        Answers (.icClaim q mb) s (fun t => t.getF c IC_CLAIMED.ID = 0x3FF ∧
          t.getF (.icSts mb.toNat) IC_STS.SPUR = (s.getF (.icSts mb.toNat) IC_STS.SPUR + 1) % 2 ^ IC_STS.SPUR.width ∧
          t.insA = s.insA ∧ t.insB = s.insB ∧ t.icPend = s.icPend)) ∧
      (∀ i, i < 1024 → s.accepts q (.icComp mb.toNat) →
        (s.inService mb i → Answers (.icComplete q mb i) s (fun t => t.inService mb i = false ∧
          (∀ j, j ≠ i → t.inService mb j = s.inService mb j) ∧ KeepsRegs s t sts)) ∧
        (s.inService mb i = false → Answers (.icComplete q mb i) s (fun t =>
          t.flag (.icSts mb.toNat) IC_STS.IGN ∧ OnlyRegs s t [(Reg.icSts mb.toNat).addr])))) ∧
    (∀ q mb i, s.accepts q (.icClaim mb.toNat) → s.accepts q (.icComp mb.toNat) → pairIs q mb = false →
      exec (.icClaim q mb) s = .next (s.violation q (Reg.loc (.icClaim mb.toNat))) ∧
      exec (.icComplete q mb i) s = .next (s.violation q (Reg.loc (.icComp mb.toNat))))

/-- The fault unit's state machine (R424 to R442): windows and quiet times, CLEAR, HCLEAR, forced and raised events, and the
reactions a source may have.

The model's own choices in it, no rules of the specification: log entries 29 and 58. -/
def Obligations.FaultUnit : Prop :=
  ∀ (s : State) (i : Nat), i < 64 → (s.flt i).entry < 32 → s.up →
    let idle (t : State) : Prop := t.fltState i = 0 ∧ t.getF (.fltSts i) FLT_STS.COUNT = 0
    let counts (t : State) : Prop := t.fltState i = 1 ∧ t.getF (.fltSts i) FLT_STS.COUNT = 1
    let fresh : Prop := s.flag (.fltCfg i) FLT_CFG.EN ∧ s.fltState i = 0 ∧ 2 ≤ s.getF (.fltCfg i) FLT_CFG.N
    (∀ at_, (s.flt i).window = some at_ → at_ ≤ s.now → s.fltState i = 1 → Answers (.faultWindowExpiry i) s idle) ∧
    ((s.flt i).window = none ∨ s.fltState i ≠ 1 ∨ (∃ at_, (s.flt i).window = some at_ ∧ s.now < at_) →
      exec (.faultWindowExpiry i) s = .next s) ∧
    (s.now < (s.flt i).last + s.quietTime → exec (.faultQuietExpiry i) s = .next s) ∧
    (s.fltState i = 2 → (s.flt i).last + s.quietTime ≤ s.now → s.fltHour i < s.getF .fltRcfg FLT_RCFG.K →
      Answers (.faultQuietExpiry i) s (fun t => idle t ∧ (t.flt i).times = (s.aon.clockCount :: (s.flt i).times).take 15 ∧
        t.getF (.fltSts i) FLT_STS.RCNT = min 65535 (s.getF (.fltSts i) FLT_STS.RCNT + 1))) ∧
    (s.fltState i = 2 → (s.flt i).last + s.quietTime ≤ s.now → s.getF .fltRcfg FLT_RCFG.K ≤ s.fltHour i →
      Answers (.faultQuietExpiry i) s (fun t => t.fltState i = 3 ∧
        t.getF (.fltSts i) FLT_STS.COUNT = s.getF (.fltSts i) FLT_STS.COUNT ∧ t.ports = s.ports)) ∧
    (∀ at_, i < 20 → (s.flt i).holdQuiet = some at_ → at_ + s.quietTime ≤ s.now → s.fltState i < 2 →
      Answers (.ocHoldQuietExpiry i) s (fun t => (t.flt i).holdQuiet = none ∧
        (∀ n, n < 20 → i ∉ (t.port n).holds) ∧ t.fltState i = s.fltState i)) ∧
    (∀ q, s.accepts q .fltCtl →
      (i ≠ 48 → i ≠ 63 → s.fltState i ≠ 0 →
        Answers (.fltClear q i) s (fun t => idle t ∧ (t.flt i).times = [] ∧ ∀ n, n < 20 → i ∉ (t.port n).holds)) ∧
      (i ≠ 48 → i ≠ 63 → s.fltState i = 0 → exec (.fltClear q i) s = .next s) ∧
      (i = 48 ∨ i = 63 → exec (.fltClear q i) s = .next (s.violation q Reg.fltCtl.loc)) ∧
      Answers (.fltHclear q) s (fun t => (∀ w, w < 256 → t.rd (.fltHist w) = 0) ∧
        t.getF .fltHsts FLT_HSTS.NEWEST = 0 ∧ t.flag .fltHsts FLT_HSTS.PIN = false ∧ t.rd .fltHtotal = 0 ∧
        (t.flt i).entry = 0 ∧ (t.flt i).pinned = false ∧ t.fltState i = s.fltState i)) ∧
    (∀ q detail, detail < 65536 → s.accepts q .fltForce →
      (20 ≤ i → i ≠ 63 → fresh → Answers (.fltForce q i detail) s (fun t => counts t ∧ ∃ e, 0 < e ∧ e < 32 ∧
        (t.flt i).entry = e ∧ t.getF .fltHsts FLT_HSTS.NEWEST = e ∧ t.rd (.fltHist (e * 8)) =
          fltWord0 (s.getF (.fltHist (e * 8)) ⟨63, 56⟩ + 1) i detail true)) ∧
      (i < 20 → Answers (.fltForce q i detail) s (fun t => i ∈ (t.port i).holds)) ∧
      (i = 63 → exec (.fltForce q i detail) s = .next s)) ∧
    (∀ q detail, detail < 65536 → s.accepts q .fltRaise →
      (isPair q → i = 59 ∨ i = 62 → fresh → Answers (.fltRaise q i detail) s counts) ∧
      (isPair q = false ∨ (i ≠ 59 ∧ i ≠ 62) →
        exec (.fltRaise q i detail) s = .next (s.violation q Reg.fltRaise.loc))) ∧
    (∀ q (v : Word32), s.accepts q (.fltCfg i) →
      (FLT_CFG.REACT.get (v.setWidth 64) ∈ reactions i →
        Answers (.fltCfgWrite q i v) s (fun t => t.rd (.fltCfg i) =
            applyFields (v.setWidth 64) (Reg.fltCfg i).fields (s.rd (.fltCfg i)) ∧
          OnlyRegs s t [(Reg.fltCfg i).addr])) ∧
      (FLT_CFG.REACT.get (v.setWidth 64) ∉ reactions i →
        exec (.fltCfgWrite q i v) s = .next (s.violation q (Reg.loc (.fltCfg i)))))

/-- A source that latches instead of recovering (R434). -/
def Obligations.LatchInsteadOfRecovery : Prop :=
  ∀ (s : State) (i : Nat), i < 64 → (s.flt i).entry < 32 → s.up → s.fltState i = 2 →
    (s.flt i).last + s.quietTime ≤ s.now → s.getF .fltRcfg FLT_RCFG.K ≤ s.fltHour i →
    Answers (.faultQuietExpiry i) s (fun t => t.fltState i = 3 ∧ t.ports = s.ports ∧ t.rd .fltHold = s.rd .fltHold ∧
      (t.flt i).dsafe = (s.flt i).dsafe ∧
      t.getF (.fltSts i) FLT_STS.RCNT = s.getF (.fltSts i) FLT_STS.RCNT ∧
      (∀ e, e ∈ s.fltEntries i → t.getF (.fltHist (e * 8)) ⟨33, 32⟩ = 2) ∧
      ((s.flt i).react ≠ 0 → (t.rd .fltIpend).getLsbD i) ∧
      ((s.flt i).react = 0 → t.rd .fltIpend = s.rd .fltIpend)) ∧
    (s.getF .fltRcfg FLT_RCFG.K = 0 → s.getF .fltRcfg FLT_RCFG.K ≤ s.fltHour i)

/-- ALIVE and the detectors (R422, R423, R432, R456).

The model's own choices in it, no rules of the specification: log entry 58. -/
def Obligations.AliveAndDetectors : Prop :=
  ∀ (s : State), s.up →
    let off (i : Nat) : Prop := s.flag (.fltCfg i) FLT_CFG.EN = false
    let fresh (i : Nat) : Prop := s.flag (.fltCfg i) FLT_CFG.EN ∧ s.fltState i = 0 ∧ 2 ≤ s.getF (.fltCfg i) FLT_CFG.N
    let counts (t : State) (i : Nat) : Prop := t.fltState i = 1 ∧ t.getF (.fltSts i) FLT_STS.COUNT = 1
    (s.aliveStopped → exec .aliveToggle s = .next s) ∧
    (s.aliveStopped = false → Answers .aliveToggle s (fun t =>
      t.flag .fltAlive FLT_ALIVE.LEVEL = !(s.flag .fltAlive FLT_ALIVE.LEVEL) ∧
      (s.isolated = false → t.out = .level pinAlive (!(s.flag .fltAlive FLT_ALIVE.LEVEL)) :: s.out) ∧
      KeepsRegs s t [(Reg.fltAlive).addr])) ∧
    (∀ q halt, s.accepts q .fltAlive → Answers (.aliveHaltWrite q halt) s (fun t =>
      t.flag .fltAlive FLT_ALIVE.HALT = halt ∧
      t.flag .fltAlive FLT_ALIVE.LEVEL = s.flag .fltAlive FLT_ALIVE.LEVEL ∧ OnlyRegs s t [(Reg.fltAlive).addr])) ∧
    (∀ i x, i < 64 → off 57 → off 58 → Answers (.sensorSample (.diode i x)) s (fun t =>
      t.getF (.tlmDiode (i / 4)) ⟨8 * (i % 4) + 7, 8 * (i % 4)⟩ = (x % 256).toNat ∧
      OnlyRegs s t [(Reg.tlmDiode (i / 4)).addr])) ∧
    (∀ i x, i < 64 → fresh 57 → signed8 (s.getF .fltTemp FLT_TEMP.WARN) < x →
      x ≤ signed8 (s.getF .fltTemp FLT_TEMP.CRIT) → Answers (.sensorSample (.diode i x)) s (fun t => counts t 57)) ∧
    (∀ k v, k < 7 → v < 4096 → Answers (.sensorSample (.rail k v)) s (fun t => t.getF (.tlmRail k) TLM_RAIL.V = v ∧
      (v < s.getF (.tlmRwin k) TLM_RWIN.LO → t.irqLevel 338) ∧
      KeepsRegs s t ((Reg.tlmRail k).addr :: wakeRegs))) ∧
    (∀ m addr, off 45 → Answers (.eccCeDetected m addr) s (fun t =>
      t.getF (.tlmEcc m) TLM_ECC.CE = (s.getF (.tlmEcc m) TLM_ECC.CE + 1) % 2 ^ 32 ∧
      OnlyRegs s t [(Reg.tlmEcc m).addr])) ∧
    (∀ m addr, fresh 45 → m < 10 → Answers (.eccCeDetected m addr) s (fun t => counts t 45)) ∧
    (∀ m addr, fresh 44 → m ≠ (if s.activeMb then 9 else 8) →
      Answers (.eccUeDetected m addr) s (fun t => counts t 44 ∧ t.activeMb = s.activeMb ∧
        t.getF .glbMgtSts GLB_MGT_STS.FOVR = s.getF .glbMgtSts GLB_MGT_STS.FOVR)) ∧
    (∀ addr, off 44 → s.sbyRdy →
      Answers (.eccUeDetected (if s.activeMb then 9 else 8) addr) s (fun t => t.activeMb = (!s.activeMb) ∧
        t.getF .glbMgtSts GLB_MGT_STS.CAUSE = 3 ∧
        t.getF .glbMgtSts GLB_MGT_STS.FOVR = min 65535 (s.getF .glbMgtSts GLB_MGT_STS.FOVR + 1)))

/-- The management pairs (R443 to R455): failover and what triggers it, and the commands of `GLB_MGT_CTL`. The new active pair
starts at `RVEC`.

The model's own choices in it, no rules of the specification: log entries 55, 56 and 98 (what a pair's boot shows). -/
def Obligations.ManagementPairs : Prop :=
  ∀ (s : State), s.up →
    let sts (t : State) (f : Fld) := t.getF .glbMgtSts f
    let anew (t : State) (b : Bool) : Prop := (t.pair b).halted = false ∧ (t.pair b).wfi = false ∧ (t.pair b).resume = false
    let hands (t : State) (cause : Nat) : Prop := t.activeMb = (!s.activeMb) ∧ t.sbyRdy = false ∧
      sts t GLB_MGT_STS.CAUSE = cause ∧ sts t GLB_MGT_STS.FOVR = min 65535 (sts s GLB_MGT_STS.FOVR + 1) ∧
      t.ckpt = none ∧ anew t s.activeMb ∧ (t.pair (!s.activeMb)).resume
    let fails (t : State) (cause : Nat) : Prop := t.activeMb = s.activeMb ∧ t.nomgt ∧ sts t GLB_MGT_STS.CAUSE = cause ∧
      sts t GLB_MGT_STS.FOVR = min 65535 (sts s GLB_MGT_STS.FOVR + 1) ∧ t.ckpt = none ∧ anew t s.activeMb
    let a := s.activeMb
    (∀ mb : Bool, (s.pair mb).halted → exec (.lockstepMismatch mb) s = .next s) ∧
    (∀ mb : Bool, (s.pair mb).halted = false → s.flag (.fltCfg (if mb then 47 else 46)) FLT_CFG.EN = false →
      (mb = a → s.sbyRdy → Answers (.lockstepMismatch mb) s (fun t => hands t 1)) ∧
      (mb = a → s.sbyRdy = false → Answers (.lockstepMismatch mb) s (fun t => fails t 1)) ∧
      (mb ≠ a → Answers (.lockstepMismatch mb) s (fun t => t.activeMb = a ∧ t.sbyRdy = false ∧
        t.pair mb = { s.pair mb with halted := true } ∧ KeepsRegs s t [(Reg.glbMgtSts).addr]))) ∧
    ((s.pair a).resume → s.domOn (if a then 161 else 160) → s.bankFor a = none →
      Answers .failoverResume s (fun t => (t.pair a).resume = false ∧
        (t.pair a).entry = some (16 * s.getF .glbMgtCtl GLB_MGT_CTL.RVEC) ∧ sts t GLB_MGT_STS.RESUMED = 0 ∧
        t.sramA = s.sramA ∧ t.sramB = s.sramB ∧ KeepsRegs s t [(Reg.glbMgtSts).addr])) ∧
    (∀ bank, (s.pair a).resume → s.domOn (if a then 161 else 160) → s.bankFor a = some bank →
      Answers .failoverResume s (fun t => (t.pair a).resume = false ∧
        (t.pair a).entry = some (16 * s.getF .glbMgtCtl GLB_MGT_CTL.RVEC) ∧ sts t GLB_MGT_STS.RESUMED = 1 ∧
        (∀ k, k < (s.commitOf a bank).2.1 → t.sram a (ckptArea + k) = s.sram a (bankBase bank + k)) ∧
        KeepsRegs s t [(Reg.glbMgtSts).addr])) ∧
    ((s.pair a).resume = false → exec .failoverResume s = .next s) ∧
    (∀ q, s.accepts q .glbMgtCtl →
      (isPair q → s.isActive q = false →
        Answers (.mgtReady q) s (fun t => t.sbyRdy ∧ KeepsRegs s t [(Reg.glbMgtSts).addr, (Reg.glbMgtCtl).addr])) ∧
      (s.isActive q → s.nomgt → Answers (.mgtReady q) s (fun t => t.nomgt = false ∧ sts t GLB_MGT_STS.RESUMED = 0 ∧
        KeepsRegs s t [(Reg.glbMgtSts).addr, (Reg.glbMgtCtl).addr])) ∧
      (s.isActive q → s.sbyRdy → Answers (.mgtFailover q) s (fun t => hands t 4)) ∧
      (s.isActive q = false ∨ s.sbyRdy = false → Answers (.mgtFailover q) s (fun t => t.activeMb = a ∧
        KeepsRegs s t [(Reg.glbMgtCtl).addr])) ∧
      (s.isActive q → Answers (.mgtRebootStby q) s (fun t => anew t (!a) ∧ t.pair a = s.pair a ∧
        t.sbyRdy = false ∧ t.activeMb = a)) ∧
      (isPair q → Answers (.mgtPeerDb q) s (fun t => t.irqPend 339 ∧ t.activeMb = a))) ∧
    (∀ q, s.accepts q .glbMgtWdt →
      (s.isActive q → exec (.wdtKick q) s =
        .next { s with wdt := if s.getF .glbMgtWdt GLB_MGT_WDT.TIMEOUT = 0 then none else some s.now }) ∧
      (isPair q → s.isActive q = false → exec (.wdtKick q) s = .next (s.violation q Reg.glbMgtWdt.loc)) ∧
      (isPair q = false → exec (.wdtKick q) s = .next s)) ∧
    (∀ from_, s.wdt = some from_ → from_ + s.wdtPeriod ≤ s.now →
      (s.sbyRdy → Answers .watchdogExpiry s (fun t => hands t 2 ∧ t.wdt = none)) ∧
      (s.sbyRdy = false → Answers .watchdogExpiry s (fun t => fails t 2 ∧ t.wdt = none))) ∧
    (s.wdt = none ∨ (∃ from_, s.wdt = some from_ ∧ s.now < from_ + s.wdtPeriod) → exec .watchdogExpiry s = .next s)

/-- Checkpoints, the latency snapshot and the firmware mailbox (R448, R458, R466). A GO in the cycle of a failover's trigger is
discarded (R452).

The model's own choices in it, no rules of the specification: log entries 11, 57 and 58. -/
def Obligations.CheckpointsAndMailbox : Prop :=
  ∀ (s : State), s.up →
    let a := s.activeMb
    (∀ q len, s.accepts q .glbMgtCkpt → s.isActive q → len < 4096 → s.cycle.trig →
      Answers (.ckptGo q len) s (fun t => t.ckpt = s.ckpt ∧ OnlyRegs s t [(Reg.glbMgtCkpt).addr])) ∧
    (∀ q len, s.accepts q .glbMgtCkpt → s.isActive q → len < 4096 → s.cycle.trig = false →
      (s.flag .glbMgtCkpt GLB_MGT_CKPT.BUSY = false → 0 < len → len < 2048 → s.stbyOn →
        let n := (s.getF .glbMgtCkseq GLB_MGT_CKSEQ.SEQ + 1) % 2 ^ 32
        Answers (.ckptGo q len) s (fun t => t.flag .glbMgtCkpt GLB_MGT_CKPT.BUSY ∧
          (∃ u, t.ckpt = some ⟨s.ckptBank, if n = 0 then 1 else n, 64 * len, true, s.now, u⟩) ∧
          (∀ k, k < 64 → t.sram (!a) (commitAt s.ckptBank + k) = 0) ∧
          (∀ j, j < 64 * len → t.sram (!a) (bankBase s.ckptBank + j) = s.sram a (ckptArea + j)) ∧
          (∀ j, t.sram a j = s.sram a j) ∧
          KeepsRegs s t [(Reg.glbMgtCkpt).addr])) ∧
      (s.flag .glbMgtCkpt GLB_MGT_CKPT.BUSY ∨ len = 0 ∨ 2047 < len →
        Answers (.ckptGo q len) s (fun t => t.flag .glbMgtCkpt GLB_MGT_CKPT.IGN ∧ t.ckpt = s.ckpt ∧
          OnlyRegs s t [(Reg.glbMgtCkpt).addr]))) ∧
    (∀ k, s.ckpt = some k → k.begun = false → exec .checkpointCommit s = .next s) ∧
    (∀ k, s.ckpt = some k → k.begun → k.bytes ≤ 0x1FFC0 →
      Answers .checkpointCommit s (fun t => t.ckpt = none ∧ t.flag .glbMgtCkpt GLB_MGT_CKPT.BUSY = false ∧
        t.getF .glbMgtCkseq GLB_MGT_CKSEQ.SEQ = k.seq % 2 ^ 32 ∧
        t.flag .glbMgtCkpt GLB_MGT_CKPT.BANK = k.bankB ∧
        (∀ j, j < k.bytes → t.sram (!a) (bankBase k.bankB + j) = s.sram (!a) (bankBase k.bankB + j)) ∧
        (∀ j, t.sram a j = s.sram a j) ∧
        leValue (t.sramBytes (!a) (commitAt k.bankB) 8) = k.seq % 2 ^ 32 * 2 ^ 32 + k.bytes)) ∧
    (s.ckpt = none → exec .checkpointCommit s = .next s) ∧
    (∀ q, s.accepts q .tlmCtl → Answers (.tlmSnap q) s (fun t => t.live = [] ∧
      (∀ b, b < 16 → t.getF (.tlmLat b) TLM_LAT.N = min (2 ^ 32 - 1) (s.liveOf b)) ∧
      KeepsRegs s t ((List.range 16).map (fun b => (Reg.tlmLat b).addr)))) ∧
    (∀ q, s.accepts q .glbFwmbCsr →
      let hbusy (t : State) := t.flag .glbFwmbCsr GLB_FWMB_CSR.HBUSY
      let ffull (t : State) := t.flag .glbFwmbCsr GLB_FWMB_CSR.FFULL
      let only (t : State) : Prop := OnlyRegs s t [(Reg.glbFwmbCsr).addr]
      (s.isMgrFunc q →
        (hbusy s = false → Answers (.fwmbHdb q) s (fun t => hbusy t ∧ ffull t = ffull s ∧ only t)) ∧
        (hbusy s → Answers (.fwmbHdb q) s (fun t => hbusy t ∧ t.flag .glbFwmbCsr GLB_FWMB_CSR.HOVR ∧ only t)) ∧
        Answers (.fwmbHack q) s (fun t => ffull t = false ∧ hbusy t = hbusy s ∧ only t)) ∧
      (s.isActive q →
        Answers (.fwmbFack q) s (fun t => hbusy t = false ∧ ffull t = ffull s ∧ only t) ∧
        (s.flag .glbFwmbCsr GLB_FWMB_CSR.IE = false →
          Answers (.fwmbFdb q) s (fun t => ffull t ∧ hbusy t = hbusy s ∧ only t))))

/-- Loopbacks, self-test and JTAG (R491 to R503).

The model's own choices in it, no rules of the specification: log entries 16, 65, 66 and 67. -/
def Obligations.TestFeatures : Prop :=
  ∀ (s : State), s.up →
    (∀ n, n < 20 →
      let f (t : State) (x : Fld) := t.flag (.portTstSts n) x
      let mine : List Nat := [(Reg.portTstCtl n).addr, (Reg.portTstSts n).addr, (Reg.portTstBits n).addr,
        (Reg.portTstErrs n).addr]
      (∀ q (v : Word32), s.accepts q (.portTstCtl n) →
        let k := s.tstRefusal n (PORT_TST_CTL.STOP.put 0 (PORT_TST_CTL.START.put 1 (v.setWidth 64)))
        (k = 0 → Answers (.portTstStart q n v) s (fun t => f t PORT_TST_STS.RUN ∧ f t PORT_TST_STS.LOCK = false ∧
          f t PORT_TST_STS.LOST = false ∧ t.rd (.portTstBits n) = 0 ∧ t.rd (.portTstErrs n) = 0 ∧ OnlyRegs s t mine)) ∧
        (k ≠ 0 → Answers (.portTstStart q n v) s (fun t => f t PORT_TST_STS.REJ ∧
          t.getF (.portTstSts n) PORT_TST_STS.RCODE = k ∧ f t PORT_TST_STS.RUN = f s PORT_TST_STS.RUN ∧
          t.rd (.portTstBits n) = s.rd (.portTstBits n) ∧ OnlyRegs s t mine))) ∧
      (∀ q b e, s.accepts q (.portTstCtl n) → f s PORT_TST_STS.RUN →
        Answers (.portTstStop q n b e) s (fun t => f t PORT_TST_STS.RUN = false ∧ f t PORT_TST_STS.LOCK = false ∧
          (f s PORT_TST_STS.LOCK → (t.rd (.portTstBits n)).toNat = min (2 ^ 64 - 1) ((s.rd (.portTstBits n)).toNat + b)) ∧
          (f s PORT_TST_STS.LOCK = false → t.rd (.portTstBits n) = s.rd (.portTstBits n)) ∧ OnlyRegs s t mine)) ∧
      (s.tstChecks n → Answers (.loopbackLock false n) s (fun t => f t PORT_TST_STS.LOCK ∧ OnlyRegs s t mine)) ∧
      (s.tstChecks n = false → exec (.loopbackLock false n) s = .next s) ∧
      (∀ b e, f s PORT_TST_STS.LOCK → Answers (.loopbackLockLost false n b e) s (fun t => f t PORT_TST_STS.LOCK = false ∧
        f t PORT_TST_STS.LOST ∧ (t.rd (.portTstErrs n)).toNat = min (2 ^ 64 - 1) ((s.rd (.portTstErrs n)).toNat + e) ∧
        OnlyRegs s t mine))) ∧
    (∀ p, p < 4 → s.present p →
      let f (t : State) (x : Fld) := t.flag (.glbHpTst p) x
      (∀ q (v : Word32), s.accepts q (.glbHpTst p) →
        let w := GLB_HP_TST.STOP.put 0 (GLB_HP_TST.START.put 1 (v.setWidth 64))
        (s.hpTstOk p w → GLB_HP_TST.DEPTH.get w ≠ 5 → Answers (.hpTstStart q p v) s (fun t => f t GLB_HP_TST.RUN ∧
          f t GLB_HP_TST.LOCK = false ∧ f t GLB_HP_TST.LOST = false ∧ t.rd (.glbHpTbits p) = 0 ∧ t.rd (.glbHpTerr p) = 0 ∧
          OnlyRegs s t [(Reg.glbHpTst p).addr, (Reg.glbHpTbits p).addr, (Reg.glbHpTerr p).addr])) ∧
        (s.hpTstOk p w = false → Answers (.hpTstStart q p v) s (fun t => f t GLB_HP_TST.REJ ∧
          f t GLB_HP_TST.RUN = f s GLB_HP_TST.RUN ∧ OnlyRegs s t [(Reg.glbHpTst p).addr]))) ∧
      (∀ q b e, s.accepts q (.glbHpTst p) → f s GLB_HP_TST.RUN → f s GLB_HP_TST.LOCK = false →
        Answers (.hpTstStop q p b e) s (fun t => f t GLB_HP_TST.RUN = false ∧
          t.rd (.glbHpTbits p) = s.rd (.glbHpTbits p) ∧ t.getF (.glbHpSts p) GLB_HP_STS.LTSSM =
            (if s.getF (.glbHpSts p) GLB_HP_STS.LTSSM = ltLoopback then ltDetect
             else s.getF (.glbHpSts p) GLB_HP_STS.LTSSM))) ∧
      (f s GLB_HP_TST.RUN → Answers (.loopbackLock true p) s (fun t => f t GLB_HP_TST.LOCK)) ∧
      (∀ b e, f s GLB_HP_TST.LOCK → Answers (.loopbackLockLost true p b e) s (fun t => f t GLB_HP_TST.LOCK = false ∧
        f t GLB_HP_TST.LOST))) ∧
    (∀ q d, d < 256 → s.accepts q .glbBistCtl → s.flag .glbBistSts GLB_BIST_STS.BUSY = false →
      (d < 168 → d ≠ 164 → d ≠ 165 → s.domSt d = dOff →
        Answers (.bistStart q d) s (fun t => t.flag .glbBistSts GLB_BIST_STS.BUSY ∧
          t.getF .glbBistSts GLB_BIST_STS.DOMAIN = d ∧ t.getF .glbBistSts GLB_BIST_STS.RESULT = 0)) ∧
      (d < 168 → s.domSt d ≠ dOff → Answers (.bistStart q d) s (fun t =>
        t.flag .glbBistSts GLB_BIST_STS.BUSY = false ∧ t.getF .glbBistSts GLB_BIST_STS.RESULT = 4))) ∧
    (s.flag .glbBistSts GLB_BIST_STS.BUSY →
      Answers (.bistDone none) s (fun t => t.flag .glbBistSts GLB_BIST_STS.BUSY = false ∧
        t.getF .glbBistSts GLB_BIST_STS.RESULT = 1 ∧ OnlyRegs s t [(Reg.glbBistSts).addr]) ∧
      ∀ w, w < 2 ^ 32 → Answers (.bistDone (some w)) s (fun t => t.flag .glbBistSts GLB_BIST_STS.BUSY = false ∧
        t.getF .glbBistSts GLB_BIST_STS.RESULT = 2 ∧ t.getF .glbBistFail GLB_BIST_FAIL.ADDR = w)) ∧
    (s.domLive 166 → ∀ j, Answers (.jtagInstruction j) s (fun t => t.jtag = jtagActs j ∧
      (t.isolated ↔ s.isolated ∨ jtagActs j = .extest) ∧
      t.out = (if jtagActs j = .idcode then .idcode idcode :: s.out else s.out) ∧
      { t with jtag := s.jtag, isolated := s.isolated, out := s.out, doms := s.doms } = s)) ∧
    (s.domLive 166 = false → ∀ j, exec (.jtagInstruction j) s = .next s)
end

