-- ==== Sys2Proof/WellFormed.lean ====
section
/-!
DEFINITION. Well-formed commands: every index that a command names lies in the range that the spec gives it. The
machine does not check it; statements take it as a premise where it matters.
-/
namespace Sys2Proof

/-- Ports HP0 to HP3, functions 0 to 63 (R72, R78); service DMA channels 0 to 7 (R351). -/
def Requester.wf : Requester → Bool
  | .func hp fn => decide (hp < 4) && decide (fn < 64)
  | .dma ch => decide (ch < 8)
  | _ => true

/-- Manager space, slice pages (R504, R508), and 64-bit addresses. -/
def Loc.wf : Loc → Bool
  | .mgr off => decide (off < 0x2000000)
  | .page s off => decide (s < 256) && decide (off < 0x10000)
  | .mem a => decide (a < 2 ^ 64)

/-- The offset or address of a location. -/
def Loc.off : Loc → Nat
  | .mgr a => a
  | .page _ a => a
  | .mem a => a

/-- The sizes of an aligned read (R12). -/
def readSizes : List Nat := [1, 2, 4, 8]

/-- An aligned read; one of more than 8 bytes is a host's (R12, R506). -/
def readWf (q : Requester) (l : Loc) (bytes : Nat) : Bool :=
  (readSizes.contains bytes && decide (l.off % bytes = 0)) ||
    (match q with
     | .func _ _ => decide (8 < bytes) && decide (bytes ≤ 4096) && decide (bytes % 8 = 0) && decide (l.off % 8 = 0)
     | _ => false)

/-- Sizes that Max Payload Size, Max Read Request Size and the System Page Size can have (R79). -/
def ConfigOp.wf : ConfigOp → Bool
  | .mps n => [128, 256, 512].contains n
  | .mrrs n => [128, 256, 512, 1024, 2048, 4096].contains n
  | .systemPage n => [0x1000, 0x2000, 0x4000, 0x8000, 0x10000, 0x20000, 0x40000, 0x80000, 0x100000].contains n
  | .lnkCtl2 v => decide (v < 65536)
  | .captureBus b => decide (b < 256)
  | _ => true

/-- The two windows of a slice (R107). -/
def QuotaReg.wf : QuotaReg → Bool
  | .winBase w => decide (w < 2)
  | .winSize w => decide (w < 2)
  | _ => true

/-- A diode and a signed byte, or a rail and a 12-bit value (R456). -/
def SensorReading.wf : SensorReading → Bool
  | .diode i t => decide (i < 8) && decide (-128 ≤ t) && decide (t < 128)
  | .rail k v => decide (k < 7) && decide (v < 4096)

/-- A directory copy has 64 bytes (R467); what is read of a slot fits the image area (R487). -/
def Boot.wf (b : Boot) : Bool :=
  decide (b.copy0.length = 64) && decide (b.copy1.length = 64) && decide (b.imgA.length ≤ 262144) &&
    decide (b.imgB.length ≤ 262144)

/-- Indexes in range. -/
def Instr.wf : Instr → Bool
  | .registerWrite q l _ => q.wf && l.wf
  | .lowHalfRead q l => q.wf && l.loc.wf && readWf q l.loc l.bytes
  | .highHalfRead q l => q.wf && l.wf
  | .lowHalfWrite q l _ => q.wf && l.wf
  | .highHalfWrite q l _ => q.wf && l.wf
  | .write64 q l _ => q.wf && l.wf
  | .misalignedAccess q l _ => q.wf && l.loc.wf && decide (0 < l.bytes)
  | .narrowWrite q l => q.wf && l.wf
  | .powerOnReset _ _ _ _ boot => boot.wf
  | .railPowerFail rail => decide (rail < 6)
  | .railsGood _ boot => boot.wf
  | .resetNAssert => true
  | .resetNRelease _ _ boot => boot.wf
  | .glbRstWarm q boot => q.wf && boot.wf
  | .aclkLoss => true
  | .clockTick => true
  | .refStop => true
  | .refRestart => true
  | .snapshotTake q => q.wf
  | .portCtlPpWrite q n _ => q.wf && decide (n < 20)
  | .pgoodElapsed n _ => decide (n < 20)
  | .usb2Connect n _ => decide (n < 20)
  | .debounceExpiry n => decide (n < 20)
  | .portCtlReset q n _ => q.wf && decide (n < 20)
  | .deviceChirp n => decide (n < 20)
  | .busResetEnd n => decide (n < 20)
  | .trafficHoldEnd n => decide (n < 20)
  | .portCtlSuspend q n _ => q.wf && decide (n < 20)
  | .suspendIdleL2 n => decide (n < 20)
  | .portCtlResume q n _ => q.wf && decide (n < 20)
  | .deviceResumeK n => decide (n < 20)
  | .resumeEnd n => decide (n < 20)
  | .portCtlDisable q n _ => q.wf && decide (n < 20)
  | .portCtlWreset q n => q.wf && decide (n < 20)
  | .usb2Disconnect n => decide (n < 20)
  | .frameBabble n => decide (n < 20)
  | .ssTerminationsDetected n => decide (n < 20)
  | .ssLinkU0 n _ => decide (n < 20)
  | .ssPollingFail n => decide (n < 20)
  | .hotResetEscalate n => decide (n < 20)
  | .warmResetTimeout n => decide (n < 20)
  | .ssU3Wake n => decide (n < 20)
  | .ssResumeTimeout n => decide (n < 20)
  | .ssRecoveryFail n => decide (n < 20)
  | .ssTerminationsAbsent n => decide (n < 20)
  | .flipChange n _ => decide (n < 20)
  | .portCtlTestWrite q n _ => q.wf && decide (n < 20)
  | .ociChange n _ => decide (n < 20)
  | .ocFilterExpiry n => decide (n < 20)
  | .portGangWrite q g _ => q.wf && decide (g < 4)
  | .lpmL1Response n _ => decide (n < 20)
  | .l1RemoteWake n => decide (n < 20)
  | .deviceLgoUx n _ => decide (n < 20)
  | .erdyReceived ep _ => decide (ep < 32832)
  | .cdpVdpSrc n _ => decide (n < 20)
  | .hpLteWrite q p _ => q.wf && decide (p < 4)
  | .hpRetrain q p => q.wf && decide (p < 4)
  | .dlUp p _ _ _ => decide (p < 4)
  | .linkDown p => decide (p < 4)
  | .hotResetReceived p _ => decide (p < 4)
  | .flr p fn => decide (p < 4) && decide (fn < 64)
  | .configRequest p fn op => decide (p < 4) && decide (fn < 64) && op.wf
  | .pmeTurnOff p => decide (p < 4)
  | .hostRequestUr p fn _ => decide (p < 4) && decide (fn < 64)
  | .poisonedWrite q l => q.wf && l.wf
  | .atsInvalidateRequest p fn _ _ _ _ => decide (p < 4) && decide (fn < 64)
  | .atsInvalidateCompletion p fn => decide (p < 4) && decide (fn < 64)
  | .busMasterEnableReturn p fn => decide (p < 4) && decide (fn < 64)
  | .msixPendingRelease p fn vec => decide (p < 4) && decide (fn < 64) && decide (vec < 2048)
  | .mgrClaim q _ => q.wf
  | .mgrRelease q _ => q.wf
  | .localRelease q => q.wf
  | .localDecline q => q.wf
  | .claimTimerExpiry => true
  | .mgrTmoWrite q _ => q.wf
  | .slcBindWrite q s _ => q.wf && decide (s < 256)
  | .slcQuotaWrite q s r _ => q.wf && decide (s < 256) && r.wf
  | .slcFence q s => q.wf && decide (s < 256)
  | .slcReset q s => q.wf && decide (s < 256)
  | .slcUnbind q s => q.wf && decide (s < 256)
  | .slCsrReset q s => q.wf && decide (s < 256)
  | .sliceResetComplete s => decide (s < 256)
  | .epaAssign q => q.wf
  | .epaUnassign q => q.wf
  | .epaUpdate q => q.wf
  | .epaRetarget q => q.wf
  | .epaSecRevoke q => q.wf
  | .epaBadCommand q _ => q.wf
  | .epaCommandDone => true
  | .gsafeSet q s h => q.wf && decide (s < 256) && decide (h < 65536)
  | .gsafeClr q s h => q.wf && decide (s < 256) && decide (h < 65536)
  | .secClaim q s h => q.wf && decide (s < 256) && decide (h < 65536)
  | .secRelease q s h => q.wf && decide (s < 256) && decide (h < 65536)
  | .lostClr q s h => q.wf && decide (s < 256) && decide (h < 65536)
  | .mbxSliceDb q s => q.wf && decide (s < 256)
  | .mbxInAck q s => q.wf && decide (s < 256)
  | .mbxMgrDb q s => q.wf && decide (s < 256)
  | .mbxMgrAck q s => q.wf && decide (s < 256)
  | .doorbell q s r => q.wf && decide (s < 256) && decide (r < 64)
  | .entryFetchComplete s r _ => decide (s < 256) && decide (r < 64)
  | .scanResume s r => decide (s < 256) && decide (r < 64)
  | .entryInvoke s r e => decide (s < 256) && decide (r < 64) && decide (e.ctx < 16384)
  | .entryNop s r e => decide (s < 256) && decide (r < 64) && decide (e.ctx < 16384)
  | .entryFence s r e => decide (s < 256) && decide (r < 64) && decide (e.ctx < 16384)
  | .entryAbort s r e => decide (s < 256) && decide (r < 64) && decide (e.ctx < 16384)
  | .entryReserve s r e => decide (s < 256) && decide (r < 64) && decide (e.ctx < 16384)
  | .entryRelease s r e => decide (s < 256) && decide (r < 64) && decide (e.ctx < 16384)
  | .ringEnable q s r _ => q.wf && decide (s < 256) && decide (r < 64)
  | .ringShutdown q s r => q.wf && decide (s < 256) && decide (r < 64)
  | .ringIeChange q s r => q.wf && decide (s < 256) && decide (r < 64)
  | .workItemFinish s r => decide (s < 256) && decide (r < 64)
  | .moderationTimerExpiry s r => decide (s < 256) && decide (r < 64)
  | .dspLoad q s prog => q.wf && decide (s < 256) && decide (prog < 256)
  | .dspUnload q s prog => q.wf && decide (s < 256) && decide (prog < 256)
  | .dspLdBadCommand q _ => q.wf
  | .loadComplete _ _ => true
  | .add c d a y => decide (c < 16384) && decide (d < 16) && decide (a < 16) && decide (y < 16)
  | .sub c d a y => decide (c < 16384) && decide (d < 16) && decide (a < 16) && decide (y < 16)
  | .andd c d a y => decide (c < 16384) && decide (d < 16) && decide (a < 16) && decide (y < 16)
  | .orr c d a y => decide (c < 16384) && decide (d < 16) && decide (a < 16) && decide (y < 16)
  | .xor c d a y => decide (c < 16384) && decide (d < 16) && decide (a < 16) && decide (y < 16)
  | .shl c d a y => decide (c < 16384) && decide (d < 16) && decide (a < 16) && decide (y < 16)
  | .shr c d a y => decide (c < 16384) && decide (d < 16) && decide (a < 16) && decide (y < 16)
  | .sar c d a y => decide (c < 16384) && decide (d < 16) && decide (a < 16) && decide (y < 16)
  | .mul c d a y => decide (c < 16384) && decide (d < 16) && decide (a < 16) && decide (y < 16)
  | .addi c d a _ => decide (c < 16384) && decide (d < 16) && decide (a < 16)
  | .andi c d a _ => decide (c < 16384) && decide (d < 16) && decide (a < 16)
  | .ori c d a _ => decide (c < 16384) && decide (d < 16) && decide (a < 16)
  | .xori c d a _ => decide (c < 16384) && decide (d < 16) && decide (a < 16)
  | .shli c d a _ => decide (c < 16384) && decide (d < 16) && decide (a < 16)
  | .shri c d a _ => decide (c < 16384) && decide (d < 16) && decide (a < 16)
  | .sari c d a _ => decide (c < 16384) && decide (d < 16) && decide (a < 16)
  | .movi c d x _ => decide (c < 16384) && decide (d < 16) && decide (x < 4)
  | .movk c d x _ => decide (c < 16384) && decide (d < 16) && decide (x < 4)
  | .mfs c d sp => decide (c < 16384) && decide (d < 16) && decide (sp < 7)
  | .mts c sp a => decide (c < 16384) && decide (sp < 7) && decide (a < 16)
  | .cmp c a y => decide (c < 16384) && decide (a < 16) && decide (y < 16)
  | .cmpi c a _ => decide (c < 16384) && decide (a < 16)
  | .tst c a y => decide (c < 16384) && decide (a < 16) && decide (y < 16)
  | .btst c a _ => decide (c < 16384) && decide (a < 16)
  | .stcmp c _ => decide (c < 16384)
  | .b c cond target => decide (c < 16384) && decide (cond < 11) && decide (target < 16384)
  | .call c target => decide (c < 16384) && decide (target < 16384)
  | .ret c => decide (c < 16384)
  | .ldp c d a size off => decide (c < 16384) && decide (d < 16) && decide (a < 16) && decide (size < 4) && decide (off < 256)
  | .stp c d a size off => decide (c < 16384) && decide (d < 16) && decide (a < 16) && decide (size < 4) && decide (off < 256)
  | .hld c d a size _ => decide (c < 16384) && decide (d < 16) && decide (a < 16) && decide (size < 4)
  | .hst c d a size _ => decide (c < 16384) && decide (d < 16) && decide (a < 16) && decide (size < 4)
  | .setup c _ a => decide (c < 16384) && decide (a < 16)
  | .inn c _ a y => decide (c < 16384) && decide (a < 16) && decide (y < 16)
  | .out c _ a y => decide (c < 16384) && decide (a < 16) && decide (y < 16)
  | .ping c _ => decide (c < 16384)
  | .status c _ => decide (c < 16384)
  | .isoin c _ a => decide (c < 16384) && decide (a < 16)
  | .isoout c _ a => decide (c < 16384) && decide (a < 16)
  | .stream c _ a => decide (c < 16384) && decide (a < 16)
  | .gather c _ a => decide (c < 16384) && decide (a < 16)
  | .scatter c _ a => decide (c < 16384) && decide (a < 16)
  | .cancel c => decide (c < 16384)
  | .wait c d t _ => decide (c < 16384) && decide (d < 16) && decide (t < 16)
  | .waitclk c a => decide (c < 16384) && decide (a < 16)
  | .lock c a => decide (c < 16384) && decide (a < 16)
  | .trylock c a => decide (c < 16384) && decide (a < 16)
  | .unlock c a => decide (c < 16384) && decide (a < 16)
  | .post c code => decide (c < 16384) && decide (code < 256)
  | .yield c => decide (c < 16384)
  | .spawn c prog a h off k => decide (c < 16384) && decide (prog < 256) && decide (a < 16) && decide (h < 16) && decide (off < 256) && decide (k < 16384)
  | .fence c => decide (c < 16384)
  | .seal c mode a => decide (c < 16384) && decide (mode < 2) && decide (a < 16)
  | .doze c => decide (c < 16384)
  | .busOperationEnd c => decide (c < 16384)
  | .busOperationBoundary c => decide (c < 16384)
  | .hldCompletion c _ => decide (c < 16384)
  | .postedWriteDeparture _ => true
  | .waitTimeout c => decide (c < 16384)
  | .waitclkReached c => decide (c < 16384)
  | .instructionFenceDone c => decide (c < 16384)
  | .engineFree te => decide (te < 160)
  | .quantumPreempt te => decide (te < 160)
  | .suspendLeave c => decide (c < 16384)
  | .steal k => decide (k < 20)
  | .neighbourResort => true
  | .stalemateDetection => true
  | .semCtlRelease q i => q.wf && decide (i < 1024)
  | .semCfgWrite q i _ => q.wf && decide (i < 1024)
  | .reserveDecision j => decide (j < 4)
  | .boardBuildDone pl _ => decide (pl < 8)
  | .plnReinstate q j => q.wf && decide (j < 4)
  | .syncStart q => q.wf
  | .syncStop q => q.wf
  | .syncSlew q => q.wf
  | .fsyncEdge f => decide (f < 8000000)
  | .fsyncLossTimeout => true
  | .requestQueueAdmit n => decide (n < 20)
  | .placementStart n line => decide (n < 20) && decide (line < 3)
  | .asyncTransactionStart n line _ _ => decide (n < 20) && decide (line < 3)
  | .gambitStart n line _ _ => decide (n < 20) && decide (line < 3)
  | .responseReceived n r => decide (n < 20) && decide (r.line < 3)
  | .responseTimeout n line => decide (n < 20) && decide (line < 3)
  | .fifoWriteComplete n => decide (n < 20)
  | .returnItemRead n => decide (n < 20)
  | .prfPointerError n => decide (n < 20)
  | .portDetDetach q n dev => q.wf && decide (n < 20) && decide (dev < 65536)
  | .gpoolSizeWrite q _ => q.wf
  | .phyPllLockLoss n _ => decide (n < 20)
  | .completionReceived p _ _ _ => decide (p < 4)
  | .completionTimeout _ => true
  | .requestRetry _ => true
  | .mdmaStart q ch => q.wf && decide (ch < 8)
  | .mdmaStop q ch => q.wf && decide (ch < 8)
  | .mdmaRunStart => true
  | .mdmaBurst => true
  | .mdmaAccessFail => true
  | .mdmaRunEnd => true
  | .sealKeyLoad q slot _ => q.wf && decide (slot < 32)
  | .sealKeyErase q slot => q.wf && decide (slot < 32)
  | .sealKeyBadCommand q _ => q.wf
  | .sealEraseDone => true
  | .sealOpStart => true
  | .sealOpComplete _ => true
  | .adjFreeze q s slot => q.wf && decide (s < 256) && decide (slot < 32)
  | .freezeComplete => true
  | .adjSave q s slot => q.wf && decide (s < 256) && decide (slot < 32)
  | .saveComplete _ => true
  | .adjRelease q s slot => q.wf && decide (s < 256) && decide (slot < 32)
  | .adjRestore q s slot => q.wf && decide (s < 256) && decide (slot < 32)
  | .restoreComplete _ => true
  | .adjThaw q s slot => q.wf && decide (s < 256) && decide (slot < 32)
  | .adjBadCommand q _ => q.wf
  | .sealIdWrite q dev => q.wf && decide (dev < 8192)
  | .sealIdRead q dev => q.wf && decide (dev < 8192)
  | .fwVerifyGo q _ => q.wf
  | .fwVerifyDone _ key => decide (key < 4)
  | .pwrEntryRequest q d mode => q.wf && decide (d < 168) && decide (mode < 4)
  | .pwrWakeWrite q d => q.wf && decide (d < 168)
  | .domainEntryStart d => decide (d < 168)
  | .entryStepComplete d _ => decide (d < 168)
  | .returnStepReady d => decide (d < 168)
  | .returnStepStuck d => decide (d < 168)
  | .demandWake d => decide (d < 168)
  | .nativeLineEvent n => decide (n < 20)
  | .vbusSenseEvent p => decide (p < 4)
  | .lfpsWake n => decide (n < 20)
  | .eiExitWake p => decide (p < 4)
  | .biasHoldExpiry d => decide (d < 168)
  | .predictorDelayExpiry n _ _ => decide (n < 20)
  | .predictorForceExpiry n _ _ => decide (n < 20)
  | .avsEvaluation _ => true
  | .avsSettleExpiry => true
  | .avsRegulatorWriteDone _ => true
  | .avsPolicyWrite q _ => q.wf
  | .icSwiWrite q _ => q.wf
  | .gpioInputChange k _ => decide (k < 16)
  | .gpioFilterTick => true
  | .icSrcWrite q i _ => q.wf && decide (i < 512)
  | .icClaim q _ => q.wf
  | .icComplete q _ id => q.wf && decide (id < 512)
  | .faultWindowExpiry i => decide (i < 64)
  | .faultQuietExpiry i => decide (i < 64)
  | .ocHoldQuietExpiry n => decide (n < 20)
  | .fltClear q i => q.wf && decide (i < 64)
  | .fltHclear q => q.wf
  | .fltForce q i detail => q.wf && decide (i < 64) && decide (detail < 65536)
  | .fltRaise q i detail => q.wf && decide (i < 64) && decide (detail < 65536)
  | .fltCfgWrite q i _ => q.wf && decide (i < 64)
  | .aliveToggle => true
  | .aliveHaltWrite q _ => q.wf
  | .sensorSample r => r.wf
  | .eccUeDetected m _ => decide (1 ≤ m) && decide (m ≤ 9)
  | .eccCeDetected m _ => decide (1 ≤ m) && decide (m ≤ 9)
  | .lockstepMismatch _ => true
  | .failoverResume => true
  | .mgtReady q => q.wf
  | .mgtFailover q => q.wf
  | .mgtRebootStby q => q.wf
  | .mgtPeerDb q => q.wf
  | .wdtKick q => q.wf
  | .watchdogExpiry => true
  | .ckptGo q _ => q.wf
  | .checkpointCommit => true
  | .tlmSnap q => q.wf
  | .fwmbHdb q => q.wf
  | .fwmbHack q => q.wf
  | .fwmbFdb q => q.wf
  | .fwmbFack q => q.wf
  | .svcPressDecide _ _ boot => boot.wf
  | .svcStuckDecision => true
  | .portCycleEnd => true
  | .portTstStart q n _ => q.wf && decide (n < 20)
  | .portTstStop q n _ _ => q.wf && decide (n < 20)
  | .loopbackLock _ n => decide (n < 20)
  | .loopbackLockLost _ n _ _ => decide (n < 20)
  | .hpTstStart q p _ => q.wf && decide (p < 4)
  | .hpTstStop q p _ _ => q.wf && decide (p < 4)
  | .bistStart q d => q.wf && decide (d < 168)
  | .bistDone _ => true
  | .jtagInstruction _ => true
  | .ocInactiveFilterExpiry n => decide (n < 20)
  | .vddAonFail => true
  | .svcPressStart => true
  | .aclkClockCountAdvance => true
  | .ssLinkRecovery n => decide (n < 20)
  | .upstreamErrorDetected p fn _ => decide (p < 4) && decide (fn < 64)
  | .routerLoopbackEntry p => decide (p < 4)
  | .unloadComplete => true
  | .keyLoadComplete => true

end Sys2Proof
end

