-- ==== Sys2Proof/Tests/Slice0.lean ====
section
/-! SUPPORT. The model's own tests: ill-formed commands are refused, worked examples of the specification, and for every
obligation states and operands that meet its hypotheses. -/

namespace Sys2Proof.Tests
open Sys2Proof.Machine
set_option Elab.async false

/-- The state one step after `c` came to an idle block. -/
def after (c : Instr) (s : State) : State :=
  match step { s with pending := [c] } with
  | .next t => { t with pending := [] }
  | _ => s
def boot : Boot := ⟨true, true, List.replicate 64 0, List.replicate 64 0, [], []⟩
def strp : Straps := ⟨0, 0, 0⟩
/-- A field set. -/
def setF (r : Reg) (f : Fld) (v : Nat) (s : State) : State := s.setF r f v
/-- The state at reset with the registers whose reset value the part's fuses give written out, so that it evaluates. -/
def base : State := { State.reset with regs := [(Reg.glbBistSts.addr, 0),
  (Reg.fltTemp.addr, FLT_TEMP.CRIT.put 110 (FLT_TEMP.WARN.put 100 0)), ((Reg.pwrLpex 3).addr, 0), (Reg.pwrAvsSts.addr, 0),
  (Reg.sealFwSts.addr, 0)] }
/-- The host manages: HP0's link is up and its PF0 decodes memory. -/
def hostUp : State :=
  { (setF (.glbHpSts 0) GLB_HP_STS.LTSSM 3 (setF (.glbHpCtl 0) GLB_HP_CTL.LTE 1
      (setF .glbMgrSts GLB_MGR_STS.STATE claimHost State.reset))) with
    funcs := [(0, { Func.init with mse := true, bme := true })] }
def checkOff (i : Nat) (s : State) : State := setF (.fltCfg i) FLT_CFG.EN 0 s
def atThird (i : Nat) (s : State) : State := setF (.fltCfg i) FLT_CFG.EN 1 (setF (.fltCfg i) FLT_CFG.N 3 s)
def ctx1 : Ctx := { Ctx.free with act := .running 0, fuel := 100, prog := 1 }
def putCtx (c : Nat) (x : Ctx) (s : State) : State := s.modCtx c (fun _ => x)
def ctx2 : Ctx := { ctx1 with prog := 5, pc := 7, slice := 3 }
/-- The program of `ctx2` has the word `w` at `pc`. -/
def atPc (w : Word32) (s : State) : State :=
  s.setProg (3 * 64 + 5) { Prog.empty with live := true, fuel := 99, words := List.replicate 7 0 ++ [w] }
/-- Context 5 with `x`, on engine 0. -/
def engine0 (x : Ctx) (s : State) : State := { putCtx 5 x s with engs := [(0, Eng.holds 5)] }
def winS (i : Nat) (s : State) : State := (s.wrE (.slcWinBase i 0) 0x10000).wrE (.slcWinSize i 0) 0x10000
def devD : Dev := { Dev.empty with live := true, port := 3, speed := 3, addr := 5 }
def epD (dev typ : Nat) (dirIn : Bool) (mps : Nat) : Ep :=
  { Ep.empty with live := true, dev := dev, num := 1, typ := typ, dirIn := dirIn, mps := mps }
def attD (ep mode : Nat) : Att := { Att.empty with cfg := { AttCfg.empty with live := true, ep := ep, mode := mode } }
/-- The USB 2.0 path of port `n` is ENABLED at high speed. -/
def enab (n : Nat) (s : State) : State :=
  setF (.portCtl n) PORT_CTL.PP 1 (setF (.portSts n) PORT_STS.SPEED 3 (setF (.portSts n) PORT_STS.STATE 5 s))
/-- Device 9 on port 3 with endpoints 20 to 25 (control, OUT, IN, interrupt, isochronous IN and OUT), all attached to
slice 3. -/
def bus (s : State) : State :=
  let s := enab 3 (winS 3 s)
  let s := s.setDev 9 devD
  let s := [(20, 0, false), (21, 2, false), (22, 2, true), (23, 3, true), (24, 1, true), (25, 1, false)].foldl
    (fun s e => s.setEpc e.1 (epD 9 e.2.1 e.2.2 (if e.2.1 = 0 then 64 else 512))) s
  let s := [20, 21, 22, 23, 24, 25].foldl (fun s h => s.setAtE (hKey 3 h) (attD h 0)) s
  { s with funcs := [(0, { Func.init with mse := true, bme := true })] }

end Sys2Proof.Tests

namespace Sys2Proof.Tests.WAlu
open Sys2Proof.Machine
set_option Elab.async false

def kx1 : Ctx := { ctx1 with prog := 65, pc := 7, g := [(1, 0xFFFFFFFFFFFFFFF0#64), (2, 0x23#64), (3, 0x8000000000000001#64)], z := true, n := true, st := 0x1234567811#64, slice := 3, ep := 77 }
def sk1 (x : Ctx) : State := { putCtx 5 x State.reset with engs := [(0, ⟨some 5, false, false, false⟩)] }
def s0 : State := sk1 kx1

/-- States and operands that meet the hypotheses of `ArithmeticLogicCompare`, one line for each clause. -/
theorem witness_ArithmeticLogicCompare :
    (0 = BitVec.toNat ((s0.ctx 5).reg 0) % 64 ∧ s0.issues 5 (wordR 1 0 0 0)) ∧
    (0 = BitVec.toNat ((s0.ctx 5).reg 0) % 64 ∧ s0.issues 5 (wordR 2 0 0 0)) ∧
    (0 = BitVec.toNat ((s0.ctx 5).reg 0) % 64 ∧ s0.issues 5 (wordR 3 0 0 0)) ∧
    (0 = BitVec.toNat ((s0.ctx 5).reg 0) % 64 ∧ s0.issues 5 (wordR 4 0 0 0)) ∧
    (0 = BitVec.toNat ((s0.ctx 5).reg 0) % 64 ∧ s0.issues 5 (wordR 5 0 0 0)) ∧
    (0 = BitVec.toNat ((s0.ctx 5).reg 0) % 64 ∧ s0.issues 5 (wordR 6 0 0 0)) ∧
    (0 = BitVec.toNat ((s0.ctx 5).reg 0) % 64 ∧ s0.issues 5 (wordR 7 0 0 0)) ∧
    (0 = BitVec.toNat ((s0.ctx 5).reg 0) % 64 ∧ s0.issues 5 (wordR 8 0 0 0)) ∧
    (0 = BitVec.toNat ((s0.ctx 5).reg 0) % 64 ∧ s0.issues 5 (wordR 9 0 0 0)) ∧
    (0 = BitVec.toNat ((s0.ctx 5).reg 0) % 64 ∧ s0.issues 5 (wordI 10 0 0 0 (0 : BitVec 16))) ∧
    (0 = BitVec.toNat ((s0.ctx 5).reg 0) % 64 ∧ s0.issues 5 (wordI 11 0 0 0 (0 : BitVec 16))) ∧
    (0 = BitVec.toNat ((s0.ctx 5).reg 0) % 64 ∧ s0.issues 5 (wordI 12 0 0 0 (0 : BitVec 16))) ∧
    (0 = BitVec.toNat ((s0.ctx 5).reg 0) % 64 ∧ s0.issues 5 (wordI 13 0 0 0 (0 : BitVec 16))) ∧
    (0 = BitVec.toNat ((s0.ctx 5).reg 0) % 64 ∧ s0.issues 5 (wordI 14 0 0 0 (0 : BitVec 16))) ∧
    (0 = BitVec.toNat ((s0.ctx 5).reg 0) % 64 ∧ s0.issues 5 (wordI 15 0 0 0 (0 : BitVec 16))) ∧
    (0 = BitVec.toNat ((s0.ctx 5).reg 0) % 64 ∧ s0.issues 5 (wordI 16 0 0 0 (0 : BitVec 16))) ∧
    (0 = BitVec.toNat ((s0.ctx 5).reg 0) % 64 ∧ s0.issues 5 (wordI 17 0 0 0 (0 : BitVec 16))) ∧
    (0 = BitVec.toNat ((s0.ctx 5).reg 0) % 64 ∧ s0.issues 5 (wordI 18 0 0 0 (0 : BitVec 16)) ∧ 0 < 4) ∧
    (0 = BitVec.toNat ((s0.ctx 5).reg 0) % 64 ∧ s0.issues 5 (wordS 19 0 0) ∧ 0 < 7) ∧
    (0 = BitVec.toNat ((s0.ctx 5).reg 0) % 64 ∧ s0.issues 5 (wordS 20 4 0)) ∧
    (s0.issues 5 (wordR 21 0 0 0)) ∧
    (s0.issues 5 (wordI 22 0 0 0 (0 : BitVec 16))) ∧
    (s0.issues 5 (wordR 23 0 0 0)) ∧
    (s0.issues 5 (wordI 24 0 0 0 (0 : BitVec 16))) ∧
    (s0.issues 5 (wordC 25 (0 : BitVec 8).toNat)) := by decide +kernel

end Sys2Proof.Tests.WAlu

namespace Sys2Proof.Tests.WBranches
open Sys2Proof.Machine
set_option Elab.async false

def kx1 : Ctx := { ctx1 with prog := 65, pc := 7, g := [(1, 0xFFFFFFFFFFFFFFF0#64), (2, 0x23#64), (3, 0x8000000000000001#64)], z := true, n := true, st := 0x1234567811#64, slice := 3, ep := 77, pad := [(0x23, 0xAB#8), (0x25,0x11#8), (0x20,0xFF#8), (240, 7#8), (255, 9#8)] }
def sk1 (x : Ctx) : State := { putCtx 5 x State.reset with engs := [(0, ⟨some 5, false, false, false⟩)] }
def s0 : State := sk1 kx1
def s1 : State := { sk1 { kx1 with n := false, z := false, c := true, g := [(1, 5#64), (2, 64#64), (3, 0xFFFFFFFFFFFFFFFF#64)], stack := [1], st := 0 } with aon := { State.reset.aon with clockCount := 99 } }

/-- States and operands that meet the hypotheses of `BranchCallReturn`, one line for each clause. -/
theorem witness_BranchCallReturn :
    (s0.issues 5 (wordJ 26 0 0) ∧ 0 < 11) ∧
    (s0.issues 5 (wordJ 27 0 0)) ∧
    (s1.issues 5 (wordN 28) ∧ (s1.ctx 5).stack = 1 :: ([] : List Nat)) := by decide +kernel

/-- States and operands that meet the hypotheses of `PadAccess`, one line for each clause. -/
theorem witness_PadAccess :
    (0 < 4 ∧ 0 < 256 ∧ s0.issues 5 (wordM 29 0 0 0 (BitVec.ofNat 16 0))) ∧
    (0 < 4 ∧ 0 < 256 ∧ s0.issues 5 (wordM 30 0 0 0 (BitVec.ofNat 16 0))) := by decide +kernel

end Sys2Proof.Tests.WBranches

namespace Sys2Proof.Tests.WBusIssue
open Sys2Proof.Machine
set_option Elab.async false

def bx (h : Nat) (g : List (Nat × Word64)) : Ctx := { ctx2 with ep := h, cur := some h, g := g }
def so (h : Nat) (seq : List CtlSeq) (g : List (Nat × Word64)) : State :=
  engine0 { bx h g with seq := seq } (bus State.reset)
def s0 : State := so 20 [] [(1, 0x0012000001000680#64)]
def s1 : State := so 20 [⟨20, 20, 0x0012000001000680#64, false⟩] [(1, 0x10000), (2, 18)]
def s2 : State := so 20 [⟨20, 20, 0x0012000001000600#64, false⟩] [(1, 0x10000), (2, 18)]
def s4 : State := so 21 [] [(1, 0x10000), (2, 0x400)]
def s5 : State := so 22 [] [(1, 0x10000), (2, 0x400)]
def s6 : State := so 21 [] [(1, 0x10000), (2, 0x100000000000400)]
def s7 : State := so 22 [] [(1, 0x10000), (2, 0x100000000000400)]
def s12 : State := { so 24 [] [(1, 0x10000), (2, 0x40000000001#64), (3, 0), (4, 0x11000)] with
  resvE := [(hKey 3 24, ⟨true, 24, 1024, 1, 0, 0⟩)] }
def s13 : State := { so 25 [] [(1, 0x10000), (2, 0x40000000001#64), (3, 0), (4, 0x11000)] with
  resvE := [(hKey 3 25, ⟨true, 25, 1024, 1, 0, 0⟩)] }

/-- Context 5 issues `w`, and what `StartsBus` asks of it holds. -/
def starts (s : State) (w : Word32) (r : BusReq) : Bool :=
  let s := atPc w s
  let a := s.attCfg 3 r.handle
  s.issues 5 w && (s.ctx 5).op == none && s.busEnds 5 r == none && !s.busRefused 5 r && s.busFault 5 r == none &&
    (s.ctx 5).cur == some r.handle && a.mode != 2 && decide (s.queueUse (s.epDev a.ep).port < 512) && (s.ctx 5).slice == 3
/-- Context 5 issues `w`, and what `RefusesBus` asks of it holds. -/
def refuses (s : State) (w : Word32) (r : BusReq) : Bool :=
  let s := atPc w s
  s.issues 5 w && (s.ctx 5).op == none && s.busEnds 5 r == none && s.busRefused 5 r

/-- States and operands that meet the hypotheses of `BusInstructionIssue`, one line for each clause. -/
theorem witness_BusInstructionIssue :
    starts s0 (wordX 0x21 false 1 0) { busReq .setup false 20 with setup := 0x0012000001000680 } ∧
    refuses s4 (wordX 0x21 false 1 0) { busReq .setup false 21 with setup := 0x10000 } ∧
    starts s1 (wordX 0x22 false 1 2) { busReq .inn false 20 with addr := 0x10000, len := 18 } ∧
    refuses s0 (wordX 0x22 true 1 2)
      { busReq .inn true 20 with addr := 0x0012000001000680, len := 0 } ∧
    starts s2 (wordX 0x23 false 1 2) { busReq .out false 20 with addr := 0x10000, len := 18 } ∧
    refuses s0 (wordX 0x23 false 1 2)
      { busReq .out false 20 with addr := 0x0012000001000680, len := 0 } ∧
    starts s0 (wordX 0x24 true 0 0) (busReq .ping true 20) ∧
    refuses s5 (wordX 0x24 false 0 0) (busReq .ping false 22) ∧
    starts s1 (wordX 0x25 false 0 0) (busReq .status false 20) ∧
    refuses s0 (wordX 0x25 false 0 0) (busReq .status false 20) ∧
    starts s12 (wordX 0x26 false 1 0) (isoReq .isoin false 24 0x10000 0x40000000001 0 0x11000) ∧
    refuses s0 (wordX 0x26 false 1 0) (isoReq .isoin false 20 0x0012000001000680 0 0 0) ∧
    starts s13 (wordX 0x27 false 1 0) (isoReq .isoout false 25 0x10000 0x40000000001 0 0x11000) ∧
    refuses s0 (wordX 0x27 false 1 0) (isoReq .isoout false 20 0x0012000001000680 0 0 0) ∧
    starts s4 (wordX 0x28 false 1 0) (moverReq .stream false 21 0x10000 0x400) ∧
    refuses s0 (wordX 0x28 false 1 0) (moverReq .stream false 20 0x0012000001000680 0) ∧
    starts s6 (wordX 0x29 false 1 0) (moverReq .gather false 21 0x10000 0x100000000000400) ∧
    refuses s0 (wordX 0x29 false 1 0) (moverReq .gather false 20 0x0012000001000680 0) ∧
    starts s7 (wordX 0x2A false 1 0) (moverReq .scatter false 22 0x10000 0x100000000000400) ∧
    refuses s0 (wordX 0x2A false 1 0) (moverReq .scatter false 20 0x0012000001000680 0) := by decide +kernel

end Sys2Proof.Tests.WBusIssue

namespace Sys2Proof.Tests.WHostAccess
open Sys2Proof.Machine
set_option Elab.async false

def hs (x : Ctx) : State := engine0 x (bus State.reset)
def rq (c d n : Nat) (p : Purpose) : HostReq := { tag := 0, slice := 3, ctx := c, addr := 0x10000, len := n, purpose := p, phase := .issued, fails := 0 }
def pw (c n : Nat) : PWrite := { tag := 2, slice := 3, ctx := c, ring := 0, idx := 0, lap := 0, addr := 0x10000, bytes := List.replicate n 7#8, kind := .hst, cur := false, cl := 0, pkt := 0, issued := true, xlat := [] }
def s1 : State := atPc (wordM 0x1F 2 1 0 8) (hs { ctx2 with g := [(1, 0x10000), (2, 0x1122334455667788#64)] })
def s2 : State := atPc (wordM 0x20 2 1 0 8) (hs { ctx2 with g := [(1, 0x10000), (2, 0x1122334455667788#64)] })
def s17 : State := { putCtx 5 { ctx2 with act := .parked (.hld 2 3), c := true } (bus State.reset) with reqs := [rq 5 2 8 (.hld 2 3)] }
def s51 : State := { putCtx 5 { ctx2 with act := .parked (.hst 2), c := true } (bus State.reset) with writes := [pw 5 4] }

/-- States and operands that meet the hypotheses of `HostAccesses`, one line for each clause. -/
theorem witness_HostAccesses :
    (BitVec.toNat ((s1.ctx 5).reg 1 + BitVec.signExtend 64 (8 : BitVec 16)) % 2 ^ 0 = 0 ∧
      s1.hostOk (s1.ctx 5).slice (BitVec.toNat ((s1.ctx 5).reg 1 + BitVec.signExtend 64 (8 : BitVec 16))) (2 ^ 0) ∧
      s1.inSram (s1.ctx 5).slice = false ∧ s1.issues 5 (wordM 31 2 1 0 (8 : BitVec 16))) ∧
    (BitVec.toNat ((s2.ctx 5).reg 1 + BitVec.signExtend 64 (8 : BitVec 16)) % 2 ^ 0 = 0 ∧
      s2.hostOk (s2.ctx 5).slice (BitVec.toNat ((s2.ctx 5).reg 1 + BitVec.signExtend 64 (8 : BitVec 16))) (2 ^ 0) ∧
      s2.inSram (s2.ctx 5).slice = false ∧ s2.issues 5 (wordM 32 2 1 0 (8 : BitVec 16))) ∧
    (s17.up ∧ 3 < 4 ∧ (s17.ctx 5).act = Act.parked (Wait.hld 2 3) ∧ (s17.ctx 5).endCode = none ∧ s17.noBus ∧
      s17.inSram (rq 5 2 8 (.hld 2 3) : HostReq).slice = false ∧ s17.reqs = [(rq 5 2 8 (.hld 2 3) : HostReq)] ∧ s17.writes = [] ∧
      (rq 5 2 8 (.hld 2 3) : HostReq).ctx = 5 ∧ (rq 5 2 8 (.hld 2 3) : HostReq).phase = ReqPhase.issued ∧
      (rq 5 2 8 (.hld 2 3) : HostReq).purpose = Purpose.hld 2 3 ∧ (rq 5 2 8 (.hld 2 3) : HostReq).len = 2 ^ 3) ∧
    (s51.up ∧ (s51.ctx 5).act = Act.parked (Wait.hst (pw 5 4 : PWrite).tag) ∧ (s51.ctx 5).endCode = none ∧ s51.noBus ∧
      5 < 16384 ∧ s51.writes = [(pw 5 4 : PWrite)] ∧ (pw 5 4 : PWrite).ctx = 5 ∧
      (pw 5 4 : PWrite).kind = WriteKind.hst ∧ s51.canLeave (pw 5 4 : PWrite) ∧ s51.reqs = [] ∧
      s51.inSram (pw 5 4 : PWrite).slice = false ∧ s51.lats = []) := by decide +kernel

end Sys2Proof.Tests.WHostAccess

namespace Sys2Proof.Tests.WWaits
open Sys2Proof.Machine
set_option Elab.async false

def hs (x : Ctx) : State := engine0 x (bus State.reset)
def semOn (i : Nat) (m : Sem) (s : State) : State := { setF (.semCfg i) SEM_CFG.SLICE 3 (setF (.semCfg i) SEM_CFG.EN 1 s) with sems := [(i, m)] }
def late (s : State) : State := { s with aon := { s.aon with clockCount := 2, refCycle := 30 } }
def par (w : Wait) (s : State) : State := putCtx 5 { ctx2 with act := .parked w, c := true, evOp := true, g := [(2, 77)] } s
def g40 : Ctx := { ctx2 with g := [(1, 40), (2, 1024), (3, 0xFFFFFFFFFFFFFFFF#64)], c := true }
def s0 : State := hs { ctx2 with g := [(1, 40)], evOp := true, evPkt := true, c := true }
def s2 : State := atPc (wordW 0x2C 2 1 0) (hs { ctx2 with g := [(1, 40)], evOp := true, evPkt := true, c := true })
def s5 : State := atPc (wordW 0x2C 2 0 1) (hs { ctx2 with g := [(1, 40)], evOp := true, evPkt := true, c := true })
def s17 : State := atPc (wordU 0x2D 1) (hs { ctx2 with g := [(1, 40)], evOp := true, evPkt := true, c := true })
def s18 : State := atPc (wordU 0x2D 2) (hs { ctx2 with g := [(1, 40)], evOp := true, evPkt := true, c := true })
def s78 : State := atPc (wordU 0x2E 1) (late (hs { ctx2 with g := [(1, 0xFFFFFFFFFFFFFF00#64), (2, 2000), (3, 9000)], evOp := true }))
def s81 : State := atPc (wordU 0x2F 1) (late (hs { ctx2 with g := [(1, 0xFFFFFFFFFFFFFF00#64), (2, 2000), (3, 9000)], evOp := true }))
def s84 : State := atPc (wordU 0x30 1) (late (hs { ctx2 with g := [(1, 0xFFFFFFFFFFFFFF00#64), (2, 2000), (3, 9000)], evOp := true }))
def s87 : State := late (par (.wait 2 3 (some 200)) (bus State.reset))
def s145 : State := late (par (.waitclk 200) (bus State.reset))
def s223 : State := atPc (wordU 0x2E 1) (semOn 40 Sem.free (hs g40))
def s226 : State := atPc (wordU 0x2F 1) (semOn 40 Sem.free (hs g40))
def s281 : State := atPc (wordU 0x2E 1) (semOn 40 { Sem.free with owner := some 6 } (hs g40))
def s284 : State := atPc (wordU 0x2F 1) (semOn 40 { Sem.free with owner := some 6 } (hs g40))
/-- Context 8 of slice 4 has come in the same cycle. -/
def s285 : State := atPc (wordU 0x2E 1) (semOn 40 { Sem.free with owner := some 6, queue := [8] }
  (putCtx 8 { ctx2 with slice := 4, act := .parked (.lock 40) } (hs g40)))
def s319 : State := semOn 40 { Sem.free with owner := some 5 } (hs { g40 with locks := [40, 3] })
def s345 : State := atPc (wordU 0x30 1) (semOn 40 { Sem.free with owner := some 5 } (hs { g40 with locks := [40, 3] }))

/-- States and operands that meet the hypotheses of `WaitInstructions`, one line for each clause. -/
theorem witness_WaitInstructions :
    (s5.issues 5 (wordW 44 2 0 (1 : BitVec 4).toNat) ∧
      ((s5.ctx 5).events + if (s5.atTick && (s5.ctx 5).tickSeen != s5.aon.clockCount) = true then 4 else 0) &&& (1 : BitVec 4).toNat ≠ 0) ∧
    (s2.issues 5 (wordW 44 2 1 (0 : BitVec 4).toNat) ∧
      ((s2.ctx 5).events + if (s2.atTick && (s2.ctx 5).tickSeen != s2.aon.clockCount) = true then 4 else 0) &&& (0 : BitVec 4).toNat = 0 ∧
      ((0 : BitVec 4) ≠ 0 ∨ BitVec.toNat ((s2.ctx 5).reg 1) % 2 ^ 32 ≠ 0)) ∧
    (s87.up ∧ (s87.ctx 5).act = Act.parked (Wait.wait 2 3 (some 200)) ∧ 200 ≤ s87.now ∧
      s87.frozen (s87.ctx 5).slice = false ∧ (s87.ctx 5).endCode = none ∧ (s87.ctx 5).idleBus) ∧
    (s18.issues 5 (wordU 45 2) ∧ BitVec.toInt ((s18.ctx 5).reg 2 - s18.clk) ≤ 0) ∧
    (s17.issues 5 (wordU 45 1) ∧ 0 < BitVec.toInt ((s17.ctx 5).reg 1 - s17.clk)) ∧
    (s145.up ∧ (s145.ctx 5).act = Act.parked (Wait.waitclk (200 : Word64)) ∧
      BitVec.toInt ((200 : Word64) - s145.clk) ≤ 0 ∧ s145.frozen (s145.ctx 5).slice = false ∧
      (s145.ctx 5).endCode = none ∧ (s145.ctx 5).idleBus) := by decide +kernel

/-- States and operands that meet the hypotheses of `Semaphores`, one line for each clause. -/
theorem witness_Semaphores :
    (s223.issues 5 (wordU 46 1) ∧ BitVec.toNat ((s223.ctx 5).reg 1) < 1024 ∧
      s223.semUsable (BitVec.toNat ((s223.ctx 5).reg 1)) (s223.ctx 5).slice ∧ (s223.ctx 5).locks.length < 4 ∧
      (s223.sem (BitVec.toNat ((s223.ctx 5).reg 1))).owner = none ∧
      BitVec.toNat ((s223.ctx 5).reg 1) ∉ (s223.ctx 5).locks) ∧
    (s281.issues 5 (wordU 46 1) ∧ BitVec.toNat ((s281.ctx 5).reg 1) < 1024 ∧
      s281.semUsable (BitVec.toNat ((s281.ctx 5).reg 1)) (s281.ctx 5).slice ∧ (s281.ctx 5).locks.length < 4 ∧
      (s281.sem (BitVec.toNat ((s281.ctx 5).reg 1))).owner ≠ none ∧
      (s281.sem (BitVec.toNat ((s281.ctx 5).reg 1))).owner ≠ some 5 ∧
      (∀ j ∈ (s281.sem (BitVec.toNat ((s281.ctx 5).reg 1))).queue, (s281.ctx j).since ≠ s281.now)) ∧
    (s285.issues 5 (wordU 46 1) ∧ BitVec.toNat ((s285.ctx 5).reg 1) < 1024 ∧
      s285.semUsable (BitVec.toNat ((s285.ctx 5).reg 1)) (s285.ctx 5).slice ∧ (s285.ctx 5).locks.length < 4 ∧
      (s285.sem (BitVec.toNat ((s285.ctx 5).reg 1))).owner ≠ none ∧
      (s285.sem (BitVec.toNat ((s285.ctx 5).reg 1))).owner ≠ some 5 ∧
      (s285.sem (BitVec.toNat ((s285.ctx 5).reg 1))).queue = [8] ∧ (s285.ctx 8).since = s285.now ∧ 8 ≠ 5 ∧ 8 < 16384 ∧
      5 < 16384) ∧
    (s226.issues 5 (wordU 47 1) ∧ BitVec.toNat ((s226.ctx 5).reg 1) < 1024 ∧
      s226.semUsable (BitVec.toNat ((s226.ctx 5).reg 1)) (s226.ctx 5).slice ∧ (s226.ctx 5).locks.length < 4 ∧
      (s226.sem (BitVec.toNat ((s226.ctx 5).reg 1))).owner = none ∧
      BitVec.toNat ((s226.ctx 5).reg 1) ∉ (s226.ctx 5).locks) ∧
    (s284.issues 5 (wordU 47 1) ∧ BitVec.toNat ((s284.ctx 5).reg 1) < 1024 ∧
      s284.semUsable (BitVec.toNat ((s284.ctx 5).reg 1)) (s284.ctx 5).slice ∧ (s284.ctx 5).locks.length < 4 ∧
      (s284.sem (BitVec.toNat ((s284.ctx 5).reg 1))).owner ≠ none ∧
      (s284.sem (BitVec.toNat ((s284.ctx 5).reg 1))).owner ≠ some 5) ∧
    (s345.issues 5 (wordU 48 1) ∧ BitVec.toNat ((s345.ctx 5).reg 1) < 1024 ∧
      s345.semUsable (BitVec.toNat ((s345.ctx 5).reg 1)) (s345.ctx 5).slice ∧
      BitVec.toNat ((s345.ctx 5).reg 1) ∈ (s345.ctx 5).locks ∧
      (s345.sem (BitVec.toNat ((s345.ctx 5).reg 1))).owner = some 5 ∧
      (s345.sem (BitVec.toNat ((s345.ctx 5).reg 1))).queue = []) ∧
    (1023 < BitVec.toNat ((s78.ctx 5).reg 1) ∧ s78.issues 5 (wordU 46 1)) ∧
    (1023 < BitVec.toNat ((s81.ctx 5).reg 1) ∧ s81.issues 5 (wordU 47 1)) ∧
    (1023 < BitVec.toNat ((s84.ctx 5).reg 1) ∧ s84.issues 5 (wordU 48 1)) ∧
    (0 < 1024 ∧ s0.accepts .ma (Reg.semCfg 0) ∧ (s0.sem 0).owner = none ∧ (s0.sem 0).queue = [] ∧
      s0.flag (Reg.semCfg 0) SEM_CFG.ARB = false) ∧
    (40 < 1024 ∧ s319.accepts .ma Reg.semCtl ∧ (s319.sem 40).owner = some 5 ∧ (s319.sem 40).queue = []) := by and_intros <;> decide +kernel

end Sys2Proof.Tests.WWaits

namespace Sys2Proof.Tests.WWork
open Sys2Proof.Machine
set_option Elab.async false

def hs (x : Ctx) : State := engine0 x (bus State.reset)
def par (w : Wait) (x : Ctx) : State := putCtx 5 { x with act := .parked w } (bus State.reset)
def rdyI (c pri : Nat) (s : State) : State := (putCtx c { ctx2 with act := .ready, pri := pri, slice := 4 } { s with ready := FMap.put [] pri [c] s.ready }).wrE (.slcQeng 4) 0x8000000
def tk : Taken := { idx := 0, lap := 0, op := 1, tag := 7, ioc := true, ctx := some 5, victims := [], count := 0, started := true, result := none, mal := false }
def s1 : State := atPc (wordC 0x31 0) ({ hs ctx2 with rings := [(3*64, { Ring.init with taken := [tk] })] })
def s4 : State := atPc (wordN 0x32) ({ hs ctx2 with rings := [(3*64, { Ring.init with taken := [tk] })] })
def s5 : State := atPc (wordN 0x34) ({ hs ctx2 with rings := [(3*64, { Ring.init with taken := [tk] })] })
def s6 : State := atPc (wordN 0x2B) ({ hs ctx2 with rings := [(3*64, { Ring.init with taken := [tk] })] })
def s7 : State := atPc (wordC 0x36 0) ({ hs ctx2 with rings := [(3*64, { Ring.init with taken := [tk] })] })
def s21 : State := atPc (wordN 0x32) (rdyI 8 3 (hs ctx2))
/-- Context 8 has joined the list of its level at the tail in this cycle. -/
def s22 : State := { s21 with ready := [(0, [8])], cyc := ⟨1, [], [], [(8, false)], false⟩ }
def s42 : State := atPc (wordP 0x33 0 0 0 0) (((hs ctx2).setProg (3 * 64) { Prog.empty with live := true, fuel := 99, words := [0] }).wrE (.slcQmem 3) 0x100000)
def s56 : State := atPc (wordN 0x34) ({ hs ctx2 with writes := [⟨0,3,5,0,0,0,0,[],.hst,false,0,0,false,[]⟩] })
def s68 : State := par .fence ctx2
def s92 : State := atPc (wordC 0x36 0) (setF (.pwrCtl 0) PWR_CTL.MODE 1 (hs ctx2))

/-- States and operands that meet the hypotheses of `WorkControl`, one line for each clause. -/
theorem witness_WorkControl :
    (s1.issues 5 (wordC 49 0) ∧ 0 < 256 ∧ (s1.ctx 5).idleBus ∧ (s1.ctx 5).seq = [] ∧ (s1.ctx 5).cur = none ∧
      (s1.ctx 5).locks = [] ∧ (s1.ctx 5).arbs = [] ∧ (s1.ctx 5).parent = none ∧ (s1.ctx 5).kids = [] ∧
      ((s1.ctx 5).prog < 64 → (s1.prog ((s1.ctx 5).slice * 64 + (s1.ctx 5).prog)).unloading = false) ∧ tk.ctx = some 5 ∧
      (s1.ring (rKey (s1.ctx 5).slice (s1.ctx 5).ring)).taken = [tk]) ∧
    (s4.issues 5 (wordN 50) ∧ s4.eligibleFrom (s4.ctx 5).cluster (s4.ctx 5).pri = false) ∧
    (s21.issues 5 (wordN 50) ∧ s21.eligibleFrom (s21.ctx 5).cluster (s21.ctx 5).pri ∧
      (∀ j ∈ s21.rlist ((s21.ctx 5).cluster * 8 + (s21.ctx 5).pri), s21.joinedNow false j = false)) ∧
    (s22.issues 5 (wordN 50) ∧ s22.eligibleFrom (s22.ctx 5).cluster (s22.ctx 5).pri ∧
      s22.rlist ((s22.ctx 5).cluster * 8 + (s22.ctx 5).pri) = [8] ∧ s22.joinedNow false 8) ∧
    (s42.issues 5 (wordP 51 0 0 0 0) ∧ 0 < 16384 ∧ (s42.ctx 0).act = Act.free ∧ s42.spawnRefused 5 0 = false ∧
      s42.romStart (s42.ctx 5).slice (BitVec.toNat ((s42.ctx 5).reg 0) % 65536) 0 ((s42.ctx 5).childArgs 0) = none) ∧
    (s5.issues 5 (wordN 52) ∧ s5.writesGone 5) ∧
    (s56.issues 5 (wordN 52) ∧ s56.writesGone 5 = false) ∧
    (s68.up ∧ (s68.ctx 5).act = Act.parked Wait.fence ∧ (s68.ctx 5).endCode = none ∧ (s68.ctx 5).idleBus ∧
      s68.writesGone 5) ∧
    (s6.issues 5 (wordN 43) ∧ (s6.ctx 5).op = none ∧ (s6.ctx 5).opRes = none) ∧
    (s7.issues 5 (wordC 54 0) ∧ (s7.ctx 5).act = Act.running 0 ∧ s7.getF (Reg.pwrCtl (0 / 2)) PWR_CTL.MODE = 0) ∧
    (s92.issues 5 (wordC 54 0) ∧ (s92.ctx 5).act = Act.running 0 ∧ s92.getF (Reg.pwrCtl (0 / 2)) PWR_CTL.MODE ≠ 0) := by and_intros <;> decide +kernel

end Sys2Proof.Tests.WWork

namespace Sys2Proof.Tests.WEvents
open Sys2Proof.Machine
set_option Elab.async false

def hs (x : Ctx) : State := engine0 x (bus State.reset)
def par (w : Wait) (x : Ctx) : State := putCtx 5 { x with act := .parked w } (bus State.reset)
def rdyI (c pri : Nat) (s : State) : State := (putCtx c { ctx2 with act := .ready, pri := pri, slice := 4 } { s with ready := FMap.put [] pri [c] s.ready }).wrE (.slcQeng 4) 0x8000000
def tk : Taken := { idx := 0, lap := 0, op := 1, tag := 7, ioc := true, ctx := some 5, victims := [], count := 0, started := true, result := none, mal := false }
def op0 : Op := { opOf (busReq .gather false 22) 22 3 0 8 0 0 with stage := .queued }
def fullE (k : Nat) (s : State) : State := { s with engs := (List.range 8).map (fun j => (8*k + j, if j = 1 then ⟨some 9, false, false, false⟩ else ⟨some 5, false, true, false⟩)) }
def s0 : State := { hs ctx2 with rings := [(3*64, { Ring.init with taken := [tk] })] }
def s7 : State := par .op { ctx2 with op := some { op0 with result := some 5 } }
def s8 : State := hs { ctx2 with op := some { op0 with result := some 5 } }
def s9 : State := rdyI 8 3 (par .op { ctx2 with op := some { op0 with bnd := true } })
def s10 : State := { State.reset with engs := [(0, ⟨none, false, true, false⟩)] }
def s11 : State := rdyI 8 3 (putCtx 9 { ctx2 with act := .running 1 } (fullE 0 State.reset))
def s12 : State := putCtx 8 { ctx2 with act := .suspended } (fullE 0 State.reset)
def s16 : State := { setF (.semCfg 40) SEM_CFG.EN 1 (putCtx 6 { ctx2 with act := .parked (.lock 41), locks := [40] } (putCtx 5 { ctx2 with act := .parked (.lock 40), locks := [41], since := 8 } State.reset)) with
     sems := [(40, ⟨some 6, [5], false, none⟩), (41, ⟨some 5, [6], false, none⟩)], aon := { State.reset.aon with clockCount := 100000000 } }
def s17 : State := { setF .dspCtl DSP_CTL.ADAPT 0 State.reset with stolen := [(33, 4)] }

/-- States and operands that meet the hypotheses of `BusOperationEvents`, one line for each clause. -/
theorem witness_BusOperationEvents :
    (s7.up ∧ (s7.ctx 5).act = Act.parked Wait.op ∧ (s7.ctx 5).endCode = none ∧ (s7.ctx 5).go = none ∧
      (s7.ctx 5).op = some ({ op0 with result := some 5 } : Op) ∧ ({ op0 with result := some 5 } : Op).result = some 5 ∧
      s7.onWire 5 = false ∧ s7.unaddressed 5 ({ op0 with result := some 5 } : Op) 5 = false) ∧
    (s8.up ∧ (s8.ctx 5).act = Act.running 0 ∧ (s8.ctx 5).op = some ({ op0 with result := some 5 } : Op) ∧
      ({ op0 with result := some 5 } : Op).result = some 5 ∧ s8.onWire 5 = false ∧
      s8.unaddressed 5 ({ op0 with result := some 5 } : Op) 5 = false) ∧
    (s9.up ∧ (s9.ctx 5).act = Act.parked Wait.op ∧ (s9.ctx 5).endCode = none ∧
      (s9.ctx 5).op = some ({ op0 with bnd := true } : Op) ∧ ({ op0 with bnd := true } : Op).req.kind = BusKind.gather ∧
      ({ op0 with bnd := true } : Op).req.async = false ∧ ({ op0 with bnd := true } : Op).result = none ∧
      ({ op0 with bnd := true } : Op).bnd ∧ ({ op0 with bnd := true } : Op).held = false ∧ s9.underWay 5 = false ∧
      s9.frozen (s9.ctx 5).slice = false ∧ s9.higherWork (s9.ctx 5).cluster (s9.ctx 5).pri ∧
      s9.cycle.joins = []) := by decide +kernel

/-- States and operands that meet the hypotheses of `EngineEvents`, one line for each clause. -/
theorem witness_EngineEvents :
    (s10.up ∧ (s10.eng 0).wb ∧ s10.getF (Reg.pwrSts (0 / 2)) PWR_STS.STATE = 0 ∧ s10.ready = []) ∧
    (s11.up ∧ s11.eng 1 = Eng.holds 9 ∧ (s11.ctx 9).act = Act.running 1 ∧
      (s11.getF (Reg.pwrSts (1 / 2)) PWR_STS.STATE = 1 ∨ s11.handedN (1 / 8) < s11.eligibleAbove (1 / 8) (s11.ctx 9).pri ∧ s11.freeEng (1 / 8) = none) ∧
      (∀ j ∈ s11.rlist ((s11.ctx 9).cluster * 8 + (s11.ctx 9).pri), s11.joinedNow true j = false)) ∧
    (s12.up ∧ (s12.ctx 8).act = Act.suspended ∧ s12.higherWork (s12.ctx 8).cluster (s12.ctx 8).pri = false ∧
      s12.frozen (s12.ctx 8).slice = false ∧ s12.freeEng (s12.ctx 8).cluster = none ∧
      (∀ j ∈ s12.rlist ((s12.ctx 8).cluster * 8 + (s12.ctx 8).pri), s12.joinedNow true j = false)) := by decide +kernel

/-- States and operands that meet the hypotheses of `StealResortStalemate`, one line for each clause. -/
theorem witness_StealResortStalemate :
    (s11.up ∧ 1 < 20 ∧ 0 < 20 ∧ 1 ≠ 0 ∧ s11.clIdle 1 ∧ s11.victims 1 = [0] ∧ s11.topItem 0 8 = some 8 ∧
      (s11.ctx 8).idleBus ∧ (s11.ctx 8).cluster = 0 ∧ (s11.ctx 8).act = Act.ready) ∧
    (s0.up ∧ s0.flag Reg.dspCtl DSP_CTL.ADAPT ∧ s0.stolen = []) ∧
    (s17.up ∧ s17.flag Reg.dspCtl DSP_CTL.ADAPT = false) ∧
    (s16.up ∧ s16.atTick ∧ s16.staleSeen ≠ s16.aon.clockCount ∧ s16.staleVictims = [5] ∧ 5 < 16384 ∧
      (s16.ctx 5).slice < 256) ∧
    (s0.up ∧ (s0.atTick = false ∨ s0.staleSeen = s0.aon.clockCount)) := by decide +kernel

end Sys2Proof.Tests.WEvents

namespace Sys2Proof.Tests.WPaths
open Sys2Proof.Machine
set_option Elab.async false

def mp (n : Nat) (g : Port → Port) (s : State) : State := s.modPort n g
def pst (n st sst : Nat) (s : State) : State := setF (.portCtl n) PORT_CTL.PP 1 (setF (.portSts n) PORT_STS.STATE st (setF (.portSts n) PORT_STS.SSTATE sst s))
def s1 : State := pst 3 1 1 State.reset
def s2 : State := pst 3 2 2 State.reset
/-- The PHY half of one path or the other is off. -/
def half (d : Nat) (s : State) : State := setF (.pwrSts d) PWR_STS.STATE 4 (s.modDom d (fun x => { x with target := 2 }))
def s3 : State := half 119 s1
def s8 : State := half 103 s1
/-- The sequencer of port 3 is OFF, with its save list kept. -/
def s9 : State := setF (.pwrSts 83) PWR_STS.STATE 4 (s1.takeCopy 83)
def s4 : State := pst 3 4 4 State.reset
def s5 : State := pst 3 5 5 State.reset
def s6 : State := pst 3 6 6 State.reset
def s7 : State := pst 3 7 7 State.reset
def s12 : State := mp 3 (fun p => { p with usb := { p.usb with low := true }, sup := { p.sup with pollFails := 2, warm := true } }) (pst 3 4 4 State.reset)
def s13 : State := mp 3 (fun p => { p with usb := { p.usb with chirp := true }, sup := { p.sup with pollFails := 2, warm := true } }) (pst 3 4 2 State.reset)
def s18 : State := mp 3 (fun p => { p with usb := { p.usb with moved := 1, was := 5, prec := precSw } }) (pst 3 6 5 State.reset)
def s19 : State := mp 3 (fun p => { p with usb := { p.usb with moved := 1, was := 5, prec := precPp } }) (pst 3 0 0 State.reset)

/-- States and operands that meet the hypotheses of `Usb2PathEvents`, one line for each clause. -/
theorem witness_Usb2PathEvents :
    (3 < 20 ∧ s3.up ∧ s3.calm 3 false ∧ s3.phyOff 3 false) ∧
    (3 < 20 ∧ s1.up ∧ s1.calm 3 false ∧ s1.pathSt 3 false = pDisconnected ∧ ¬ s1.phyOff 3 false) ∧
    (3 < 20 ∧ s2.up ∧ s2.calm 3 false ∧ s2.pathSt 3 false = pQualify) ∧
    (3 < 20 ∧ s4.up ∧ s4.calm 3 false ∧ s4.pathSt 3 false = pResetting ∧ (s4.path 3 false).low = false) ∧
    (0 < 20 ∧ State.reset.up ∧ State.reset.calm 0 false) ∧
    (3 < 20 ∧ s6.up ∧ s6.calm 3 false ∧ s6.pathSt 3 false = pSuspended ∧ ¬ s6.phyOff 3 false) ∧
    (3 < 20 ∧ s7.up ∧ s7.calm 3 false ∧ s7.pathSt 3 false = pResuming) ∧
    (3 < 20 ∧ s2.up ∧ s2.calm 3 false ∧ 2 ≤ s2.pathSt 3 false ∧ s2.pathSt 3 false ≤ 8 ∧ ¬ s2.phyOff 3 false) ∧
    (3 < 20 ∧ s5.up ∧ s5.calm 3 false ∧ s5.pathSt 3 false = pEnabled) ∧
    (3 < 20 ∧ s18.up ∧ s18.calm 3 false = false ∧ (s18.path 3 false).was = pEnabled ∧ (s18.path 3 false).prec = precSw ∧
      ¬ s18.phyOff 3 false) ∧
    (3 < 20 ∧ s19.up ∧ s19.calm 3 false = false ∧ (s19.path 3 false).was = pEnabled ∧ (s19.path 3 false).prec = precPp) := by
  and_intros <;> first | decide +kernel | (unfold State.phyOff; decide +kernel)

/-- States and operands that meet the hypotheses of `SuperSpeedPathEvents`, one line for each clause. -/
theorem witness_SuperSpeedPathEvents :
    (3 < 16 ∧ s8.up ∧ 0 < 8 ∧ s8.calm 3 true ∧ s8.phyOff 3 true) ∧
    (3 < 16 ∧ s1.up ∧ 0 < 8 ∧ s1.calm 3 true ∧ s1.pathSt 3 true = pDisconnected ∧ ¬ s1.phyOff 3 true) ∧
    (3 < 16 ∧ s4.up ∧ 0 < 8 ∧ s4.calm 3 true ∧ s4.pathSt 3 true = pResetting) ∧
    (3 < 16 ∧ s2.up ∧ 0 < 8 ∧ s2.calm 3 true ∧ s2.pathSt 3 true = pQualify ∧ (s2.path 3 true).pollFails < 2) ∧
    (3 < 16 ∧ s13.up ∧ 0 < 8 ∧ s13.calm 3 true ∧ s13.pathSt 3 true = pQualify ∧ 2 ≤ (s13.path 3 true).pollFails) ∧
    (3 < 16 ∧ s12.up ∧ 0 < 8 ∧ s12.calm 3 true ∧ s12.pathSt 3 true = pResetting ∧ (s12.path 3 true).warm) ∧
    (3 < 16 ∧ s6.up ∧ 0 < 8 ∧ s6.calm 3 true ∧ s6.pathSt 3 true = pSuspended ∧ ¬ s6.phyOff 3 true) ∧
    (3 < 16 ∧ s7.up ∧ 0 < 8 ∧ s7.calm 3 true ∧ s7.pathSt 3 true = pResuming) ∧
    (3 < 16 ∧ s5.up ∧ 0 < 8 ∧ s5.calm 3 true ∧ s5.pathSt 3 true = pEnabled) ∧
    (3 < 16 ∧ s2.up ∧ 0 < 8 ∧ s2.calm 3 true ∧ 2 ≤ s2.pathSt 3 true ∧ s2.pathSt 3 true ≤ 8 ∧ ¬ s2.phyOff 3 true ∧
      (s2.port 3).flip = false ∧ s2.pinsOn 167) := by
  and_intros <;> first | decide +kernel | (unfold State.phyOff; decide +kernel)

/-- States and operands that meet the hypotheses of `PortControlRequests`, one line for each clause. -/
theorem witness_PortControlRequests :
    (3 < 20 ∧ s9.accepts .ma (Reg.portCtl 3) ∧ (s9.savedCopy (.portCtl 3)).isSome) ∧
    (3 < 20 ∧ (false = true → 3 < 16) ∧ s5.accepts .ma (Reg.portCtl 3) ∧ s5.calm 3 false ∧ s5.calm 3 true ∧
      s5.domOn (80 + 3) ∧ s5.savedCopy (.portCtl 3) = none ∧ s5.getF (Reg.portCtl 3) PORT_CTL.TEST = 0 ∧
      s5.flag (Reg.portCtl 3) PORT_CTL.PP = true ∧
      s5.pathSt 3 false = pEnabled) ∧
    (3 < 20 ∧ (false = true → 3 < 16) ∧ s6.accepts .ma (Reg.portCtl 3) ∧ s6.calm 3 false ∧ s6.calm 3 true ∧
      s6.domOn (80 + 3) ∧ s6.savedCopy (.portCtl 3) = none ∧ s6.getF (Reg.portCtl 3) PORT_CTL.TEST = 0 ∧
      s6.flag (Reg.portCtl 3) PORT_CTL.PP = true ∧
      s6.pathSt 3 false = pSuspended) ∧
    (3 < 20 ∧ (false = true → 3 < 16) ∧ s5.accepts .ma (Reg.portCtl 3) ∧ s5.calm 3 false ∧ s5.calm 3 true ∧
      s5.domOn (80 + 3) ∧ s5.savedCopy (.portCtl 3) = none ∧ s5.getF (Reg.portCtl 3) PORT_CTL.TEST = 0 ∧
      s5.flag (Reg.portCtl 3) PORT_CTL.PP = true ∧ 3 < 16 ∧
      s5.pathSt 3 true = pEnabled) ∧
    (3 < 20 ∧ (false = true → 3 < 16) ∧ s1.accepts .ma (Reg.portCtl 3) ∧ s1.calm 3 false ∧ s1.calm 3 true ∧
      s1.domOn (80 + 3) ∧ s1.savedCopy (.portCtl 3) = none ∧ s1.getF (Reg.portCtl 3) PORT_CTL.TEST = 0 ∧
      s1.flag (Reg.portCtl 3) PORT_CTL.PP = true ∧
      s1.pathSt 3 false = pDisconnected) ∧
    (0 < 20 ∧ (false = true → 0 < 16) ∧ State.reset.accepts .ma (Reg.portCtl 0) ∧ State.reset.calm 0 false ∧
      State.reset.calm 0 true ∧ State.reset.domOn (80 + 0) ∧ State.reset.savedCopy (.portCtl 0) = none ∧
      State.reset.getF (Reg.portCtl 0) PORT_CTL.TEST = 0 ∧
      State.reset.pathSt 0 false ≠ pOvercurrent ∧ State.reset.gangOf 0 = none ∧ State.reset.domLive 167 ∧
      State.reset.aon.portCycle = none) := by and_intros <;> decide +kernel

end Sys2Proof.Tests.WPaths

namespace Sys2Proof.Tests.WPortPower
open Sys2Proof.Machine
set_option Elab.async false

def mp (n : Nat) (g : Port → Port) (s : State) : State := s.modPort n g
def pst (n st sst : Nat) (s : State) : State := setF (.portCtl n) PORT_CTL.PP 1 (setF (.portSts n) PORT_STS.STATE st (setF (.portSts n) PORT_STS.SSTATE sst s))
def s5 : State := pst 3 0 0 State.reset
def s6 : State := setF (.portCfg 3) PORT_CFG.BC_MODE 2 (pst 3 0 0 State.reset)
def s7 : State := mp 3 (fun p => { p with pwren := true, oc := ⟨true, true, false, 20⟩ }) (pst 3 5 5 State.reset)
def s8 : State := mp 3 (fun p => { p with pwren := true, oc := ⟨false, true, true, 20⟩ }) (pst 3 5 5 State.reset)
def s9 : State := mp 3 (fun p => { p with usb := { p.usb with bcMode := 1 } }) (pst 3 1 1 State.reset)
def s10 : State := { pst 3 5 5 State.reset with preds := [(6, { Pred.init with lpm := some 3 })] }
def s11 : State := setF (.portLink 3) PORT_LINK.LSTATE 2 (pst 3 5 5 State.reset)
def s12 : State := setF (.portCfg 3) PORT_CFG.UX_ACC 1 (setF (.portCfg 3) PORT_CFG.U2_EN 1 (setF (.portLink 3) PORT_LINK.SLSTATE 1 (pst 3 5 5 State.reset)))
def s15 : State := setF (.portTstSts 3) PORT_TST_STS.RUN 1 (pst 3 0 0 State.reset)
def s16 : State := (pst 3 5 5 State.reset).setEpc 22 { Ep.empty with live := true, typ := 2, nrdy := [0, 3], erdy := [5] }

/-- States and operands that meet the hypotheses of `PortAndLinkPower`, one line for each clause. -/
theorem witness_PortAndLinkPower :
    (3 < 20 ∧ s5.up ∧ s5.pathSt 3 false = pOff ∧ s5.flag (Reg.portCtl 3) PORT_CTL.PP ∧ s5.aon.portCycle = none ∧
      s5.flag (Reg.portTstSts 3) PORT_TST_STS.RUN = false ∧ s5.getF (Reg.portCfg 3) PORT_CFG.BC_MODE ≠ 2) ∧
    (3 < 20 ∧ s6.up ∧ s6.pathSt 3 false = pOff ∧ s6.flag (Reg.portCtl 3) PORT_CTL.PP ∧ s6.aon.portCycle = none ∧
      s6.flag (Reg.portTstSts 3) PORT_TST_STS.RUN = false ∧ s6.getF (Reg.portCfg 3) PORT_CFG.BC_MODE = 2) ∧
    (3 < 20 ∧ s15.up ∧ s15.flag (Reg.portTstSts 3) PORT_TST_STS.RUN) ∧
    (0 < 20 ∧ State.reset.up ∧ State.reset.pinsOn 167 ∧ (State.reset.port 0).oc.sample ≠ true) ∧
    (3 < 20 ∧ s7.up ∧ (s7.port 3).oc.counting ∧ (s7.port 3).oc.sample ∧ (s7.port 3).pwren ∧ s7.gangOf 3 = none) ∧
    (3 < 20 ∧ s8.up ∧ (s8.port 3).oc.counting ∧ (s8.port 3).oc.sample = false ∧ s8.gangOf 3 = none) ∧
    (3 < 20 ∧ s9.up ∧ s9.pathSt 3 false = pDisconnected ∧ (s9.path 3 false).bcMode = 1) ∧
    (0 < 20 ∧ State.reset.up ∧ 0 < 4 ∧ State.reset.accepts .ma (Reg.portGang 0) ∧
      State.reset.gangRefused 0 (BitVec.setWidth 64 (0 : Word32)) = false) ∧
    (3 < 20 ∧ s10.up ∧ 3 < 16 ∧ (s10.pred (pKey 3 false)).lpm = some 3) ∧
    (3 < 20 ∧ s11.up ∧ s11.getF (Reg.portLink 3) PORT_LINK.LSTATE = 2) ∧
    (3 < 20 ∧ s12.up ∧ 3 < 16 ∧ s12.pathSt 3 true = pEnabled ∧ s12.getF (Reg.portLink 3) PORT_LINK.SLSTATE = 1 ∧
      s12.cfgFlag 3 PORT_CFG.UX_ACC ∧ s12.cfgFlag 3 PORT_CFG.U2_EN) ∧
    (0 < 20 ∧ s16.up ∧ 0 ∈ (s16.epc 22).nrdy ∧ (s16.epInfo 22).typ ≠ 3) ∧
    (0 < 20 ∧ State.reset.up ∧ 0 ∉ (State.reset.epc 0).nrdy) := by and_intros <;> decide +kernel

end Sys2Proof.Tests.WPortPower

namespace Sys2Proof.Tests.WAccesses
open Sys2Proof.Machine
set_option Elab.async false

def stg (q : Requester) (r : Reg) (s : State) : State := { s with staged := s.staged.put none (s.halfKey q r) (some 0x55), latches := s.latches.put none (s.halfKey q r) (some 0x66) }
def s2 : State := { State.reset with jtag := .memap }
def s3 : State := setF .glbMgrSts GLB_MGR_STS.STATE 2 hostUp
def s5 : State := stg .ma (.mdmaSrc 2) State.reset
def s8 : State := checkOff 49 State.reset

/-- States and operands that meet the hypotheses of `RegisterAccesses`, one line for each clause. -/
theorem witness_RegisterAccesses :
    (s5.up ∧ s5.reaches .ma (locPlus (Reg.loc (.mdmaSrc 2) : Loc) 4) ∧
      s5.pageEmpty (locPlus (Reg.loc (.mdmaSrc 2) : Loc) 4) = false ∧
      cellAt (locPlus (Reg.loc (.mdmaSrc 2) : Loc) 4) = RegCell.high (.mdmaSrc 2 : Reg) ∧
      FMap.find none (s5.halfKey .ma (.mdmaSrc 2 : Reg)) s5.latches = some (0x66 : Word32)) ∧
    (State.reset.up ∧ State.reset.reaches .ma (locPlus (Reg.loc (.mdmaSrc 2) : Loc) 4) ∧
      State.reset.pageEmpty (locPlus (Reg.loc (.mdmaSrc 2) : Loc) 4) = false ∧
      cellAt (locPlus (Reg.loc (.mdmaSrc 2) : Loc) 4) = RegCell.high (.mdmaSrc 2 : Reg) ∧
      FMap.find none (State.reset.halfKey .ma (.mdmaSrc 2 : Reg)) State.reset.latches = none) ∧
    (State.reset.up ∧ State.reset.reaches .ma (Reg.loc (.mdmaSrc 2) : Loc) ∧
      locOff (Reg.loc (.mdmaSrc 2) : Loc) % 8 = 0 ∧ State.reset.pageEmpty (Reg.loc (.mdmaSrc 2) : Loc) = false ∧
      State.reset.pageEmpty (locPlus (Reg.loc (.mdmaSrc 2) : Loc) 4) = false ∧
      cellAt (Reg.loc (.mdmaSrc 2) : Loc) = RegCell.low (.mdmaSrc 2 : Reg) ∧
      cellAt (locPlus (Reg.loc (.mdmaSrc 2) : Loc) 4) = RegCell.high (.mdmaSrc 2 : Reg)) ∧
    (State.reset.opens .ma (Reg.loc .mbxMcsr : Loc) ∧ inLibrary (Reg.loc .mbxMcsr : Loc) = false ∧
      cellAt (Reg.loc .mbxMcsr : Loc) = RegCell.word (.mbxMcsr : Reg) ∧ plainRegs (.mbxMcsr : Reg) ∧
      State.reset.savedCopy .mbxMcsr = none) ∧
    (State.reset.opens .ma (Reg.loc (.portSeqCfg 3) : Loc) ∧ inLibrary (Reg.loc (.portSeqCfg 3) : Loc) = false ∧
      cellAt (Reg.loc (.portSeqCfg 3) : Loc) = RegCell.word (Reg.portSeqCfg 3) ∧
      State.reset.savedCopy (.portSeqCfg 3) = none) ∧
    (State.reset.opens .ma (Reg.loc (.portTstSts 3) : Loc) ∧ inLibrary (Reg.loc (.portTstSts 3) : Loc) = false ∧
      cellAt (Reg.loc (.portTstSts 3) : Loc) = RegCell.word (Reg.portTstSts 3) ∧ State.reset.regLive (.portTstSts 3)) ∧
    (State.reset.opens .ma (Reg.loc (.mdmaSrc 2) : Loc) ∧ inLibrary (Reg.loc (.mdmaSrc 2) : Loc) = false ∧
      cellAt (Reg.loc (.mdmaSrc 2) : Loc) = RegCell.low (.mdmaSrc 2 : Reg) ∧
      (∀ (i k : ℕ), (.mdmaSrc 2 : Reg) ≠ Reg.db i k)) ∧
    (s5.opens .ma (locPlus (Reg.loc (.mdmaSrc 2) : Loc) 4) ∧
      inLibrary (locPlus (Reg.loc (.mdmaSrc 2) : Loc) 4) = false ∧
      cellAt (locPlus (Reg.loc (.mdmaSrc 2) : Loc) 4) = RegCell.high (Reg.mdmaSrc 2) ∧ s5.mdmaBusy 2 = false ∧
      FMap.find none (s5.halfKey .ma (Reg.mdmaSrc 2)) s5.staged = some (0x55 : Word32)) ∧
    (State.reset.opens .ma (locPlus (Reg.loc (.mdmaSrc 2) : Loc) 4) ∧
      inLibrary (locPlus (Reg.loc (.mdmaSrc 2) : Loc) 4) = false ∧
      cellAt (locPlus (Reg.loc (.mdmaSrc 2) : Loc) 4) = RegCell.high (Reg.mdmaSrc 2) ∧ State.reset.mdmaBusy 2 = false ∧
      FMap.find none (State.reset.halfKey .ma (Reg.mdmaSrc 2)) State.reset.staged = none) ∧
    (State.reset.opens .ma (Reg.loc (.mdmaSrc 2) : Loc) ∧
      cellAt (Reg.loc (.mdmaSrc 2) : Loc) = RegCell.low (Reg.mdmaSrc 2) ∧ State.reset.mdmaBusy 2 = false) := by
  and_intros <;> first | decide +kernel | exact Or.inl rfl | (intro i k h; cases h)

/-- States and operands that meet the hypotheses of `AccessesTurnedAway`, one line for each clause. -/
theorem witness_AccessesTurnedAway :
    (State.reset.up ∧ State.reset.reaches Requester.ma (Reg.loc .mbxMcsr : Loc)) ∧
    (State.reset.up ∧ State.reset.reaches Requester.mb (Reg.loc .mbxMcsr : Loc)) ∧
    (hostUp.up ∧ hostUp.reaches (Requester.func 0 0) (Reg.loc .mbxMcsr : Loc)) ∧
    (s2.up ∧ s2.reaches Requester.jtag (Reg.loc .mbxMcsr : Loc)) ∧
    (State.reset.up ∧ State.reset.reaches .ma (Reg.loc .mbxMcsr : Loc)) ∧
    (s8.flag (Reg.fltCfg 49) FLT_CFG.EN = false) ∧
    (State.reset.flag (Reg.fltCfg 49) FLT_CFG.EN ∧ State.reset.getF (Reg.fltSts 49) FLT_STS.STATE = 0) ∧
    (s3.up ∧ s3.reaches (Requester.func 0 0) (Loc.mgr 0) ∧ 0 ≠ 1040 ∧ s3.claim ≠ claimHost) ∧
    (State.reset.up ∧
      (State.reset.place (.func 0 0) (Reg.loc .mbxMcsr : Loc) = Spot.none ∨ State.reset.place (.func 0 0) (Reg.loc .mbxMcsr : Loc) = Spot.empty)) ∧
    (hostUp.up ∧ hostUp.place (Requester.func 0 0) (.mem 0x50000000 : Loc) = Spot.ur) ∧
    (State.reset.up ∧ State.reset.place .ma (.mem 0x50000000 : Loc) = Spot.unlisted) ∧
    (State.reset.opens .ma (.mgr 0xFFFFF0 : Loc) ∧ inLibrary (.mgr 0xFFFFF0 : Loc) = false ∧
      cellAt (.mgr 0xFFFFF0 : Loc) = RegCell.none) ∧
    ((State.reset.flt 49).entry < 32 ∧ ((.mbxMcsr : Reg).addr < 65536 ∨ 69632 ≤ (.mbxMcsr : Reg).addr) ∧
      (.mbxMcsr : Reg).addr ∉ wakeRegs) := by decide +kernel

end Sys2Proof.Tests.WAccesses

namespace Sys2Proof.Tests.WSupplies
open Sys2Proof.Machine
set_option Elab.async false

def dirty : State := { putCtx 5 ctx2 (setF (.portCtl 3) PORT_CTL.PP 1 (setF (.fltHist 3) ⟨5, 0⟩ 9 (setF .fltHsts ⟨5,0⟩ 3 (setF .pwrWline ⟨31,0⟩ 0x1234 (bus State.reset))))) with aon := { State.reset.aon with clockCount := 77, refCycle := 9, straps := ⟨1,1,1⟩ } }
def down (s : State) : State := { s with aon := { s.aon with railsGood := false } }
def held (s : State) : State := { s with aon := { s.aon with resetN := false } }
def s2 : State := down dirty
def s3 : State := held dirty
def s4 : State := down (held dirty)

/-- States and operands that meet the hypotheses of `SuppliesAndPowerOn`, one line for each clause. -/
theorem witness_SuppliesAndPowerOn :
    (State.reset.up) ∧
    (s4.aon.vddAon ∧ s4.aon.railsGood = false ∧ s4.aon.resetN = false) ∧
    (s2.aon.vddAon ∧ s2.aon.railsGood = false ∧ s2.aon.resetN) ∧
    (s4.aon.vddAon ∧ s4.aon.resetN = false ∧ s4.aon.railsGood = false) ∧
    (s3.aon.vddAon ∧ s3.aon.resetN = false ∧ s3.aon.railsGood) ∧
    (State.reset.aon.vddAon) ∧
    ((⟨2,3,1⟩ : Straps).bootSrc ≠ 0) ∧
    ((⟨2,3,0⟩ : Straps).bootSrc = 0 ∧ dirOf boot.copy0 boot.copy1 = none) := by decide +kernel

/-- A directory copy whose CRC word is that of its first 60 bytes `d`; slot A is GOOD. -/
def dir60 : List Byte := [0x52#8, 0x46#8, 0x48#8, 0x44#8, 1, 0, 0, 0, 1] ++ List.replicate 51 0
def dirA : List Byte := dir60 ++ leBytes 4 (Config.crc32 dir60).toNat
theorem dirA_ok : dirOk dirA = true := by
  have e : ∀ c : Word32, leValue (leBytes 4 c.toNat) = c.toNat := fun c => by
    have := c.isLt
    simp [leBytes, leValue]
    omega
  have h : dirA.take 60 = dir60 := rfl
  have k : (dirA.drop 60).take 4 = leBytes 4 (Config.crc32 dir60).toNat := rfl
  have m : dirA.take 4 = [0x52#8, 0x46#8, 0x48#8, 0x44#8] := rfl
  simp only [dirOk, dirField, h, k, m, e]
  simp
/-- The same for the clause of a valid directory. -/
theorem witness_SuppliesAndPowerOn_boot : (⟨2,3,0⟩ : Straps).bootSrc = 0 ∧
    dirOf dirA (List.replicate 64 0) = some dirA ∧ bootOrder dirA = [false] := by
  have z : dirOk (List.replicate 64 0) = false := by decide +kernel
  refine ⟨rfl, ?_, rfl⟩
  simp only [dirOf, dirA_ok, z]

/-- States and operands that meet the hypotheses of `WarmReset`, one line for each clause. -/
theorem witness_WarmReset :
    (State.reset.accepts .ma Reg.glbRstCtl ∧
      (State.reset.isMgrFunc .ma = true ∧ State.reset.claim = claimHost ∨ isPair .ma = true ∧ State.reset.isActive .ma = true) ∧
      State.reset.aon.extDue = false) ∧
    (State.reset.accepts .mb Reg.glbRstCtl ∧
      (¬(State.reset.isMgrFunc .mb = true ∧ State.reset.claim = claimHost ∨ isPair .mb = true ∧ State.reset.isActive .mb = true))) := by decide +kernel

end Sys2Proof.Tests.WSupplies

namespace Sys2Proof.Tests.WService
open Sys2Proof.Machine
set_option Elab.async false

def dirty : State := { putCtx 5 ctx2 (setF (.portCtl 3) PORT_CTL.PP 1 (setF (.fltHist 3) ⟨5, 0⟩ 9 (setF .fltHsts ⟨5,0⟩ 3 (setF .pwrWline ⟨31,0⟩ 0x1234 (bus State.reset))))) with aon := { State.reset.aon with clockCount := 77, refCycle := 9, straps := ⟨1,1,1⟩ }, starting := none }
def held (s : State) : State := { s with aon := { s.aon with resetN := false } }
def pr (s : State) : State := after .svcPressStart s
def noref (a : Nat) (s : State) : State := { s with aon := { s.aon with refRunning := false, acc := a } }
def s2 : State := pr dirty
def s3 : State := held (pr dirty)
def s4 : State := { held dirty with aon := { (held dirty).aon with portCycle := some 0, clockCount := 100000 } }
def s5 : State := { dirty with aon := { dirty.aon with portCycle := some 0, clockCount := 100000 } }
def s6 : State := noref 0 dirty
def s7 : State := noref 387 dirty
def s8 : State := { s2 with starting := some s2.now }
def s9 : State := { s3 with aon := { s3.aon with resetLow := s3.now + 1 } }

/-- States and operands that meet the hypotheses of `ServiceButton`, one line for each clause. -/
theorem witness_ServiceButton :
    (State.reset.aon.vddAon ∧ State.reset.flag Reg.glbSvc GLB_SVC.HELD = false) ∧
    (s2.up ∧ s2.flag Reg.glbSvc GLB_SVC.HELD ∧ s2.aon.svcArmed ∧ s2.aon.svcStuck = false ∧ 0 < 65536 ∧ s2.resetRuns = false) ∧
    (s2.up ∧ s2.flag Reg.glbSvc GLB_SVC.HELD ∧ s2.aon.svcArmed ∧ s2.aon.svcStuck = false ∧ 65536 ≤ 65536 ∧
      65536 ≤ 262144 ∧ s2.resetRuns = false) ∧
    (s2.up ∧ s2.flag Reg.glbSvc GLB_SVC.HELD ∧ s2.aon.svcArmed ∧ s2.aon.svcStuck = false ∧ 262144 < 262145 ∧
      262145 ≤ 1966080) ∧
    (s3.aon.vddAon ∧ s3.aon.resetN = false ∧ s3.flag Reg.glbSvc GLB_SVC.HELD ∧ s3.aon.svcArmed ∧
      s3.aon.svcStuck = false ∧ 0 ≤ 1966080) ∧
    (s9.aon.vddAon ∧ s9.aon.resetN = false ∧ s9.flag Reg.glbSvc GLB_SVC.HELD ∧ s9.aon.svcArmed ∧
      s9.aon.svcStuck = false ∧ 262145 ≤ 1966080 ∧ s9.resetLowNow) ∧
    (s8.up ∧ s8.flag Reg.glbSvc GLB_SVC.HELD ∧ s8.aon.svcArmed ∧ s8.aon.svcStuck = false ∧ 262144 ≤ 262144 ∧ s8.resetRuns) ∧
    (s9.aon.vddAon ∧ s9.coldHeld ∧ s9.resetLowNow ∧ s9.flag Reg.glbSvc GLB_SVC.HELD ∧ s9.aon.svcArmed ∧
      s9.aon.svcStuck = false) ∧
    (s4.aon.vddAon ∧ s4.coldHeld ∧ s4.aon.portCycle = some 0 ∧ 0 + 25000000 ≤ s4.now) ∧
    (s5.up ∧ s5.aon.portCycle = some 0 ∧ 0 + 25000000 ≤ s5.now) := by and_intros <;> decide +kernel

/-- States and operands that meet the hypotheses of `ClockCountCommands`, one line for each clause. -/
theorem witness_ClockCountCommands :
    (State.reset.aon.refRunning ∧ State.reset.aon.vddAon) ∧
    (s3.aon.refRunning ∧ s3.aon.vddAon ∧ s3.coldHeld) ∧
    (s6.aon.vddAon ∧ s6.aon.refRunning = false ∧ s6.aon.acc + 125 < 512) ∧
    (s7.aon.vddAon ∧ s7.aon.refRunning = false ∧ 512 ≤ s7.aon.acc + 125) ∧
    (State.reset.up ∧ State.reset.aon.refRunning) := by decide +kernel

end Sys2Proof.Tests.WService

namespace Sys2Proof.Tests.WSync
open Sys2Proof.Machine
set_option Elab.async false

def dirty : State := { putCtx 5 ctx2 (setF (.portCtl 3) PORT_CTL.PP 1 (setF (.fltHist 3) ⟨5, 0⟩ 9 (setF .fltHsts ⟨5,0⟩ 3 (setF .pwrWline ⟨31,0⟩ 0x1234 (bus State.reset))))) with aon := { State.reset.aon with clockCount := 77, refCycle := 9, straps := ⟨1,1,1⟩ } }
def sy (k : Nat) (s : State) : State := setF .plnSyncSts PLN_SYNC_STS.STATE k s
def ok (s : State) : State := setF .plnSyncRatio PLN_SYNC_RATIO.NUM 1 (setF .plnSyncRatio PLN_SYNC_RATIO.DEN 1 s)
def s1 : State := { dirty with snapAt := some dirty.now }
def s4 : State := setF .plnSyncRatio PLN_SYNC_RATIO.NUM 0 dirty
def s5 : State := sy 1 (ok dirty)
def s8 : State := sy 4 dirty
def s9 : State := sy 5 dirty

/-- States and operands that meet the hypotheses of `SnapshotAndSync`, one line for each clause. -/
theorem witness_SnapshotAndSync :
    (State.reset.accepts .ma Reg.plnSnapCtl ∧ State.reset.snapAt ≠ some State.reset.now) ∧
    (s1.accepts .ma Reg.plnSnapCtl ∧ s1.snapAt = some s1.now) ∧
    (State.reset.accepts .ma Reg.plnSyncCtl ∧ State.reset.syState = 0 ∧
      ratioOk (State.reset.getF Reg.plnSyncRatio PLN_SYNC_RATIO.NUM) (State.reset.getF Reg.plnSyncRatio PLN_SYNC_RATIO.DEN) ∧
      State.reset.ofsOk) ∧
    (s4.accepts .ma Reg.plnSyncCtl ∧ s4.syState = 0 ∧
      ratioOk (s4.getF Reg.plnSyncRatio PLN_SYNC_RATIO.NUM) (s4.getF Reg.plnSyncRatio PLN_SYNC_RATIO.DEN) = false) ∧
    (s5.accepts .ma Reg.plnSyncCtl ∧ s5.syState ≠ 0) ∧
    (s8.accepts .ma Reg.plnSyncCtl ∧ s8.syState = 4) ∧
    (State.reset.accepts .ma Reg.plnSyncCtl ∧ State.reset.syState ≠ 4) ∧
    (s5.up ∧ s5.syState = 1 ∧ s5.pinsOn 167 ∧ s5.sync.seen = false) ∧
    (State.reset.up ∧ State.reset.syState = 0) ∧
    (s5.up ∧ (s5.syState = 1 ∨ s5.syState = 2 ∨ s5.syState = 4)) ∧
    (s9.up ∧ s9.syState = 5) := by decide +kernel

end Sys2Proof.Tests.WSync

namespace Sys2Proof.Tests.WLinks
open Sys2Proof.Machine
set_option Elab.async false

def hpS (p ltssm : Nat) (s : State) : State := let s := setF (.glbHpSts p) GLB_HP_STS.LTSSM ltssm (setF (.glbHpCtl p) GLB_HP_CTL.LTE 1 s); setF (.glbHpSts p) GLB_HP_STS.DL_UP (if ltssm = 3 then 1 else 0) s
def cl (k : Nat) (s : State) : State := setF .glbMgrSts GLB_MGR_STS.STATE k s
def rq (c _d n : Nat) (p : Purpose) : HostReq := { tag := 0, slice := 3, ctx := c, addr := 0x10000, len := n, purpose := p, phase := .waiting, fails := 0 }
def q1 : HostReq := rq 5 2 8 (.hld 2 3)
def s4 : State := cl 2 (hpS 0 3 hostUp)
def s15 : State := { hpS 0 3 State.reset with reqs := [{q1 with phase := .issued}] }
def s18 : State := { setF (.glbHpCtl 0) GLB_HP_CTL.LTE 0 State.reset with hps := [(0, ⟨false, false, false, 0x414⟩)] }

/-- States and operands that meet the hypotheses of `UpstreamLinkEvents`, one line for each clause. -/
theorem witness_UpstreamLinkEvents :
    (0 < 4 ∧ State.reset.up ∧ State.reset.present 0 ∧ State.reset.accepts .ma (Reg.glbHpCtl 0) ∧
      State.reset.savedCopy (.glbHpCtl 0) = none ∧ State.reset.lte 0 = false ∧ (State.reset.hp 0).lnkCtl2.testBit 4 = false) ∧
    (0 < 4 ∧ s18.up ∧ s18.present 0 ∧ s18.accepts .ma (Reg.glbHpCtl 0) ∧ s18.savedCopy (.glbHpCtl 0) = none ∧ s18.lte 0 = false ∧
      (s18.hp 0).lnkCtl2.testBit 4) ∧
    (0 < 4 ∧ hostUp.up ∧ hostUp.present 0 ∧ hostUp.accepts .ma (Reg.glbHpCtl 0) ∧ hostUp.savedCopy (.glbHpCtl 0) = none ∧ hostUp.lte 0 ∧ hostUp.dlUp 0 = false) ∧
    (0 < 4 ∧ hostUp.up ∧ hostUp.present 0 ∧ hostUp.accepts .ma (Reg.glbHpCtl 0) ∧
      hostUp.savedCopy (.glbHpCtl 0) = none ∧ hostUp.getF (Reg.glbHpSts 0) GLB_HP_STS.LTSSM = 3) ∧
    (0 < 4 ∧ hostUp.up ∧ hostUp.present 0 ∧ hostUp.lte 0 ∧ hostUp.widthOk 0 = false) ∧
    (0 < 4 ∧ hostUp.up ∧ hostUp.present 0) ∧
    (0 < 4 ∧ hostUp.up ∧ hostUp.present 0 ∧ hostUp.lte 0 ∧ 1 ≤ 1 ∧ 1 ≤ 5 ∧ hostUp.widthOk 1 ∧
      (hostUp.dlUp 0 = false ∨ hostUp.getF (Reg.glbHpSts 0) GLB_HP_STS.LTSSM ≠ ltL2)) ∧
    (0 < 4 ∧ s4.up ∧ s4.present 0 ∧ (∀ i < 256, s4.resetCovers 0 (fun x => true) i = false) ∧ s4.dlUp 0 ∧
      s4.claim = claimLocal ∧ s4.flag Reg.glbMgrSts GLB_MGR_STS.HREQ = false) ∧
    (0 < 4 ∧ s4.up ∧ s4.present 0 ∧ (∀ i < 256, s4.resetCovers 0 (fun x => true) i = false) ∧ s4.lte 0 ∧
      s4.claim = claimLocal ∧ s4.flag Reg.glbMgrSts GLB_MGR_STS.HREQ = false ∧ (s4.hp 0).lnkCtl2.testBit 4 = false) ∧
    (0 < 4 ∧ s4.up ∧ s4.present 0 ∧ s4.dlUp 0 ∧ s4.issuedPort 0 = 0 ∧
      (∀ w ∈ s4.writes, w.issued = false ∨ s4.inSram w.slice ∨ s4.slPort w.slice ≠ 0)) ∧
    (0 < 4 ∧ s15.up ∧ s15.present 0 ∧ s15.dlUp 0 ∧ s15.issuedPort 0 ≠ 0) := by and_intros <;> decide +kernel

end Sys2Proof.Tests.WLinks

namespace Sys2Proof.Tests.WFunctions
open Sys2Proof.Machine
set_option Elab.async false

def hpS (p ltssm : Nat) (s : State) : State := let s := setF (.glbHpSts p) GLB_HP_STS.LTSSM ltssm (setF (.glbHpCtl p) GLB_HP_CTL.LTE 1 s); setF (.glbHpSts p) GLB_HP_STS.DL_UP (if ltssm = 3 then 1 else 0) s
def cl (k : Nat) (s : State) : State := setF .glbMgrSts GLB_MGR_STS.STATE k s
def rq (c _d n : Nat) (p : Purpose) : HostReq := { tag := 0, slice := 3, ctx := c, addr := 0x10000, len := n, purpose := p, phase := .waiting, fails := 0 }
def q1 : HostReq := rq 5 2 8 (.hld 2 3)
def s2 : State := cl 2 (hpS 0 3 hostUp)
def s3 : State := checkOff 40 (hpS 0 3 hostUp)
def s14 : State := { checkOff 40 hostUp with funcs := [(0, { Func.init with mse := true, bme := true, msixEn := true, numVfs := 3, vfEnable := true })], vecs := [(2, ⟨0,0,false,true⟩)], reqs := [q1] }

/-- States and operands that meet the hypotheses of `FunctionsAndErrors`, one line for each clause. -/
theorem witness_FunctionsAndErrors :
    (0 < 4 ∧ 1 < 64 ∧ s14.up ∧ s14.present 0 ∧ s14.fnExists 0 1 ∧ 1 ≠ 0 ∧
      (∀ i < 256, s14.resetCovers 0 (fun f => decide (1 = 0) || decide (f = 1)) i = false)) ∧
    (0 < 4 ∧ 0 < 64 ∧ s2.up ∧ s2.present 0 ∧ s2.dlUp 0 ∧ s2.fnExists 0 0) ∧
    (0 < 4 ∧ 0 < 64 ∧ s2.up ∧ s2.present 0 ∧ s2.dlUp 0 ∧ (s2.func (fKey 0 0)).vfEnable = false) ∧
    (0 < 4 ∧ 1 < 64 ∧ s3.up ∧ s3.present 0 ∧ s3.dlUp 0 ∧ s3.fnExists 0 1 = false ∧
      s3.flag (Reg.fltCfg (40 + 0)) FLT_CFG.EN = false) ∧
    (0 < 4 ∧ 0 < 64 ∧ s3.up ∧ s3.present 0 ∧ s3.fnExists 0 0 ∧ s3.flag (Reg.fltCfg (40 + 0)) FLT_CFG.EN = false ∧
      ((.pasid : UrCause) ≠ UrCause.mseOff ∨ s3.barOn 0 0 = false)) ∧
    (0 < 4 ∧ 0 < 64 ∧ s3.up ∧ s3.present 0 ∧ s3.reaches (Requester.func 0 0) (.mgr 0x100 : Loc) ∧
      s3.flag (Reg.fltCfg (40 + 0)) FLT_CFG.EN = false) ∧
    (0 < 4 ∧ 0 < 64 ∧ State.reset.up ∧ State.reset.present 0 ∧ State.reset.flag (Reg.fltCfg (40 + 0)) FLT_CFG.EN ∧
      State.reset.getF (Reg.fltSts (40 + 0)) FLT_STS.STATE = 0 ∧ 2 ≤ State.reset.getF (Reg.fltCfg (40 + 0)) FLT_CFG.N) := by decide +kernel

end Sys2Proof.Tests.WFunctions

namespace Sys2Proof.Tests.WTranslation
open Sys2Proof.Machine
set_option Elab.async false

def hpS (p ltssm : Nat) (s : State) : State := let s := setF (.glbHpSts p) GLB_HP_STS.LTSSM ltssm (setF (.glbHpCtl p) GLB_HP_CTL.LTE 1 s); setF (.glbHpSts p) GLB_HP_STS.DL_UP (if ltssm = 3 then 1 else 0) s
def rq (c _d n : Nat) (p : Purpose) : HostReq := { tag := 0, slice := 3, ctx := c, addr := 0x10000, len := n, purpose := p, phase := .waiting, fails := 0 }
def q1 : HostReq := rq 5 2 8 (.hld 2 3)
def s11 : State := { hpS 0 3 State.reset with invals := [(0, 1, [])], atc := [⟨0,1,none,5,true,9⟩, ⟨1,1,none,5,true,9⟩] }
def s12 : State := { hpS 0 3 State.reset with invals := [(0, 1, [8])] }
def s14 : State := { checkOff 40 (winS 3 hostUp) with funcs := [(0, { Func.init with mse := true, bme := true, msixEn := true, numVfs := 3, vfEnable := true })], vecs := [(2, ⟨0,0,false,true⟩)], reqs := [q1] }

/-- States and operands that meet the hypotheses of `TranslationAndVectors`, one line for each clause. -/
theorem witness_TranslationAndVectors :
    (State.reset.up ∧ State.reset.fnExists 0 0) ∧
    (s11.up ∧ s11.invals = (0, 1, []) :: ([] : List (Nat × Nat × List Nat))) ∧
    (s12.up ∧ s12.invals = (0, 1, 8 :: ([] : List Nat)) :: ([] : List (Nat × Nat × List Nat))) ∧
    (s14.up ∧ (s14.func (fKey 0 0)).msixEn ∧ (s14.vec (vKey 0 0 2)).pba ∧ s14.vecHeld 0 0 2 = false) ∧
    (s14.up ∧ s14.reqs = [q1] ∧ s14.writes = [] ∧ s14.canIssue q1 ∧ s14.slFn q1.slice = fKey 0 0 ∧
      s14.inSram q1.slice = false ∧ (s14.func (fKey 0 0)).bme ∧ (s14.func (fKey 0 0)).d3hot = false ∧ s14.ctxs = []) ∧
    (State.reset.up ∧ State.reset.atsOn q1.slice = false ∧ (∀ (w : Bool), q1.purpose ≠ Purpose.translate w)) := by and_intros <;> decide +kernel

end Sys2Proof.Tests.WTranslation

namespace Sys2Proof.Tests.WClaim
open Sys2Proof.Machine
set_option Elab.async false

def cl (k : Nat) (s : State) : State := setF .glbMgrSts GLB_MGR_STS.STATE k s
def s2 : State := cl 3 hostUp
def s4 : State := setF .glbMgrSts GLB_MGR_STS.HREQ 1 (cl 2 hostUp)
def s7 : State := { cl 0 hostUp with claimTimer := some 0, aon := { State.reset.aon with clockCount := 10000000 } }

/-- States and operands that meet the hypotheses of `ManagerClaim`, one line for each clause. -/
theorem witness_ManagerClaim :
    (s2.accepts (.func 0 0) Reg.glbMgrClaim ∧ s2.isMgrFunc (.func 0 0) ∧ 0 < 9 ∧ 9 < 65536 ∧
      (s2.claim = claimWaiting ∨ s2.claim = claimAbandoned)) ∧
    (s4.accepts (.func 0 0) Reg.glbMgrClaim ∧ s4.isMgrFunc (.func 0 0) ∧ 0 < 9 ∧ 9 < 65536 ∧ s4.claim = claimLocal) ∧
    (State.reset.accepts (.dma 0) Reg.glbMgrClaim ∧ isPair (.dma 0) = false ∧
      (State.reset.isMgrFunc (.dma 0) = false ∨ 0 = 0 ∨ State.reset.claim = claimHost)) ∧
    (hostUp.accepts (.func 0 0) Reg.glbMgrClaim ∧ hostUp.isMgrFunc (.func 0 0) ∧ hostUp.claim = claimHost) ∧
    (State.reset.accepts .mb Reg.glbMgrClaim ∧ isPair .mb ∧ State.reset.isActive .mb = false) ∧
    (s4.accepts .ma Reg.glbMgrClaim ∧ isPair .ma ∧ s4.isActive .ma ∧ s4.claim = claimLocal ∧
      s4.flag Reg.glbMgrSts GLB_MGR_STS.HREQ) ∧
    (State.reset.accepts .ma Reg.glbMgrClaim ∧ isPair .ma ∧ State.reset.isActive .ma ∧
      State.reset.flag Reg.glbMgrSts GLB_MGR_STS.HREQ = false) ∧
    (s7.accepts .ma Reg.glbMgrClaim ∧ (s7.claim = claimWaiting ∨ s7.claim = claimAbandoned) ∧ s7.claimTimer = some 0 ∧
      0 + s7.getF Reg.glbMgrTmo GLB_MGR_TMO.TIMEOUT * 250000 ≤ s7.now) ∧
    (State.reset.accepts .ma Reg.glbMgrClaim ∧ State.reset.accepts .ma Reg.glbMgrTmo) := by decide +kernel

end Sys2Proof.Tests.WClaim

namespace Sys2Proof.Tests.WBinding
open Sys2Proof.Machine
set_option Elab.async false

def bnd (i : Nat) (s : State) : State := setF (.slcCsr i) SLC_CSR.ACTIVE 1 (setF (.slcBind i) SLC_BIND.VALID 1 s)
def s2 : State := bnd 3 State.reset
def s3 : State := { State.reset with aon := { State.reset.aon with straps := ⟨0,1,0⟩ } }

/-- States and operands that meet the hypotheses of `BindingAndQuotas`, one line for each clause. -/
theorem witness_BindingAndQuotas :
    (0 < 3 ∧ 3 < 256 ∧ State.reset.accepts .ma (Reg.slcBind 3) ∧ State.reset.bound 3 = false ∧
      SLC_BIND.VALID.get (BitVec.setWidth 64 (0x81000000#32 : Word32)) ≠ 0 ∧
      State.reset.bindRefused 3 (BitVec.setWidth 64 (0x81000000#32 : Word32)) = false) ∧
    (0 < 3 ∧ 3 < 256 ∧ s2.accepts .ma (Reg.slcBind 3) ∧ s2.bound 3) ∧
    (0 < 3 ∧ 3 < 256 ∧ s3.accepts .ma (Reg.slcBind 3) ∧ s3.bound 3 = false ∧
      SLC_BIND.VALID.get (BitVec.setWidth 64 (0xFFFFFFFF#32 : Word32)) ≠ 0 ∧
      s3.present (SLC_BIND.PORT.get (BitVec.setWidth 64 (0xFFFFFFFF#32 : Word32))) = false) ∧
    (0 < 3 ∧ 3 < 256 ∧ State.reset.accepts .ma (Reg.slcBind 3) ∧ State.reset.accepts .ma (Reg.slcQmem 3) ∧
      State.reset.sumOthers 3 Reg.slcQmem SLC_QMEM.CTX + SLC_QMEM.CTX.get (0 : Word64) ≤ 16384 ∧
      State.reset.sumOthers 3 Reg.slcQmem SLC_QMEM.LB + SLC_QMEM.LB.get (0 : Word64) ≤ 4096 - State.reset.getF Reg.portGpool PORT_GPOOL.SIZE) ∧
    (0 < 3 ∧ 3 < 256 ∧ State.reset.accepts .ma (Reg.slcBind 3) ∧ State.reset.accepts .ma (Reg.slcQmem 3) ∧
      16384 < State.reset.sumOthers 3 Reg.slcQmem SLC_QMEM.CTX + SLC_QMEM.CTX.get (0x40000800 : Word64)) := by decide +kernel

end Sys2Proof.Tests.WBinding

namespace Sys2Proof.Tests.WFence
open Sys2Proof.Machine
set_option Elab.async false

def cl (k : Nat) (s : State) : State := setF .glbMgrSts GLB_MGR_STS.STATE k s
def bnd (i : Nat) (s : State) : State := setF (.slcCsr i) SLC_CSR.ACTIVE 1 (setF (.slcBind i) SLC_BIND.VALID 1 s)
def rq (c : Nat) (p : Purpose) : HostReq := { tag := 0, slice := 3, ctx := c, addr := 0x10000, len := 8, purpose := p, phase := .waiting, fails := 0 }
def pw : PWrite := { tag := 2, slice := 3, ctx := 5, ring := 0, idx := 0, lap := 0, addr := 0x10000, bytes := [7], kind := .hst, cur := false, cl := 0, pkt := 0, issued := false, xlat := [] }
def s1 : State := bnd 3 State.reset
def s2 : State := setF (.slcCsr 3) SLC_CSR.FENCED 1 (setF (.slcCsr 3) SLC_CSR.FCAUSE 1 (bnd 3 State.reset))
def s3 : State := { putCtx 5 { ctx2 with act := .parked (.hld 3 0) } (bnd 3 (bus State.reset)) with reqs := [rq 5 (.hld 3 0)], writes := [pw] }
def s4 : State := setF (.slcCsr 3) SLC_CSR.RSTB 1 (bnd 3 State.reset)

/-- States and operands that meet the hypotheses of `SliceFenceAndReset`, one line for each clause. -/
theorem witness_SliceFenceAndReset :
    (0 < 3 ∧ 3 < 256 ∧ State.reset.accepts .ma (Reg.slcCsr 3) ∧
      ((State.reset.ctxsOf 3 fun x => x.act == Act.other) = [] ∧ State.reset.ctxsOf 3 Ctx.going = []) ∧
      State.reset.inReset 3 = false ∧ State.reset.fenced 3 = false ∧ State.reset.cycle.joins = []) ∧
    (0 < 3 ∧ 3 < 256 ∧ s2.accepts .ma (Reg.slcCsr 3) ∧
      ((s2.ctxsOf 3 fun x => x.act == Act.other) = [] ∧ s2.ctxsOf 3 Ctx.going = []) ∧ s2.inReset 3 = false ∧
      s2.fenced 3) ∧
    (0 < 3 ∧ 3 < 256 ∧ s3.accepts .ma (Reg.slcCsr 3) ∧ s3.inReset 3 = false ∧
      ((s3.ctxsOf 3 fun x => x.act == Act.other) = []) ∧ s3.ctxsOf 3 Ctx.going = [5] ∧
      (s3.ctx 5).act = Act.parked (Wait.hld 3 0) ∧ (s3.ctx 5).going) ∧
    (0 < 3 ∧ 3 < 256 ∧ s1.accepts .ma (Reg.slcCsr 3) ∧ s1.inReset 3 = false ∧ s1.accepts .ma (Reg.slCsr 3)) ∧
    (0 < 3 ∧ 3 < 256 ∧ s4.accepts .ma (Reg.slcCsr 3) ∧ s4.inReset 3 ∧ 3 ∉ s4.releasing ∧ s4.ctxsOf 3 Ctx.live = [] ∧
      (∀ (k : Nat) (m : Sem), (k, m) ∈ s4.sems → ∀ (c : Nat), m.owner = some c → (s4.ctx c).slice ≠ 3)) ∧
    (0 < 3 ∧ 3 < 256 ∧ State.reset.accepts .ma (Reg.slcCsr 3) ∧ State.reset.accepts .ma (Reg.slcCsr 0)) := by
  and_intros <;> first | decide +kernel | (intro k m h; cases h)

end Sys2Proof.Tests.WFence

namespace Sys2Proof.Tests.WAssign
open Sys2Proof.Machine
set_option Elab.async false

def bnd (i : Nat) (s : State) : State := setF (.slcCsr i) SLC_CSR.ACTIVE 1 (setF (.slcBind i) SLC_BIND.VALID 1 s)
def epa (sl h e mode sem : Nat) (s : State) : State := setF (.slcQep 3) SLC_QEP.HANDLES 20 (setF .slcEpaA SLC_EPA_A.HANDLE h (setF .slcEpaA SLC_EPA_A.EPCTX e (setF .slcEpaB SLC_EPA_B.SLICE sl (setF .slcEpaB SLC_EPA_B.MODE mode (setF .slcEpaB SLC_EPA_B.SEM sem s)))))
def pend (k : Nat) (c : AttCfg) (s : State) : State := { s with attP := [(k, c)] }
def b3 : State := bnd 3 { bus State.reset with att := [] }
def s1 : State := epa 3 22 22 0 0 b3
def s3 : State := pend (hKey 3 22) (attD 22 0).cfg (epa 3 22 22 0 0 b3)
def s4 : State := pend (hKey 3 22) { (attD 22 0).cfg with detached := true } (epa 3 22 22 0 0 b3)
def s6 : State := { State.reset with epaCmd := some (0, some (.unassign 7)) }

/-- States and operands that meet the hypotheses of `AssignmentCommands`, one line for each clause. -/
theorem witness_AssignmentCommands :
    (s1.accepts .ma Reg.slcEpaCs ∧ s1.flag Reg.slcEpaCs SLC_EPA_CS.BUSY = false ∧ defKey s1.epaKey = false ∧
      s1.bound (s1.epaKey / 65536) ∧ s1.epaCfg.mode ≠ 3 ∧ s1.assignCode s1.epaKey s1.epaCfg = 0) ∧
    (s3.accepts .ma Reg.slcEpaCs ∧ s3.flag Reg.slcEpaCs SLC_EPA_CS.BUSY = false ∧ defKey s3.epaKey = false ∧
      s3.bound (s3.epaKey / 65536) ∧ (s3.atp s3.epaKey).live) ∧
    (s4.accepts .ma Reg.slcEpaCs ∧ s4.flag Reg.slcEpaCs SLC_EPA_CS.BUSY = false ∧ defKey s4.epaKey = false ∧
      s4.bound (s4.epaKey / 65536) ∧ s4.retargetCode s4.epaKey s4.epaCfg.ep = 0) ∧
    (State.reset.accepts .ma Reg.slcEpaCs ∧ State.reset.flag Reg.slcEpaCs SLC_EPA_CS.BUSY = false ∧
      defKey State.reset.epaKey = false ∧ State.reset.bound (State.reset.epaKey / 65536) ∧
      (State.reset.atp State.reset.epaKey).live = false) ∧
    (State.reset.accepts .ma Reg.slcEpaCs ∧ State.reset.flag Reg.slcEpaCs SLC_EPA_CS.BUSY = false ∧ 6 ≤ 6 ∧ 6 < 16) ∧
    (s6.accepts .ma Reg.slcEpaCs ∧ s6.flag Reg.slcEpaCs SLC_EPA_CS.BUSY = false ∧ 0 < 256 ∧
      s6.epaCmd = some (0, (some (.unassign 7) : Option EpaOp))) := by decide +kernel

end Sys2Proof.Tests.WAssign

namespace Sys2Proof.Tests.WView
open Sys2Proof.Machine
set_option Elab.async false

def bnd (i : Nat) (s : State) : State := setF (.slcCsr i) SLC_CSR.ACTIVE 1 (setF (.slcBind i) SLC_BIND.VALID 1 s)
def b4 : State := bnd 3 (bus State.reset)

/-- States and operands that meet the hypotheses of `HandleView`, one line for each clause. -/
theorem witness_HandleView :
    (3 < 256 ∧ 22 < 65536 ∧ b4.accepts .ma (Reg.epvCsr 3) ∧ (b4.atE (hKey 3 22)).cfg.live ∧ b4.fenced 3 = false ∧
      b4.inReset 3 = false) ∧
    (0 < 256 ∧ 0 < 65536 ∧ State.reset.accepts .ma (Reg.epvCsr 0) ∧ (State.reset.atE (hKey 0 0)).cfg.live = false) := by decide +kernel

end Sys2Proof.Tests.WView

namespace Sys2Proof.Tests.WMail
open Sys2Proof.Machine
set_option Elab.async false

def bnd (i : Nat) (s : State) : State := setF (.slcCsr i) SLC_CSR.ACTIVE 1 (setF (.slcBind i) SLC_BIND.VALID 1 s)
def b3 : State := bnd 3 { bus State.reset with att := [] }
def s2 : State := setF (.mbxCsr 3) MBX_CSR.OUT_BUSY 1 b3
def s3 : State := setF (.mbxCsr 3) MBX_CSR.IN_FULL 1 b3

/-- States and operands that meet the hypotheses of `Mailboxes`, one line for each clause. -/
theorem witness_Mailboxes :
    (0 < 3 ∧ 3 < 256 ∧ b3.accepts .ma (Reg.mbxCsr 3) ∧ b3.flag (Reg.mbxCsr 3) MBX_CSR.OUT_BUSY = false) ∧
    (0 < 3 ∧ 3 < 256 ∧ s2.accepts .ma (Reg.mbxCsr 3) ∧ s2.flag (Reg.mbxCsr 3) MBX_CSR.OUT_BUSY) ∧
    (0 < 3 ∧ 3 < 256 ∧ s3.accepts .ma (Reg.mbxCsr 3) ∧ s3.flag (Reg.mbxCsr 3) MBX_CSR.IN_FULL) ∧
    (0 < 3 ∧ 3 < 256 ∧ State.reset.accepts .ma (Reg.mbxSCsr 3) ∧
      State.reset.flag (Reg.mbxCsr 3) MBX_CSR.IN_FULL = false) ∧
    (0 < 3 ∧ 3 < 256 ∧ s3.accepts .ma (Reg.mbxSCsr 3) ∧ s3.flag (Reg.mbxCsr 3) MBX_CSR.IN_FULL) ∧
    (0 < 3 ∧ 3 < 256 ∧ s2.accepts .ma (Reg.mbxSCsr 3) ∧ s2.flag (Reg.mbxCsr 3) MBX_CSR.OUT_BUSY) ∧
    (0 < 3 ∧ 3 < 256 ∧ State.reset.accepts .ma (Reg.mbxSCsr 3) ∧
      State.reset.flag (Reg.mbxCsr 3) MBX_CSR.OUT_BUSY = false) := by decide +kernel

end Sys2Proof.Tests.WMail

namespace Sys2Proof.Tests.WRing
open Sys2Proof.Machine
set_option Elab.async false

def bnd (i : Nat) (s : State) : State := setF (.slcCsr i) SLC_CSR.ACTIVE 1 (setF (.slcBind i) SLC_BIND.VALID 1 s)
def rg0 : State := ((((setF (.ringCtl 3 1) RING_CTL.SIZE 4 (bnd 3 (bus State.reset))).wr (.ringBase 3 1) 0x10000).wr (.ringDha 3 1) 0x18000).wrE (.slcQmem 3) 0x100000).wrE (.slcQeng 3) 0x2000 |>.wrE (.slcHost 3) 0xFFFFFFFF
def rg : State := setF (.ringSts 3 1) RING_STS.IDLE 0 (setF (.ringCtl 3 1) RING_CTL.EN 1 rg0)
def hd (op h prog : Nat) : Word64 := BitVec.ofNat 64 (h * 2^32 + 0x123 * 2^20 + 2^19 + prog * 256 + op * 2 + 1)
def en (op h prog : Nat) : Entry := ⟨hd op h prog, 0, 0, 0, 0, 0, 0, 8⟩
def fq : HostReq := { tag := 0, slice := 3, ctx := 16384, addr := 0x10000, len := 512, purpose := .ringFetch 1, phase := .issued, fails := 0 }
def scn (s : State) : State := { s with reqs := [fq], rings := [(3*64+1, { Ring.init with scanning := true })] }
def entry3 : Entry := { en 5 23 0 with a0 := 64, a1 := 1 }
def entry4 : Entry := { en 5 77 0 with a0 := 64, a1 := 1 }
def entry6 : Entry := { en 1 22 128 with a0 := 9, a5 := 7 }
def s1 : State := scn rg

theorem s1_pages (k n : Nat) (h : k + n ≤ s1.ringN 3 1) :
    s1.hostOk 3 ((s1.rd (.ringBase 3 1)).toNat + 64 * k) (64 * n) := by
  have e : s1.ringN 3 1 = 16 := by decide +kernel
  have a : ∀ k < 17, ∀ n < 17, s1.hostOk 3 ((s1.rd (.ringBase 3 1)).toNat + 64 * k) (64 * n) := by decide +kernel
  exact a k (by omega) n (by omega)

/-- States and operands that meet the hypotheses of `RingEntries`, one line for each clause. -/
theorem witness_RingEntries :
    (s1.takesEntry 3 1 (en 2 0 0 : Entry) fq 8 ∧ (en 2 0 0 : Entry).opcode = 2) ∧
    (s1.takesEntry 3 1 (en 3 0 0 : Entry) fq 8 ∧ (en 3 0 0 : Entry).opcode = 3) ∧
    (s1.takesEntry 3 1 (en 4 0 0 : Entry) fq 8 ∧ (en 4 0 0 : Entry).opcode = 4) ∧
    (s1.takesEntry 3 1 entry3 fq 8 ∧ entry3.opcode = 5 ∧ s1.reserveOk 3 entry3.handle ∧
      (s1.attCfg 3 entry3.handle).live ∧ (s1.attCfg 3 entry3.handle).detached = false) ∧
    (s1.takesEntry 3 1 entry4 fq 8 ∧ entry4.opcode = 5 ∧ (s1.attCfg 3 entry4.handle).live = false) ∧
    (s1.takesEntry 3 1 (en 6 23 0 : Entry) fq 8 ∧ (en 6 23 0 : Entry).opcode = 6 ∧
      (s1.attCfg 3 (en 6 23 0 : Entry).handle).live ∧ (s1.attCfg 3 (en 6 23 0 : Entry).handle).detached = false) ∧
    (s1.takesEntry 3 1 entry6 fq 8 ∧ entry6.opcode = 1 ∧ (s1.attCfg 3 entry6.handle).live ∧
      (s1.attCfg 3 entry6.handle).detached = false ∧ s1.romStart 3 entry6.handle entry6.prog entry6.args = none ∧
      s1.token (hKey 3 entry6.handle) = Token.free) ∧
    (s1.takesEntry 3 1 (en 1 77 128 : Entry) fq 8 ∧ (en 1 77 128 : Entry).opcode = 1 ∧
      (s1.attCfg 3 (en 1 77 128 : Entry).handle).live = false) ∧
    (s1.takesEntry 3 1 (en 1 22 131 : Entry) fq 8 ∧ (en 1 22 131 : Entry).opcode = 1 ∧
      (s1.attCfg 3 (en 1 22 131 : Entry).handle).live ∧ (s1.attCfg 3 (en 1 22 131 : Entry).handle).detached = false ∧
      s1.romStart 3 (en 1 22 131 : Entry).handle (en 1 22 131 : Entry).prog (en 1 22 131 : Entry).args = some 128) ∧
    (s1.up ∧ 0 < 3 ∧ 3 < 256 ∧ 1 < 64 ∧ s1.fetchOf 3 1 = some fq ∧ s1.reqs = [fq] ∧ 64 ≤ fq.len ∧
      (s1.ring (rKey 3 1)).scanning ∧ (s1.ring (rKey 3 1)).taken = [] ∧ s1.scanOk 3 1 ∧ s1.scanRoom 3 1 ∧
      (en 1 22 100 : Entry).phase = ((s1.ring (rKey 3 1)).lap + 1) % 2 ∧ s1.validate 3 (en 1 22 100 : Entry) ≠ 0 ∧
      ((s1.ctxsOf 3 fun x => x.act == Act.other) = []) ∧ s1.ctxsOf 3 Ctx.going = []) := by
  and_intros <;> first | exact s1_pages | decide +kernel

end Sys2Proof.Tests.WRing

namespace Sys2Proof.Tests.WScan
open Sys2Proof.Machine
set_option Elab.async false

def bnd (i : Nat) (s : State) : State := setF (.slcCsr i) SLC_CSR.ACTIVE 1 (setF (.slcBind i) SLC_BIND.VALID 1 s)
def rg0 : State := ((((setF (.ringCtl 3 1) RING_CTL.SIZE 4 (bnd 3 (bus State.reset))).wr (.ringBase 3 1) 0x10000).wr (.ringDha 3 1) 0x18000).wrE (.slcQmem 3) 0x100000).wrE (.slcQeng 3) 0x2000 |>.wrE (.slcHost 3) 0xFFFFFFFF
def rg : State := setF (.ringSts 3 1) RING_STS.IDLE 0 (setF (.ringCtl 3 1) RING_CTL.EN 1 rg0)
def fq : HostReq := { tag := 0, slice := 3, ctx := 16384, addr := 0x10000, len := 512, purpose := .ringFetch 1, phase := .issued, fails := 0 }
def scn (s : State) : State := { s with reqs := [fq], rings := [(3*64+1, { Ring.init with scanning := true })] }
def s2 : State := scn rg
def s3 : State := { rg with rings := [(3*64+1, { Ring.init with blocked := true })] }
def s6 : State := { rg with rings := [(3*64+1, { Ring.init with timer := true, pend := 3 })] }

/-- States and operands that meet the hypotheses of `DoorbellsAndScans`, one line for each clause. -/
theorem witness_DoorbellsAndScans :
    (3 < 256 ∧ 1 < 64 ∧ rg.opens .ma (Loc.page 3 (dbOff 1)) ∧ rg.scanOk 3 1 ∧ rg.scanRoom 3 1 ∧
      (rg.ring (rKey 3 1)).scanning = false ∧
      rg.hostOk 3 (BitVec.toNat (rg.rd (Reg.ringBase 3 1)) + 64 * rg.getF (Reg.ringSts 3 1) RING_STS.SCAN) (64 * min (min 8 (rg.ringN 3 1 - rg.getF (Reg.ringSts 3 1) RING_STS.SCAN)) (max 1 (rg.readMax 3 (BitVec.toNat (rg.rd (Reg.ringBase 3 1)) + 64 * rg.getF (Reg.ringSts 3 1) RING_STS.SCAN) / 64))) ∧
      rg.atsOn 3 = false ∧ rg.reqs = [] ∧ rg.writes = []) ∧
    (3 < 256 ∧ 1 < 64 ∧ s2.opens .ma (Loc.page 3 (dbOff 1)) ∧ s2.scanOk 3 1 ∧ (s2.ring (rKey 3 1)).scanning) ∧
    (3 < 256 ∧ 3 < 64 ∧ rg.opens .ma (Loc.page 3 (dbOff 3)) ∧
      (rg.flag (Reg.ringCtl 3 3) RING_CTL.EN = false ∨ rg.fenced 3 = true)) ∧
    (3 < 256 ∧ 1 < 64 ∧ s3.up ∧ (s3.ring (rKey 3 1)).blocked ∧ (s3.ring (rKey 3 1)).scanning = false ∧ s3.scanOk 3 1 ∧
      s3.scanRoom 3 1 ∧
      s3.hostOk 3 (BitVec.toNat (s3.rd (Reg.ringBase 3 1)) + 64 * s3.getF (Reg.ringSts 3 1) RING_STS.SCAN) (64 * min (min 8 (s3.ringN 3 1 - s3.getF (Reg.ringSts 3 1) RING_STS.SCAN)) (max 1 (s3.readMax 3 (BitVec.toNat (s3.rd (Reg.ringBase 3 1)) + 64 * s3.getF (Reg.ringSts 3 1) RING_STS.SCAN) / 64))) ∧
      s3.atsOn 3 = false ∧ s3.reqs = [] ∧ s3.writes = []) := by decide +kernel

/-- States and operands that meet the hypotheses of `RingControl`, one line for each clause. -/
theorem witness_RingControl :
    (3 < 256 ∧ 1 < 64 ∧ rg0.accepts .ma (Reg.ringCtl 3 1) ∧ rg0.ringOpen 3 1 ∧
      RING_CTL.IE.get (BitVec.setWidth 64 (0x80000004#32 : Word32)) = rg0.getF (Reg.ringCtl 3 1) RING_CTL.IE ∧
      RING_CTL.SIZE.get (BitVec.setWidth 64 (0x80000004#32 : Word32)) = rg0.getF (Reg.ringCtl 3 1) RING_CTL.SIZE ∧
      RING_CTL.VEC.get (BitVec.setWidth 64 (0x80000004#32 : Word32)) = rg0.getF (Reg.ringCtl 3 1) RING_CTL.VEC ∧
      rg0.enRefused 3 1 = false) ∧
    (3 < 256 ∧ 3 < 64 ∧ rg.accepts .ma (Reg.ringCtl 3 3) ∧ rg.ringOpen 3 3 ∧
      RING_CTL.SIZE.get (BitVec.setWidth 64 (0 : Word32)) < 4) ∧
    (3 < 256 ∧ 1 < 64 ∧ rg.accepts .ma (Reg.ringCtl 3 1) ∧ rg.flag (Reg.ringCtl 3 1) RING_CTL.EN) ∧
    (3 < 256 ∧ 1 < 64 ∧ s6.accepts .ma (Reg.ringCtl 3 1) ∧ (s6.ring (rKey 3 1)).timer ∧ ¬(3 = 0 ∧ s6.isLocal = true)) := by decide +kernel

end Sys2Proof.Tests.WScan

namespace Sys2Proof.Tests.WPublish
open Sys2Proof.Machine
set_option Elab.async false

def bnd (i : Nat) (s : State) : State := setF (.slcCsr i) SLC_CSR.ACTIVE 1 (setF (.slcBind i) SLC_BIND.VALID 1 s)
def rg0 : State := ((((setF (.ringCtl 3 1) RING_CTL.SIZE 4 (bnd 3 (bus State.reset))).wr (.ringBase 3 1) 0x10000).wr (.ringDha 3 1) 0x18000).wrE (.slcQmem 3) 0x100000).wrE (.slcQeng 3) 0x2000 |>.wrE (.slcHost 3) 0xFFFFFFFF
def rg : State := setF (.ringSts 3 1) RING_STS.IDLE 0 (setF (.ringCtl 3 1) RING_CTL.EN 1 rg0)
def tk (idx lap : Nat) : Taken := { idx := idx, lap := lap, op := 1, tag := 7, ioc := true, ctx := some 5, victims := [], count := 0, started := true, result := none, mal := false }
def res : Result := ⟨5, 3, 99, 1234⟩
def pub (x : Taken) : State := { rg with rings := [(3*64+1, { Ring.init with taken := [x] })] }
def s1 : State := pub (tk 0 0)
def s2 : State := pub { tk 0 0 with result := some res }
def s7 : State := { pub { tk 0 0 with result := some res } with writes := [⟨0,3,5,1,0,0,0x10000,[5],.data 1,false,0,0,false,[]⟩] }

/-- States and operands that meet the hypotheses of `Publication`, one line for each clause. -/
theorem witness_Publication :
    (3 < 256 ∧ 1 < 64 ∧ s2.up ∧ s2.inSram 3 = false ∧ s2.mayIssue 3 ∧ s2.frozen 3 = false ∧ s2.inReset 3 = false ∧
      s2.flag Reg.fltHold FLT_HOLD.HALT = false ∧ s2.atsOn 3 = false ∧ 8 ≤ (s2.func (s2.slFn 3)).mps ∧
      (s2.ring (rKey 3 1)).stopped = false ∧ s2.flag (Reg.ringTsa 3 1) RING_TSA.TSE = false ∧
      s2.hostOk 3 (s2.stAddr 3 1 ({ tk 0 0 with result := some res } : Taken).idx) 8 ∧ s2.hostOk 3 (s2.dhAddr 3 1) 8 ∧
      s2.stAddr 3 1 ({ tk 0 0 with result := some res } : Taken).idx % 8 = 0 ∧ s2.dhAddr 3 1 % 8 = 0 ∧ s2.wroteNow (.ringCtl 3 1) = false ∧
      (s2.ring (rKey 3 1)).taken = [({ tk 0 0 with result := some res } : Taken)] ∧
      ({ tk 0 0 with result := some res } : Taken).result = some res ∧
      s2.itemWrites 3 1 ({ tk 0 0 with result := some res } : Taken).idx ({ tk 0 0 with result := some res } : Taken).lap = false ∧
      s2.fnClear 3 ∧
      s2.flag (Reg.ringCtl 3 1) RING_CTL.IE = false) ∧
    (3 < 256 ∧ 1 < 64 ∧ s1.up ∧ s1.inSram 3 = false ∧ s1.mayIssue 3 ∧ s1.frozen 3 = false ∧ s1.inReset 3 = false ∧
      s1.flag Reg.fltHold FLT_HOLD.HALT = false ∧ s1.atsOn 3 = false ∧ 8 ≤ (s1.func (s1.slFn 3)).mps ∧
      (s1.ring (rKey 3 1)).stopped = false ∧ s1.flag (Reg.ringTsa 3 1) RING_TSA.TSE = false ∧
      s1.hostOk 3 (s1.stAddr 3 1 (tk 0 0 : Taken).idx) 8 ∧ s1.hostOk 3 (s1.dhAddr 3 1) 8 ∧
      s1.stAddr 3 1 (tk 0 0 : Taken).idx % 8 = 0 ∧ s1.dhAddr 3 1 % 8 = 0 ∧ s1.wroteNow (.ringCtl 3 1) = false ∧
      (s1.ring (rKey 3 1)).taken = [(tk 0 0 : Taken)] ∧ (tk 0 0 : Taken).result = none) ∧
    (3 < 256 ∧ 1 < 64 ∧ s7.up ∧ s7.inSram 3 = false ∧ s7.mayIssue 3 ∧ s7.frozen 3 = false ∧ s7.inReset 3 = false ∧
      s7.flag Reg.fltHold FLT_HOLD.HALT = false ∧ s7.atsOn 3 = false ∧ 8 ≤ (s7.func (s7.slFn 3)).mps ∧
      (s7.ring (rKey 3 1)).stopped = false ∧ s7.flag (Reg.ringTsa 3 1) RING_TSA.TSE = false ∧
      s7.hostOk 3 (s7.stAddr 3 1 ({ tk 0 0 with result := some res } : Taken).idx) 8 ∧ s7.hostOk 3 (s7.dhAddr 3 1) 8 ∧
      s7.stAddr 3 1 ({ tk 0 0 with result := some res } : Taken).idx % 8 = 0 ∧ s7.dhAddr 3 1 % 8 = 0 ∧ s7.wroteNow (.ringCtl 3 1) = false ∧
      (s7.ring (rKey 3 1)).taken = [({ tk 0 0 with result := some res } : Taken)] ∧
      ({ tk 0 0 with result := some res } : Taken).result = some res ∧
      (s7.itemWrites 3 1 ({ tk 0 0 with result := some res } : Taken).idx ({ tk 0 0 with result := some res } : Taken).lap = true ∨
        s7.fnClear 3 = false)) := by decide +kernel

end Sys2Proof.Tests.WPublish

namespace Sys2Proof.Tests.WPrograms
open Sys2Proof.Machine
set_option Elab.async false

def bnd (i : Nat) (s : State) : State := setF (.slcCsr i) SLC_CSR.ACTIVE 1 (setF (.slcBind i) SLC_BIND.VALID 1 s)
def ld (cmd : Nat) (s : State) : State := { setF .dspLdSts DSP_LD_STS.BUSY 1 s with ldCmd := some (cmd, 3, 1) }
def w0 : State := ((bnd 3 (winS 0 (bus State.reset))).wr .dspLdSrc 0x10000).wrE (.slcQeng 3) 0x10
def im : List Word32 := [magic, 1, 50, 2, 0, wordC 0x31 0]
def list3 : List Word32 := [magic, 1, 50, 2, wordR 1 1 1 1, wordC 0x31 0]
def s2 : State := ld 1 w0
def s3 : State := ld 2 (w0.setProg (3*64+1) ⟨true, false, 9, [magic, 1, 9, 1], [0], [0]⟩)

/-- States and operands that meet the hypotheses of `ProgramLoading`, one line for each clause. -/
theorem witness_ProgramLoading :
    (1 < 256 ∧ 1 < 64 ∧ State.reset.accepts .ma Reg.dspLdCtl ∧ State.reset.ldBusy = false ∧ 3 ≤ 3 ∧ 3 < 16) ∧
    (1 < 256 ∧ 1 < 64 ∧ s2.accepts .ma Reg.dspLdCtl ∧ s2.ldBusy) ∧
    (3 < 256 ∧ 1 < 64 ∧ s2.up ∧ s2.inSram 0 = false ∧ s2.ldCmd = some (1, 3, 1) ∧ s2.reqs = [] ∧
      s2.loadResult 3 1 (some list3) = (0, 0)) ∧
    (3 < 256 ∧ 1 < 64 ∧ s2.up ∧ s2.inSram 0 = false ∧ s2.ldCmd = some (1, 3, 1) ∧ s2.reqs = [] ∧
      s2.loadResult 3 1 (some im) = (8, 0) ∧ 6 ≤ 8 ∧ 8 < 16 ∧ 0 < 2 ^ 14) ∧
    (3 < 256 ∧ 1 < 64 ∧ s3.up ∧ s3.ldCmd = some (2, 3, 1) ∧ s3.bound 3 ∧ (s3.prog (3 * 64 + 1)).live ∧
      (s3.prog (3 * 64 + 1)).unloading = false ∧ s3.ctxs = []) := by decide +kernel

end Sys2Proof.Tests.WPrograms

namespace Sys2Proof.Tests.WBoardOps
open Sys2Proof.Machine
set_option Elab.async false

def bnd (i : Nat) (s : State) : State := setF (.slcCsr i) SLC_CSR.ACTIVE 1 (setF (.slcBind i) SLC_BIND.VALID 1 s)
def tk (idx lap : Nat) : Taken := { idx := idx, lap := lap, op := 5, tag := 7, ioc := true, ctx := some 5, victims := [], count := 0, started := true, result := none, mal := false }
def rv (b iv : Nat) : State := { putCtx 5 { ctx2 with act := .other, prog := 64, ep := 23, ring := 1, g := [(1, BitVec.ofNat 64 b), (2, BitVec.ofNat 64 iv)] } ((bnd 3 (bus State.reset)).wrE (.slcQper 3) 0xFFFFFFFF) with deciding := [5], rings := [(3*64+1, { Ring.init with taken := [tk 0 0] })] }
def s1 : State := rv 64 8
def s2 : State := rv 100000 1
def s4 : State := { bus State.reset with planners := [(0, { Planner.init with going := true })] }
def s5 : State := { setF .plnSts (PLN_STS.ROLE 0) 2 State.reset with planners := [(0, { Planner.init with going := true, built := true })] }

/-- States and operands that meet the hypotheses of `BoardCommands`, one line for each clause. -/
theorem witness_BoardCommands :
    (s1.up ∧ s1.pairOn 0 ∧ s1.deciding = [5] ∧ s1.pairOf 5 = 0 ∧
      (s1.ring (rKey (s1.ctx 5).slice (s1.ctx 5).ring)).taken = [(tk 0 0 : Taken)] ∧ (tk 0 0 : Taken).ctx = some 5 ∧
      (tk 0 0 : Taken).result = none ∧ (s1.ctx 5).prog = 64 ∧
      s1.admitAt (hKey (s1.ctx 5).slice (s1.ctx 5).ep) { live := true, ep := (s1.attCfg (s1.ctx 5).slice (s1.ctx 5).ep).ep, bytes := BitVec.toNat ((s1.ctx 5).reg 1), interval := BitVec.toNat ((s1.ctx 5).reg 2), phase := 0, gen := if (s1.rsvP (hKey (s1.ctx 5).slice (s1.ctx 5).ep)).live = true then ((s1.rsvP (hKey (s1.ctx 5).slice (s1.ctx 5).ep)).gen + 1) % 256 else 0 } = some 0) ∧
    (s2.up ∧ s2.pairOn 0 ∧ s2.deciding = [5] ∧ s2.pairOf 5 = 0 ∧
      (s2.ring (rKey (s2.ctx 5).slice (s2.ctx 5).ring)).taken = [(tk 0 0 : Taken)] ∧ (tk 0 0 : Taken).ctx = some 5 ∧
      (tk 0 0 : Taken).result = none ∧ (s2.ctx 5).prog = 64 ∧
      s2.admitAt (hKey (s2.ctx 5).slice (s2.ctx 5).ep) { live := true, ep := (s2.attCfg (s2.ctx 5).slice (s2.ctx 5).ep).ep, bytes := BitVec.toNat ((s2.ctx 5).reg 1), interval := BitVec.toNat ((s2.ctx 5).reg 2), phase := 0, gen := if (s2.rsvP (hKey (s2.ctx 5).slice (s2.ctx 5).ep)).live = true then ((s2.rsvP (hKey (s2.ctx 5).slice (s2.ctx 5).ep)).gen + 1) % 256 else 0 } = none) ∧
    (0 < 8 ∧ 5 * (0 / 2) ≤ 0 ∧ 0 < 5 * (0 / 2) + 5 ∧ s4.up ∧ (s4.plan (0 / 2)).going ∧ s4.pairOn (0 / 2) ∧
      s4.builder 0 ∧ (s4.plan (0 / 2)).built = false) ∧
    (1 < 8 ∧ s4.up ∧ (s4.plan (1 / 2)).going ∧ s4.pairOn (1 / 2) ∧ s4.builder 1 = false ∧ s4.checker 1 ∧
      (s4.plan (1 / 2)).joined ∧ (s4.plan (1 / 2)).checked = false ∧ (s4.plan (1 / 2)).swap = false) ∧
    (0 < 4 ∧ s5.accepts .ma Reg.plnCtl ∧ 2 ≤ s5.role 0) ∧
    (0 < 4 ∧ State.reset.accepts .ma Reg.plnCtl ∧ State.reset.role 0 < 2) := by decide +kernel

end Sys2Proof.Tests.WBoardOps

namespace Sys2Proof.Tests.WKeyOps
open Sys2Proof.Machine
set_option Elab.async false

def ky : List Word32 := [1,2,3,4,5,6,7,8]
def slot (use : Nat) (s : State) : State := { setF (.sealSlot 3) SEAL_SLOT.USE use (setF (.sealSlot 3) SEAL_SLOT.VALID 1 s) with keys := [(3, ky)], seqs := [(3, 9)] }
def stg8 (s : State) : State := { s with stage := (List.range 8).map (fun k => (k, some (BitVec.ofNat 32 (k+1)))) }
def byt (a : Nat) (l : List Nat) : FMap Byte := (l.zipIdx.filter (fun p => p.1 != 0)).map (fun p => (a + p.2, BitVec.ofNat 8 p.1))
def blk : FMap Byte := byt 0 ([3,0,0,0, 32,0,0,0, 0,0,1,0,0,0,0,0, 0,0x10,1,0,0,0,0,0] ++ List.replicate 12 7 ++ [0,0,0,0] ++ List.replicate 16 9 ++ [0,0,1,0,0,0,0,0])
def sx : State := engine0 { ctx2 with pad := blk, cur := none } (slot 7 (bus State.reset))
def par (s : State) : State := putCtx 5 { ctx2 with pad := blk, act := .parked .sealOp } (slot 7 (bus State.reset))
def blkL : List Byte := (List.range 64).map (fun k => FMap.find 0 k blk)
def so (opening : Bool) (st : Bool) : SealOp := ⟨.instr 5 opening 32 0x11000 0, 3, st, 0, if st then ky else [], if st then 9 else 0, blkL, if st then List.replicate 32 5 else [], [], st⟩
def rd (opening : Bool) : SealOp := { so opening true with src := [], out := false }
def srq : HostReq := { tag := 0, slice := 3, ctx := 5, addr := 0x10000, len := 32, purpose := .sealSource, phase := .issued, fails := 0 }
def s3 : State := stg8 State.reset
def s9 : State := { setF .sealKeySts SEAL_KEY_STS.BUSY 1 State.reset with keyCmd := some (1, 3, 7, ky) }
def s12 : State := { setF .sealKeySts SEAL_KEY_STS.BUSY 1 State.reset with keyCmd := some (2, 3, 0, []) }
def s16 : State := atPc (wordK 0x35 0 0) (sx)
def s19 : State := atPc (wordK 0x35 0 0) (engine0 { ctx2 with pad := [(0, 99#8)] } (bus State.reset))
def s21 : State := { par State.reset with sealOps := [so false false] }
def s24 : State := { par State.reset with sealOps := [so true false], keys := [] }
def s27 : State := { par State.reset with sealOps := [so false true] }
def s39 : State := { par State.reset with sealOps := [rd false], reqs := [srq] }

/-- States and operands that meet the hypotheses of `KeysAndSeal`, one line for each clause. -/
theorem witness_KeysAndSeal :
    (0 < 32 ∧ 0 < 8 ∧ s3.accepts .ma Reg.sealKeyCtl ∧ s3.flag Reg.sealKeySts SEAL_KEY_STS.BUSY = false ∧
      s3.staged8 = some ky) ∧
    (0 < 32 ∧ 0 < 8 ∧ State.reset.accepts .ma Reg.sealKeyCtl ∧
      State.reset.flag Reg.sealKeySts SEAL_KEY_STS.BUSY = false ∧ State.reset.staged8 = none) ∧
    (0 < 32 ∧ 0 < 8 ∧ State.reset.accepts .ma Reg.sealKeyCtl ∧
      State.reset.flag Reg.sealKeySts SEAL_KEY_STS.BUSY = false ∧ State.reset.claimsUnder 0 = [] ∧
      (∀ o ∈ State.reset.sealOps, o.holds 0 = false)) ∧
    (0 < 32 ∧ 0 < 8 ∧ State.reset.accepts .ma Reg.sealKeyCtl ∧
      State.reset.flag Reg.sealKeySts SEAL_KEY_STS.BUSY = false ∧ 3 ≤ 3 ∧ 3 < 16) ∧
    (0 < 32 ∧ 0 < 8 ∧ s9.accepts .ma Reg.sealKeyCtl ∧ s9.flag Reg.sealKeySts SEAL_KEY_STS.BUSY) ∧
    (3 < 32 ∧ 7 < 8 ∧ s9.accepts .ma Reg.sealKeyCtl ∧ s9.keyCmd = some (1, 3, 7, ky)) ∧
    (3 < 32 ∧ 0 < 8 ∧ s12.accepts .ma Reg.sealKeyCtl ∧ s12.keyCmd = some (2, 3, 0, [])) ∧
    (0 < 2 ∧ 0 < 16 ∧ s19.issues 5 (wordK 53 0 0) ∧
      (s19.blockOf 5 (BitVec.toNat ((s19.ctx 5).reg 0) % 256 / 64 * 64)).ok = false) ∧
    (0 < 2 ∧ 0 < 16 ∧ s16.issues 5 (wordK 53 0 0) ∧
      (s16.blockOf 5 (BitVec.toNat ((s16.ctx 5).reg 0) % 256 / 64 * 64)).ok ∧
      s16.hostOk (s16.ctx 5).slice (s16.blockOf 5 (BitVec.toNat ((s16.ctx 5).reg 0) % 256 / 64 * 64)).src (s16.blockOf 5 (BitVec.toNat ((s16.ctx 5).reg 0) % 256 / 64 * 64)).len ∧
      s16.hostOk (s16.ctx 5).slice (s16.blockOf 5 (BitVec.toNat ((s16.ctx 5).reg 0) % 256 / 64 * 64)).aad (s16.blockOf 5 (BitVec.toNat ((s16.ctx 5).reg 0) % 256 / 64 * 64)).aadLen ∧
      s16.hostOk (s16.ctx 5).slice (s16.blockOf 5 (BitVec.toNat ((s16.ctx 5).reg 0) % 256 / 64 * 64)).dst (s16.blockOf 5 (BitVec.toNat ((s16.ctx 5).reg 0) % 256 / 64 * 64)).len) ∧
    (s21.up ∧ s21.sealOps = [(so false false : SealOp)] ∧ (so false false : SealOp).started = false ∧
      (so false false : SealOp).use = SealUse.instr 5 false 32 (0x11000) 0 ∧ s21.domLive 162 ∧ s21.sealRunning < 8 ∧
      s21.slotKey (so false false : SealOp).slot 0 ≠ [] ∧
      (so false false : SealOp).src.length < (sealBlock (so false false : SealOp).blk).len ∧ s21.reqs = [] ∧
      s21.writes = [] ∧ s21.atsOn (s21.ctx 5).slice = false) ∧
    (s24.up ∧ s24.sealOps = [(so true false : SealOp)] ∧ (so true false : SealOp).started = false ∧
      (so true false : SealOp).use = SealUse.instr 5 true 32 (0x11000) 0 ∧ s24.domLive 162 ∧ s24.sealRunning < 8 ∧
      s24.slotKey (so true false : SealOp).slot 0 = [] ∧ (s24.ctx 5).act = Act.parked Wait.sealOp ∧
      (s24.ctx 5).endCode = none ∧ (s24.ctx 5).idleBus) ∧
    (s39.up ∧ s39.sealOps = [(rd false : SealOp)] ∧ (rd false : SealOp).use = SealUse.instr 5 false 32 (0x11000) 0 ∧
      s39.reqs = [srq] ∧ srq.phase = ReqPhase.issued ∧ srq.purpose = Purpose.sealSource ∧ srq.ctx = 5 ∧
      s39.inSram srq.slice = false ∧ (List.replicate 32 5 : List Byte).length = srq.len ∧
      (sealBlock (rd false : SealOp).blk).len ≤ (rd false : SealOp).src.length + srq.len ∧
      (sealBlock (rd false : SealOp).blk).aadLen ≤ (rd false : SealOp).aad.length ∧ s39.writes = [] ∧
      (({ rd false with src := (rd false).src ++ List.replicate 32 5 } : SealOp).mismatch = false →
        s39.hostOk (s39.ctx 5).slice (sealBlock (rd false : SealOp).blk).dst (gcmText (rd false).key (rd false).nonce
          ((rd false).src ++ List.replicate 32 5)).length)) ∧
    (s27.up ∧ s27.sealOps = [(so false true : SealOp)] ∧ (so false true : SealOp).out ∧
      (so false true : SealOp).use = SealUse.instr 5 false 32 (0x11000) 0 ∧ s27.sealUnsent 5 = false ∧ 0 ≤ 192 ∧
      (s27.ctx 5).act = Act.parked Wait.sealOp ∧ (s27.ctx 5).endCode = none ∧ (s27.ctx 5).idleBus) ∧
    (s21.up ∧ s21.sealOps = [(so false false : SealOp)] ∧
      (so false false : SealOp).use = SealUse.instr 5 false 32 (0x11000) 0 ∧
      ((so false false : SealOp).out = false ∨ s21.sealUnsent 5 = true)) := by
  and_intros <;> decide +kernel

end Sys2Proof.Tests.WKeyOps

namespace Sys2Proof.Tests.WIdentity
open Sys2Proof.Machine
set_option Elab.async false

def s1 : State := bus base
def s3 : State := { base with regs := [(Reg.sealFwSts.addr, 0x80000000)] }
def s4 : State := setF .sealFwCtl SEAL_FW_CTL.LEN 16 (base.wr .sealFwAddr 0x12000000)
def s5 : State := setF .sealFwCtl SEAL_FW_CTL.LEN 16 (base.wr .sealFwAddr 0x10000000)

/-- States and operands that meet the hypotheses of `IdentitiesAndVerification`, one line for each clause. -/
theorem witness_IdentitiesAndVerification :
    (0 < 9 ∧ 9 < 2048 ∧ s1.accepts .ma Reg.sealIdCtl ∧ (s1.dev 9).live) ∧
    (0 < 9 ∧ 9 < 2048 ∧ base.accepts .ma Reg.sealIdCtl) ∧
    (0 < 9 ∧ 9 < 2048 ∧ 0 < 2 ^ 24 ∧ base.accepts .ma Reg.sealFwCtl ∧
      base.flag Reg.sealFwSts SEAL_FW_STS.BUSY = false) ∧
    (0 < 9 ∧ 9 < 2048 ∧ s3.up ∧ s3.flag Reg.sealFwSts SEAL_FW_STS.BUSY) ∧
    (ownRange (s4.rd .sealFwAddr).toNat (s4.getF .sealFwCtl SEAL_FW_CTL.LEN) = false) ∧
    (ownRange (s5.rd .sealFwAddr).toNat (s5.getF .sealFwCtl SEAL_FW_CTL.LEN) = true) := by and_intros <;> decide +kernel

end Sys2Proof.Tests.WIdentity

namespace Sys2Proof.Tests.WAdjourn
open Sys2Proof.Machine
set_option Elab.async false

def bnd (i : Nat) (s : State) : State := setF (.slcCsr i) SLC_CSR.ACTIVE 1 (setF (.slcBind i) SLC_BIND.VALID 1 s)
def ky : List Word32 := [1,2,3,4,5,6,7,8]
def slot (use : Nat) (s : State) : State := { setF (.sealSlot 3) SEAL_SLOT.USE use (setF (.sealSlot 3) SEAL_SLOT.VALID 1 s) with keys := [(3, ky)], seqs := [(3, 9)] }
def ad (st : Nat) (s : State) : State := { s with adjs := [(3, ⟨st, 5, 5, false, []⟩)] }
def cmd (k st : Nat) (s : State) : State := { ad st (setF .sealAdjSts SEAL_ADJ_STS.BUSY 1 s) with adjCmd := some (k, 3, 3) }
def os : SealOp := ⟨.save 3, 3, true, 0, ky, 9, [], [], [], false⟩
def orr : SealOp := ⟨.restore 3, 3, true, 0, ky, 9, [], [], [], false⟩
def b : State := slot 7 (bnd 3 (winS 0 (bus State.reset)))
def rec0 : SliceRecord := ⟨3, 7, 55, 66, List.replicate 12 9, [], [], [], [], [], [], [], []⟩
theorem rec0_format : recordFormat (rec0.bytes ky) 80 = true := rfl
theorem rec0_tag : recordTagOk ky (rec0.bytes ky) 80 = true := by
  simp only [recordTagOk, beq_iff_eq]
  rfl
def s2 : State := ad 2 b
def s4 : State := ad 2 { b with eps := b.eps.map (fun p => (p.1, { p.2 with pend := [⟨List.replicate 40000 1, false, 40000⟩] })) }
def s5 : State := cmd 1 1 b
def s7 : State := { (cmd 2 3 b).wr .sealAdjAddr 0x10000 with sealOps := [os] }
def s6 : State := { s7 with sealOps := [{ os with out := true }] }
def s8 : State := { (setF .sealAdjLen SEAL_ADJ_LEN.LEN 80 (cmd 4 4 b)).wr .sealAdjAddr 0x10000 with sealOps := [orr] }
def s9 : State := { cmd 4 4 b with restoring := some rec0 }
def s10 : State := { b with att := [], attP := [] }

/-- States and operands that meet the hypotheses of `AdjournAndRestore`, one line for each clause. -/
theorem witness_AdjournAndRestore :
    (0 < 3 ∧ 3 < 256 ∧ 0 < 32 ∧ State.reset.accepts .ma Reg.sealAdjCtl ∧
      State.reset.flag Reg.sealAdjSts SEAL_ADJ_STS.BUSY = false ∧ (State.reset.adj 3).state = 0 ∧
      State.reset.fenced 3 = false ∧ State.reset.inReset 3 = false ∧ State.reset.mine 3 = []) ∧
    (0 < 3 ∧ 3 < 256 ∧ 0 < 32 ∧ s2.accepts .ma Reg.sealAdjCtl ∧ s2.flag Reg.sealAdjSts SEAL_ADJ_STS.BUSY = false ∧
      (s2.adj 3).state ≠ 0) ∧
    (0 < 3 ∧ 3 < 256 ∧ 3 < 32 ∧ s2.accepts .ma Reg.sealAdjCtl ∧ s2.flag Reg.sealAdjSts SEAL_ADJ_STS.BUSY = false ∧
      (s2.adj 3).state = 2 ∧ (s2.recordOf 3 0).big = false ∧ s2.sealOps = [] ∧ s2.sealFree ∧
      s2.slotKey 3 2 ≠ []) ∧
    (0 < 3 ∧ 3 < 256 ∧ 0 < 32 ∧ s4.accepts .ma Reg.sealAdjCtl ∧ s4.flag Reg.sealAdjSts SEAL_ADJ_STS.BUSY = false ∧
      (s4.adj 3).state = 2 ∧ (s4.recordOf 3 0).big) ∧
    (0 < 3 ∧ 3 < 256 ∧ 0 < 32 ∧ State.reset.accepts .ma Reg.sealAdjCtl ∧
      State.reset.flag Reg.sealAdjSts SEAL_ADJ_STS.BUSY = false ∧ (State.reset.adj 3).state ≠ 2) ∧
    (0 < 3 ∧ 3 < 256 ∧ 0 < 32 ∧ s2.accepts .ma Reg.sealAdjCtl ∧ s2.flag Reg.sealAdjSts SEAL_ADJ_STS.BUSY = false ∧
      (s2.adj 3).state = 2 ∧ s2.inReset 3 = false) ∧
    (0 < 3 ∧ 3 < 256 ∧ 0 < 32 ∧ s10.accepts .ma Reg.sealAdjCtl ∧ s10.flag Reg.sealAdjSts SEAL_ADJ_STS.BUSY = false ∧
      (s10.adj 3).state = 0 ∧ s10.restoreOk 3 ∧ s10.sealOps = []) ∧
    (0 < 3 ∧ 3 < 256 ∧ 0 < 32 ∧ State.reset.accepts .ma Reg.sealAdjCtl ∧
      State.reset.flag Reg.sealAdjSts SEAL_ADJ_STS.BUSY = false ∧ 6 ≤ 6 ∧ 6 < 16) ∧
    (0 < 3 ∧ 3 < 256 ∧ s5.up ∧ s5.adjCmd = some (1, 3, 3) ∧ s5.freezeDone 3 ∧ s5.mine 3 = []) ∧
    (0 < 3 ∧ 3 < 256 ∧ s6.up ∧ s6.adjCmd = some (2, 3, 3) ∧ s6.sealOps = [({ os with out := true } : SealOp)] ∧
      os.use = SealUse.save 3 ∧ os.started ∧ s6.hostOk 0 (s6.rd .sealAdjAddr).toNat (s6.recordOf 3 os.seq).len ∧
      (s6.recordOf 3 os.seq).len < 2 ^ 24) ∧
    (0 < 3 ∧ 3 < 256 ∧ s7.up ∧ s7.adjCmd = some (2, 3, 3) ∧ s7.sealOps = [os] ∧ os.use = SealUse.save 3 ∧ os.started ∧
      s7.hostOk 0 (s7.rd .sealAdjAddr).toNat (s7.recordOf 3 os.seq).len ∧ os.out = false ∧
      (∀ r ∈ s7.reqs, r.slice ≠ 3) ∧ (∀ w ∈ s7.writes, w.slice ≠ 3) ∧
      s7.recordGo (s7.rd .sealAdjAddr).toNat (s7.recordOf 3 os.seq).len true) ∧
    (0 < 3 ∧ 3 < 256 ∧ s8.up ∧ s8.adjCmd = some (4, 3, 3) ∧ s8.sealOps = [orr] ∧ orr.use = SealUse.restore 3 ∧
      orr.started ∧ s8.hostOk 0 (s8.rd .sealAdjAddr).toNat (s8.getF .sealAdjLen SEAL_ADJ_LEN.LEN)) ∧
    (s8.inSram 0 = false ∧ s8.recordGo (s8.rd .sealAdjAddr).toNat (s8.getF .sealAdjLen SEAL_ADJ_LEN.LEN) false ∧
      (List.replicate 80 0 : List Byte).length = s8.getF .sealAdjLen SEAL_ADJ_LEN.LEN ∧
      s8.restoreResult 3 orr.key (List.replicate 80 0) (s8.getF .sealAdjLen SEAL_ADJ_LEN.LEN) rec0 = 6) ∧
    (0 < 3 ∧ 3 < 256 ∧ s9.up ∧ s9.adjCmd = some (4, 3, 3) ∧ s9.restoring = some rec0 ∧ s9.aon.refRunning ∧
      s9.aon.vddAon) := by and_intros <;> decide +kernel

/-- The same for a record that passes every check, and the checks of a record: its format, a slot without a key, its tag. -/
theorem witness_AdjournAndRestore_record :
    ((rec0.bytes ky).length = s8.getF .sealAdjLen SEAL_ADJ_LEN.LEN ∧
      s8.restoreResult 3 ky (rec0.bytes ky) (s8.getF .sealAdjLen SEAL_ADJ_LEN.LEN) rec0 = 0) ∧
    recordFormat (List.replicate 80 0) 80 = false ∧
    (recordFormat (rec0.bytes ky) 80 ∧ ky ≠ [] ∧ recordTagOk ky (rec0.bytes ky) 80) ∧ s8.restoreCheck 3 rec0 = 0 := by
  have n : s8.getF .sealAdjLen SEAL_ADJ_LEN.LEN = 80 := by decide +kernel
  have k : ky ≠ [] := by decide
  have c : s8.restoreCheck 3 rec0 = 0 := by decide +kernel
  have l : (rec0.bytes ky).length = 80 := rfl
  refine ⟨⟨by rw [l, n], ?_⟩, by decide +kernel, ⟨rec0_format, k, rec0_tag⟩, c⟩
  simp only [n, State.restoreResult, rec0_format, rec0_tag, k, c]
  rfl
/-- A record whose tag does not match: of two that differ in the tag alone, one. -/
def flipped : List Byte := (rec0.bytes ky).take 64 ++ ((rec0.bytes ky).drop 64).map (fun x => x ^^^ 1)
theorem witness_AdjournAndRestore_tag : recordFormat flipped 80 ∧ ky ≠ [] ∧ recordTagOk ky flipped 80 = false := by
  refine ⟨rfl, by decide, ?_⟩
  have g : ∀ x : Byte, x ^^^ 1 ≠ x := by decide
  have e : ∀ n, (leBytes 16 n).map (fun x => x ^^^ 1) ≠ leBytes 16 n := fun n h => by
    rw [show (16 : Nat) = 15 + 1 from rfl, leBytes, List.map_cons] at h
    exact g _ (List.cons.inj h).1
  simp only [recordTagOk, beq_eq_false_iff_ne]
  exact e _

end Sys2Proof.Tests.WAdjourn

namespace Sys2Proof.Tests.WSeq
open Sys2Proof.Machine
set_option Elab.async false

def lbq (s : State) : State := s.wrE (.slcQmem 3) 0x100010
def op (k : BusKind) (e : Nat) (seg : List (Nat × Nat)) : Op := let o := opOf (busReq k false e) e 3 0 8 0 0
  { o with stage := .queued, pos := { o.pos with next := none, segs := seg } }
def oneC (y : Ctx) (s : State) : State := { s with ctxs := [(5, y)] }
def oc (o : Op) (s : State) : State := oneC { ctx2 with act := .parked .op, op := some o } s
def mp (n : Nat) (g : Port → Port) (s : State) : State := s.modPort n g
def ln (n l : Nat) (g : Line → Line) (s : State) : State := s.modLine n l g
def B : State := setF (.portLink 3) PORT_LINK.LSTATE 1 (lbq (bus State.reset))
def onBus (o : Op) : Ctx := { ctx2 with act := .parked .op, op := some o }
def rsv (k : Nat) (s : State) : State := { s with resvE := [(hKey 3 23, ⟨true, 23, 64, 1, 0, 0⟩)], hdrs := [(hdrKey 0 0, ⟨true, false, false, 0⟩)], board := [(lineKey 0 3 0, [(BitVec.ofNat 64 (2 * 2^45), hKey 3 23)])] }
def fan (s : State) : State := { s with att := [(hKey 3 23, attD 23 1)] }
def gm (s : State) : State := (setF (.portSeqCfg 3) PORT_SEQ_CFG.GMB_EN 1 (setF (.portSeqCfg 3) PORT_SEQ_CFG.GMB_BUDGET 4 { s with eps := s.eps.map (fun p => if p.1 = 22 then (22, { p.2 with hist := 64 }) else p), att := s.att.map (fun p => (p.1, { p.2 with cfg := { p.2.cfg with gsafeM := true }, gsafeS := true })) })).wrE .portGpool 0xFFFFFFFF
def ctx5 : Ctx := (onBus ({ op .setup 20 [] with stage := .place }))
def op5 : Op := { op .setup 20 [] with stage := .place }
def s1 : State := setF (.portSeqCfg 3) PORT_SEQ_CFG.GMB_EN 0 State.reset
def s2 : State := oc { op .setup 20 [] with stage := .place } B
def s4 : State := { rsv 0 B with resvE := [] }
def s5 : State := oc (op .inn 23 [(0x10000, 64)]) (rsv 0 B)
def s6 : State := fan (rsv 0 B)
def s7 : State := oc (op .setup 20 []) B
def s8 : State := gm B
def s9 : State := (fan (rsv 0 B)).setEpc 23 { epD 9 3 true 512 with failAt := 2 }
def s10 : State := mp 3 (fun p => { p with fifo := { Fifo.init with stages := List.replicate 32 (some (7, true)) } }) s5
def s11 : State := ln 3 0 (fun x => { x with more := some (22, 2) }) (gm B)

/-- States and operands that meet the hypotheses of `SequencerStarts`, one line for each clause. -/
theorem witness_SequencerStarts :
    (3 < 20 ∧ 0 < 3 ∧ s2.up ∧ (s2.port 3).lines.length = 3 ∧ s2.ctxs = [(5, ctx5)] ∧ ctx5.op = some op5 ∧ op5.port = 3 ∧
      op5.stage = OpStage.place ∧ ctx5.act = Act.parked Wait.op ∧ op5.pos.next = none ∧ s2.frozen ctx5.slice = false) ∧
    (0 < 20 ∧ 0 < 3 ∧ State.reset.up ∧ (State.reset.port 0).lines.length = 3 ∧
      (State.reset.seqLine 0 0).mf = State.reset.aon.clockCount ∧
      (State.reset.placements 0 0 (State.reset.seqLine 0 0).mf)[(State.reset.seqLine 0 0).k]? = none ∧
      (State.reset.seqLine 0 0).extra = []) ∧
    (3 < 20 ∧ 0 < 3 ∧ s4.up ∧ (s4.port 3).lines.length = 3 ∧ (s4.seqLine 3 0).mf = s4.aon.clockCount ∧
      (s4.placements 3 0 (s4.seqLine 3 0).mf)[(s4.seqLine 3 0).k]? = some ((BitVec.ofNat 64 (2 * 2^45) : Word64), (hKey 3 23)) ∧
      (s4.seqLine 3 0).txn = none ∧ s4.skipped (BitVec.ofNat 64 (2 * 2^45) : Word64) (hKey 3 23)) ∧
    (3 < 20 ∧ 0 < 3 ∧ s5.up ∧ (s5.port 3).lines.length = 3 ∧ (s5.seqLine 3 0).mf = s5.aon.clockCount ∧
      (s5.placements 3 0 (s5.seqLine 3 0).mf)[(s5.seqLine 3 0).k]? = some ((BitVec.ofNat 64 (2 * 2^45) : Word64), (hKey 3 23)) ∧
      (s5.seqLine 3 0).txn = none ∧ s5.skipped (BitVec.ofNat 64 (2 * 2^45) : Word64) (hKey 3 23) = false ∧
      s5.canDrive 3 (lineSS 0) ∧ s5.fifoRoom 3 ∧ opBits (BitVec.ofNat 64 (2 * 2^45) : Word64) 48 45 = 2 ∧
      (s5.atE (hKey 3 23)).cfg.mode ≠ 1 ∧
      ((s5.servedBy (hKey 3 23) (s5.rsvE (hKey 3 23)).ep fun x => x == BusKind.inn) = some 5) ∧
      (s5.epInfo (s5.rsvE (hKey 3 23)).ep).polled ((fun w => (s5.seqLine 3 0).mf + 1 - opBits w 30 27) (BitVec.ofNat 64 (2 * 2^45) : Word64)) ∧
      s5.capRoom 1 (s5.ctx 5).slice (granules (s5.epInfo (s5.rsvE (hKey 3 23)).ep).mps)) ∧
    (3 < 20 ∧ 0 < 3 ∧ s6.up ∧ (s6.port 3).lines.length = 3 ∧ (s6.seqLine 3 0).mf = s6.aon.clockCount ∧
      (s6.placements 3 0 (s6.seqLine 3 0).mf)[(s6.seqLine 3 0).k]? = some ((BitVec.ofNat 64 (2 * 2^45) : Word64), (hKey 3 23)) ∧
      (s6.seqLine 3 0).txn = none ∧ s6.skipped (BitVec.ofNat 64 (2 * 2^45) : Word64) (hKey 3 23) = false ∧
      s6.canDrive 3 (lineSS 0) ∧ s6.fifoRoom 3 ∧ opBits (BitVec.ofNat 64 (2 * 2^45) : Word64) 48 45 = 2 ∧
      (s6.atE (hKey 3 23)).cfg.mode = 1 ∧
      (s6.epInfo (s6.rsvE (hKey 3 23)).ep).polled ((fun w => (s6.seqLine 3 0).mf + 1 - opBits w 30 27) (BitVec.ofNat 64 (2 * 2^45) : Word64)) ∧
      s6.capRoom 1 0 (granules (s6.epInfo (s6.rsvE (hKey 3 23)).ep).mps)) ∧
    (3 < 20 ∧ 0 < 3 ∧ s9.up ∧ (s9.port 3).lines.length = 3 ∧ (s9.seqLine 3 0).mf = s9.aon.clockCount ∧
      (s9.placements 3 0 (s9.seqLine 3 0).mf)[(s9.seqLine 3 0).k]? = some ((BitVec.ofNat 64 (2 * 2^45) : Word64), (hKey 3 23)) ∧
      (s9.seqLine 3 0).txn = none ∧ s9.skipped (BitVec.ofNat 64 (2 * 2^45) : Word64) (hKey 3 23) = false ∧
      s9.canDrive 3 (lineSS 0) ∧ s9.fifoRoom 3 ∧ opBits (BitVec.ofNat 64 (2 * 2^45) : Word64) 48 45 = 2 ∧
      ((s9.epInfo (s9.rsvE (hKey 3 23)).ep).polled ((fun w => (s9.seqLine 3 0).mf + 1 - opBits w 30 27) (BitVec.ofNat 64 (2 * 2^45) : Word64)) = false)) ∧
    (3 < 20 ∧ 0 < 3 ∧ s10.up ∧ (s10.port 3).lines.length = 3 ∧ (s10.seqLine 3 0).mf = s10.aon.clockCount ∧
      (s10.placements 3 0 (s10.seqLine 3 0).mf)[(s10.seqLine 3 0).k]? = some ((BitVec.ofNat 64 (2 * 2^45) : Word64), (hKey 3 23)) ∧
      (s10.seqLine 3 0).txn = none ∧ s10.skipped (BitVec.ofNat 64 (2 * 2^45) : Word64) (hKey 3 23) = false ∧
      s10.canDrive 3 (lineSS 0) ∧ s10.fifoRoom 3 = false ∧ opBits (BitVec.ofNat 64 (2 * 2^45) : Word64) 48 45 = 2 ∧
      (s10.atE (hKey 3 23)).cfg.mode ≠ 1 ∧
      ((s10.servedBy (hKey 3 23) (s10.rsvE (hKey 3 23)).ep fun x => x == BusKind.inn) = some 5) ∧
      (s10.epInfo (s10.rsvE (hKey 3 23)).ep).polled ((fun w => (s10.seqLine 3 0).mf + 1 - opBits w 30 27) (BitVec.ofNat 64 (2 * 2^45) : Word64)) ∧
      s10.capRoom 1 (s10.ctx 5).slice (granules (s10.epInfo (s10.rsvE (hKey 3 23)).ep).mps)) ∧
    (3 < 20 ∧ 0 < 3 ∧ s7.up ∧ (s7.port 3).lines.length = 3 ∧ s7.ctxs = [(5, ((onBus (op .setup 20 [])) : Ctx))] ∧
      ((onBus (op .setup 20 [])) : Ctx).op = some (op .setup 20 [] : Op) ∧ (op .setup 20 [] : Op).port = 3 ∧
      (op .setup 20 [] : Op).req.kind = BusKind.setup ∧ (s7.epInfo (op .setup 20 [] : Op).ep).typ = 0 ∧
      (s7.epDev (op .setup 20 [] : Op).ep).ss = false ∧ (s7.epDev (op .setup 20 [] : Op).ep).way ≠ 2 ∧
      (op .setup 20 [] : Op).pos.next = none ∧ (op .setup 20 [] : Op).pos.segs = [] ∧ (op .setup 20 [] : Op).buf = [] ∧
      (s7.epInfo (op .setup 20 [] : Op).ep).parked = none ∧ s7.sendable 5 (op .setup 20 [] : Op) ∧
      s7.txnOf 5 (op .setup 20 [] : Op) = false ∧ 0 = 0 ∧ (s7.seqLine 3 0).txn = none ∧ s7.canDrive 3 false ∧
      s7.fifoRoom 3) ∧
    (3 < 20 ∧ 0 < 3 ∧ s8.up ∧ (s8.port 3).lines.length = 3 ∧ (s8.seqLine 3 0).rank = s8.aon.clockCount * 64 + 0 % 64 ∧
      (s8.seqLine 3 0).txn = none ∧ (s8.seqLine 3 0).more = none ∧ s8.canDrive 3 (lineSS 0) ∧ s8.linkOn 3 (lineSS 0) ∧
      PORT_SEQ_CFG.GMB_EN.get (s8.seqAt 3 (s8.seqLine 3 0).rank) ≠ 0 ∧
      (s8.seqLine 3 0).gambits < PORT_SEQ_CFG.GMB_BUDGET.get (s8.seqAt 3 (s8.seqLine 3 0).rank) ∧ s8.fifoRoom 3 ∧
      s8.gambitEp 3 0 = some 22) ∧
    (3 < 20 ∧ 0 < 3 ∧ s11.up ∧ (s11.port 3).lines.length = 3 ∧
      (s11.seqLine 3 0).rank = s11.aon.clockCount * 64 + 0 % 64 ∧ (s11.seqLine 3 0).txn = none ∧
      s11.canDrive 3 (lineSS 0) ∧ s11.linkOn 3 (lineSS 0) ∧ s11.fifoRoom 3 ∧ s11.gambitNext 3 0 = some (22, 2)) ∧
    (3 < 20 ∧ 0 < 3 ∧ s1.up ∧ (s1.port 3).lines.length = 3 ∧
      PORT_SEQ_CFG.GMB_EN.get (s1.seqAt 3 (s1.aon.clockCount * 64 + 0 % 64)) = 0 ∧ (s1.seqLine 3 0).more = none) := by and_intros <;> decide +kernel

end Sys2Proof.Tests.WSeq

namespace Sys2Proof.Tests.WResp
open Sys2Proof.Machine
set_option Elab.async false

def lbq (s : State) : State := s.wrE (.slcQmem 3) 0x100010
def op (k : BusKind) (e : Nat) (seg : List (Nat × Nat)) : Op := let o := opOf (busReq k false e) e 3 0 8 0 0
  { o with stage := .queued, pos := { o.pos with next := none, segs := seg } }
def oneC (y : Ctx) (s : State) : State := { s with ctxs := [(5, y)] }
def oc (o : Op) (s : State) : State := oneC { ctx2 with act := .parked .op, op := some o } s
def ln (n l : Nat) (g : Line → Line) (s : State) : State := s.modLine n l g
def tx (e : Nat) : Txn := ⟨e, some 5, false, 1, false, 0, e != 20, 0⟩
def B : State := setF (.portLink 3) PORT_LINK.LSTATE 1 (lbq (bus State.reset))
def onBus (o : Op) : Ctx := { ctx2 with act := .parked .op, op := some o }
def rs (o : Op) : State := oc o (ln 3 0 (fun x => { x with txn := some (tx o.ep) }) B)
def ctx1 : Ctx := (onBus (op .inn 22 [(0x10000, 1024)]))
def ctx3 : Ctx := (onBus ({ op .setup 20 [] with flight := some 0 }))
def ctx4 : Ctx := (onBus ({ op .inn 22 [(0x10000, 1024)] with errs := 2 }))
def op3 : Op := { op .setup 20 [] with flight := some 0 }
def op4 : Op := { op .inn 22 [(0x10000, 1024)] with errs := 2 }
def s2 : State := rs (op .inn 22 [(0x10000, 1024)])
def s4 : State := rs ({ op .setup 20 [] with flight := some 0 })
def s5 : State := rs ({ op .inn 22 [(0x10000, 1024)] with errs := 2 })

/-- States and operands that meet the hypotheses of `Responses`, one line for each clause. -/
theorem witness_Responses :
    (3 < 20 ∧ s4.up ∧ (s4.port 3).lines.length = 3 ∧ s4.ctxs = [(5, ctx3)] ∧ ctx3.op = some op3 ∧ op3.port = 3 ∧
      (s4.port 3).fifo = Fifo.init ∧
      (∃ asks mf, (s4.seqLine 3 0).txn = some { ep := op3.ep, ctx := some 5, gambit := false, left := 1, ping := false, split := 0, asks := asks, mf := mf }) ∧
      (s4.epInfo op3.ep).typ = 0 ∧ op3.req.kind = BusKind.setup ∧ op3.flight = some 0) ∧
    (3 < 20 ∧ s2.up ∧ (s2.port 3).lines.length = 3 ∧ s2.ctxs = [(5, ctx1)] ∧
      ctx1.op = some (op .inn 22 [(0x10000, 1024)] : Op) ∧ (op .inn 22 [(0x10000, 1024)] : Op).port = 3 ∧
      (s2.port 3).fifo = Fifo.init ∧
      (∃ asks mf, (s2.seqLine 3 0).txn = some { ep := (op .inn 22 [(0x10000, 1024)] : Op).ep, ctx := some 5, gambit := false, left := 1, ping := false, split := 0, asks := asks, mf := mf }) ∧
      (s2.epInfo (op .inn 22 [(0x10000, 1024)] : Op).ep).typ = 2 ∧
      (s2.epInfo (op .inn 22 [(0x10000, 1024)] : Op).ep).dirIn ∧
      (op .inn 22 [(0x10000, 1024)] : Op).req.kind = BusKind.inn ∧
      ([] : List Byte).length ≤ (s2.epInfo (op .inn 22 [(0x10000, 1024)] : Op).ep).mps ∧ ([] : List Byte).length ≤ 24) ∧
    (3 < 20 ∧ s2.up ∧ (s2.port 3).lines.length = 3 ∧ s2.ctxs = [(5, ctx1)] ∧
      ctx1.op = some (op .inn 22 [(0x10000, 1024)] : Op) ∧ (op .inn 22 [(0x10000, 1024)] : Op).port = 3 ∧
      (s2.port 3).fifo = Fifo.init ∧
      (∃ asks mf, (s2.seqLine 3 0).txn = some { ep := (op .inn 22 [(0x10000, 1024)] : Op).ep, ctx := some 5, gambit := false, left := 1, ping := false, split := 0, asks := asks, mf := mf }) ∧
      (s2.epInfo (op .inn 22 [(0x10000, 1024)] : Op).ep).typ = 2 ∧
      (s2.epInfo (op .inn 22 [(0x10000, 1024)] : Op).ep).dirIn ∧
      (op .inn 22 [(0x10000, 1024)] : Op).req.kind = BusKind.inn ∧
      (s2.epInfo (op .inn 22 [(0x10000, 1024)] : Op).ep).mps < (List.replicate 600 7 : List Byte).length) ∧
    (3 < 20 ∧ s2.up ∧ (s2.port 3).lines.length = 3 ∧ s2.ctxs = [(5, ctx1)] ∧
      ctx1.op = some (op .inn 22 [(0x10000, 1024)] : Op) ∧ (op .inn 22 [(0x10000, 1024)] : Op).port = 3 ∧
      (s2.port 3).fifo = Fifo.init ∧
      (∃ asks mf, (s2.seqLine 3 0).txn = some { ep := (op .inn 22 [(0x10000, 1024)] : Op).ep, ctx := some 5, gambit := false, left := 1, ping := false, split := 0, asks := asks, mf := mf }) ∧
      (s2.epInfo (op .inn 22 [(0x10000, 1024)] : Op).ep).typ = 2 ∧
      (s2.epInfo (op .inn 22 [(0x10000, 1024)] : Op).ep).dirIn ∧
      (op .inn 22 [(0x10000, 1024)] : Op).req.kind = BusKind.inn ∧ (op .inn 22 [(0x10000, 1024)] : Op).errs < 2) ∧
    (3 < 20 ∧ s5.up ∧ (s5.port 3).lines.length = 3 ∧ s5.ctxs = [(5, ctx4)] ∧ ctx4.op = some op4 ∧ op4.port = 3 ∧
      (s5.port 3).fifo = Fifo.init ∧
      (∃ asks mf, (s5.seqLine 3 0).txn = some { ep := op4.ep, ctx := some 5, gambit := false, left := 1, ping := false, split := 0, asks := asks, mf := mf }) ∧
      (s5.epInfo op4.ep).typ = 2 ∧ (s5.epInfo op4.ep).dirIn ∧ op4.req.kind = BusKind.inn ∧ 2 ≤ op4.errs) := by
  and_intros <;> first | exact ⟨_, _, rfl⟩ | decide +kernel

end Sys2Proof.Tests.WResp

namespace Sys2Proof.Tests.WReturn
open Sys2Proof.Machine
set_option Elab.async false

def lbq (s : State) : State := s.wrE (.slcQmem 3) 0x100010
def op (k : BusKind) (e : Nat) (seg : List (Nat × Nat)) : Op := let o := opOf (busReq k false e) e 3 0 8 0 0
  { o with stage := .queued, pos := { o.pos with next := none, segs := seg } }
def oneC (y : Ctx) (s : State) : State := { s with ctxs := [(5, y)] }
def oc (o : Op) (s : State) : State := oneC { ctx2 with act := .parked .op, op := some o } s
def mp (n : Nat) (g : Port → Port) (s : State) : State := s.modPort n g
def B : State := setF (.portLink 3) PORT_LINK.LSTATE 1 (lbq (bus State.reset))
def onBus (o : Op) : Ctx := { ctx2 with act := .parked .op, op := some o }
def it (code : Nat) (last hd : Bool) : Item := { cls := 3, words := 1, whole := true, ep := 22, ctx := some 5, gambit := false, code := code, short := false, data := [], hasData := hd, last := last, sec := none, time := 0 }
def fi (l : List Item) (g : Fifo → Fifo) (s : State) : State := mp 3 (fun p => { p with fifo := g { Fifo.init with items := l } }) s
def st1 (f : Fifo) : Fifo := { f with stages := (some (0x55, true)) :: List.replicate 31 none, wptr := 1, wptr2 := 1 }
def ctx1 : Ctx := (onBus (op .inn 22 [(0x10000, 1024)]))
def s1 : State := fi [] (fun f => { f with held := [(7, true), (8, true)] }) B
def s2 : State := fi [it 0 true false] st1 (oc (op .inn 22 [(0x10000, 1024)]) B)
def s3 : State := fi [it 7 true false] st1 (oc (op .inn 22 [(0x10000, 1024)]) B)
def s4 : State := checkOff 23 (fi [it 0 true false] st1 (oc (op .inn 22 [(0x10000, 1024)]) B))

/-- States and operands that meet the hypotheses of `ReturnFifo`, one line for each clause. -/
theorem witness_ReturnFifo :
    (3 < 20 ∧ s1.up ∧ (s1.port 3).fifo.held = ((7, true) : Word64 × Bool) :: ([(8, true)] : List (Word64 × Bool)) ∧
      (s1.port 3).fifo.top ∧ (s1.port 3).fifo.stages.length = 32) ∧
    (3 < 20 ∧ s2.up ∧ (s2.port 3).fifo.items = [(it 0 true false : Item)] ∧ (it 0 true false : Item).whole ∧
      (it 0 true false : Item).gambit = false ∧ (it 0 true false : Item).ctx = some 5 ∧ s2.ctxs = [(5, ctx1)] ∧
      ctx1.op = some (op .inn 22 [(0x10000, 1024)] : Op) ∧ (op .inn 22 [(0x10000, 1024)] : Op).result = none ∧
      (it 0 true false : Item).sec = none ∧ (s2.epInfo (op .inn 22 [(0x10000, 1024)] : Op).ep).typ ≠ 1 ∧
      (s2.epInfo (op .inn 22 [(0x10000, 1024)] : Op).ep).typ ≠ 3 ∧ (it 0 true false : Item).code = 0 ∧
      (it 0 true false : Item).hasData = false ∧ (it 0 true false : Item).last) ∧
    (3 < 20 ∧ s3.up ∧ (s3.port 3).fifo.items = [(it 7 true false : Item)] ∧ (it 7 true false : Item).whole ∧
      (it 7 true false : Item).gambit = false ∧ (it 7 true false : Item).ctx = some 5 ∧ s3.ctxs = [(5, ctx1)] ∧
      ctx1.op = some (op .inn 22 [(0x10000, 1024)] : Op) ∧ (op .inn 22 [(0x10000, 1024)] : Op).result = none ∧
      (it 7 true false : Item).sec = none ∧ (s3.epInfo (op .inn 22 [(0x10000, 1024)] : Op).ep).typ ≠ 1 ∧
      (s3.epInfo (op .inn 22 [(0x10000, 1024)] : Op).ep).typ ≠ 3 ∧ (it 7 true false : Item).code ≠ 0) ∧
    (3 < 20 ∧ s4.up ∧ (s4.port 3).fifo.items = [(it 0 true false : Item)] ∧
      (s4.port 3).fifo.occ = (it 0 true false : Item).words ∧ 0 < (it 0 true false : Item).words ∧
      (s4.port 3).fifo.held = [] ∧ (it 0 true false : Item).ctx = some 5 ∧ 5 < 16384 ∧ s4.ctxs = [(5, ctx1)] ∧
      ctx1.op = some (op .inn 22 [(0x10000, 1024)] : Op) ∧ (op .inn 22 [(0x10000, 1024)] : Op).result = none ∧
      s4.flag (Reg.fltCfg (20 + 3)) FLT_CFG.EN = false) ∧
    (3 < 20 ∧ State.reset.up ∧ State.reset.flag (Reg.fltCfg (20 + 3)) FLT_CFG.EN ∧
      State.reset.getF (Reg.fltSts (20 + 3)) FLT_STS.STATE = 0 ∧ 2 ≤ State.reset.getF (Reg.fltCfg (20 + 3)) FLT_CFG.N) := by and_intros <;> decide +kernel

end Sys2Proof.Tests.WReturn

namespace Sys2Proof.Tests.WDetach
open Sys2Proof.Machine
set_option Elab.async false

def lbq (s : State) : State := s.wrE (.slcQmem 3) 0x100010
def B : State := setF (.portLink 3) PORT_LINK.LSTATE 1 (lbq (bus State.reset))
def s1 : State := B

/-- States and operands that meet the hypotheses of `DetachAndPool`, one line for each clause. -/
theorem witness_DetachAndPool :
    (3 < 20 ∧ 9 < 2048 ∧ s1.accepts .ma (Reg.portDet 3) ∧ (s1.dev 9).live ∧ (s1.dev 9).port = 3 ∧
      (s1.dev 9).detached = false) ∧
    (3 < 20 ∧ 3 < 2048 ∧ State.reset.accepts .ma (Reg.portDet 3) ∧
      ((State.reset.dev 3).live = false ∨ (State.reset.dev 3).port ≠ 3 ∨ (State.reset.dev 3).detached = true)) ∧
    (State.reset.accepts .ma Reg.portGpool ∧ PORT_GPOOL.SIZE.get (BitVec.setWidth 64 (0 : Word32)) ≤ 2048 ∧
      (sumSlices fun j => State.reset.getF (Reg.slcQmem j) SLC_QMEM.LB) ≤ 4096 - PORT_GPOOL.SIZE.get (BitVec.setWidth 64 (0 : Word32))) ∧
    (State.reset.accepts .ma Reg.portGpool ∧
      (2048 < PORT_GPOOL.SIZE.get (BitVec.setWidth 64 (0x801 : Word32)) ∨ 4096 - PORT_GPOOL.SIZE.get (BitVec.setWidth 64 (0x801 : Word32)) < sumSlices fun j => State.reset.getF (Reg.slcQmem j) SLC_QMEM.LB)) := by decide +kernel

end Sys2Proof.Tests.WDetach

namespace Sys2Proof.Tests.WCompletion
open Sys2Proof.Machine
set_option Elab.async false

def lbq (s : State) : State := s.wrE (.slcQmem 3) 0x100010
def op (k : BusKind) (e : Nat) (seg : List (Nat × Nat)) : Op := let o := opOf (busReq k false e) e 3 0 8 0 0
  { o with stage := .queued, pos := { o.pos with next := none, segs := seg } }
def oneC (y : Ctx) (s : State) : State := { s with ctxs := [(5, y)] }
def oc (o : Op) (s : State) : State := oneC { ctx2 with act := .parked .op, op := some o } s
def B : State := setF (.portLink 3) PORT_LINK.LSTATE 1 (lbq (bus State.reset))
def onBus (o : Op) : Ctx := { ctx2 with act := .parked .op, op := some o }
def rq (c : Nat) (p : Purpose) (ph : ReqPhase) (f : Nat) : HostReq := { tag := 0, slice := 3, ctx := c, addr := 0x10000, len := 8, purpose := p, phase := ph, fails := f }
def ctx6 : Ctx := (onBus ({ op .out 21 [(0x10000, 1024)] with order := 3 }))
def op6 : Op := { op .out 21 [(0x10000, 1024)] with order := 3 }
def s0 : State := { oc { op .out 21 [(0x10000, 1024)] with order := 3 } { B with aon := { B.aon with refCycle := 30 } } with reqs := [rq 5 .outData .issued 0], tag := 9 }
def s1 : State := { oc { op .out 21 [(0x10000, 1024)] with order := 3 } { B with aon := { B.aon with refCycle := 30 } } with reqs := [rq 5 .outData .failed 1], tag := 9 }
def s5 : State := { oc { op .out 21 [(0x10000, 1024)] with order := 3 } B with reqs := [rq 5 .outData .failed 1], tag := 9 }
def s6 : State := checkOff 40 { oc { op .out 21 [(0x10000, 1024)] with order := 3 } { B with aon := { B.aon with refCycle := 30 } } with reqs := [rq 5 .outData .issued 0], tag := 9 }

/-- States and operands that meet the hypotheses of `CompletionsAndRetries`, one line for each clause. -/
theorem witness_CompletionsAndRetries :
    (s0.up ∧ s0.reqs = [(rq 5 .outData .issued 0 : HostReq)] ∧
      s0.inSram (rq 5 .outData .issued 0 : HostReq).slice = false ∧
      s0.slPort (rq 5 .outData .issued 0 : HostReq).slice = 0 ∧ 0 < 4 ∧
      (rq 5 .outData .issued 0 : HostReq).phase = ReqPhase.issued ∧
      (rq 5 .outData .issued 0 : HostReq).purpose = Purpose.outData ∧ (rq 5 .outData .issued 0 : HostReq).ctx = 5 ∧
      s0.ctxs = [(5, ctx6)] ∧ ctx6.op = some op6 ∧
      Option.map Prod.fst (segAt op6.pos.segs op6.buf.length) = some (rq 5 .outData .issued 0 : HostReq).addr ∧
      op6.pos.next = none ∧ (List.replicate 8 7 : List Byte).length = (rq 5 .outData .issued 0 : HostReq).len ∧
      s0.writes = [] ∧ (op6.remain ≤ op6.buf.length + 8 ∨ op6.result ≠ none ∨ op6.stage ≠ .queued)) ∧
    (s0.up ∧ s0.reqs = [(rq 5 .outData .issued 0 : HostReq)] ∧
      s0.inSram (rq 5 .outData .issued 0 : HostReq).slice = false ∧
      s0.slPort (rq 5 .outData .issued 0 : HostReq).slice = 0 ∧ 0 < 4 ∧
      (rq 5 .outData .issued 0 : HostReq).phase = ReqPhase.issued ∧ (rq 5 .outData .issued 0 : HostReq).fails < 3 ∧
      (rq 5 .outData .issued 0 : HostReq).unwanted = false ∧ s0.writes = []) ∧
    (s6.up ∧ s6.reqs = [(rq 5 .outData .issued 0 : HostReq)] ∧
      s6.inSram (rq 5 .outData .issued 0 : HostReq).slice = false ∧
      s6.slPort (rq 5 .outData .issued 0 : HostReq).slice = 0 ∧ 0 < 4 ∧ 3 ≠ (rq 5 .outData .issued 0 : HostReq).tag ∧
      s6.present 0 ∧ s6.flag (Reg.fltCfg (40 + 0)) FLT_CFG.EN = false) ∧
    (s6.up ∧ s6.reqs = [(rq 5 .outData .issued 0 : HostReq)] ∧
      s6.inSram (rq 5 .outData .issued 0 : HostReq).slice = false ∧
      s6.slPort (rq 5 .outData .issued 0 : HostReq).slice = 0 ∧ 0 < 4 ∧ s6.timed (rq 5 .outData .issued 0 : HostReq) ∧
      (rq 5 .outData .issued 0 : HostReq).fails < 3 ∧ (rq 5 .outData .issued 0 : HostReq).unwanted = false ∧
      s6.writes = [] ∧ s6.flag (Reg.fltCfg (40 + 0)) FLT_CFG.EN = false) ∧
    (s1.up ∧ s1.reqs = [(rq 5 .outData .failed 1 : HostReq)] ∧
      s1.inSram (rq 5 .outData .failed 1 : HostReq).slice = false ∧
      s1.slPort (rq 5 .outData .failed 1 : HostReq).slice = 0 ∧ 0 < 4 ∧
      s1.timed (rq 5 .outData .failed 1 : HostReq) = false) ∧
    (s5.up ∧ s5.reqs = [(rq 5 .outData .failed 1 : HostReq)] ∧
      s5.inSram (rq 5 .outData .failed 1 : HostReq).slice = false ∧
      s5.slPort (rq 5 .outData .failed 1 : HostReq).slice = 0 ∧ 0 < 4 ∧
      s5.now < (rq 5 .outData .failed 1 : HostReq).since + 25) ∧
    (s1.up ∧ s1.reqs = [(rq 5 .outData .failed 1 : HostReq)] ∧
      s1.inSram (rq 5 .outData .failed 1 : HostReq).slice = false ∧
      s1.slPort (rq 5 .outData .failed 1 : HostReq).slice = 0 ∧ 0 < 4 ∧
      (rq 5 .outData .failed 1 : HostReq).phase = ReqPhase.failed ∧ (rq 5 .outData .failed 1 : HostReq).fails < 4 ∧
      (rq 5 .outData .failed 1 : HostReq).since + 25 ≤ s1.now ∧ s1.writes = [] ∧
      s1.canIssue { tag := s1.tag, slice := (rq 5 .outData .failed 1 : HostReq).slice, ctx := (rq 5 .outData .failed 1 : HostReq).ctx, addr := (rq 5 .outData .failed 1 : HostReq).addr, len := (rq 5 .outData .failed 1 : HostReq).len, purpose := (rq 5 .outData .failed 1 : HostReq).purpose, phase := ReqPhase.waiting, fails := (rq 5 .outData .failed 1 : HostReq).fails, since := (rq 5 .outData .failed 1 : HostReq).since, cto := (rq 5 .outData .failed 1 : HostReq).cto }) := by and_intros <;> decide +kernel

end Sys2Proof.Tests.WCompletion

namespace Sys2Proof.Tests.WMdma
open Sys2Proof.Machine
set_option Elab.async false

def run0 : MdmaRun := { ch := 2, src := 0x11000010, dst := 0x11000020, left := 3, moved := 5, esize := 0, burst := 0, req := 1, sinc := true, dinc := true, chain := none, ie := true, fails := 0, failW := false, stop := false }
def rn (x : MdmaRun) (s : State) : State := { setF (.mdmaSts 2) MDMA_STS.BUSY 1 (setF (.mdmaSts 2) MDMA_STS.RUN 1 s) with mdmaRun := some x, sramA := [(0x10, 0xAB)] }
def qd (s : State) : State := { setF (.mdmaSts 2) MDMA_STS.BUSY 1 s with mdmaQ := [2, 5] }
def s2 : State := setF (.mdmaCtl 2) MDMA_CTL.CHAIN 1 State.reset
def s3 : State := setF (.mdmaSts 2) MDMA_STS.HALT 1 State.reset
def s4 : State := qd State.reset
def s5 : State := qd ((setF (.mdmaCtl 2) MDMA_CTL.CHAIN 1 State.reset).wr (.mdmaDesc 2) 0x11000100)
def s6 : State := { qd (setF (.mdmaCtl 2) MDMA_CTL.CHAIN 1 State.reset) with mdmaFails := 3 }
def s9 : State := rn (run0) State.reset
def s10 : State := rn ({ run0 with left := 0, fails := 3 }) State.reset
def s11 : State := rn ({ run0 with left := 0 }) State.reset
def s12 : State := rn ({ run0 with stop := true }) State.reset
def s13 : State := rn ({ run0 with stop := true, fails := 3, failW := true }) State.reset

/-- States and operands that meet the hypotheses of `ServiceDma`, one line for each clause. -/
theorem witness_ServiceDma :
    (2 < 8 ∧ s2.up ∧ s2.accepts .ma (Reg.mdmaCtl 2) ∧ s2.mdmaBusy 2 = false ∧
      s2.flag (Reg.mdmaSts 2) MDMA_STS.HALT = false ∧
      (s2.flag (Reg.mdmaCtl 2) MDMA_CTL.CHAIN = true ∨ s2.mdmaRegsOk 2 = true)) ∧
    (2 < 8 ∧ State.reset.up ∧ State.reset.accepts .ma (Reg.mdmaCtl 2) ∧ State.reset.mdmaBusy 2 = false ∧
      State.reset.flag (Reg.mdmaSts 2) MDMA_STS.HALT = false ∧ State.reset.flag (Reg.mdmaCtl 2) MDMA_CTL.CHAIN = false ∧
      State.reset.mdmaRegsOk 2 = false) ∧
    (2 < 8 ∧ s3.up ∧ s3.accepts .ma (Reg.mdmaCtl 2) ∧
      (s3.mdmaBusy 2 = true ∨ s3.flag (Reg.mdmaSts 2) MDMA_STS.HALT = true)) ∧
    (2 < 8 ∧ s9.up ∧ s9.accepts .ma (Reg.mdmaCtl 2) ∧ s9.mdmaRun = some run0 ∧ run0.ch = 2) ∧
    (2 < 8 ∧ s4.up ∧ s4.accepts .ma (Reg.mdmaCtl 2) ∧ s4.mdmaRun = none ∧ 2 ∈ s4.mdmaQ) ∧
    (2 < 8 ∧ s4.up ∧ s4.mdmaRun = none ∧ s4.mdmaQ = 2 :: ([5] : List Nat) ∧
      s4.flag (Reg.mdmaCtl 2) MDMA_CTL.CHAIN = false) ∧
    (2 < 8 ∧ s5.up ∧ s5.mdmaRun = none ∧ s5.mdmaQ = 2 :: ([5] : List Nat) ∧ s5.flag (Reg.mdmaCtl 2) MDMA_CTL.CHAIN ∧
      s5.sramA = [] ∧ 285212672 ≤ s5.mdmaDesc 2 ∧ s5.mdmaDesc 2 + 32 ≤ 286261248) ∧
    (2 < 8 ∧ s9.up ∧ s9.mdmaRun = some run0 ∧ run0.stop = false ∧ run0.esize = 0 ∧ run0.burst = 0 ∧ run0.sinc ∧
      run0.dinc ∧ 0 < run0.left ∧ (0x10) < 2 ^ 20 ∧ (0x20) < 2 ^ 20 ∧ run0.src = 285212672 + (0x10) ∧
      run0.dst = 285212672 + (0x20)) ∧
    (2 < 8 ∧ s9.up ∧ s9.mdmaRun = some run0 ∧ (run0.fails < 3 ∨ run0.failW ≠ s9.failsWrite run0)) ∧
    (2 < 8 ∧ s10.up ∧ s10.mdmaRun = some ({ run0 with left := 0, fails := 3 } : MdmaRun) ∧
      (3 < 3 ∨ ({ run0 with left := 0, fails := 3 } : MdmaRun).failW ≠ s10.failsWrite { run0 with left := 0, fails := 3 })) ∧
    (2 < 8 ∧ s5.up ∧ s5.mdmaRun = none ∧ s5.mdmaQ = 2 :: ([5] : List Nat) ∧ s5.flag (Reg.mdmaCtl 2) MDMA_CTL.CHAIN ∧
      s5.mdmaFails < 3) ∧
    (2 < 8 ∧ s6.up ∧ s6.mdmaRun = none ∧ s6.mdmaQ = 2 :: ([5] : List Nat) ∧ s6.flag (Reg.mdmaCtl 2) MDMA_CTL.CHAIN ∧
      3 ≤ s6.mdmaFails) ∧
    (2 < 8 ∧ s13.up ∧ s13.mdmaRun = some ({ run0 with stop := true, fails := 3, failW := true } : MdmaRun) ∧
      ({ run0 with fails := 3 } : MdmaRun).ch = 2 ∧ 3 ≤ ({ run0 with fails := 3 } : MdmaRun).fails ∧
      true = s13.failsWrite { run0 with stop := true, fails := 3, failW := true } ∧
      ({ run0 with fails := 3 } : MdmaRun).chain = none) ∧
    (2 < 8 ∧ s11.up ∧ s11.mdmaRun = some ({ run0 with left := 0 } : MdmaRun) ∧
      ({ run0 with left := 0 } : MdmaRun).ch = 2 ∧ ({ run0 with left := 0 } : MdmaRun).chain = none ∧
      ({ run0 with left := 0 } : MdmaRun).stop = false ∧ ({ run0 with left := 0 } : MdmaRun).left = 0) ∧
    (2 < 8 ∧ s12.up ∧ s12.mdmaRun = some ({ run0 with stop := true } : MdmaRun) ∧
      ({ run0 with stop := true } : MdmaRun).ch = 2 ∧ ({ run0 with stop := true } : MdmaRun).chain = none ∧
      ({ run0 with stop := true } : MdmaRun).stop) := by and_intros <;> decide +kernel

end Sys2Proof.Tests.WMdma

namespace Sys2Proof.Tests.WDomains
open Sys2Proof.Machine
set_option Elab.async false

def ds (d st : Nat) (s : State) : State := setF (.pwrSts d) PWR_STS.STATE st s
def dm (d : Nat) (g : Dom → Dom) (s : State) : State := s.modDom d g
def dz (s : State) : State := { s with engs := [(0, ⟨none, true, false, false⟩), (1, ⟨none, true, false, false⟩)] }
def s1 : State := checkOff 49 State.reset
def s3 : State := dz (ds 0 1 State.reset)
def s4 : State := ds 0 dRetention State.reset
def s5 : State := ds 0 2 State.reset
def s6 : State := dm 0 (fun x => { x with step := 4, target := 1 }) (ds 0 2 State.reset)
def s7 : State := dm 83 (fun x => { x with step := 1, target := 2 }) (ds 83 dEntering State.reset)
def s8 : State := ds 0 dReturning State.reset
def s9 : State := setF (.pwrSts 0) PWR_STS.RSTEP 3 (ds 0 dReturning State.reset)
def s10 : State := checkOff 55 (ds 0 dReturning State.reset)
def s11 : State := ds 103 dReturning (ds 83 dOff State.reset)
def s12 : State := setF .pwrWline PWR_WLINE.EN 8 (ds 83 dOff State.reset)
def s13 : State := setF .pwrWline PWR_WLINE.EN 0 (ds 83 dOff State.reset)
def s15 : State := setF .pwrWvbus PWR_WVBUS.EN 8 (ds 139 dOff State.reset)
def s19 : State := setF (.pwrCtl 0) PWR_CTL.DWAKE 0 State.reset
def s20 : State := setF (.pwrCtl 139) PWR_CTL.DWAKE 1 (ds 139 dPending State.reset)
def s21 : State := setF (.pwrCtl 139) PWR_CTL.DWAKE 1 (dm 139 (fun x => { x with pendAt := 5 }) (ds 139 dPending State.reset))
def s22 : State := { dm 0 (fun x => { x with busy := true }) State.reset with aon := { State.reset.aon with clockCount := 10 } }

/-- States and operands that meet the hypotheses of `PowerDomains`, one line for each clause. -/
theorem witness_PowerDomains :
    (0 < 168 ∧ State.reset.up ∧ State.reset.accepts .ma (Reg.pwrCtl 0) ∧ State.reset.domSt 0 = dOn ∧ (1 = 1 ∨ 1 = 2) ∧
      State.reset.entryRefused 0 1 = false) ∧
    (163 < 168 ∧ s1.up ∧ s1.accepts .ma (Reg.pwrCtl 163) ∧ s1.domSt 163 = dOn ∧ (1 = 1 ∨ 1 = 2) ∧
      s1.entryRefused 163 1 ∧ s1.flag (Reg.fltCfg 49) FLT_CFG.EN = false) ∧
    (0 < 168 ∧ s4.up ∧ s4.accepts .ma (Reg.pwrCtl 0) ∧ (s4.domSt 0 = dRetention ∨ s4.domSt 0 = dOff) ∧ s4.neededOn 0) ∧
    (0 < 168 ∧ s3.up ∧ s3.domSt 0 = dPending ∧ s3.entryReady 0) ∧
    (0 < 168 ∧ State.reset.up ∧ (State.reset.domSt 0 ≠ dPending ∨ State.reset.entryReady 0 = false)) ∧
    (0 < 168 ∧ s5.up ∧ s5.domSt 0 = dEntering ∧ (s5.dom 0).wake = none ∧ (s5.dom 0).step < 4 ∧ (s5.dom 0).step ≠ 1) ∧
    (83 < 168 ∧ s7.up ∧ s7.domSt 83 = dEntering ∧ (s7.dom 83).wake = none ∧ (s7.dom 83).step < 4 ∧ (s7.dom 83).step = 1 ∧
      Reg.portCtl 3 ∈ savedRegs 83) ∧
    (0 < 168 ∧ s6.up ∧ s6.domSt 0 = dEntering ∧ (s6.dom 0).wake = none ∧ (s6.dom 0).step = 4) ∧
    (0 < 168 ∧ s8.up ∧ s8.domSt 0 = dReturning ∧ s8.neededOn 0 ∧ s8.getF (Reg.pwrSts 0) PWR_STS.RSTEP < 3) ∧
    (0 < 168 ∧ s9.up ∧ s9.domSt 0 = dReturning ∧ s9.neededOn 0 ∧ s9.getF (Reg.pwrSts 0) PWR_STS.RSTEP = 3) ∧
    (103 < 168 ∧ s11.up ∧ s11.domSt 103 = dReturning ∧ s11.neededOn 103 = false) ∧
    (0 < 168 ∧ s10.up ∧ s10.domSt 0 = dReturning ∧ s10.flag (Reg.fltCfg 55) FLT_CFG.EN = false) ∧
    (139 < 168 ∧ s15.up ∧ (s15.flag (Reg.pwrCtl 139) PWR_CTL.DWAKE = true ∨ 139 = 160 ∨ 139 = 161) ∧ s15.demanded 139 ∧
      (s15.domSt 139 = dRetention ∨ s15.domSt 139 = dOff) ∧ s15.neededOn 139) ∧
    (139 < 168 ∧ s20.up ∧ s20.flag (Reg.pwrCtl 139) PWR_CTL.DWAKE ∧ s20.demanded 139 ∧ s20.domSt 139 = dPending ∧
      s20.neededOn 139 ∧ (s20.dom 139).pendAt = s20.now) ∧
    (139 < 168 ∧ s21.up ∧ s21.flag (Reg.pwrCtl 139) PWR_CTL.DWAKE ∧ s21.demanded 139 ∧ s21.domSt 139 = dPending ∧
      s21.neededOn 139 ∧ (s21.dom 139).pendAt ≠ s21.now) ∧
    (0 < 168 ∧ s19.up ∧ s19.flag (Reg.pwrCtl 0) PWR_CTL.DWAKE = false ∧ 0 ≠ 160 ∧ 0 ≠ 161) ∧
    (0 < 168 ∧ s11.up ∧ 3 < 20 ∧ (s11.domSt (80 + 3) = dRetention ∨ s11.domSt (80 + 3) = dOff) ∧
      s11.domSt (116 + 3) = dOn ∧ (s11.getF Reg.pwrWline PWR_WLINE.EN).testBit 3) ∧
    (0 < 168 ∧ s13.up ∧ 3 < 20 ∧ (s13.domSt (80 + 3) = dRetention ∨ s13.domSt (80 + 3) = dOff) ∧
      s13.domSt (116 + 3) = dOn ∧ (s13.getF Reg.pwrWline PWR_WLINE.EN).testBit 3 = false) ∧
    (0 < 168 ∧ s12.up ∧ 3 < 16 ∧ (s12.domSt (80 + 3) = dRetention ∨ s12.domSt (80 + 3) = dOff) ∧
      s12.domSt (116 + 3) = dOn ∧ s12.domSt (100 + 3) = dOn ∧ (s12.getF Reg.pwrWcompat PWR_WCOMPAT.LFPS).testBit 3) ∧
    (0 < 168 ∧ s15.up ∧ 3 < 4 ∧ (s15.domSt (136 + 3) = dRetention ∨ s15.domSt (136 + 3) = dOff) ∧ s15.domSt 163 = dOn ∧
      (s15.getF Reg.pwrWvbus PWR_WVBUS.EN).testBit 3) ∧
    (0 < 168 ∧ s15.up ∧ 3 < 4 ∧ (s15.domSt (136 + 3) = dRetention ∨ s15.domSt (136 + 3) = dOff) ∧ s15.domSt 163 = dOn ∧
      (s15.getF Reg.pwrWcompat PWR_WCOMPAT.EI).testBit 3) ∧
    (0 < 168 ∧ s22.up ∧ s22.domSt 0 = dOn ∧ (s22.dom 0).busy ∧
      (s22.dom 0).last + 25 * max 1 (s22.dom 0).hold ≤ s22.now) ∧
    (0 < 168 ∧ State.reset.up ∧ State.reset.now < (State.reset.dom 0).last + 25 * max 1 (State.reset.dom 0).hold) := by and_intros <;> decide +kernel

end Sys2Proof.Tests.WDomains

namespace Sys2Proof.Tests.WPredict
open Sys2Proof.Machine
set_option Elab.async false

def pst (n st sst : Nat) (s : State) : State := setF (.portCtl n) PORT_CTL.PP 1 (setF (.portSts n) PORT_STS.STATE st (setF (.portSts n) PORT_STS.SSTATE sst s))
def p0 (s : State) : State := setF (.portCfg 3) PORT_CFG.U2_EN 1 (setF (.portCfg 3) PORT_CFG.U1_EN 1 (setF (.portCfg 3) PORT_CFG.L1_EN 1 (setF (.portLink 3) PORT_LINK.LSTATE 1 (setF (.portLink 3) PORT_LINK.SLSTATE 1 (pst 3 5 5 s)))))
def pr (b : Bool) (p : Pred) (s : State) : State := { p0 s with preds := [(pKey 3 b, p)] }
def on (s : State) : State := s.wr .pwrAvsPol ((PWR_AVS_POL.EN.put 1 (PWR_AVS_POL.CEIL.put 720 (PWR_AVS_POL.FLOOR.put 650 0))))
def av (g : Avs → Avs) (s : State) : State := { s with avs := g s.avs }
def w1 : Word32 := (((PWR_AVS_POL.EN.put 1 (PWR_AVS_POL.CEIL.put 720 (PWR_AVS_POL.FLOOR.put 650 0)))).setWidth 32)
def s1 : State := av (fun a => { a with settling := some 8, goal := 2 }) (on base)
def s3 : State := pr true { Pred.init with idle := some 0, choice := 2 } base
def s5 : State := pr true { Pred.init with idle := some 0, choice := 0, deep := 3 } base
def s6 : State := pr false { Pred.init with idle := some 0, choice := 1, besl := 4 } base
def s10 : State := av (fun a => { a with settling := some 0, goal := 2 }) (on base)
def s11 : State := av (fun a => { a with writing := true }) (on base)
def s13 : State := setF (.pwrSts 166) PWR_STS.STATE 4 (on base)
def s14 : State := av (fun a => { a with writing := true }) s13
def s12 : State := checkOff 56 (av (fun a => { a with writing := true, fails := 3, confirmed := 700, need := [720, 700, 680] }) (on base))

/-- States and operands that meet the hypotheses of `PredictorsAndVoltage`, one line for each clause. -/
theorem witness_PredictorsAndVoltage :
    (s3.up ∧ 3 < 16 ∧
      ((fun k => (s3.pred (pKey 3 true)).asked = false ∧ s3.pathSt 3 true = pEnabled ∧ s3.domLive (80 + 3) = true ∧ (s3.path 3 true).quiet = false ∧ s3.getF (Reg.portLink 3) PORT_LINK.SLSTATE = 1 ∧ (k = 2 ∨ k = 3) ∧ s3.cfgFlag 3 (if k = 3 then PORT_CFG.U2_EN else PORT_CFG.U1_EN) = true ∧ s3.dueWithin 3 true (s3.getF (Reg.pwrLpex 3) (if k = 3 then PWR_LPEX.U2EL else PWR_LPEX.U1EL)) = false) (s3.pred (pKey 3 true)).choice) ∧
      (s3.pred (pKey 3 true)).idleFor s3.now (s3.pred (pKey 3 true)).delay) ∧
    (base.up ∧ 3 < 16 ∧
      (base.pred (pKey 3 true)).idleFor base.now (base.pred (pKey 3 true)).delay = false) ∧
    (s5.up ∧ 3 < 16 ∧
      ((fun k => (s5.pred (pKey 3 true)).asked = false ∧ s5.pathSt 3 true = pEnabled ∧ s5.domLive (80 + 3) = true ∧ (s5.path 3 true).quiet = false ∧ s5.getF (Reg.portLink 3) PORT_LINK.SLSTATE = 1 ∧ (k = 2 ∨ k = 3) ∧ s5.cfgFlag 3 (if k = 3 then PORT_CFG.U2_EN else PORT_CFG.U1_EN) = true ∧ s5.dueWithin 3 true (s5.getF (Reg.pwrLpex 3) (if k = 3 then PWR_LPEX.U2EL else PWR_LPEX.U1EL)) = false) (s5.pred (pKey 3 true)).deep) ∧
      (s5.pred (pKey 3 true)).idleFor s5.now (s5.pred (pKey 3 true)).force ∧ (s5.pred (pKey 3 true)).bounded = false) ∧
    (s6.up ∧ 3 < 20 ∧ (s6.pred (pKey 3 false)).idleFor s6.now (s6.pred (pKey 3 false)).delay ∧
      (s6.pred (pKey 3 false)).asked = false ∧ (s6.pred (pKey 3 false)).choice = 1 ∧ s6.pathSt 3 false = pEnabled ∧
      s6.domLive (80 + 3) ∧ (s6.path 3 false).quiet = false ∧ s6.cfgFlag 3 PORT_CFG.L1_EN ∧
      (s6.path 3 false).l1Stall = false ∧ s6.getF (Reg.portLink 3) PORT_LINK.LSTATE = 1 ∧
      s6.dueWithin 3 false (beslTime (s6.pred (pKey 3 false)).besl + 50) = false) ∧
    (s1.up ∧ s1.avsOn ∧ s1.pinsOn 166 ∧ s1.cstep = 0 ∧
      s1.getF Reg.pwrAvsPol PWR_AVS_POL.FLOOR ≤ ([700,690,680,670,660,650] : List Nat).getD 0 0 ∧
      ([700,690,680,670,660,650] : List Nat).getD 0 0 ≤ s1.getF Reg.pwrAvsPol PWR_AVS_POL.CEIL) ∧
    (base.up ∧ base.avsOn = false) ∧
    (s13.up ∧ s13.avsOn ∧ s13.pinsOn 166 = false) ∧
    (s14.up ∧ s14.avs.writing ∧ s14.avs.fails < 3 ∧ s14.pinsOn 166 = false) ∧
    (s10.up ∧ s10.avsOn ∧ s10.avs.settling = some 0 ∧ s10.avs.goal ≤ 6 ∧ 0 ≤ s10.now) ∧
    (s1.up ∧ s1.avsOn ∧ s1.avs.settling = some 8 ∧ s1.avs.goal ≤ 6 ∧ s1.now < 8) ∧
    (s11.up ∧ s11.avs.writing ∧ s11.avs.fails < 3) ∧
    (s12.up ∧ s12.avs.writing ∧ 3 ≤ s12.avs.fails ∧ s12.avs.confirmed < 1024 ∧
      s12.flag (Reg.fltCfg 56) FLT_CFG.EN = false) ∧
    (base.up ∧ base.accepts .ma Reg.pwrAvsPol ∧
      (PWR_AVS_POL.CEIL.get (BitVec.setWidth 64 (0 : Word32)) < PWR_AVS_POL.FLOOR.get (BitVec.setWidth 64 (0 : Word32)) ∨ PWR_AVS_POL.CEIL.get (BitVec.setWidth 64 (0 : Word32)) < 650 ∨ 850 < PWR_AVS_POL.CEIL.get (BitVec.setWidth 64 (0 : Word32)) ∨ PWR_AVS_POL.FLOOR.get (BitVec.setWidth 64 (0 : Word32)) < 650)) ∧
    (base.up ∧ base.accepts .ma Reg.pwrAvsPol ∧
      PWR_AVS_POL.FLOOR.get (BitVec.setWidth 64 w1) ≤ PWR_AVS_POL.CEIL.get (BitVec.setWidth 64 w1) ∧
      PWR_AVS_POL.CEIL.get (BitVec.setWidth 64 w1) ≤ 850 ∧ 650 ≤ PWR_AVS_POL.FLOOR.get (BitVec.setWidth 64 w1)) := by and_intros <;> decide +kernel

end Sys2Proof.Tests.WPredict

namespace Sys2Proof.Tests.WPairs
open Sys2Proof.Machine
set_option Elab.async false

def rdy := setF .glbMgtSts GLB_MGT_STS.SBY_RDY 1 State.reset
def data : List Byte := leBytes 8 0x1122334455667788
/-- Bank A of MA holds a commit of 8 bytes with sequence 1 and the CRC `c`. -/
def bankOf (c : Nat) : State :=
  { State.reset with
    pairA := { Pair.init with resume := true }
    sramA := data.zipIdx.map (fun p => (bankBase false + p.2, p.1)) ++
      (leBytes 8 (2 ^ 32 + 8) ++ leBytes 8 c).zipIdx.map (fun p => (commitAt false + p.2, p.1)) }
def bank : State := bankOf (Config.crc32 data).toNat
theorem bank_bytes (c : Nat) : (bankOf c).sramBytes false (bankBase false) 8 = data := rfl
theorem bank_head (c : Nat) : (bankOf c).sramBytes false (commitAt false) 8 = leBytes 8 (2 ^ 32 + 8) := rfl
theorem bank_crc (c : Nat) : (bankOf c).sramBytes false (commitAt false + 8) 8 = leBytes 8 c := by
  simp [State.sramBytes, State.sram, bankOf, List.range_succ, FMap.find, leBytes, data, List.zipIdx, commitAt, bankBase]
theorem head_value : leValue (leBytes 8 (2 ^ 32 + 8)) = 2 ^ 32 + 8 := by decide
theorem crc_value (c : Word32) : leValue (leBytes 8 c.toNat) % 2 ^ 32 = c.toNat := by
  have := c.isLt
  simp [leBytes, leValue]
  omega
theorem bank_commit : bank.commitOk false false := by
  simp only [bank, State.commitOk, State.commitOf, bank_head, bank_crc, head_value, crc_value]
  rw [show (2 ^ 32 + 8) % 2 ^ 32 = 8 from rfl, bank_bytes]
  simp
theorem bank_for : bank.bankFor bank.activeMb = some false := by
  have e : bank.activeMb = false := by decide +kernel
  have f : bank.commitOk false true = false := by decide +kernel
  rw [e]
  simp only [State.bankFor, bank_commit, f]
def s2 : State := { State.reset with pairA := { Pair.init with halted := true } }
def s4 : State := { State.reset with pairA := { Pair.init with resume := true } }
def s5 : State := { rdy with wdt := some 0 }
def s6 : State := { State.reset with wdt := some 0 }
def s8 : State := setF .glbMgtSts GLB_MGT_STS.NOMGT 1 State.reset
def s10 : State := checkOff 46 rdy
def s11 : State := checkOff 46 (checkOff 47 State.reset)

/-- States and operands that meet the hypotheses of `ManagementPairs`, one line for each clause. -/
theorem witness_ManagementPairs :
    (s2.up ∧ (s2.pair false).halted) ∧
    (s10.up ∧ (s10.pair false).halted = false ∧
      s10.flag (Reg.fltCfg (if false = true then 47 else 46)) FLT_CFG.EN = false ∧ false = s10.activeMb ∧ s10.sbyRdy) ∧
    (s11.up ∧ (s11.pair false).halted = false ∧
      s11.flag (Reg.fltCfg (if false = true then 47 else 46)) FLT_CFG.EN = false ∧ false = s11.activeMb ∧
      s11.sbyRdy = false) ∧
    (s11.up ∧ (s11.pair true).halted = false ∧
      s11.flag (Reg.fltCfg (if true = true then 47 else 46)) FLT_CFG.EN = false ∧ true ≠ s11.activeMb) ∧
    (s4.up ∧ (s4.pair s4.activeMb).resume ∧ s4.domOn (if s4.activeMb = true then 161 else 160) ∧
      s4.bankFor s4.activeMb = none) ∧
    (bank.up ∧ (bank.pair bank.activeMb).resume ∧ bank.domOn (if bank.activeMb = true then 161 else 160) ∧
      bank.bankFor bank.activeMb = some false) ∧
    (State.reset.up ∧ (State.reset.pair State.reset.activeMb).resume = false) ∧
    (State.reset.up ∧ State.reset.accepts .mb Reg.glbMgtCtl ∧ isPair .mb ∧ State.reset.isActive .mb = false) ∧
    (s8.up ∧ s8.accepts .ma Reg.glbMgtCtl ∧ s8.isActive .ma ∧ s8.nomgt) ∧
    (rdy.up ∧ rdy.accepts .ma Reg.glbMgtCtl ∧ rdy.isActive .ma ∧ rdy.sbyRdy) ∧
    (State.reset.up ∧ State.reset.accepts .ma Reg.glbMgtCtl ∧
      (State.reset.isActive .ma = false ∨ State.reset.sbyRdy = false)) ∧
    (State.reset.up ∧ State.reset.accepts .ma Reg.glbMgtCtl ∧ State.reset.isActive .ma) ∧
    (State.reset.up ∧ State.reset.accepts .ma Reg.glbMgtCtl ∧ isPair .ma) ∧
    (State.reset.up ∧ State.reset.accepts .ma Reg.glbMgtWdt ∧ State.reset.isActive .ma) ∧
    (State.reset.up ∧ State.reset.accepts .mb Reg.glbMgtWdt ∧ isPair .mb ∧ State.reset.isActive .mb = false) ∧
    (State.reset.up ∧ State.reset.accepts (.dma 0) Reg.glbMgtWdt ∧ isPair (.dma 0) = false) ∧
    (s5.up ∧ s5.wdt = some 0 ∧ 0 + s5.wdtPeriod ≤ s5.now ∧ s5.sbyRdy) ∧
    (s6.up ∧ s6.wdt = some 0 ∧ 0 + s6.wdtPeriod ≤ s6.now ∧ s6.sbyRdy = false) ∧
    (State.reset.up ∧
      (State.reset.wdt = none ∨ ∃ from_, State.reset.wdt = some from_ ∧ State.reset.now < from_ + State.reset.wdtPeriod)) := by
  and_intros <;> first | exact bank_for | decide +kernel

end Sys2Proof.Tests.WPairs

namespace Sys2Proof.Tests.WCheckpoint
open Sys2Proof.Machine
set_option Elab.async false

def k0 : Ckpt := ⟨false, 3, 64, true, 0, []⟩
def s2 : State := { (State.reset.sramFill false 0x80000 (List.replicate 64 7)) with ckpt := some k0 }
def s3 : State := { State.reset with cyc := ⟨1, [], [], [], true⟩ }
def s4 : State := { s2 with ckpt := some { k0 with begun := false } }
def s8 : State := setF .glbFwmbCsr GLB_FWMB_CSR.HBUSY 1 hostUp

/-- States and operands that meet the hypotheses of `CheckpointsAndMailbox`, one line for each clause. -/
theorem witness_CheckpointsAndMailbox :
    (State.reset.up ∧ State.reset.accepts .ma Reg.glbMgtCkpt ∧ State.reset.isActive .ma ∧ 1 < 4096 ∧
      State.reset.cycle.trig = false ∧ State.reset.flag Reg.glbMgtCkpt GLB_MGT_CKPT.BUSY = false ∧ 0 < 1 ∧ 1 < 2048 ∧ State.reset.stbyOn) ∧
    (State.reset.up ∧ State.reset.accepts .ma Reg.glbMgtCkpt ∧ State.reset.isActive .ma ∧ 0 < 4096 ∧
      State.reset.cycle.trig = false ∧ (State.reset.flag Reg.glbMgtCkpt GLB_MGT_CKPT.BUSY = true ∨ 0 = 0 ∨ 2047 < 0)) ∧
    (s3.up ∧ s3.accepts .ma Reg.glbMgtCkpt ∧ s3.isActive .ma ∧ 1 < 4096 ∧ s3.cycle.trig) ∧
    (s2.up ∧ s2.ckpt = some k0 ∧ k0.begun ∧ k0.bytes ≤ 131008) ∧
    (s4.up ∧ s4.ckpt = some { k0 with begun := false } ∧ ({ k0 with begun := false } : Ckpt).begun = false) ∧
    (State.reset.up ∧ State.reset.ckpt = none) ∧
    (State.reset.up ∧ State.reset.accepts .ma Reg.tlmCtl) ∧
    (hostUp.up ∧ hostUp.accepts (.func 0 0) Reg.glbFwmbCsr ∧ hostUp.isMgrFunc (.func 0 0) ∧
      (hostUp.flag Reg.glbFwmbCsr GLB_FWMB_CSR.HBUSY) = false) ∧
    (s8.up ∧ s8.accepts (.func 0 0) Reg.glbFwmbCsr ∧ s8.isMgrFunc (.func 0 0) ∧
      (s8.flag Reg.glbFwmbCsr GLB_FWMB_CSR.HBUSY)) ∧
    (State.reset.up ∧ State.reset.accepts .ma Reg.glbFwmbCsr ∧ State.reset.isActive .ma ∧
      State.reset.flag Reg.glbFwmbCsr GLB_FWMB_CSR.IE = false) := by and_intros <;> decide +kernel

end Sys2Proof.Tests.WCheckpoint

namespace Sys2Proof.Tests.WDetectors
open Sys2Proof.Machine
set_option Elab.async false

def rdy := setF .glbMgtSts GLB_MGT_STS.SBY_RDY 1 base
def s1 : State := checkOff 57 (checkOff 58 base)
def s2 : State := atThird 57 base
def s4 : State := checkOff 45 base
def s5 : State := atThird 45 (atThird 44 base)
def s6 : State := checkOff 44 rdy
def s7 : State := setF .fltAlive FLT_ALIVE.HALT 1 base

/-- States and operands that meet the hypotheses of `AliveAndDetectors`, one line for each clause. -/
theorem witness_AliveAndDetectors :
    (s7.up ∧ s7.aliveStopped) ∧
    (base.up ∧ base.aliveStopped = false) ∧
    (base.up ∧ base.accepts .ma Reg.fltAlive) ∧
    (s1.up ∧ 0 < 64 ∧ (s1.flag (Reg.fltCfg 57) FLT_CFG.EN = false) ∧ (s1.flag (Reg.fltCfg 58) FLT_CFG.EN = false)) ∧
    (s2.up ∧ 0 < 64 ∧
      (s2.flag (Reg.fltCfg 57) FLT_CFG.EN = true ∧ s2.fltState 57 = 0 ∧ 2 ≤ s2.getF (Reg.fltCfg 57) FLT_CFG.N) ∧
      signed8 (s2.getF Reg.fltTemp FLT_TEMP.WARN) < (104 : Int) ∧
      (104 : Int) ≤ signed8 (s2.getF Reg.fltTemp FLT_TEMP.CRIT)) ∧
    (base.up ∧ 0 < 7 ∧ 0 < 4096) ∧
    (s4.up ∧ (s4.flag (Reg.fltCfg 45) FLT_CFG.EN = false)) ∧
    (base.up ∧
      (base.flag (Reg.fltCfg 45) FLT_CFG.EN = true ∧ base.fltState 45 = 0 ∧ 2 ≤ base.getF (Reg.fltCfg 45) FLT_CFG.N) ∧
      0 < 10) ∧
    (s5.up ∧ (s5.flag (Reg.fltCfg 44) FLT_CFG.EN = true ∧ s5.fltState 44 = 0 ∧ 2 ≤ s5.getF (Reg.fltCfg 44) FLT_CFG.N) ∧
      0 ≠ if s5.activeMb = true then 9 else 8) ∧
    (s6.up ∧ (s6.flag (Reg.fltCfg 44) FLT_CFG.EN = false) ∧ s6.sbyRdy) := by and_intros <;> decide +kernel

end Sys2Proof.Tests.WDetectors

namespace Sys2Proof.Tests.WFault
open Sys2Proof.Machine
set_option Elab.async false

def st (i v : Nat) (s : State) := setF (.fltSts i) FLT_STS.STATE v s
def fl (i : Nat) (x : FltSrc) (s : State) := s.modFlt i (fun _ => x)
def x1 : FltSrc := { FltSrc.init with window := some 0, entry := 4, pinned := true }
def x2 : FltSrc := { FltSrc.init with last := 0, react := 3, entry := 4, times := [0, 0] }
def late (s : State) : State := { s with aon := { s.aon with clockCount := 10000000 } }
def s1 : State := { st 5 1 (fl 5 { x1 with window := some 7 } State.reset) with aon := { State.reset.aon with clockCount := 0 } }
def s2 : State := st 5 1 (fl 5 x1 State.reset)
def s4 : State := late (st 5 2 (fl 5 x2 State.reset))
def s5 : State := late (setF .fltRcfg FLT_RCFG.K 2 (st 5 2 (fl 5 x2 State.reset)))
def s7 : State := late <| setF .fltRcfg FLT_RCFG.K 0 (st 5 2 (fl 5 { x2 with react := 0 } State.reset))
def s8 : State := late ((fl 5 { FltSrc.init with holdQuiet := some 0 } State.reset).modPort 5 (fun p => { p with holds := [5, 3] }))

/-- States and operands that meet the hypotheses of `FaultUnit`, one line for each clause. -/
theorem witness_FaultUnit :
    (5 < 64 ∧ (s2.flt 5).entry < 32 ∧ s2.up ∧ (s2.flt 5).window = some 0 ∧ 0 ≤ s2.now ∧ s2.fltState 5 = 1) ∧
    (0 < 64 ∧ (State.reset.flt 0).entry < 32 ∧ State.reset.up ∧
      ((State.reset.flt 0).window = none ∨ State.reset.fltState 0 ≠ 1 ∨ ∃ at_, (State.reset.flt 0).window = some at_ ∧ State.reset.now < at_)) ∧
    (0 < 64 ∧ (State.reset.flt 0).entry < 32 ∧ State.reset.up ∧
      State.reset.now < (State.reset.flt 0).last + State.reset.quietTime) ∧
    (5 < 64 ∧ (s4.flt 5).entry < 32 ∧ s4.up ∧ s4.fltState 5 = 2 ∧ (s4.flt 5).last + s4.quietTime ≤ s4.now ∧
      s4.fltHour 5 < s4.getF Reg.fltRcfg FLT_RCFG.K) ∧
    (5 < 64 ∧ (s5.flt 5).entry < 32 ∧ s5.up ∧ s5.fltState 5 = 2 ∧ (s5.flt 5).last + s5.quietTime ≤ s5.now ∧
      s5.getF Reg.fltRcfg FLT_RCFG.K ≤ s5.fltHour 5) ∧
    (5 < 64 ∧ (s8.flt 5).entry < 32 ∧ s8.up ∧ 5 < 20 ∧ (s8.flt 5).holdQuiet = some 0 ∧ 0 + s8.quietTime ≤ s8.now ∧
      s8.fltState 5 < 2) ∧
    (5 < 64 ∧ (s1.flt 5).entry < 32 ∧ s1.up ∧ s1.accepts .ma Reg.fltCtl ∧ 5 ≠ 48 ∧ 5 ≠ 63 ∧ s1.fltState 5 ≠ 0) ∧
    (0 < 64 ∧ (State.reset.flt 0).entry < 32 ∧ State.reset.up ∧ State.reset.accepts .ma Reg.fltCtl ∧ 0 ≠ 48 ∧ 0 ≠ 63 ∧
      State.reset.fltState 0 = 0) ∧
    (48 < 64 ∧ (State.reset.flt 48).entry < 32 ∧ State.reset.up ∧ State.reset.accepts .ma Reg.fltCtl ∧
      (48 = 48 ∨ 48 = 63)) ∧
    (20 < 64 ∧ (State.reset.flt 20).entry < 32 ∧ State.reset.up ∧ 0 < 65536 ∧ State.reset.accepts .ma Reg.fltForce ∧
      20 ≤ 20 ∧ 20 ≠ 63 ∧
      State.reset.flag (Reg.fltCfg 20) FLT_CFG.EN = true ∧ State.reset.fltState 20 = 0 ∧ 2 ≤ State.reset.getF (Reg.fltCfg 20) FLT_CFG.N) ∧
    (0 < 64 ∧ (State.reset.flt 0).entry < 32 ∧ State.reset.up ∧ 0 < 65536 ∧ State.reset.accepts .ma Reg.fltForce ∧
      0 < 20) ∧
    (63 < 64 ∧ (State.reset.flt 63).entry < 32 ∧ State.reset.up ∧ 0 < 65536 ∧ State.reset.accepts .ma Reg.fltForce ∧
      63 = 63) ∧
    (59 < 64 ∧ (State.reset.flt 59).entry < 32 ∧ State.reset.up ∧ 0 < 65536 ∧ State.reset.accepts .ma Reg.fltRaise ∧
      isPair .ma ∧ (59 = 59 ∨ 59 = 62) ∧
      State.reset.flag (Reg.fltCfg 59) FLT_CFG.EN = true ∧ State.reset.fltState 59 = 0 ∧ 2 ≤ State.reset.getF (Reg.fltCfg 59) FLT_CFG.N) ∧
    (0 < 64 ∧ (State.reset.flt 0).entry < 32 ∧ State.reset.up ∧ 0 < 65536 ∧ State.reset.accepts .ma Reg.fltRaise ∧
      (isPair .ma = false ∨ 0 ≠ 59 ∧ 0 ≠ 62)) ∧
    (0 < 64 ∧ (State.reset.flt 0).entry < 32 ∧ State.reset.up ∧ State.reset.accepts .ma (Reg.fltCfg 0) ∧
      FLT_CFG.REACT.get (BitVec.setWidth 64 (0#32 : Word32)) ∈ reactions 0) ∧
    (0 < 64 ∧ (State.reset.flt 0).entry < 32 ∧ State.reset.up ∧ State.reset.accepts .ma (Reg.fltCfg 0) ∧
      FLT_CFG.REACT.get (BitVec.setWidth 64 (0xFFFFFFFF#32 : Word32)) ∉ reactions 0) := by and_intros <;> decide +kernel

/-- States and operands that meet the hypotheses of `LatchInsteadOfRecovery`, one line for each clause. -/
theorem witness_LatchInsteadOfRecovery :
    (5 < 64 ∧ (s5.flt 5).entry < 32 ∧ s5.up ∧ s5.fltState 5 = 2 ∧ (s5.flt 5).last + s5.quietTime ≤ s5.now ∧
      s5.getF Reg.fltRcfg FLT_RCFG.K ≤ s5.fltHour 5) ∧
    (5 < 64 ∧ (s7.flt 5).entry < 32 ∧ s7.up ∧ s7.fltState 5 = 2 ∧ (s7.flt 5).last + s7.quietTime ≤ s7.now ∧
      s7.getF Reg.fltRcfg FLT_RCFG.K ≤ s7.fltHour 5 ∧ s7.getF Reg.fltRcfg FLT_RCFG.K = 0) := by decide +kernel

end Sys2Proof.Tests.WFault

namespace Sys2Proof.Tests.WInterrupt
open Sys2Proof.Machine
set_option Elab.async false

def gp (k : Nat) (g : Gpio) (s : State) := s.setGpi k g
def sr (i en pri : Nat) (s : State) := setF (.icSrc i) IC_SRC.ENA en (setF (.icSrc i) IC_SRC.ENB en (setF (.icSrc i) IC_SRC.PRI pri s))
def pd (i : Nat) (s : State) : State := { s with icPend := FMap.put false i true s.icPend }
def s4 : State := setF (.icSrc 320) IC_SRC.FILT 3 (gp 2 ⟨true,false,1⟩ base)
def s7 : State := { base with isolated := true}
def s8 : State := sr 405 1 3 (sr 407 1 5 (pd 405 (pd 407 base)))
def s9 : State := sr 407 1 5 (pd 407 base)
def s10 : State := { base with insA := [(405, true)], insB := [(309, true)] }

/-- States and operands that meet the hypotheses of `InterruptController`, one line for each clause. -/
theorem witness_InterruptController :
    (base.up ∧ base.accepts .ma Reg.icSwi) ∧
    (base.up ∧ 0 < 16 ∧ base.pinsOn 166 ∧ base.gpioFilt 0 = 0 ∧ (base.gpi 0).level ≠ true) ∧
    (s4.up ∧ 2 < 16 ∧ s4.pinsOn 166 ∧ s4.gpioFilt 2 ≠ 0) ∧
    (s7.up ∧ s7.pinsOn 166 = false) ∧
    (base.up ∧ irqExists 2 ∧ irqIsPin 2 = false ∧ base.accepts .ma (Reg.icSrc 2)) ∧
    (s8.up ∧ s8.accepts (if false = true then Requester.mb else Requester.ma) (Reg.icClaim false.toNat) ∧
      s8.bestIrq false = some 407 ∧ 405 < 412 ∧ s8.deliverable false 405) ∧
    (s9.up ∧ s9.accepts .ma (Reg.icClaim 0) ∧ s9.bestIrq false = some 407 ∧
      (∀ j, j < 412 → j ≠ 407 → s9.deliverable true j = false)) ∧
    (base.up ∧ base.irqLine false = false) ∧
    (base.up ∧
      base.accepts (if false = true then Requester.mb else Requester.ma) (Reg.icClaim false.toNat) ∧
      base.bestIrq false = none) ∧
    (s10.up ∧ 405 < 1024 ∧ s10.accepts (if false = true then Requester.mb else Requester.ma) (Reg.icComp false.toNat) ∧
      s10.inService false 405) ∧
    (base.up ∧ 0 < 1024 ∧
      base.accepts (if false = true then Requester.mb else Requester.ma) (Reg.icComp false.toNat) ∧
      base.inService false 0 = false) ∧
    (base.up ∧ base.accepts .ma (Reg.icClaim true.toNat) ∧
      base.accepts .ma (Reg.icComp true.toNat) ∧ pairIs .ma true = false) := by and_intros <;> decide +kernel

end Sys2Proof.Tests.WInterrupt

namespace Sys2Proof.Tests.WTestUnit
open Sys2Proof.Machine
set_option Elab.async false

def run := setF (.portTstSts 3) PORT_TST_STS.RUN 1
def lk := setF (.portTstSts 3) PORT_TST_STS.LOCK 1
def hrun := setF (.glbHpTst 0) GLB_HP_TST.RUN 1
def hlk := setF (.glbHpTst 0) GLB_HP_TST.LOCK 1
def s1 : State := run base
def s2 : State := run (lk base)
def s3 : State := hrun base
def s4 : State := hrun (hlk base)
def s6 : State := setF (.pwrSts 17) PWR_STS.STATE 4 base
def s7 : State := { base with regs := [(Reg.glbBistSts.addr, 0x80000000)] }
def s8 : State := setF (.pwrSts 166) PWR_STS.STATE 4 base

/-- States and operands that meet the hypotheses of `TestFeatures`, one line for each clause. -/
theorem witness_TestFeatures :
    (base.up ∧ 0 < 20 ∧ base.accepts .ma (Reg.portTstCtl 0) ∧
      base.tstRefusal 0 (PORT_TST_CTL.STOP.put 0 (PORT_TST_CTL.START.put 1 (BitVec.setWidth 64 (0x01000000#32 : Word32)))) = 0) ∧
    (base.up ∧ 0 < 20 ∧ base.accepts .ma (Reg.portTstCtl 0) ∧
      base.tstRefusal 0 (PORT_TST_CTL.STOP.put 0 (PORT_TST_CTL.START.put 1 (BitVec.setWidth 64 (0 : Word32)))) ≠ 0) ∧
    (s1.up ∧ 3 < 20 ∧ s1.accepts .ma (Reg.portTstCtl 3) ∧
      ((fun t x => t.flag (Reg.portTstSts 3) x) s1 PORT_TST_STS.RUN)) ∧
    (s1.up ∧ 3 < 20 ∧ s1.tstChecks 3) ∧
    (base.up ∧ 0 < 20 ∧ base.tstChecks 0 = false) ∧
    (s2.up ∧ 3 < 20 ∧ ((fun t x => t.flag (Reg.portTstSts 3) x) s2 PORT_TST_STS.LOCK)) ∧
    (base.up ∧ 0 < 4 ∧ base.present 0 ∧ base.accepts .ma (Reg.glbHpTst 0) ∧
      base.hpTstOk 0 (GLB_HP_TST.STOP.put 0 (GLB_HP_TST.START.put 1 (BitVec.setWidth 64 (0x01000000#32 : Word32)))) ∧
      GLB_HP_TST.DEPTH.get (GLB_HP_TST.STOP.put 0 (GLB_HP_TST.START.put 1 (BitVec.setWidth 64 (0x01000000#32 : Word32)))) ≠ 5) ∧
    (base.up ∧ 0 < 4 ∧ base.present 0 ∧ base.accepts .ma (Reg.glbHpTst 0) ∧
      base.hpTstOk 0 (GLB_HP_TST.STOP.put 0 (GLB_HP_TST.START.put 1 (BitVec.setWidth 64 (0 : Word32)))) = false) ∧
    (s3.up ∧ 0 < 4 ∧ s3.present 0 ∧ s3.accepts .ma (Reg.glbHpTst 0) ∧
      ((fun t x => t.flag (Reg.glbHpTst 0) x) s3 GLB_HP_TST.RUN) ∧
      ((fun t x => t.flag (Reg.glbHpTst 0) x) s3 GLB_HP_TST.LOCK = false)) ∧
    (s4.up ∧ 0 < 4 ∧ s4.present 0 ∧ ((fun t x => t.flag (Reg.glbHpTst 0) x) s4 GLB_HP_TST.LOCK)) ∧
    (s6.up ∧ 17 < 256 ∧ s6.accepts .ma Reg.glbBistCtl ∧ s6.flag Reg.glbBistSts GLB_BIST_STS.BUSY = false ∧ 17 < 168 ∧
      17 ≠ 164 ∧ 17 ≠ 165 ∧ s6.domSt 17 = dOff) ∧
    (base.up ∧ 0 < 256 ∧ base.accepts .ma Reg.glbBistCtl ∧
      base.flag Reg.glbBistSts GLB_BIST_STS.BUSY = false ∧ 0 < 168 ∧ base.domSt 0 ≠ dOff) ∧
    (s7.up ∧ s7.flag Reg.glbBistSts GLB_BIST_STS.BUSY ∧ 0 < 2 ^ 32) ∧
    (base.up ∧ base.domLive 166) ∧
    (s8.up ∧ s8.domLive 166 = false) := by and_intros <;> decide +kernel

end Sys2Proof.Tests.WTestUnit

namespace Sys2Proof.Tests.More
open Sys2Proof.Machine Sys2Proof
set_option Elab.async false

/-! ## The hypotheses of the statements about every state -/

theorem witness_ClockCountOverSteps : ∃ t, step { State.reset with pending := [.clockTick] } = .next t := ⟨_, rfl⟩
theorem witness_IslandInvariantKept : State.reset.islandOk ∧ ∃ t, step State.reset = .next t :=
  ⟨by unfold State.islandOk; decide +kernel, _, rfl⟩

/-! ## Ill-formed commands, one for each kind of check -/

def badEntry : Entry := ⟨0, 0, 0, 0, 0, 0, 0, 16384⟩
def badImage : Boot := { boot with imgA := List.replicate 262145 0 }

theorem test_illFormed1 : ([.snapshotTake (.func 4 0), .snapshotTake (.func 0 64), .snapshotTake (.dma 8),
  .narrowWrite .ma (.mgr 0x2000000), .narrowWrite .ma (.page 256 0), .narrowWrite .ma (.page 0 0x10000),
  .slcQuotaWrite .ma 3 (.winBase 2) 0, .slcQuotaWrite .ma 3 (.winSize 2) 0, .sensorSample (.diode 8 20),
  .sensorSample (.diode 0 128), .sensorSample (.diode 0 (-129)), .sensorSample (.rail 7 0),
  .sensorSample (.rail 0 4096), .railPowerFail 6, .railsGood strp { boot with copy0 := [] },
  .glbRstWarm .ma { boot with copy1 := [0] }] : List Instr).all
    (fun i => !i.wf) := by decide +kernel
theorem test_illFormed2 : ([.portCtlPpWrite .ma 20 true, .busResetEnd 20, .portGangWrite .ma 4 0, .erdyReceived 32832 0,
  .hpRetrain .ma 4, .flr 4 0, .flr 0 64, .msixPendingRelease 0 0 2048, .slcFence .ma 256, .gsafeSet .ma 0 65536,
  .doorbell .ma 0 64, .entryNop 0 0 badEntry, .dspLoad .ma 0 256] : List Instr).all
    (fun i => !i.wf) := by decide +kernel
theorem test_illFormed3 : ([.add 16384 0 0 0, .add 0 16 0 0, .add 0 0 16 0, .add 0 0 0 16, .movi 0 0 4 0, .mfs 0 0 7,
  .b 0 11 0, .b 0 0 16384, .ldp 0 0 0 4 0, .ldp 0 0 0 0 256, .post 0 256, .spawn 0 0 0 0 0 16384, .seal 0 2 0,
  .engineFree 160, .steal 20, .semCtlRelease .ma 1024, .reserveDecision 4, .boardBuildDone 8 true, .fsyncEdge 8000000] : List Instr).all
    (fun i => !i.wf) := by decide +kernel
theorem test_illFormed4 : ([.placementStart 0 3, .portDetDetach .ma 0 65536, .completionReceived 4 0 .ok [],
  .mdmaStop .ma 8, .sealKeyErase .ma 32, .adjThaw .ma 256 0, .sealIdRead .ma 8192, .pwrWakeWrite .ma 168,
  .pwrEntryRequest .ma 0 4, .vbusSenseEvent 4, .gpioInputChange 16 true, .icSrcWrite .ma 512 0,
  .icComplete .ma false 512, .fltClear .ma 64, .fltRaise .ma 0 65536, .eccUeDetected 0 0, .eccUeDetected 10 0,
  .fwVerifyDone true 4, .bistStart .ma 168] : List Instr).all
    (fun i => !i.wf) := by decide +kernel
theorem longImage (b : Boot) (h : 262144 < b.imgA.length) : b.wf = false := by
  have : decide (b.imgA.length ≤ 262144) = false := decide_eq_false (by omega)
  unfold Boot.wf
  rw [this]
  simp
theorem test_illFormedImage : badImage.wf = false :=
  longImage _ (by unfold badImage; rw [List.length_replicate]; decide)
theorem test_wellFormed : ([.add 16383 15 15 15, .portCtlPpWrite .ma 19 true, .narrowWrite .ma (.page 255 0xFFFF),
    .eccUeDetected 9 0, .snapshotTake (.func 3 63)] : List Instr).all Instr.wf := by decide +kernel

/-! ## Examples of the specification -/

/-- R507's section "Example: locating registers": ring 5 of slice 40, and P7's gambit counter. -/
theorem test_addresses : Reg.loc (.ringCtl 40 5) = .page 40 0x1B8 ∧ Reg.loc (.ringDone 40 5) = .page 40 0x950 ∧
    Reg.loc (.db 40 5) = .page 40 0x2028 ∧ Reg.loc (.portGmbCnt 7) = .mgr 0x45520 := by decide +kernel

/-- The same example: `SL_ID` of slice 40, bound to VF 3 of HP1 at slot 2. -/
def bound40 : State :=
  setF (.slcCsr 40) SLC_CSR.ACTIVE 1 (setF (.slcHost 40) SLC_HOST.SLOT 2 (State.reset.wr (.slcBind 40)
    (SLC_BIND.VALID.put 1 (SLC_BIND.PORT.put 1 (SLC_BIND.FUNC.put 3 0)))))
theorem test_slId : (after (.lowHalfRead .ma ⟨.page 40 4, 4⟩) bound40).readData = [0x28430200] := by decide +kernel

/-- "movi g1, 0x0400, 0; movk g1, 0x2000, 1; movk g1, 0x0041, 2" gives 0x0000_0041_2000_0400: the second and the third. -/
def mov (g : Word64) (x : Nat) (imm : BitVec 16) : Word64 :=
  let s := engine0 { ctx2 with g := [(1, g)], prog := 3 * 64, pc := 0 }
    (State.reset.setProg (3 * 64) { Prog.empty with live := true, fuel := 99, words := [(wordI 0x12 1 0 x imm).toNat] })
  ((after (.movk 5 1 x imm) s).ctx 5).reg 1
theorem test_movk : mov 0x400 1 0x2000 = 0x20000400 ∧ mov 0x20000400 2 0x41 = 0x0000004120000400 := by decide +kernel

/-- "Worked example: splits on P5": the headset and the keyboard, their plan, and the placements of Table 8. -/
def headset : Booked := ⟨11, 1, 2, true, false, false, 192, 65, 192, 8, 0, 0⟩
def keyboard : Booked := ⟨0, 2, 2, false, true, false, 8, 65, 8, 8, 0, 0⟩
theorem test_plan : planOf [headset, keyboard] 65 0 = [(headset, 0, 236), (keyboard, 236, 24)] ∧
    planEnd (planOf [headset, keyboard] 65 0) = 260 := by decide +kernel
theorem test_headset : (splitPlaces (headset, 0, 236)).map (fun p => (p.ofs, p.cost, p.bytes)) =
    [(0, 262, 188), (1, 47, 4)] := by decide +kernel
theorem test_keyboard : (splitPlaces (keyboard, 236, 24)).map (fun p => (p.ofs, p.cost)) =
    [(1, 59), (3, 69), (4, 69), (5, 69)] := by decide +kernel

/-- "Example: a level pin and a late claim": at 21.3 µs MA claims source 323 at priority 4. -/
def alert : State := { base.wr (.icSrc 323) (IC_SRC.ENA.put 1 (IC_SRC.PRI.put 4 (IC_SRC.SENSE.put 1
    (IC_SRC.FILT.put 20 0)))) with gpio := [(5, ⟨false, false, 0⟩)] }
theorem test_claim : let t := after (.icClaim .ma false) alert
    t.getF (.icClaimed 0) IC_CLAIMED.ID = 323 ∧ t.getF (.icClaimed 0) IC_CLAIMED.PRI = 4 ∧ t.inService false 323 ∧
      t.irqPend 323 = false := by decide +kernel

/-- "Example: a shorted cable on P3", 0 ms: the first decision opens an episode. -/
def short3 : State := (setF (.portCtl 3) PORT_CTL.PP 1 State.reset).modPort 3 (fun p =>
  { p with pwren := true, oc := ⟨true, true, false, 20⟩ })
theorem test_decision : let t := after (.ocFilterExpiry 3) short3
    t.fltState 3 = 1 ∧ t.getF (.fltSts 3) FLT_STS.COUNT = 1 ∧ t.fltHour 3 = 0 ∧ (t.port 3).holds = [3] ∧
      (t.port 3).pwren = false := by decide +kernel

/-- An OCI_N that turns active starts a count of `FILTER` = 20 (2.0 µs), inside the inrush window one of `INRUSH_FLT` = 10
(100 µs, as 1,000 units of 100 ns): reset values of `PORT_OC` and R60. -/
theorem test_filterTime : ((after (.ociChange 4 true) base).port 4).oc.time = 20 ∧
    ((after (.ociChange 4 true) (base.modPort 4 (fun p => { p with inrush := 1 }))).port 4).oc.time = 1000 := by
  decide +kernel

/-- Frame numbers (R272, R276): a high-speed segment has an SOF in every microframe, a full-speed one in the first of a
frame, a low-speed one keep-alive there. -/
def segment (speed : Nat) : State :=
  setF (.portLink 3) PORT_LINK.LSTATE 1 (setF (.portSts 3) PORT_STS.STATE 5 (setF (.portSts 3) PORT_STS.SPEED speed base))
theorem test_rank0 : (segment 3).usbRank0 3 17 = some (.sof 3 2) ∧ (segment 2).usbRank0 3 17 = none ∧
    (segment 2).usbRank0 3 16392 = some (.sof 3 1) ∧ (segment 1).usbRank0 3 8 = some (.keepAlive 3) := by decide +kernel

/-- `CEIL` = 720 mV where the need is 760 mV, 735 mV at 1.1 GHz and 710 mV at 1.0 GHz: `CSTEP` = 2. -/
theorem test_ceiling : stepFor [760, 735, 710, 700, 690, 680, 670] 720 = 2 := by decide +kernel

/-- R11: a hardware set in the cycle of a write of 1 to the bit leaves it set; without one the write clears it. -/
def lost3 : State := setF (.portTstSts 3) PORT_TST_STS.LOST 1 base
theorem test_hardwareSetWins :
    (after (.registerWrite .ma (Reg.loc (.portTstSts 3)) ⟨0xFFFFFFFF, 0x20000000⟩) lost3).flag (.portTstSts 3)
      PORT_TST_STS.LOST = true ∧
    (after (.registerWrite .ma (Reg.loc (.portTstSts 3)) ⟨0xFFFFFFFF, 0⟩) lost3).flag (.portTstSts 3)
      PORT_TST_STS.LOST = false := by decide +kernel

/-- R188 and R45: INTR_POLL for 0 bytes ends with BAD_ARGUMENT (0x80); HUB_PORT on a hub below five hubs is refused. -/
theorem test_romStart : State.reset.romStart 3 23 131 [(1, 0x10000)] = some 0x80 ∧
    ((bus State.reset).setDev 9 { devD with route := [1, 2, 3, 4, 5] }).romStart 3 20 134 [(2, 1)] = some stAborted ∧
    (bus State.reset).romStart 3 20 134 [(2, 1)] = none := by decide +kernel

/-- R168, R174: the words of a block are those of the image, header first. -/
def loaded : State := State.reset.setProg (3 * 64) ⟨true, false, 9, [magic, 1, 9, 2], [7, 8], [4]⟩
theorem test_library : loaded.libWord 4096 = magic ∧ loaded.libWord 4112 = 7 ∧ loaded.libWord 4116 = 8 := by decide +kernel

end Sys2Proof.Tests.More
end

section
/-!
The state after reset (R6, R472, R485, R486).
-/
namespace Sys2Proof.Machine

/-- With no register listed, every register reads as its reset value (R6). -/
theorem reset_rd (r : Reg) : State.reset.rd r = r.resetVal := rfl

/-- A field of a register that is 0 after reset. -/
theorem reset_getF_zero {r : Reg} (h : r.resetVal = 0) (f : Fld) : State.reset.getF r f = 0 := by
  simp [State.getF, reset_rd, h, Fld.get]

theorem reset_domOn (d : Nat) : State.reset.domOn d = true :=
  decide_eq_true (reset_getF_zero (r := .pwrSts d) rfl PWR_STS.STATE)

theorem reset_pathSt (n : Nat) (ss : Bool) : State.reset.pathSt n ss = pOff :=
  reset_getF_zero (r := .portSts n) rfl _

theorem reset_sram (b : Bool) (a : Nat) : State.reset.sram b a = 0 := by
  cases b <;> rfl

theorem reset_islandOk : State.reset.islandOk := by
  unfold State.islandOk
  decide

/-- Settles O5: after reset no register is listed, so every one reads as its reset value, and what shows domains and paths is
among those whose reset value is 0. -/
theorem resetState : Obligations.ResetState :=
  ⟨rfl, reset_rd, rfl, fun d _ => reset_domOn d, reset_sram, fun _ => rfl, fun n ss _ => reset_pathSt n ss, rfl,
    reset_islandOk⟩

end Sys2Proof.Machine
end

section
/-!
Accesses to registers (R8, R10 to R18, R329): where an access goes, what a read returns, and what a write that passes the
checks comes down to.
-/
namespace Sys2Proof.Machine

section

/-! ## Commands on the device -/

variable {s : State} {q : Requester} {l : Loc}

/-- A command whose effect leaves the island and the queue alone answers that effect. -/
theorem onDevice_eq {f : State → State} {t : State} (hu : s.up = true) (hf : f s = t) (ha : t.aon = s.aon)
    (hp : t.pending = s.pending) : onDevice f s = .next t := by
  rw [onDevice_up f hu, hf, ← ha, ← hp]

/-! ## The accesses as commands on the device -/

variable (s q l)

theorem exec_lowHalfRead (n : Nat) :
    exec (.lowHalfRead q ⟨l, n⟩) s = onDevice (fun s => s.readCmd q l n) s := rfl
theorem exec_highHalfRead : exec (.highHalfRead q l) s = onDevice (fun s => s.readCmd q (locPlus l 4) 4) s := rfl
theorem exec_registerWrite (v hw : Word32) :
    exec (.registerWrite q l ⟨v, hw⟩) s = onDevice (fun s => s.write32 q l v (hw.setWidth 64)) s := rfl
theorem exec_lowHalfWrite (v : Word32) : exec (.lowHalfWrite q l v) s = onDevice (fun s => s.write32 q l v 0) s := rfl
theorem exec_highHalfWrite (v : Word32) (hw : Word64) :
    exec (.highHalfWrite q l ⟨v, hw⟩) s = onDevice (fun s => s.write32 q (locPlus l 4) v hw) s := rfl
theorem exec_write64 (v hw : Word64) :
    exec (.write64 q l ⟨v, hw⟩) s = onDevice (fun s => s.write64 q l v hw) s := rfl

variable {s q l}

/-! ## Where an access goes -/

theorem place_of_reaches (h : s.reaches q l = true) : s.place q l = .reg l := by
  simp [State.place, h]

/-- Whether a requester reaches a location does not depend on the offset. -/
theorem reaches_locPlus (n : Nat) : s.reaches q (locPlus l n) = s.reaches q l := by
  cases l <;> cases q <;> rfl

theorem pageEmpty_locPlus (n : Nat) : s.pageEmpty (locPlus l n) = s.pageEmpty l := by
  cases l <;> rfl

theorem locDown_zero : locDown l 0 = l := by cases l <;> rfl
theorem locPlus_zero : locPlus l 0 = l := by cases l <;> rfl
theorem locDown_locPlus (n : Nat) : locDown (locPlus l n) n = l := by
  cases l <;> simp [locDown, locPlus]
theorem locOff_locPlus (n : Nat) : locOff (locPlus l n) = locOff l + n := by cases l <;> rfl

/-- The rows of the map of manager space end below the Library window. -/
theorem mgrRows_below : mgrRows.all (fun m => decide (m.base + m.stride * m.count ≤ 0x200000 ∧ 0 < m.stride)) = true := by
  decide +kernel


/-- A register that a row finds starts inside the row. -/
theorem MapRow.hit_lt {m : MapRow} {a : Nat} {r : Reg} (h : m.hit a = some r) (hs : 0 < m.stride) :
    a < m.base + m.stride * m.count := by
  unfold MapRow.hit at h
  split at h
  case isTrue hc =>
    obtain ⟨hb, hz, hn⟩ := hc
    have := Nat.div_add_mod (a - m.base) m.stride
    have : m.stride * ((a - m.base) / m.stride) < m.stride * m.count := Nat.mul_lt_mul_of_pos_left hn hs
    omega
  case isFalse => cases h

/-- A register that rows find starts below what bounds every row. -/
theorem mapFind_lt {a b : Nat} {r : Reg} {rows : List MapRow} (h : mapFind a rows = some r)
    (hb : rows.all (fun m => decide (m.base + m.stride * m.count ≤ b ∧ 0 < m.stride)) = true) : a < b := by
  induction rows with
  | nil => cases h
  | cons m t ih =>
    simp only [List.all_cons, Bool.and_eq_true, decide_eq_true_eq] at hb
    obtain ⟨⟨hm, hs⟩, ht⟩ := hb
    unfold mapFind at h
    split at h
    · rename_i e
      exact Nat.lt_of_lt_of_le (MapRow.hit_lt e hs) hm
    · exact ih h ht

/-- No register of manager space starts in the Library window or right before it. -/
theorem regAt_mgr_lt {a : Nat} {r : Reg} (h : regAt (.mgr a) = some r) : a < 0x200000 := by
  change Reg.ofMgr a = some r at h
  unfold Reg.ofMgr at h
  dsimp only at h
  split at h
  · omega
  · exact mapFind_lt h mgrRows_below

/-- A half of a register does not lie in the Library window. -/
theorem inLibrary_of_regAt {r : Reg} {n : Nat} (hn : n ≤ 4) (h : regAt (locDown l n) = some r) : inLibrary l = false := by
  cases l with
  | mgr a =>
    have := regAt_mgr_lt (a := a - n) h
    simp [inLibrary]
    omega
  | page i a => rfl
  | mem a => rfl

theorem regAt_of_low {r : Reg} (h : cellAt l = .low r) : regAt l = some r := by
  unfold cellAt at h
  split at h
  · rename_i x e
    split at h <;> cases h
    exact e
  · split at h
    · split at h
      · split at h <;> cases h
      · cases h
    · cases h

theorem regAt_of_high {r : Reg} (h : cellAt l = .high r) : regAt (locDown l 4) = some r := by
  unfold cellAt at h
  split at h
  · split at h <;> cases h
  · split at h
    · split at h
      · rename_i x e
        split at h <;> cases h
        exact e
      · cases h
    · cases h

theorem inLibrary_of_low {r : Reg} (h : cellAt l = .low r) : inLibrary l = false :=
  inLibrary_of_regAt (n := 0) (by omega) (by rw [locDown_zero]; exact regAt_of_low h)

theorem inLibrary_of_high {r : Reg} (h : cellAt l = .high r) : inLibrary l = false :=
  inLibrary_of_regAt (n := 4) (by omega) (regAt_of_high h)

/-! ## Reads -/

variable {r : Reg}

/-- The live value of the low half, and of the high half. -/
theorem dword_low (he : s.pageEmpty l = false) (h : cellAt l = .low r) : s.dword q l = (s.regRead q r).lo := by
  simp [State.dword, he, inLibrary_of_low h, h]
theorem dword_high (he : s.pageEmpty l = false) (h : cellAt l = .high r) : s.dword q l = (s.regRead q r).hi := by
  simp [State.dword, he, inLibrary_of_high h, h]

/-- A read of 4 bytes of a location that the requester reaches. -/
theorem readCmd_four (h : s.reaches q l = true) :
    s.readCmd q l 4 = { (s.read32 q l).1 with readData := [(s.read32 q l).2] } := by
  simp [State.readCmd, place_of_reaches h, Spot.answers]

/-- A live dword that the requester reaches. -/
theorem liveDword_eq (h : s.reaches q l = true) (ha : locOff l % 4 = 0) : s.liveDword q l = s.dword q l := by
  simp [State.liveDword, ha, locDown_zero, place_of_reaches h, State.placeDword]

/-- A read of 8 bytes of a location that the requester reaches: the two live dwords. -/
theorem readCmd_eight (h : s.reaches q l = true) (ha : locOff l % 8 = 0) :
    s.readCmd q l 8 = { s with readData := [s.dword q l, s.dword q (locPlus l 4)] } := by
  have h0 : s.liveDword q (locPlus l 0) = s.dword q l := by
    rw [locPlus_zero]
    exact liveDword_eq h (by omega)
  have h4 : s.liveDword q (locPlus l 4) = s.dword q (locPlus l 4) :=
    liveDword_eq ((reaches_locPlus 4).trans h) (by rw [locOff_locPlus]; omega)
  have hr : List.range (8 / 4) = [0, 1] := rfl
  simp [State.readCmd, place_of_reaches h, Spot.answers, hr, h0, h4]

/-- A read of a low half loads the latch (R15). -/
theorem read32_low (he : s.pageEmpty l = false) (h : cellAt l = .low r) :
    s.read32 q l = ({ s with latches := FMap.put none (s.halfKey q r) (some (s.regRead q r).hi) s.latches },
      (s.regRead q r).lo) := by
  simp [State.read32, he, h]

/-- A read of a high half leaves the state alone (R16). -/
theorem read32_high (he : s.pageEmpty l = false) (h : cellAt l = .high r) :
    s.read32 q l = (s, (FMap.find none (s.halfKey q r) s.latches).getD (s.regRead q r).hi) := by
  simp only [State.read32, he, h]
  cases FMap.find none (s.halfKey q r) s.latches <;> rfl

/-- What the read of a low half answers (R15). -/
theorem lowHalfRead_four (hu : s.up = true) (h : s.reaches q l = true) (he : s.pageEmpty l = false)
    (hc : cellAt l = .low r) :
    exec (.lowHalfRead q ⟨l, 4⟩) s = .next { s with
      latches := FMap.put none (s.halfKey q r) (some (s.regRead q r).hi) s.latches,
      readData := [(s.regRead q r).lo] } :=
  (exec_lowHalfRead s q l 4).trans (onDevice_eq hu (by rw [readCmd_four h, read32_low he hc]) rfl rfl)

/-- What the read of a high half answers: the latched half where the latch is valid, else the live one (R16). -/
theorem highHalfRead_word (hu : s.up = true) (h : s.reaches q (locPlus l 4) = true)
    (he : s.pageEmpty (locPlus l 4) = false) (hc : cellAt (locPlus l 4) = .high r) :
    exec (.highHalfRead q l) s = .next { s with
      readData := [(FMap.find none (s.halfKey q r) s.latches).getD (s.regRead q r).hi] } :=
  (exec_highHalfRead s q l).trans (onDevice_eq hu (by rw [readCmd_four h, read32_high he hc]) rfl rfl)

/-- What a read of 8 bytes answers (R13). -/
theorem lowHalfRead_eight (hu : s.up = true) (h : s.reaches q l = true) (ha : locOff l % 8 = 0)
    (he : s.pageEmpty l = false) (hl : cellAt l = .low r) (hh : cellAt (locPlus l 4) = .high r) :
    exec (.lowHalfRead q ⟨l, 8⟩) s = .next { s with readData := [(s.regRead q r).lo, (s.regRead q r).hi] } :=
  have hp : s.pageEmpty (locPlus l 4) = false := (pageEmpty_locPlus 4).trans he
  (exec_lowHalfRead s q l 8).trans
    (onDevice_eq hu (by rw [readCmd_eight h ha, dword_low he hl, dword_high hp hh]) rfl rfl)

/-! ## Writes that pass the gate -/

/-- The parts of the checks on who may write where. -/
theorem opens_iff : s.opens q l = true ↔
    s.up = true ∧ s.reaches q l = true ∧ s.barred q l = false ∧ s.pageShut l = false := by
  simp [State.opens, and_assoc]

/-- A write that the checks let pass has its effect. -/
theorem gateLoc_opens (h : s.opens q l = true) (f : Loc → State → State) : s.gateLoc q l f = f l s := by
  obtain ⟨-, hr, hb, hp⟩ := opens_iff.1 h
  simp [State.gateLoc, place_of_reaches hr, hb, hp]

/-- A 32-bit write to a location of the register spaces goes through the gate. -/
theorem write32_reaches (h : s.reaches q l = true) (v : Word32) (hw : Word64) :
    s.write32 q l v hw = s.gateLoc q l (fun l s => s.put32 q l v hw) := by
  simp [State.write32, place_of_reaches h]

theorem write32_opens (h : s.opens q l = true) (v : Word32) (hw : Word64) :
    s.write32 q l v hw = s.put32 q l v hw := by
  obtain ⟨-, hr, -, -⟩ := opens_iff.1 h
  rw [write32_reaches hr, gateLoc_opens h]

/-- A 64-bit write of a 64-bit register (R18). -/
theorem write64_opens (h : s.opens q l = true) (hc : cellAt l = .low r) (v hw : Word64) :
    s.write64 q l v hw =
      { s with staged := FMap.put none (s.halfKey q r) none s.staged }.putReg q l r (s.racing r v hw) := by
  obtain ⟨-, hr, -, -⟩ := opens_iff.1 h
  simp [State.write64, place_of_reaches hr, hc, gateLoc_opens h]

/-! ## What a 32-bit write does at a dword -/

theorem put32_word (hi : inLibrary l = false) (hc : cellAt l = .word r) (v : Word32) (hw : Word64) :
    s.put32 q l v hw = s.putReg q l r (s.racing r (v.setWidth 64) hw) := by
  simp [State.put32, hi, hc]

/-- A low half is staged, but for a doorbell. -/
theorem put32_low (hi : inLibrary l = false) (hc : cellAt l = .low r) (hd : ∀ i k, r ≠ .db i k) (v : Word32)
    (hw : Word64) :
    s.put32 q l v hw = { s with staged := FMap.put none (s.halfKey q r) (some v) s.staged } := by
  simp [State.put32, hi, hc]

/-- A high half commits with what is staged, or with what leaves the live low half unchanged, but for a doorbell. -/
theorem put32_high (hi : inLibrary l = false) (hc : cellAt l = .high r) (hd : ∀ i k, r ≠ .db i k) (v : Word32)
    (hw : Word64) :
    s.put32 q l v hw = { s with staged := FMap.put none (s.halfKey q r) none s.staged }.putReg q (locDown l 4) r
      (s.racing r (Word64.ofHalves v
        ((FMap.find none (s.halfKey q r) s.staged).getD (keepLow r (s.regRead q r)))) hw) := by
  cases h : FMap.find none (s.halfKey q r) s.staged <;> simp [State.put32, hi, hc, h]

theorem put32_none (hi : inLibrary l = false) (hc : cellAt l = .none) (v : Word32) (hw : Word64) :
    s.put32 q l v hw = s := by
  simp [State.put32, hi, hc]

/-- A write of a register that exists, whose domain is ON, and of which there is no saved copy. -/
theorem putReg_live (he : s.regExists r = true) (hl : s.regLive r = true) (hc : s.savedCopy r = none) (v : Word64) :
    s.putReg q l r v = s.writeReg q l r v := by
  simp [State.putReg, he, hl, hc]

/-! ## Writes without effect beyond the register's own fields -/

/-- A bit that hardware sets counts only where the register has W1C fields (R11). -/
theorem raced_of_no_w1c (h : maskOf .w1c r.fields = 0) (v hw : Word64) : raced r v hw = v := by
  simp only [raced, h, BitVec.ofNat_eq_ofNat, BitVec.and_zero, BitVec.not_zero, BitVec.and_allOnes]

theorem racing_of_no_w1c (h : maskOf .w1c r.fields = 0) (v hw : Word64) : s.racing r v hw = v :=
  raced_of_no_w1c h v _

theorem plainWrite_of_no_w1c (h : maskOf .w1c r.fields = 0) (v : Word64) :
    s.plainWrite r v = s.wr r (applyFields v r.fields (s.rd r)) := by
  rw [State.plainWrite, raced_of_no_w1c h]

theorem onlyRegs_wr (v : Word64) : OnlyRegs s (s.wr r v) [r.addr] :=
  ⟨fun p hp => rd_wr_ne s v (by simpa using hp), rfl⟩

theorem keepsRegs_wr (v : Word64) : KeepsRegs s (s.wr r v) [r.addr] := onlyRegs_wr v |>.1

/-- Registers whose writes do nothing beyond their own fields: always there, always live, with RW fields only. -/
theorem plainRegs_regExists (h : plainRegs r) : s.regExists r = true := by
  obtain rfl | rfl | rfl | rfl | rfl | ⟨n, rfl⟩ := h <;> rfl
theorem plainRegs_regLive (h : plainRegs r) : s.regLive r = true := by
  obtain rfl | rfl | rfl | rfl | rfl | ⟨n, rfl⟩ := h <;> rfl
theorem plainRegs_no_w1c (h : plainRegs r) : maskOf .w1c r.fields = 0 := by
  obtain rfl | rfl | rfl | rfl | rfl | ⟨n, rfl⟩ := h <;> rfl
theorem plainRegs_writeReg (h : plainRegs r) (v : Word64) : s.writeReg q l r v = s.plainWrite r v := by
  obtain rfl | rfl | rfl | rfl | rfl | ⟨n, rfl⟩ := h <;> rfl

/-- What a write to one of them answers (R8). -/
theorem registerWrite_plainRegs (ho : s.opens q l = true) (hi : inLibrary l = false) (hc : cellAt l = .word r)
    (hr : plainRegs r) (hs : s.savedCopy r = none) (v hw : Word32) :
    exec (.registerWrite q l ⟨v, hw⟩) s = .next (s.wr r (applyFields (v.setWidth 64) r.fields (s.rd r))) := by
  have hm := plainRegs_no_w1c hr
  refine (exec_registerWrite s q l v hw).trans (onDevice_eq (opens_iff.1 ho).1 ?_ rfl rfl)
  rw [write32_opens ho, put32_word hi hc, racing_of_no_w1c hm,
    putReg_live (plainRegs_regExists hr) (plainRegs_regLive hr) hs, plainRegs_writeReg hr, plainWrite_of_no_w1c hm]

/-! ## `PORT_SEQ_CFG` (R329) -/

/-- What a write to `PORT_SEQ_CFG` answers: the value that acts is held, and the fields are written. -/
theorem registerWrite_portSeqCfg {n : Nat} (ho : s.opens q l = true) (hi : inLibrary l = false)
    (hc : cellAt l = .word (.portSeqCfg n)) (hs : s.savedCopy (.portSeqCfg n) = none) (v hw : Word32) :
    exec (.registerWrite q l ⟨v, hw⟩) s = .next ((s.holdSeq n).wr (.portSeqCfg n)
      (applyFields (v.setWidth 64) (Reg.portSeqCfg n).fields (s.rd (.portSeqCfg n)))) := by
  have hm : maskOf .w1c (Reg.portSeqCfg n).fields = 0 := rfl
  refine (exec_registerWrite s q l v hw).trans (onDevice_eq (opens_iff.1 ho).1 ?_ rfl rfl)
  rw [write32_opens ho, put32_word hi hc, racing_of_no_w1c hm, putReg_live rfl rfl hs]
  exact plainWrite_of_no_w1c hm _

/-- While a value is held for the rank under way it acts, and from the next rank on the register's value does. -/
theorem seqAt_holdSeq_wr (n k : Nat) (v : Word64) : ((s.holdSeq n).wr (.portSeqCfg n) v).seqAt n k =
    if k ≤ s.rankNow then s.seqAt n s.rankNow else v := by
  have hp : (((s.holdSeq n).wr (.portSeqCfg n) v).port n).seqHeld = some (s.rankNow, s.seqAt n s.rankNow) := by
    change ((s.holdSeq n).port n).seqHeld = _
    simp [State.holdSeq, State.modPort]
  rw [State.seqAt, hp, rd_wr_same]
  rfl

/-! ## A bit set by hardware in the cycle of the write (R11) -/

/-- A one-bit field is 1 if its bit is. -/
theorem flag_bit (n : Nat) : s.flag r ⟨n, n⟩ = (s.rd r).getLsbD n := by
  have h : (n + 1 - n) = 1 := by omega
  simp [State.flag, State.getF, Fld.get, Fld.width, h, BitVec.getLsbD, Nat.testBit, bne,
    Nat.one_and_eq_mod_two]

/-- `PORT_TST_STS` after a write: W1C bits other than those that hardware sets in the cycle are cleared. -/
theorem portTstSts_fields (n : Nat) (v old : Word64) : applyFields v (Reg.portTstSts n).fields old =
    old &&& ~~~(v &&& 0x20000000) &&& ~~~(v &&& 0x10000000) := rfl

theorem registerWrite_portTstSts {n : Nat} (ho : s.opens q l = true) (hi : inLibrary l = false)
    (hc : cellAt l = .word (.portTstSts n)) (hl : s.regLive (.portTstSts n) = true) (v hw : Word32) :
    exec (.registerWrite q l ⟨v, hw⟩) s =
      .next (s.plainWrite (.portTstSts n) (s.racing (.portTstSts n) (v.setWidth 64) (hw.setWidth 64))) := by
  refine (exec_registerWrite s q l v hw).trans (onDevice_eq (opens_iff.1 ho).1 ?_ rfl rfl)
  rw [write32_opens ho, put32_word hi hc, putReg_live rfl hl rfl]
  rfl

/-- A bit of a raced value: lost where it is W1C and hardware sets it. -/
theorem raced_bit (v hw : Word64) (i : Nat) (hi : i < 64) : (raced r v hw).getLsbD i =
    (v.getLsbD i && !(hw.getLsbD i && (maskOf .w1c r.fields).getLsbD i)) := by
  simp [raced, hi]

theorem portTstSts_w1c (n : Nat) : maskOf .w1c (Reg.portTstSts n).fields = 0x30000000 := rfl

/-- A W1C bit of `PORT_TST_STS` after a write: it stays where nothing was written to it, or where hardware has set it or sets
it in this cycle. -/
theorem portTstSts_w1c_bit (n : Nat) (v hw : Word32) (k : Nat) (hk : k = 29 ∨ k = 28) :
    (s.plainWrite (.portTstSts n) (s.racing (.portTstSts n) (v.setWidth 64) (hw.setWidth 64))).flag (.portTstSts n) ⟨k, k⟩ =
      (s.flag (.portTstSts n) ⟨k, k⟩ &&
        (!(v.getLsbD k) || hw.getLsbD k || (s.roseIn (.portTstSts n)).getLsbD k)) := by
  have hm : (0x30000000 : Word64).getLsbD k = true := by obtain rfl | rfl := hk <;> rfl
  have h64 : k < 64 := by omega
  rw [flag_bit, flag_bit, State.plainWrite, rd_wr_same, portTstSts_fields, State.racing]
  simp only [BitVec.getLsbD_and, BitVec.getLsbD_not, BitVec.getLsbD_or, raced_bit _ _ _ h64, portTstSts_w1c, hm, h64,
    BitVec.getLsbD_setWidth, decide_true, Bool.true_and, Bool.and_true]
  obtain rfl | rfl := hk
  · simp [Bool.or_assoc]
  · simp [Bool.or_assoc]

theorem portTstSts_ro_bit (n : Nat) (v : Word64) :
    (s.plainWrite (.portTstSts n) v).flag (.portTstSts n) PORT_TST_STS.RUN = s.flag (.portTstSts n) PORT_TST_STS.RUN := by
  rw [PORT_TST_STS.RUN, flag_bit, flag_bit, State.plainWrite, rd_wr_same, portTstSts_fields]
  simp

/-! ## The 64-bit registers `MDMA_SRC` (R18) -/

/-- A field that is the whole register takes the value written. -/
theorem mdmaSrc_fields (c : Nat) (v old : Word64) : applyFields v (Reg.mdmaSrc c).fields old = v := by
  have hm : ~~~MDMA_SRC.ADDR.mask = 0#64 := rfl
  have hg : MDMA_SRC.ADDR.get v % 2 ^ MDMA_SRC.ADDR.width = v.toNat := by
    change v.toNat >>> 0 % 2 ^ 64 % 2 ^ 64 = v.toNat
    have := v.isLt
    simp
    omega
  change MDMA_SRC.ADDR.put (MDMA_SRC.ADDR.get v) old = v
  rw [Fld.put, hm, hg]
  simp [MDMA_SRC.ADDR]

/-- The low half that leaves the live one as it is. -/
theorem keepLow_mdmaSrc (c : Nat) (v : Word64) : keepLow (.mdmaSrc c) v = v.lo := by
  change (v &&& BitVec.allOnes 64).lo = v.lo
  rw [BitVec.and_allOnes]

theorem regRead_mdmaSrc (c : Nat) : s.regRead q (.mdmaSrc c) = s.rd (.mdmaSrc c) := rfl

/-- A write of the whole register while the channel is idle, whatever is staged. -/
theorem putReg_mdmaSrc {c : Nat} (hb : s.mdmaBusy c = false) (m : FMap (Option Word32)) (v hw : Word64) :
    { s with staged := m }.putReg q l (.mdmaSrc c) (s.racing (.mdmaSrc c) v hw) =
      { s with staged := m }.wr (.mdmaSrc c) v := by
  have hm : maskOf .w1c (Reg.mdmaSrc c).fields = 0 := rfl
  have hb' : { s with staged := m }.mdmaBusy c = false := hb
  rw [racing_of_no_w1c hm, putReg_live rfl rfl rfl]
  change { s with staged := m }.wrMdmaReg c (.mdmaSrc c) v = _
  rw [State.wrMdmaReg, hb', if_neg Bool.false_ne_true, plainWrite_of_no_w1c hm, mdmaSrc_fields]

/-- What is left of a write of `MDMA_SRC`: the value, and nothing staged. -/
theorem wr_mdmaSrc_reads (c k : Nat) (v : Word64) :
    let t := { s with staged := FMap.put none k none s.staged }.wr (.mdmaSrc c) v
    t.rd (.mdmaSrc c) = v ∧ t.staged.find none k = none ∧ KeepsRegs s t [(Reg.mdmaSrc c).addr] :=
  ⟨rd_wr_same _ _ _, FMap.find_put_same none none k s.staged, keepsRegs_wr (s := { s with staged := FMap.put none k none s.staged }) v⟩

theorem highHalfWrite_mdmaSrc {c : Nat} (ho : s.opens q (locPlus l 4) = true)
    (hc : cellAt (locPlus l 4) = .high (.mdmaSrc c)) (hb : s.mdmaBusy c = false) (v : Word32) (hw : Word64) :
    exec (.highHalfWrite q l ⟨v, hw⟩) s = .next
      ({ s with staged := FMap.put none (s.halfKey q (.mdmaSrc c)) none s.staged }.wr (.mdmaSrc c)
        (Word64.ofHalves v ((s.staged.find none (s.halfKey q (.mdmaSrc c))).getD (s.rd (.mdmaSrc c)).lo))) := by
  refine (exec_highHalfWrite s q l v hw).trans (onDevice_eq (opens_iff.1 ho).1 ?_ rfl rfl)
  rw [write32_opens ho, put32_high (inLibrary_of_high hc) hc nofun, putReg_mdmaSrc hb, keepLow_mdmaSrc, regRead_mdmaSrc]

theorem write64_mdmaSrc {c : Nat} (ho : s.opens q l = true) (hc : cellAt l = .low (.mdmaSrc c))
    (hb : s.mdmaBusy c = false) (v hw : Word64) :
    exec (.write64 q l ⟨v, hw⟩) s = .next
      ({ s with staged := FMap.put none (s.halfKey q (.mdmaSrc c)) none s.staged }.wr (.mdmaSrc c) v) :=
  (exec_write64 s q l v hw).trans
    (onDevice_eq (opens_iff.1 ho).1 (by rw [write64_opens ho hc, putReg_mdmaSrc hb]) rfl rfl)

/-- What the write of a low half answers: it is staged (R18). -/
theorem lowHalfWrite_low (ho : s.opens q l = true) (hi : inLibrary l = false) (hc : cellAt l = .low r)
    (hd : ∀ i k, r ≠ .db i k) (v : Word32) :
    exec (.lowHalfWrite q l v) s =
      .next { s with staged := FMap.put none (s.halfKey q r) (some v) s.staged } :=
  (exec_lowHalfWrite s q l v).trans
    (onDevice_eq (opens_iff.1 ho).1 (by rw [write32_opens ho, put32_low hi hc hd]) rfl rfl)

end

/-- Settles O21: reads load and use the requester's latch, and writes that pass the gate come down to one register, one
staged half, or both. -/
theorem registerAccesses : Obligations.RegisterAccesses := by
  unfold Obligations.RegisterAccesses
  refine ⟨⟨?_, ?_, ?_, ?_⟩, ?_, ?_, ?_, ?_, ?_, ?_, ?_⟩
  case refine_1 =>
    intro s q l r hu hr he hc
    exact ⟨_, lowHalfRead_four hu hr he hc, rfl, FMap.find_put_same none (some (s.regRead q r).hi) _ s.latches,
      fun k hk => FMap.find_put_ne none (some (s.regRead q r).hi) s.latches hk, rfl⟩
  case refine_2 =>
    intro s q l r h hu hr he hc hl
    rw [highHalfRead_word hu hr he hc, hl, Option.getD_some]
  case refine_3 =>
    intro s q l r hu hr he hc hl
    rw [highHalfRead_word hu hr he hc, hl, Option.getD_none]
  case refine_4 =>
    intro s q l r hu hr ha he _ hl hh
    exact lowHalfRead_eight hu hr ha he hl hh
  case refine_5 =>
    intro s q l r v hw ho hi hc hp hs
    exact ⟨_, registerWrite_plainRegs ho hi hc hp hs v hw, onlyRegs_wr _, rd_wr_same _ _ _⟩
  case refine_6 =>
    intro s q l n v hw ho hi hc hs
    refine ⟨_, registerWrite_portSeqCfg ho hi hc hs v hw, keepsRegs_wr (s := s.holdSeq n) _, rd_wr_same _ _ _, ?_, ?_⟩
    · rw [seqAt_holdSeq_wr, if_pos (Nat.le_refl _)]
    · intro k hk
      rw [seqAt_holdSeq_wr, if_neg (by omega), rd_wr_same]
  case refine_7 =>
    intro s q l n v hw ho hi hc hl
    exact ⟨_, registerWrite_portTstSts ho hi hc hl v hw, onlyRegs_wr _, portTstSts_w1c_bit n v hw 29 (.inl rfl),
      portTstSts_w1c_bit n v hw 28 (.inr rfl), portTstSts_ro_bit n _⟩
  case refine_8 =>
    intro s q l r v ho hi hc hd
    exact ⟨_, lowHalfWrite_low ho hi hc hd v, FMap.find_put_same none (some v) _ s.staged,
      fun k hk => FMap.find_put_ne none (some v) s.staged hk, rfl⟩
  case refine_9 =>
    intro s q l c v lo hw ho _ hc hb hl
    have hx := highHalfWrite_mdmaSrc ho hc hb v hw
    rw [hl, Option.getD_some] at hx
    exact ⟨_, hx, wr_mdmaSrc_reads c _ _⟩
  case refine_10 =>
    intro s q l c v hw ho _ hc hb hl
    have hx := highHalfWrite_mdmaSrc ho hc hb v hw
    rw [hl, Option.getD_none] at hx
    obtain ⟨hv, _, hk⟩ := wr_mdmaSrc_reads (s := s) c (s.halfKey q (.mdmaSrc c))
      (Word64.ofHalves v (s.rd (.mdmaSrc c)).lo)
    exact ⟨_, hx, hv, hk⟩
  case refine_11 =>
    intro s q l c v hw ho hc hb
    exact ⟨_, write64_mdmaSrc ho hc hb v hw, wr_mdmaSrc_reads c _ _⟩

end Sys2Proof.Machine
end

section
/-!
What counting and recording a fault can change (R421, R424 to R426, R437).
-/
namespace Sys2Proof.Machine

variable {A B : Nat → Prop} {s t u : State}

/-! ## Steps that write some registers, records of the fault unit and the pairs' domains -/

/-- `t` with the registers, the fault records, the domains and the note of the cycle of `s`. -/
def State.faultsOf (t s : State) : State := { t with regs := s.regs, flts := s.flts, doms := s.doms, cyc := s.cyc }

/-- From `s` to `t`, registers change at addresses in `A` only, and beside registers only fault records, the domains of the
management pairs and the note of what happened in the cycle. -/
def Touches (A : Nat → Prop) (s t : State) : Prop :=
  (∀ r : Reg, ¬ A r.addr → t.rd r = s.rd r) ∧ (∀ d, d ≠ 160 → d ≠ 161 → t.dom d = s.dom d) ∧ t.faultsOf s = s

theorem Touches.refl (A : Nat → Prop) (s : State) : Touches A s s := ⟨fun _ _ => rfl, fun _ _ _ => rfl, rfl⟩

theorem Touches.trans (h : Touches A s t) (k : Touches A t u) : Touches A s u := by
  obtain ⟨hr, hd, hs⟩ := h
  obtain ⟨kr, kd, ks⟩ := k
  refine ⟨fun r a => (kr r a).trans (hr r a), fun d a b => (kd d a b).trans (hd d a b), ?_⟩
  calc u.faultsOf s = (u.faultsOf t).faultsOf s := rfl
    _ = t.faultsOf s := by rw [ks]
    _ = s := hs

theorem Touches.mono (h : Touches A s t) (hab : ∀ a, A a → B a) : Touches B s t :=
  ⟨fun r hr => h.1 r fun ha => hr (hab _ ha), h.2⟩

/-- A register outside the addresses, and a field of it, read as before. -/
theorem Touches.rd (h : Touches A s t) {r : Reg} (hr : ¬ A r.addr) : t.rd r = s.rd r := h.1 r hr
theorem Touches.getF (h : Touches A s t) {r : Reg} (hr : ¬ A r.addr) (f : Fld) : t.getF r f = s.getF r f := by
  rw [State.getF, h.rd hr, State.getF]

theorem Touches.aon (h : Touches A s t) : t.aon = s.aon := by
  obtain ⟨-, -, hs⟩ := h
  exact show (t.faultsOf s).aon = s.aon from congrArg State.aon hs
theorem Touches.pending (h : Touches A s t) : t.pending = s.pending := by
  obtain ⟨-, -, hs⟩ := h
  exact show (t.faultsOf s).pending = s.pending from congrArg State.pending hs

theorem touches_ite {c : Prop} [Decidable c] (ht : Touches A s t) (hu : Touches A s u) :
    Touches A s (if c then t else u) := by
  split
  · exact ht
  · exact hu

theorem touches_forL {α : Type} {l : List α} {f : α → State → State} (h : ∀ a ∈ l, ∀ s, Touches A s (f a s)) (s : State) :
    Touches A s (forL l f s) := by
  induction l generalizing s with
  | nil => exact .refl A s
  | cons a l ih =>
    exact (h a List.mem_cons_self s).trans (ih (fun b hb => h b (List.mem_cons_of_mem a hb)) (f a s))

section
variable (s) {r : Reg} (h : A r.addr)
include h

theorem touches_wr (v : Word64) : Touches A s (s.wr r v) :=
  ⟨fun _ hq => rd_wr_ne s v fun e => hq (e ▸ h), fun _ _ _ => rfl, rfl⟩
theorem touches_setF (f : Fld) (x : Nat) : Touches A s (s.setF r f x) := touches_wr s h _
theorem touches_set1 (f : Fld) : Touches A s (s.set1 r f) := touches_setF s h f 1

end

theorem touches_modFlt (s : State) (i : Nat) (g : FltSrc → FltSrc) : Touches A s (s.modFlt i g) :=
  ⟨fun _ _ => rfl, fun _ _ _ => rfl, rfl⟩

theorem touches_modDom (s : State) (b : Bool) (g : Dom → Dom) : Touches A s (s.modDom (pairDom b) g) := by
  refine ⟨fun _ _ => rfl, fun d h0 h1 => ?_, rfl⟩
  have : d ≠ pairDom b := by cases b <;> assumption
  rw [State.modDom, setDom_get, if_neg this]

/-! ## Waking a management pair (R388, R389, R421, R501) -/

/-- The addresses of the registers that change when a pair is woken. -/
abbrev wakeAddr (a : Nat) : Prop := a ∈ wakeRegs

theorem wakeAddr_icSts (b : Bool) : wakeAddr (Reg.icSts b.toNat).addr := by cases b <;> decide
theorem wakeAddr_pwrSts (b : Bool) : wakeAddr (Reg.pwrSts (pairDom b)).addr := by cases b <;> decide
theorem wakeAddr_pwrCtl (b : Bool) : wakeAddr (Reg.pwrCtl (pairDom b)).addr := by cases b <;> decide
theorem wakeAddr_glbBistSts : wakeAddr (Reg.glbBistSts).addr := by decide

theorem touches_bistAbandon (s : State) (d : Nat) : Touches wakeAddr s (s.bistAbandon d) :=
  touches_ite ((touches_setF s wakeAddr_glbBistSts _ 0).trans (touches_setF _ wakeAddr_glbBistSts _ 3)) (.refl _ s)

theorem touches_setDomSt (s : State) (b : Bool) (st : Nat) : Touches wakeAddr s (s.setDomSt (pairDom b) st) :=
  (touches_setF s (wakeAddr_pwrSts b) _ st).trans (touches_modDom _ b _)

theorem touches_returnStart (s : State) (b : Bool) (cause : Nat) :
    Touches wakeAddr s (s.returnStart (pairDom b) cause) :=
  have hs := wakeAddr_pwrSts b
  (touches_bistAbandon s (pairDom b)).trans <| (touches_setDomSt _ b _).trans <|
    (touches_setF _ (wakeAddr_pwrCtl b) _ _).trans <| (touches_set1 _ hs _).trans <| (touches_setF _ hs _ _).trans <|
    (touches_setF _ hs _ _).trans (touches_modDom _ b _)

theorem touches_wakePair (s : State) (b : Bool) : Touches wakeAddr s (s.wakePair b) :=
  (touches_set1 s (wakeAddr_icSts b) IC_STS.WAKE).trans <|
    touches_ite (touches_returnStart _ b 6) (touches_ite (touches_modDom _ b _) (.refl _ _))

theorem touches_wakeBy (s : State) (i : Nat) (b : Bool) : Touches wakeAddr s (s.wakeBy i b) :=
  touches_ite (touches_wakePair s b) (.refl _ s)

theorem touches_irqWake (s : State) (i : Nat) : Touches wakeAddr s (s.irqWake i) :=
  have hw (s : State) (i : Nat) : Touches wakeAddr s ((s.wakeBy i false).wakeBy i true) :=
    (touches_wakeBy s i false).trans (touches_wakeBy _ i true)
  touches_ite (hw s i) ((hw s i).trans (hw _ 313))

/-! ## The records of the fault unit (R437, R438) -/

/-- The words of entry `e` of the history have their addresses in `A`. -/
def EntryIn (A : Nat → Prop) (e : Nat) : Prop := ∀ k, k < 6 → A (Reg.fltHist (e * 8 + k)).addr

/-- The addresses of the history and of what stands between it and the registers of the sources. -/
abbrev histAddr (a : Nat) : Prop := 0x10200 ≤ a ∧ a < 0x11000

theorem entryIn_histAddr {e : Nat} (h : e < 32) : EntryIn histAddr e := by
  intro k hk
  simp only [histAddr, Reg.addr]
  omega

theorem EntryIn.head {e : Nat} (h : EntryIn A e) : A (Reg.fltHist (e * 8)).addr := h 0 (by omega)

theorem touches_fltEvict (s : State) (e : Nat) : Touches A s (s.fltEvict e) :=
  ⟨fun _ _ => rfl, fun _ _ _ => rfl, rfl⟩

theorem touches_fltUpd {i : Nat} {g : Nat → State → State} (he : ∀ e ∈ s.fltEntries i, EntryIn A e)
    (hg : ∀ e, EntryIn A e → ∀ s, Touches A s (g e s)) : Touches A s (s.fltUpd i g) :=
  touches_forL (fun e h s => (hg e (he e h) s).trans (touches_setF _ (he e h).head _ _)) s

theorem touches_fltNew (s : State) {e : Nat} (h : EntryIn A e) (i detail aux : Nat) (forced : Bool) :
    Touches A s (s.fltNew e i detail aux forced) :=
  (touches_wr s h.head _).trans <| (touches_wr _ (h 1 (by omega)) _).trans <| (touches_wr _ (h 2 (by omega)) _).trans <|
    (touches_wr _ (h 3 (by omega)) _).trans <| (touches_wr _ (h 4 (by omega)) _).trans (touches_wr _ (h 5 (by omega)) _)

/-- The entry that the next record takes. -/
def State.fltNext (s : State) : Nat :=
  if s.getF .fltHsts FLT_HSTS.NEWEST = 31 ∨ s.getF .fltHsts FLT_HSTS.NEWEST = 0 then 1
  else s.getF .fltHsts FLT_HSTS.NEWEST + 1

theorem fltNext_lt (s : State) : s.fltNext < 32 := by
  have h : s.getF .fltHsts FLT_HSTS.NEWEST < 32 := Nat.mod_lt _ (by decide)
  unfold State.fltNext
  split <;> omega

theorem touches_fltOpen (s : State) (i detail aux : Nat) (forced : Bool) :
    Touches histAddr s (s.fltOpen i detail aux forced) :=
  have hh : histAddr (Reg.fltHsts).addr := by decide
  have ht : histAddr (Reg.fltHtotal).addr := by decide
  (touches_fltEvict s _).trans <| (touches_fltNew _ (entryIn_histAddr (fltNext_lt s)) i detail aux forced).trans <|
    (touches_ite (touches_fltNew _ (entryIn_histAddr (by decide)) i detail aux forced) (.refl _ _)).trans <|
    (touches_modFlt _ i _).trans <| (touches_setF _ hh _ _).trans <| (touches_set1 _ hh _).trans (touches_setF _ ht _ _)

/-- The open record of the source in the entry that was next. -/
theorem fltOpen_flt (s : State) (i detail aux : Nat) (forced : Bool) :
    ((s.fltOpen i detail aux forced).flt i).entry = s.fltNext := by
  change (FMap.find FltSrc.init i (FMap.put FltSrc.init i _ _)).entry = _
  rw [FMap.find_put_same]
  rfl

/-- The copies of an open record: the pinned entry 0, and the record's own. -/
theorem fltEntries_lt {i : Nat} (h : (s.flt i).entry < 32) : ∀ e ∈ s.fltEntries i, e < 32 := by
  intro e he
  simp only [State.fltEntries, List.mem_append, List.mem_ite_nil_left, List.mem_ite_nil_right, List.mem_singleton] at he
  omega

theorem forL_flts {α : Type} {f : α → State → State} (h : ∀ a s, (f a s).flts = s.flts) (l : List α) (s : State) :
    (forL l f s).flts = s.flts := by
  induction l generalizing s with
  | nil => rfl
  | cons a l ih => exact (ih (f a s)).trans (h a s)

theorem fltMerge_flts (s : State) (i detail : Nat) (forced : Bool) : (s.fltMerge i detail forced).flts = s.flts := by
  refine forL_flts (fun e s => ?_) _ s
  cases forced <;> rfl

theorem touches_fltMerge {i : Nat} (he : ∀ e ∈ s.fltEntries i, EntryIn A e) (detail : Nat) (forced : Bool) :
    Touches A s (s.fltMerge i detail forced) :=
  touches_fltUpd he fun _ h s =>
    (touches_setF s h.head _ _).trans <| (touches_ite (touches_set1 _ h.head _) (.refl _ _)).trans <|
      (touches_wr _ (h 3 (by omega)) _).trans (touches_setF _ (h 5 (by omega)) _ _)

/-- The part of a decision that writes the record. -/
def State.fltReacted (s : State) (i react st : Nat) : State :=
  forL (s.fltEntries i) (fun e s =>
    let s := s.setF (.fltHist (e * 8)) ⟨33, 32⟩ (st - 1)
    let s := if react = 0 then s else (s.set1 (.fltHist (e * 8)) ⟨30, 30⟩).setF (.fltHist (e * 8)) ⟨29, 27⟩ react
    s.wr (.fltHist (e * 8 + 2)) s.clk) s

theorem touches_fltReacted {i : Nat} (he : ∀ e ∈ s.fltEntries i, EntryIn A e) (react st : Nat) :
    Touches A s (s.fltReacted i react st) :=
  touches_forL (fun e h s =>
    have hh := (he e h).head
    (touches_setF s hh _ _).trans <|
      (touches_ite (.refl _ _) ((touches_set1 _ hh _).trans (touches_setF _ hh _ _))).trans
      (touches_wr _ (he e h 2 (by omega)) _)) s

/-- The state that a decision goes to: LATCHED for MGR_RING, else SEVERE. -/
def fltDecided (i : Nat) : Nat := if i = 48 then 3 else 2

/-- The decision as the record and the source show it, before `FLT_IPEND`. -/
def State.fltMarked (s : State) (i : Nat) : State :=
  let react := s.getF (.fltCfg i) FLT_CFG.REACT
  let s := s.fltReacted i react (fltDecided i)
  (s.modFlt i (fun x => { x with window := none, last := s.now, react := react })).setF (.fltSts i) FLT_STS.STATE
    (fltDecided i)

/-- A decision: the record and the source, and `FLT_IPEND` with its interrupt for a reaction of 1 or above. -/
theorem fltDecide_eq (s : State) (i : Nat) : s.fltDecide i =
    if s.getF (.fltCfg i) FLT_CFG.REACT = 0 then s.fltMarked i
    else ((s.fltMarked i).set1 .fltIpend ⟨i, i⟩).irqWake 309 := rfl

/-! ## One event of a source (R424 to R426) -/

/-- The addresses that an event of source `i` can touch, with the entries of its open record. -/
structure EventIn (A : Nat → Prop) (s : State) (i : Nat) : Prop where
  hist : ∀ a, histAddr a → A a
  wake : ∀ a, wakeAddr a → A a
  sts : A (Reg.fltSts i).addr
  entries : ∀ e ∈ s.fltEntries i, EntryIn A e

theorem touches_fltMarked {i : Nat} (h : EventIn A s i) : Touches A s (s.fltMarked i) :=
  (touches_fltReacted h.entries _ _).trans ((touches_modFlt _ i _).trans (touches_setF _ h.sts _ _))

theorem touches_fltDecide {i : Nat} (h : EventIn A s i) : Touches A s (s.fltDecide i) := by
  have hp : A (Reg.fltIpend).addr := h.hist _ (by decide)
  rw [fltDecide_eq]
  exact touches_ite (touches_fltMarked h)
    ((touches_fltMarked h).trans ((touches_set1 _ hp _).trans ((touches_irqWake _ _).mono h.wake)))

/-- The first event of an idle source opens a record, and the count starts. -/
def State.fltStarted (s : State) (i detail aux : Nat) (forced : Bool) : State :=
  ((s.fltOpen i detail aux forced).setF (.fltSts i) FLT_STS.STATE 1).setF (.fltSts i) FLT_STS.COUNT 1

/-- The first event of an idle source, before the decision: the window starts with the count. -/
def State.fltFirst (s : State) (i detail aux : Nat) (forced : Bool) : State :=
  let s := s.fltStarted i detail aux forced
  let w := s.getF (.fltCfg i) FLT_CFG.W
  s.modFlt i (fun x => { x with window := if w = 0 then none else some (s.now + 25000 * w) })

/-- An event of an idle source. -/
theorem fltCount_idle {i : Nat} (he : s.flag (.fltCfg i) FLT_CFG.EN = true) (h : s.getF (.fltSts i) FLT_STS.STATE = 0)
    (detail aux : Nat) (forced : Bool) : (s.fltCount i detail aux forced).1 =
      if (s.fltFirst i detail aux forced).fltN i ≤ 1 then (s.fltFirst i detail aux forced).fltDecide i
      else s.fltFirst i detail aux forced := by
  simp only [State.fltCount, he, h, if_true]
  change (if (s.fltFirst i detail aux forced).fltN i ≤ 1 then
    ((s.fltFirst i detail aux forced).fltDecide i, true) else (s.fltFirst i detail aux forced, false)).1 = _
  split <;> rfl

/-- A later event of a source, merged into its record; where the source counts, the count rises. -/
def State.fltLater (s : State) (i detail : Nat) (forced : Bool) : State :=
  if s.getF (.fltSts i) FLT_STS.STATE = 1 then (s.fltMerge i detail forced).satF (.fltSts i) FLT_STS.COUNT 1
  else s.fltMerge i detail forced

/-- An event of a source that counts, and of one that has decided. -/
theorem fltCount_counting {i : Nat} (he : s.flag (.fltCfg i) FLT_CFG.EN = true)
    (h : s.getF (.fltSts i) FLT_STS.STATE = 1) (detail aux : Nat) (forced : Bool) :
    let t := s.fltLater i detail forced
    (s.fltCount i detail aux forced).1 =
      if t.fltN i ≤ t.getF (.fltSts i) FLT_STS.COUNT then t.fltDecide i else t := by
  simp only [State.fltCount, State.fltLater, he, h, if_true, Nat.one_ne_zero, if_false]
  split <;> rfl

theorem fltCount_decided {i : Nat} (he : s.flag (.fltCfg i) FLT_CFG.EN = true)
    (h0 : s.getF (.fltSts i) FLT_STS.STATE ≠ 0) (h1 : s.getF (.fltSts i) FLT_STS.STATE ≠ 1) (detail aux : Nat)
    (forced : Bool) :
    let t := s.fltLater i detail forced
    (s.fltCount i detail aux forced).1 = t.modFlt i (fun x => { x with last := t.now }) := by
  simp only [State.fltCount, State.fltLater, he, h0, h1, if_true, if_false]

/-- An event of a source that is disabled. -/
theorem fltCount_disabled {i : Nat} (he : s.flag (.fltCfg i) FLT_CFG.EN = false) (detail aux : Nat) (forced : Bool) :
    s.fltCount i detail aux forced = (s, false) := by
  simp [State.fltCount, he]

theorem modFlt_entry {i : Nat} {g : FltSrc → FltSrc} (h : ∀ x, (g x).entry = x.entry) :
    ((s.modFlt i g).flt i).entry = (s.flt i).entry := by
  rw [State.modFlt, setFlt_same, h]

theorem setF_flt (s : State) (r : Reg) (f : Fld) (x i : Nat) : (s.setF r f x).flt i = s.flt i := rfl

theorem fltFirst_entry (s : State) (i detail aux : Nat) (forced : Bool) :
    ((s.fltFirst i detail aux forced).flt i).entry < 32 := by
  have h : ((s.fltFirst i detail aux forced).flt i).entry = ((s.fltStarted i detail aux forced).flt i).entry :=
    modFlt_entry fun _ => rfl
  rw [h, State.fltStarted, setF_flt, setF_flt, fltOpen_flt]
  exact fltNext_lt s

theorem touches_fltFirst {i : Nat} (hh : ∀ a, histAddr a → A a) (hs : A (Reg.fltSts i).addr) (detail aux : Nat)
    (forced : Bool) : Touches A s (s.fltFirst i detail aux forced) :=
  ((touches_fltOpen s i detail aux forced).mono hh).trans <| (touches_setF _ hs _ _).trans <|
    (touches_setF _ hs _ _).trans (touches_modFlt _ i _)

theorem eventIn_fltFirst {i : Nat} (h : EventIn A s i) (detail aux : Nat) (forced : Bool) :
    EventIn A (s.fltFirst i detail aux forced) i :=
  { h with
    entries := fun e he k hk => h.hist _ (entryIn_histAddr (fltEntries_lt (fltFirst_entry s i detail aux forced) e he) k hk) }

theorem fltLater_flts (s : State) (i detail : Nat) (forced : Bool) : (s.fltLater i detail forced).flts = s.flts := by
  unfold State.fltLater
  split
  · exact fltMerge_flts s i detail forced
  · exact fltMerge_flts s i detail forced

theorem touches_fltLater {i : Nat} (h : EventIn A s i) (detail : Nat) (forced : Bool) :
    Touches A s (s.fltLater i detail forced) :=
  touches_ite ((touches_fltMerge h.entries detail forced).trans (touches_setF _ h.sts _ _))
    (touches_fltMerge h.entries detail forced)

theorem eventIn_fltLater {i : Nat} (h : EventIn A s i) (detail : Nat) (forced : Bool) :
    EventIn A (s.fltLater i detail forced) i :=
  { h with
    entries := fun e he => h.entries e (by
      rwa [State.fltEntries, State.flt, fltLater_flts, ← State.flt, ← State.fltEntries] at he) }

/-- What one event of a source can change, in every state of the source. -/
theorem touches_fltCount {i : Nat} (h : EventIn A s i) (detail aux : Nat) (forced : Bool) :
    Touches A s (s.fltCount i detail aux forced).1 := by
  have hl := touches_fltLater h detail forced
  cases he : s.flag (.fltCfg i) FLT_CFG.EN
  case false => rw [fltCount_disabled he]; exact .refl A s
  case true =>
    by_cases h0 : s.getF (.fltSts i) FLT_STS.STATE = 0
    · rw [fltCount_idle he h0]
      have hf := touches_fltFirst (s := s) h.hist h.sts detail aux forced
      exact touches_ite (hf.trans (touches_fltDecide (eventIn_fltFirst h detail aux forced))) hf
    · by_cases h1 : s.getF (.fltSts i) FLT_STS.STATE = 1
      · rw [fltCount_counting he h1]
        exact touches_ite (hl.trans (touches_fltDecide (eventIn_fltLater h detail forced))) hl
      · rw [fltCount_decided he h0 h1]
        exact hl.trans (touches_modFlt _ i _)

/-- An event of any source leaves the island and the queue alone. -/
theorem fltCount_aon (s : State) (i detail aux : Nat) (forced : Bool) :
    (s.fltCount i detail aux forced).1.aon = s.aon ∧ (s.fltCount i detail aux forced).1.pending = s.pending := by
  have h : EventIn (fun _ => True) s i :=
    ⟨fun _ _ => trivial, fun _ _ => trivial, trivial, fun _ _ _ _ => trivial⟩
  have ht := touches_fltCount h detail aux forced
  exact ⟨ht.aon, ht.pending⟩

/-! ## Access violations (R422) -/

theorem violation_aon (s : State) (q : Requester) (l : Loc) : (s.violation q l).aon = s.aon :=
  (fltCount_aon s _ _ _ _).1
theorem violation_pending (s : State) (q : Requester) (l : Loc) : (s.violation q l).pending = s.pending :=
  (fltCount_aon s _ _ _ _).2

/-- The registers of the fault unit, and those that change when a management pair is woken. -/
def faultAddr (a : Nat) : Prop := (0x10000 ≤ a ∧ a < 0x11000) ∨ wakeAddr a

/-- What recording a violation changes, where the entry of its open record is one that the history has. -/
theorem touches_violation (h : (s.flt 49).entry < 32) (q : Requester) (l : Loc) :
    Touches faultAddr s (s.violation q l) := by
  have hh (a : Nat) (ha : histAddr a) : faultAddr a := .inl ⟨Nat.le_trans (by decide) ha.1, ha.2⟩
  exact touches_fltCount
    { hist := hh
      wake := fun _ ha => .inr ha
      sts := .inl (by decide)
      entries := fun e he k hk => hh _ (entryIn_histAddr (fltEntries_lt h e he) k hk) } _ _ _

/-- With the ACCESS source disabled nothing is recorded. -/
theorem violation_disabled (h : s.flag (.fltCfg 49) FLT_CFG.EN = false) (q : Requester) (l : Loc) :
    s.violation q l = s := by
  rw [State.violation, fltCount_disabled h]

/-- Waking a pair and `FLT_IPEND` do not show in the state of the ACCESS source. -/
theorem fltDecide_fltSts (s : State) : (s.fltDecide 49).rd (.fltSts 49) = (s.fltMarked 49).rd (.fltSts 49) := by
  rw [fltDecide_eq]
  split
  · rfl
  · have hw : ¬ wakeAddr (Reg.fltSts 49).addr := by decide
    rw [(touches_irqWake _ 309).rd hw, set1_rd, rd_setF_ne _ _ _ (by decide)]

/-- The state that a decision of the ACCESS source shows, its count left as it was. -/
theorem fltDecide_state (s : State) : (s.fltDecide 49).getF (.fltSts 49) FLT_STS.STATE = 2 := by
  rw [State.getF, fltDecide_fltSts]
  exact getF_setF_same _ _ _ _ (by decide)

theorem fltDecide_count (h : (s.flt 49).entry < 32) :
    (s.fltDecide 49).getF (.fltSts 49) FLT_STS.COUNT = s.getF (.fltSts 49) FLT_STS.COUNT := by
  have he (e : Nat) (he : e ∈ s.fltEntries 49) : EntryIn histAddr e := entryIn_histAddr (fltEntries_lt h e he)
  have hn : ¬ histAddr (Reg.fltSts 49).addr := by decide
  rw [State.getF, fltDecide_fltSts]
  exact (getF_setF_apart _ _ _ _ _ (by decide) (by decide)).trans ((touches_fltReacted he _ _).getF hn _)

theorem modFlt_getF (s : State) (i : Nat) (g : FltSrc → FltSrc) (r : Reg) (f : Fld) :
    (s.modFlt i g).getF r f = s.getF r f := rfl

/-- The ACCESS source after its first event, before the decision: its count is 1, it is COUNTING, and `N` stands. -/
theorem fltFirst_count (s : State) (detail aux : Nat) (forced : Bool) :
    (s.fltFirst 49 detail aux forced).getF (.fltSts 49) FLT_STS.COUNT = 1 := by
  rw [State.fltFirst, modFlt_getF, State.fltStarted, getF_setF_same _ _ _ _ (by decide)]
  rfl

theorem fltFirst_state (s : State) (detail aux : Nat) (forced : Bool) :
    (s.fltFirst 49 detail aux forced).getF (.fltSts 49) FLT_STS.STATE = 1 := by
  rw [State.fltFirst, modFlt_getF, State.fltStarted, getF_setF_apart _ _ _ _ _ (by decide) (by decide),
    getF_setF_same _ _ _ _ (by decide)]
  rfl

theorem fltFirst_fltN (s : State) (detail aux : Nat) (forced : Bool) :
    (s.fltFirst 49 detail aux forced).fltN 49 = s.fltN 49 := by
  have ht : Touches (fun a => histAddr a ∨ a = (Reg.fltSts 49).addr) s (s.fltFirst 49 detail aux forced) :=
    touches_fltFirst (fun _ => .inl) (.inr rfl) detail aux forced
  rw [State.fltN, ht.getF (by decide), State.fltN]

/-- The first violation of an idle ACCESS source, in its count and its state. -/
theorem violation_idle (he : s.flag (.fltCfg 49) FLT_CFG.EN = true) (h0 : s.getF (.fltSts 49) FLT_STS.STATE = 0)
    (q : Requester) (l : Loc) :
    (s.violation q l).getF (.fltSts 49) FLT_STS.COUNT = 1 ∧
      (s.violation q l).getF (.fltSts 49) FLT_STS.STATE = if s.getF (.fltCfg 49) FLT_CFG.N ≤ 1 then 2 else 1 := by
  have hn : s.fltN 49 ≤ 1 ↔ s.getF (.fltCfg 49) FLT_CFG.N ≤ 1 := by
    rw [State.fltN]
    omega
  rw [State.violation, fltCount_idle he h0, fltFirst_fltN]
  simp only [hn]
  split
  · exact ⟨(fltDecide_count (fltFirst_entry s _ _ _ _)).trans (fltFirst_count s _ _ _), fltDecide_state _⟩
  · exact ⟨fltFirst_count s _ _ _, fltFirst_state s _ _ _⟩

end Sys2Proof.Machine
end

section
/-!
What a recorded fault brings about leaves the always-on island and the queue alone: interrupts, the ends of activations and what
follows from them, detaches, path changes, and the reactions of the fault unit (R181 to R185, R427 to R430).
-/
namespace Sys2Proof.Machine

/-- The island and the queue of `t` are those of `s`. -/
def Kept (s t : State) : Prop := t.aon = s.aon ∧ t.pending = s.pending

variable {s t u : State} {A : Nat → Prop}

theorem Kept.refl (s : State) : Kept s s := ⟨rfl, rfl⟩
theorem Kept.trans (h : Kept s t) (k : Kept t u) : Kept s u := ⟨k.1.trans h.1, k.2.trans h.2⟩
theorem Touches.kept (h : Touches A s t) : Kept s t := ⟨h.aon, h.pending⟩

theorem kept_ite {c : Prop} [Decidable c] (ht : Kept s t) (hu : Kept s u) : Kept s (if c then t else u) := by
  split
  · exact ht
  · exact hu

theorem kept_forL {α : Type} {f : α → State → State} (h : ∀ a s, Kept s (f a s)) (l : List α) (s : State) :
    Kept s (forL l f s) := by
  induction l generalizing s with
  | nil => exact .refl s
  | cons a l ih => exact (h a s).trans (ih (f a s))

theorem kept_forN {f : Nat → State → State} (h : ∀ n s, Kept s (f n s)) (n : Nat) (s : State) : Kept s (forN n f s) :=
  kept_forL h (List.range n) s

/-- An effect, and jobs that it brings about, by a condition. -/
theorem kept_ite_fst {β : Type} {c : Prop} [Decidable c] {p p' : State × β} (h : Kept s p.1) (h' : Kept s p'.1) :
    Kept s (if c then p else p').1 := by
  split
  · exact h
  · exact h'

/-! ## Interrupts -/

theorem kept_irqWake (s : State) (i : Nat) : Kept s (s.irqWake i) := (touches_irqWake s i).kept

theorem kept_irqEvent (s : State) (i : Nat) : Kept s (s.irqEvent i) :=
  Kept.trans ⟨rfl, rfl⟩ (kept_irqWake { s with icPend := FMap.put false i true s.icPend } i)

theorem kept_msix (s : State) (p fn v : Nat) : Kept s (s.msix p fn v) :=
  kept_ite (kept_ite (kept_ite ⟨rfl, rfl⟩ ⟨rfl, rfl⟩) ⟨rfl, rfl⟩) (.refl s)

theorem kept_mgrIrq (s : State) (i : Nat) : Kept s (s.mgrIrq i) :=
  (kept_ite (kept_msix s _ _ _) (.refl s)).trans (kept_irqEvent _ i)

/-! ## Capacity, contexts and results -/

theorem kept_foldl {α β : Type} {f : State × β → α → State × β} (h : ∀ p a, Kept p.1 (f p a).1) (l : List α)
    (p : State × β) : Kept p.1 (l.foldl f p).1 := by
  induction l generalizing p with
  | nil => exact .refl p.1
  | cons a l ih => exact (h p a).trans (ih (f p a))

theorem kept_capAside (s : State) (k n : Nat) : Kept s (s.capAside k n) := by
  unfold State.capAside
  generalize List.range 256 = l
  refine kept_foldl (fun p j => ?_) l (s, n)
  exact kept_ite_fst (.refl p.1) ⟨rfl, rfl⟩

theorem kept_capFreed (s : State) (k i n : Nat) : Kept s (s.capFreed k i n) := kept_ite (kept_capAside s k n) (.refl s)

theorem kept_lbFree (s : State) (i n : Nat) : Kept s (s.lbFree i n) :=
  Kept.trans ⟨rfl, rfl⟩ (kept_capFreed (s.modLbOf i (fun u => u - n)) 1 i n)

theorem kept_progDrop (s : State) (k : Nat) : Kept s (s.progDrop k) :=
  kept_ite (Kept.trans ⟨rfl, rfl⟩ (kept_capFreed (s.setProg k Prog.empty) 2 _ _)) (.refl s)

theorem kept_ctxFree (s : State) (c : Nat) : Kept s (s.ctxFree c) :=
  have h : Kept s (({ s.reqsDrop c with writes := orphanWrites c s.writes }.setCtx c Ctx.free).capFreed 0
      (s.ctx c).slice 1) := Kept.trans ⟨rfl, rfl⟩ (kept_capFreed _ 0 _ 1)
  kept_ite (h.trans (kept_progDrop _ _)) h

theorem kept_finish (s : State) (c code step bytes : Nat) : Kept s (s.finish c code step bytes) :=
  Kept.trans ⟨rfl, rfl⟩ (kept_ctxFree (s.modRing _ _) c)

theorem kept_orphanize (s : State) (e : Nat) : Kept s (s.orphanize e) := kept_ite (.refl s) ⟨rfl, rfl⟩

/-! ## Dispatch -/

theorem kept_unready (s : State) (c : Nat) : Kept s (s.unready c) := ⟨rfl, rfl⟩
theorem kept_runOn (s : State) (te c : Nat) : Kept s (s.runOn te c) := ⟨rfl, rfl⟩
theorem kept_parkOp (s : State) (te c : Nat) : Kept s (s.parkOp te c) := ⟨rfl, rfl⟩
theorem kept_modCtx (s : State) (c : Nat) (g : Ctx → Ctx) : Kept s (s.modCtx c g) := ⟨rfl, rfl⟩

theorem kept_runOrPlace (s : State) (te c : Nat) : Kept s (s.runOrPlace te c) := kept_ite ⟨rfl, rfl⟩ ⟨rfl, rfl⟩

theorem kept_gambitOver (s : State) (c n : Nat) : Kept s (s.gambitOver c n) := by
  unfold State.gambitOver
  split
  · exact .refl s
  · exact ⟨rfl, rfl⟩

theorem kept_queued (s : State) (c n : Nat) (st : OpStage) : Kept s (s.queued c n st) :=
  (kept_ite (kept_gambitOver s c n) (.refl s)).trans ⟨rfl, rfl⟩

theorem kept_toQueue (s : State) (c : Nat) : Kept s (s.toQueue c) := by
  unfold State.toQueue
  split
  · exact kept_queued s c _ _
  · exact .refl s

theorem kept_toSeq (s : State) (c : Nat) : Kept s (s.toSeq c) := (kept_toQueue s c).trans ⟨rfl, rfl⟩

theorem kept_opGo (s : State) (c : Nat) : Kept s (s.opGo c) := by
  unfold State.opGo
  split
  · exact kept_toSeq s c
  · refine kept_ite (kept_toSeq s c) ?_
    split
    · exact Kept.trans ⟨rfl, rfl⟩ (kept_toSeq _ c)
    · exact ⟨rfl, rfl⟩

theorem kept_opStart (s : State) (c : Nat) (r : BusReq) : Kept s (s.opStart c r) :=
  Kept.trans ⟨rfl, rfl⟩ (kept_opGo (s.modCtx c _) c)

theorem kept_startOn (s : State) (te c : Nat) : Kept s (s.startOn te c) := by
  refine (kept_unready s c).trans ?_
  unfold State.startOn
  dsimp only
  generalize s.unready c = t
  split
  next r _ =>
    have h := kept_opStart t c r
    exact kept_ite (h.trans (kept_runOrPlace _ te c)) (h.trans (kept_parkOp _ te c))
  · split
    · exact kept_ite (kept_runOn t te c) ((kept_modCtx t c _).trans (kept_parkOp _ te c))
    · exact kept_runOn t te c

theorem kept_dispatch1 {k c : Nat} (h : s.dispatch1 k = some (t, c)) : Kept s t := by
  unfold State.dispatch1 at h
  split at h
  · cases h
    exact kept_startOn s _ _
  · cases h

theorem kept_dispatchN (k n : Nat) (s : State) : Kept s (s.dispatchN k n) := by
  induction n generalizing s with
  | zero => exact .refl s
  | succ n ih =>
    unfold State.dispatchN
    split
    · rename_i p h
      exact (kept_dispatch1 h).trans (ih p.1)
    · exact .refl s

theorem kept_settle (s : State) : Kept s s.settle :=
  kept_forN (fun k s => kept_ite (kept_dispatchN k 8 s) (.refl s)) 20 s

/-! ## Semaphores and tokens -/

theorem kept_leaveEng (s : State) (c : Nat) : Kept s (s.leaveEng c) := by
  unfold State.leaveEng
  split
  · exact ⟨rfl, rfl⟩
  · exact .refl s

theorem kept_tokenLeave (s : State) (c : Nat) : Kept s (s.tokenLeave c) := ⟨rfl, rfl⟩
theorem kept_semLeave (s : State) (c : Nat) : Kept s (s.semLeave c) := ⟨rfl, rfl⟩
theorem kept_enlist (s : State) (c : Nat) (head : Bool) : Kept s (s.enlist c head) := ⟨rfl, rfl⟩
theorem kept_modToken (s : State) (k : Nat) (g : Token → Token) : Kept s (s.modToken k g) := ⟨rfl, rfl⟩
theorem kept_setF (s : State) (r : Reg) (f : Fld) (x : Nat) : Kept s (s.setF r f x) := ⟨rfl, rfl⟩
theorem kept_modSem (s : State) (i : Nat) (g : Sem → Sem) : Kept s (s.modSem i g) := ⟨rfl, rfl⟩
theorem kept_modEpc (s : State) (e : Nat) (g : Ep → Ep) : Kept s (s.modEpc e g) := ⟨rfl, rfl⟩

theorem kept_placed (s : State) (c : Nat) : Kept s (s.placed c) := kept_ite (kept_enlist s c false) (.refl s)

theorem kept_tokenGive (s : State) (k c : Nat) : Kept s (s.tokenGive k c) := by
  unfold State.tokenGive
  dsimp only
  split
  · exact (kept_modToken s k _).trans <| (kept_modCtx _ c _).trans <| (kept_modCtx _ c _).trans (kept_enlist _ c false)
  · exact (kept_modToken s k _).trans <| (kept_modCtx _ c _).trans (kept_ite (.refl _) (kept_enlist _ c false))

theorem kept_tokenPass (s : State) (k : Nat) : Kept s (s.tokenPass k) := by
  unfold State.tokenPass
  split
  · exact kept_modToken s k _
  · exact (kept_modToken s k _).trans (kept_tokenGive _ k _)

theorem kept_tokenDrop (s : State) (c : Nat) : Kept s (s.tokenDrop c) := by
  unfold State.tokenDrop
  dsimp only
  split
  · exact .refl s
  · exact (kept_modCtx s c _).trans (kept_ite (.refl _) (kept_tokenPass _ _))

theorem kept_semPass (s : State) (i : Nat) : Kept s (s.semPass i).1 := by
  unfold State.semPass
  split
  · exact .refl s
  · dsimp only
    split
    · exact (kept_modSem s i _).trans <| (kept_modCtx _ _ _).trans (kept_enlist _ _ false)
    · split
      · exact (kept_modSem s i _).trans <| (kept_modCtx _ _ _).trans <|
          kept_ite_fst (.refl _) ((kept_toSeq _ _).trans (kept_placed _ _))
      · exact (kept_modSem s i _).trans (kept_modCtx _ _ _)

theorem kept_semDrop (s : State) (i : Nat) (abandoned : Bool) : Kept s (s.semDrop i abandoned).1 :=
  (kept_modSem s i _).trans <| (kept_ite (kept_setF _ _ _ _) (.refl _)).trans (kept_semPass _ i)

theorem kept_semDrops (abandoned : Bool) (l : List Nat) (s : State) : Kept s (s.semDrops abandoned l).1 := by
  induction l generalizing s with
  | nil => exact .refl s
  | cons i l ih => exact (kept_ite_fst (.refl s) (kept_semDrop s i abandoned)).trans (ih _)

/-! ## The end of an activation -/

theorem kept_dropOp (s : State) (c : Nat) : Kept s (s.dropOp c) := by
  unfold State.dropOp
  split
  · exact .refl s
  · exact (kept_lbFree s _ _).trans <|
      (kept_ite ((kept_lbFree _ _ _).trans (kept_modEpc _ _ _)) (.refl _)).trans ⟨rfl, rfl⟩

theorem kept_seqEnd (s : State) (c : Nat) : Kept s (s.seqEnd c) :=
  (kept_modCtx s c _).trans (kept_forL (fun _ s => kept_ite (kept_modEpc s _ _) (.refl s)) _ _)

theorem kept_endCommon (s : State) (c code : Nat) (abandoned : Bool) : Kept s (s.endCommon c code abandoned).1 :=
  (kept_leaveEng s c).trans <| (kept_unready _ c).trans <| (kept_tokenLeave _ c).trans <| (kept_semLeave _ c).trans <|
    (kept_dropOp _ c).trans <| (kept_seqEnd _ c).trans <| (kept_modCtx _ c _).trans <| (kept_tokenDrop _ c).trans <|
    (kept_ite (kept_progDrop _ _) (.refl _)).trans (kept_semDrops abandoned _ _)

theorem kept_orphanTaken (s : State) (c : Nat) : Kept s (s.orphanTaken c) := by
  unfold State.orphanTaken
  split
  · exact kept_ite (kept_orphanize s _) (.refl s)
  · exact .refl s

theorem kept_latency (s : State) (c : Nat) : Kept s (s.latency c) := by
  unfold State.latency
  dsimp only
  split
  · exact .refl s
  · split
    · exact ⟨rfl, rfl⟩
    · exact kept_ite (.refl s) ⟨rfl, rfl⟩

theorem kept_tryFinish (s : State) (c : Nat) : Kept s (s.tryFinish c).1 :=
  kept_ite_fst (kept_finish s c _ _ _) (.refl s)

theorem kept_eventAt (s : State) (c tick : Nat) : Kept s (s.eventAt c tick) := by
  unfold State.eventAt
  dsimp only
  split
  · exact kept_ite (.refl s) ((kept_modCtx s c _).trans (kept_enlist _ c false))
  · exact .refl s

theorem kept_childEnd (s : State) (c code : Nat) : Kept s (s.childEnd c code).1 := by
  unfold State.childEnd
  dsimp only
  split
  · exact .refl s
  · exact (kept_ctxFree s c).trans <| (kept_modCtx _ _ _).trans <| (kept_eventAt _ _ 0).trans (kept_tryFinish _ _)

theorem kept_endResult (s : State) (c code : Nat) : Kept s (s.endResult c code).1 :=
  (kept_ite (kept_latency s c) (.refl s)).trans (kept_ite_fst (kept_tryFinish _ c) (kept_childEnd _ c code))

theorem kept_toEnding (s : State) (c : Nat) : Kept s (s.toEnding c) := by
  unfold State.toEnding
  dsimp only
  refine kept_ite (.refl s) ?_
  split
  · exact (kept_unready s c).trans <| (kept_tokenLeave _ c).trans (kept_modCtx _ c _)
  · exact (kept_leaveEng s c).trans (kept_modCtx _ c _)
  · exact kept_modCtx s c _
  · exact kept_modCtx s c _
  · exact kept_modCtx s c _
  · exact (kept_semLeave s c).trans (kept_modCtx _ c _)
  · exact (kept_tokenLeave s c).trans (kept_modCtx _ c _)
  · exact .refl s

/-! ## The entries of a ring -/

theorem kept_doReserve (s : State) (c : Nat) : Kept s (s.doReserve c) :=
  have hf := kept_finish s c
  kept_ite (hf _ _ _) (kept_ite (hf _ _ _) (kept_ite ⟨rfl, rfl⟩ (hf _ _ _)))

theorem kept_doRelease (s : State) (c : Nat) : Kept s (s.doRelease c) :=
  kept_ite (kept_finish s c _ _ _) (kept_ite (kept_finish s c _ _ _) (Kept.trans ⟨rfl, rfl⟩ (kept_finish (s.setRsvP _ _) c _ _ _)))

theorem kept_modRing (s : State) (k : Nat) (g : Ring → Ring) : Kept s (s.modRing k g) := ⟨rfl, rfl⟩

theorem kept_startEntry (s : State) (i r : Nat) (t : Taken) : Kept s (s.startEntry i r t).1 := by
  unfold State.startEntry
  dsimp only
  split
  · exact kept_modRing s _ _
  · split
    · exact (kept_modRing s _ _).trans <|
        kept_ite_fst (kept_finish _ _ _ _ _) (kept_ite (kept_enlist _ _ false) (.refl _))
    · exact (kept_modRing s _ _).trans (kept_finish _ _ _ _ _)
    · exact (kept_modRing s _ _).trans (kept_modRing _ _ _)
    · exact (kept_modRing s _ _).trans (kept_doReserve _ _)
    · exact (kept_modRing s _ _).trans (kept_doRelease _ _)
    · exact kept_modRing s _ _

theorem kept_tryEntry (s : State) (before : List Taken) (t : Taken) : Kept s (s.tryEntry before t) := by
  unfold State.tryEntry
  split
  · exact .refl s
  · exact kept_ite (kept_finish s _ _ _ _) (kept_ite (kept_finish s _ _ _ _) (.refl s))

theorem kept_pumpN (i r f k : Nat) (s : State) (js : List Job) : Kept s (State.pumpN i r f k s js).1 := by
  induction f generalizing k s js with
  | zero => exact .refl s
  | succ f ih =>
    unfold State.pumpN
    dsimp only
    split
    · exact .refl s
    · exact kept_ite_fst (ih _ _ _) <| kept_ite_fst (.refl s) <|
        (kept_ite_fst (.refl s) (kept_startEntry s i r _)).trans <| (kept_tryEntry _ _ _).trans (ih _ _ _)

/-! ## Jobs -/

theorem kept_job (s : State) (j : Job) : Kept s (s.job j).1 := by
  cases j with
  | ends c code =>
    exact kept_ite_fst ((kept_orphanTaken s c).trans <| (kept_endCommon _ c code true).trans (kept_endResult _ c code))
      (.refl s)
  | posts c code => exact kept_ite_fst ((kept_endCommon s c code false).trans (kept_endResult _ c code)) (.refl s)
  | asks c code =>
    exact kept_ite_fst (kept_ite_fst (.refl s) ((kept_modCtx s c _).trans (kept_toEnding _ c))) <|
      kept_ite_fst (kept_modCtx s c _) (kept_ite_fst (kept_modCtx s c _) (.refl s))
  | pump i r => exact kept_pumpN i r 65537 0 s []

theorem kept_run (n : Nat) (js : List Job) (s : State) : Kept s (State.run n js s) := by
  induction n generalizing js s with
  | zero => exact .refl s
  | succ n ih =>
    cases js with
    | nil => exact .refl s
    | cons j js => exact (kept_job s j).trans (ih _ _)

theorem kept_jobs (s : State) (js : List Job) : Kept s (s.jobs js) := (kept_run 1000000 js s).trans (kept_settle _)

/-! ## The fence of a slice (R131) -/

theorem kept_owedAll (s : State) (i : Nat) (pending : Bool) : Kept s (s.owedAll i pending) :=
  kept_forL (fun _ s => kept_ite (kept_modEpc s _ _) ((kept_modEpc s _ _).trans (kept_setF _ _ _ _))) _ s

theorem kept_adjFinish (s : State) (i result : Nat) : Kept s (s.adjFinish i result) :=
  have h : Kept s { s with adjCmd := none } := ⟨rfl, rfl⟩
  h.trans <| (kept_setF _ _ _ _).trans <| (kept_setF _ _ _ _).trans <| (kept_setF _ _ _ _).trans (kept_irqEvent _ 312)

theorem kept_adjEnd (s : State) (i : Nat) : Kept s (s.adjEnd i) := by
  have ha (s : State) : Kept s (s.setAdj i Adj.init) := ⟨rfl, rfl⟩
  have hr (s : State) (l : List SealOp) (r : Option SliceRecord) :
      Kept s { s with sealOps := l, restoring := r } := ⟨rfl, rfl⟩
  have hs (l : List SealOp) (r : Option SliceRecord) := (kept_owedAll s i false).trans ((ha _).trans (hr _ l r))
  unfold State.adjEnd
  refine kept_ite (.refl s) ?_
  dsimp only
  split
  · exact kept_ite ((hs _ _).trans (kept_adjFinish _ i _)) (hs _ _)
  · exact hs _ _

theorem kept_reportsDrop (s : State) (i : Nat) (count : Bool) : Kept s (s.reportsDrop i count) :=
  Kept.trans ⟨rfl, rfl⟩ (kept_capFreed _ 1 0 _)

theorem kept_scanStop (s : State) (i : Nat) : Kept s (s.scanStop i) := ⟨rfl, rfl⟩
theorem kept_claimsEnd (s : State) (i : Nat) : Kept s (s.claimsEnd i) := ⟨rfl, rfl⟩
theorem kept_undecide (s : State) (i : Nat) : Kept s (s.undecide i) := ⟨rfl, rfl⟩
theorem kept_set1 (s : State) (r : Reg) (f : Fld) : Kept s (s.set1 r f) := ⟨rfl, rfl⟩
theorem kept_modFlt (s : State) (i : Nat) (g : FltSrc → FltSrc) : Kept s (s.modFlt i g) := ⟨rfl, rfl⟩
theorem kept_modPort (s : State) (n : Nat) (g : Port → Port) : Kept s (s.modPort n g) := ⟨rfl, rfl⟩

theorem kept_orphanSlice (s : State) (i : Nat) : Kept s (s.orphanSlice i) :=
  kept_forL (fun _ s => kept_orphanize s _) _ s

theorem kept_finishOthers (s : State) (i code : Nat) : Kept s (s.finishOthers i code).1 :=
  kept_forL (fun c s => kept_finish s c code 0 0) _ s

theorem kept_fence (s : State) (i cause : Nat) : Kept s (s.fence i cause) :=
  kept_ite (.refl s) <|
    (kept_ite ((kept_set1 s _ _).trans (kept_setF _ _ _ _)) (.refl s)).trans <|
    (kept_ite (kept_mgrIrq _ i) (.refl _)).trans <| (kept_scanStop _ i).trans <| (kept_adjEnd _ i).trans <|
    (kept_claimsEnd _ i).trans <| (kept_orphanSlice _ i).trans <| (kept_reportsDrop _ i true).trans <|
    (kept_undecide _ i).trans <| (kept_finishOthers _ i _).trans (kept_jobs _ _)

/-! ## Detaches and path changes (R51, R331, R332) -/

theorem kept_modDev (s : State) (d : Nat) (g : Dev → Dev) : Kept s (s.modDev d g) := ⟨rfl, rfl⟩

theorem kept_detachEp (s : State) (e : Nat) : Kept s (s.detachEp e) := by
  have hr (x : FMap Att) (y : FMap AttCfg) (z : List EpaOp) : Kept s { s with att := x, attP := y, epaOps := z } :=
    ⟨rfl, rfl⟩
  exact (hr _ _ _).trans <| (kept_orphanize _ e).trans <| (kept_modEpc _ e _).trans (kept_jobs _ _)

theorem kept_detachOne (s : State) (d : Nat) : Kept s (s.detachOne d) :=
  kept_ite (.refl s) ((kept_modDev s d _).trans (kept_forL (fun e s => kept_detachEp s e) _ _))

theorem kept_freeDev (s : State) (d : Nat) : Kept s (s.freeDev d) :=
  have hd : Kept s (s.setDev d Dev.empty) := ⟨rfl, rfl⟩
  have he (e : Nat) (s : State) : Kept s (s.setEpc e Ep.empty) := ⟨rfl, rfl⟩
  kept_ite (hd.trans (kept_forL he _ _)) (.refl s)

theorem kept_freeDevs (s : State) : Kept s s.freeDevs := kept_forL (fun d s => kept_freeDev s d) _ s

theorem kept_detachPath (s : State) (n : Nat) (ss : Bool) : Kept s (s.detachPath n ss) :=
  (kept_forL (fun k s => kept_detachOne s k) _ s).trans (kept_freeDevs _)

theorem kept_modPath (s : State) (n : Nat) (ss : Bool) (f : Path → Path) : Kept s (s.modPath n ss f) := ⟨rfl, rfl⟩
theorem kept_noteMove (s : State) (n : Nat) (ss : Bool) (was prec : Nat) : Kept s (s.noteMove n ss was prec) := ⟨rfl, rfl⟩
theorem kept_unmove (s : State) (n : Nat) (ss : Bool) : Kept s (s.unmove n ss) := ⟨rfl, rfl⟩

theorem kept_pathRegs (s : State) (n : Nat) (ss : Bool) (st : Nat) : Kept s (s.pathRegs n ss st) :=
  kept_ite
    ((kept_setF s _ _ _).trans <| (kept_setF _ _ _ _).trans <| (kept_ite (.refl _) (kept_setF _ _ _ _)).trans
      (kept_ite (kept_setF _ _ _ _) (.refl _)))
    ((kept_setF s _ _ _).trans <| (kept_setF _ _ _ _).trans (kept_ite (.refl _) (kept_setF _ _ _ _)))

theorem kept_cancelEntry (s : State) (d apt : Nat) : Kept s (s.cancelEntry d apt) :=
  have hs (s : State) : Kept s (s.setDomSt d dOn) := ⟨rfl, rfl⟩
  have hm (s : State) (g : Dom → Dom) : Kept s (s.modDom d g) := ⟨rfl, rfl⟩
  (kept_setF s _ _ _).trans <| (hs _).trans <| (kept_set1 _ _ _).trans <| (kept_set1 _ _ _).trans <|
    (kept_setF _ _ _ _).trans <| (hm _ _).trans (kept_irqWake _ 313)

theorem kept_seqStirs (s : State) (n : Nat) (ss : Bool) (old st : Nat) : Kept s (s.seqStirs n ss old st) :=
  kept_ite (kept_cancelEntry s _ 0) (.refl s)

theorem kept_checkerOff (s : State) (n : Nat) : Kept s (s.checkerOff n) := kept_ite ⟨rfl, rfl⟩ (.refl s)

theorem kept_setPath (s : State) (n : Nat) (ss : Bool) (st : Nat) (sw : Bool) : Kept s (s.setPath n ss st sw) :=
  kept_ite (.refl s) <|
    (kept_ite (kept_checkerOff s n) (.refl s)).trans <| (kept_pathRegs _ n ss st).trans <|
    (kept_modPath _ n ss _).trans <| (kept_seqStirs _ n ss _ st).trans <|
    (kept_ite (.refl _) (kept_modPort _ n _)).trans <| (kept_ite (kept_set1 _ _ _) (.refl _)).trans <|
    (kept_ite (kept_detachEp _ _) (.refl _)).trans (kept_ite (kept_detachPath _ n ss) (.refl _))

/-- A condition of one cycle does what its two effects do. -/
theorem kept_cond {bits f : State → State} (hb : ∀ s, Kept s (bits s)) (hf : ∀ s, Kept s (f s)) (s : State) (n : Nat)
    (ss : Bool) (prec : Nat) (ok : Nat → Bool) : Kept s (s.cond n ss prec ok bits f) :=
  kept_ite
    (kept_ite (hb s) ((kept_unmove s n ss).trans <| (hf _).trans (kept_noteMove _ n ss _ prec)))
    (kept_ite ((hf s).trans (kept_noteMove _ n ss _ prec)) (.refl s))

theorem kept_toOvercurrent (s : State) (n : Nat) : Kept s (s.toOvercurrent n) :=
  have hc (ss : Bool) (s : State) := kept_cond Kept.refl (fun s => kept_setPath s n ss pOvercurrent false) s n ss precOc
    (· != pOvercurrent)
  (hc false s).trans (hc true _)

theorem kept_pwrSet (s : State) (n : Nat) : Kept s (s.pwrSet n) := by
  have hd (s : State) (pin : Nat) (b : Bool) : Kept s (s.drive pin b) := kept_ite (.refl s) ⟨rfl, rfl⟩
  have ht : Kept s (s.traffic 167) := ⟨rfl, rfl⟩
  exact kept_ite (.refl s) <| ht.trans <| (kept_modPort _ n _).trans <| (hd _ _ _).trans <|
    kept_ite ((kept_modPort _ n _).trans (kept_modPort _ _ _)) (.refl _)

theorem kept_holdPort (s : State) (i n : Nat) : Kept s (s.holdPort i n) :=
  (kept_forL (fun k s => (kept_modPort s k _).trans (kept_toOvercurrent _ k)) _ s).trans
    (kept_forL (fun k s => kept_pwrSet s k) _ _)

/-! ## Reactions (R427 to R430) -/

theorem kept_aer (s : State) (p fn e : Nat) : Kept s (s.aer p fn e) := kept_ite ⟨rfl, rfl⟩ ⟨rfl, rfl⟩

theorem kept_fenceReact (s : State) (i slice : Nat) : Kept s (s.fenceReact i slice) :=
  kept_ite (kept_forL (fun _ s => kept_setF s _ _ _) _ s) (kept_fence s slice 3)

theorem kept_safeState (s : State) (i : Nat) : Kept s (s.safeState i) :=
  (kept_modFlt s i _).trans <| (kept_set1 _ _ _).trans <|
    (kept_forN (fun p s => kept_ite (kept_aer s p 0 aerUie) (.refl s)) 4 _).trans
      (kept_forN (fun n s => kept_holdPort s i n) 20 _)

theorem kept_offWire (s : State) (c : Nat) : Kept s (s.offWire c) := ⟨rfl, rfl⟩

theorem kept_stopCtx (s : State) (c : Nat) : Kept s (s.stopCtx c) :=
  (kept_leaveEng s c).trans <| (kept_unready _ c).trans <| (kept_tokenLeave _ c).trans <| (kept_semLeave _ c).trans <|
    (kept_orphanTaken _ c).trans <| (kept_dropOp _ c).trans <| (kept_seqEnd _ c).trans <| (kept_modCtx _ c _).trans <|
    kept_ite (kept_progDrop _ _) (.refl _)

theorem kept_halt (s : State) : Kept s s.halt :=
  Kept.trans ⟨rfl, rfl⟩ (kept_forL (fun c s => (kept_stopCtx s c).trans (kept_offWire _ c)) _ _)

theorem kept_react (s : State) (i detail : Nat) : Kept s (s.react i detail) := by
  unfold State.react
  have hr : Kept s (match (s.flt i).react with
      | 2 => s.fenceReact i detail
      | 3 => s.holdPort i (i % 20)
      | 4 => s.safeState i
      | _ => s) := by
    split
    · exact kept_fenceReact s i detail
    · exact kept_holdPort s i _
    · exact kept_safeState s i
    · exact .refl s
  exact kept_ite (hr.trans (kept_halt _)) hr

theorem kept_faultEvent (s : State) (i detail aux : Nat) (forced : Bool) :
    Kept s (s.faultEvent i detail aux forced) :=
  have hc : Kept s (s.fltCount i (detail % 65536) aux forced).1 := fltCount_aon s i _ aux forced
  kept_ite (hc.trans (kept_react _ i _)) hc

/-- A request that ends with Unsupported Request leaves the island and the queue alone. -/
theorem kept_unsupported (s : State) (p fn : Nat) : Kept s (s.unsupported p fn) :=
  (kept_aer s p _ aerUr).trans <| (kept_faultEvent _ _ _ _ _).trans ⟨rfl, rfl⟩

end Sys2Proof.Machine
end

section
/-!
Accesses that are turned away (R9, R12, R82, R445, R446).
-/
namespace Sys2Proof.Machine

section

variable {s : State} {q : Requester} {l : Loc}

/-! ## Misaligned accesses and narrow writes (R12) -/

/-- A misaligned access to a location that the requester reaches ends as its requester determines. -/
theorem misalignedAccess_reaches {n : Nat} {write : Bool} {t : State} (hu : s.up = true) (h : s.reaches q l = true)
    (ht : s.misaligned q l n write = t) (ha : t.aon = s.aon) (hp : t.pending = s.pending) :
    exec (.misalignedAccess q ⟨l, n⟩ write) s = .next t := by
  change execMisalignedAccess q ⟨l, n⟩ write s = _
  unfold execMisalignedAccess
  refine onDevice_eq hu ?_ ha hp
  simp only [place_of_reaches h, ht]

/-- A narrow write to a location that the requester reaches is a violation. -/
theorem narrowWrite_reaches (hu : s.up = true) (h : s.reaches q l = true) :
    exec (.narrowWrite q l) s = .next (s.violation q l) := by
  change execNarrowWrite q l s = _
  unfold execNarrowWrite
  refine onDevice_eq hu ?_ (violation_aon s q l) (violation_pending s q l)
  simp only [place_of_reaches h]

/-! ## Writes that never reach a register (R9, R82, R445, R446) -/

/-- A write that the writer is barred from is a violation. -/
theorem gateLoc_barred (h : s.reaches q l = true) (hb : s.barred q l = true) (f : Loc → State → State) :
    s.gateLoc q l f = s.violation q l := by
  simp [State.gateLoc, place_of_reaches h, hb]

/-- The manager function is barred from manager space, but for the claim register, without the claim. -/
theorem barred_mgr {p fn a : Nat} (ha : a ≠ 0x410) (hc : s.claim ≠ claimHost) : s.barred (.func p fn) (.mgr a) = true := by
  simp [State.barred, ha, hc]

/-- A write where the requester finds nothing that takes one. -/
theorem write32_noAccess {x : Spot} (h : s.place q l = x) (hx : x = .none ∨ x = .empty ∨ x = .ur ∨ x = .unlisted)
    (v : Word32) (hw : Word64) : s.write32 q l v hw = s.noAccess q x := by
  obtain rfl | rfl | rfl | rfl := hx <;> simp [State.write32, State.gateLoc, h]

theorem noAccess_none : s.noAccess q .none = s := by cases q <;> rfl
theorem noAccess_empty : s.noAccess q .empty = s := by cases q <;> rfl
theorem noAccess_unlisted : s.noAccess q .unlisted = s.emit .busError := by cases q <;> rfl

/-- A 32-bit write whose effect is known, and leaves the island and the queue alone. -/
theorem registerWrite_eq {v hw : Word32} {t : State} (hu : s.up = true)
    (ht : s.write32 q l v (hw.setWidth 64) = t) (ha : t.aon = s.aon) (hp : t.pending = s.pending) :
    exec (.registerWrite q l ⟨v, hw⟩) s = .next t :=
  (exec_registerWrite s q l v hw).trans (onDevice_eq hu ht ha hp)

theorem registerWrite_barred (hu : s.up = true) (h : s.reaches q l = true) (hb : s.barred q l = true) (v hw : Word32) :
    exec (.registerWrite q l ⟨v, hw⟩) s = .next (s.violation q l) :=
  registerWrite_eq hu (by rw [write32_reaches h, gateLoc_barred h hb]) (violation_aon s q l) (violation_pending s q l)

theorem registerWrite_nothing (hu : s.up = true) (h : s.place q l = .none ∨ s.place q l = .empty) (v hw : Word32) :
    exec (.registerWrite q l ⟨v, hw⟩) s = .next s := by
  refine registerWrite_eq hu ?_ rfl rfl
  obtain h | h := h
  · rw [write32_noAccess h (.inl rfl), noAccess_none]
  · rw [write32_noAccess h (.inr (.inl rfl)), noAccess_empty]

theorem registerWrite_ur {p fn : Nat} (hu : s.up = true) (h : s.place (.func p fn) l = .ur) (v hw : Word32) :
    exec (.registerWrite (.func p fn) l ⟨v, hw⟩) s = .next (s.unsupported p fn) := by
  obtain ⟨ha, hp⟩ := kept_unsupported s p fn
  exact registerWrite_eq hu (write32_noAccess h (.inr (.inr (.inl rfl))) v _) ha hp

theorem registerWrite_unlisted (hu : s.up = true) (h : s.place q l = .unlisted) (v hw : Word32) :
    exec (.registerWrite q l ⟨v, hw⟩) s = .next { s with out := .busError :: s.out } :=
  registerWrite_eq hu (by rw [write32_noAccess h (.inr (.inr (.inr rfl))), noAccess_unlisted]; rfl) rfl rfl

theorem registerWrite_noCell (ho : s.opens q l = true) (hi : inLibrary l = false) (hc : cellAt l = .none)
    (v hw : Word32) : exec (.registerWrite q l ⟨v, hw⟩) s = .next s :=
  registerWrite_eq (opens_iff.1 ho).1 (by rw [write32_opens ho, put32_none hi hc]) rfl rfl

end

/-- Settles O22: what an access meets decides where it ends, and an event of the ACCESS source touches the fault unit and a
woken pair only. -/
theorem accessesTurnedAway : Obligations.AccessesTurnedAway := by
  unfold Obligations.AccessesTurnedAway
  refine ⟨⟨?_, ?_, ?_, ?_, ?_, ?_, ?_, ?_⟩, ⟨?_, ?_, ?_, ?_, ?_⟩, ?_⟩
  case refine_1 =>
    intro s l n write hu h
    exact misalignedAccess_reaches hu h rfl rfl rfl
  case refine_2 =>
    intro s l n write hu h
    exact misalignedAccess_reaches hu h rfl rfl rfl
  case refine_3 =>
    intro s p fn n l hu h
    exact misalignedAccess_reaches hu h rfl (violation_aon s _ l) (violation_pending s _ l)
  case refine_4 =>
    intro s p fn n l hu h
    exact misalignedAccess_reaches hu h rfl (violation_aon _ _ l) (violation_pending _ _ l)
  case refine_5 =>
    intro s l n hu h
    exact misalignedAccess_reaches hu h rfl (violation_aon _ .jtag l) (violation_pending _ .jtag l)
  case refine_6 =>
    intro s q l hu h
    exact narrowWrite_reaches hu h
  case refine_7 =>
    intro s q l h
    exact violation_disabled h q l
  case refine_8 =>
    intro s q l he h0
    exact violation_idle he h0 q l
  case refine_9 =>
    intro s p fn a v hw hu h ha hc
    exact registerWrite_barred hu h (barred_mgr ha hc) v hw
  case refine_10 =>
    intro s q l v hw hu h
    exact registerWrite_nothing hu h v hw
  case refine_11 =>
    intro s p fn l v hw hu h
    exact registerWrite_ur hu h v hw
  case refine_12 =>
    intro s q l v hw hu h
    exact registerWrite_unlisted hu h v hw
  case refine_13 =>
    intro s q l v hw ho hi hc
    exact registerWrite_noCell ho hi hc v hw
  case refine_14 =>
    intro s q l h
    obtain ⟨hr, hd, hs⟩ := touches_violation h q l
    refine ⟨fun r ha hw => hr r ?_, hd, hs⟩
    rintro (hf | hf)
    · omega
    · exact hw hf

end Sys2Proof.Machine
end

section
/-!
Publication of results (R38, R146 to R148, R153, R157): the writes of one finished entry, and when nothing is published.
-/
namespace Sys2Proof.Machine

section

variable {s : State} {i r : Nat} {x : Taken} {v : Result}

/-! ## A function that does not translate (R86) -/

theorem missing_of_atsOff (h : s.atsOn i = false) (a n : Nat) (w : Bool) : s.missing i a n w = none := by
  simp [State.missing, h]

theorem translated_of_atsOff (h : s.atsOn i = false) (a n : Nat) (w : Bool) : s.translated i a n w = true := by
  simp [State.translated, missing_of_atsOff h]

theorem askTranslation_of_atsOff (h : s.atsOn i = false) (c a n : Nat) (w : Bool) : s.askTranslation i c a n w = s := by
  simp [State.askTranslation, missing_of_atsOff h]

theorem xlatOf_of_atsOff (h : s.atsOn i = false) (a n : Nat) (w : Bool) : s.xlatOf i a n w = [] := by
  simp [State.xlatOf, h]

/-! ## A write that is one TLP (R38, R338) -/

@[simp] theorem length_leBytes (n k : Nat) : (leBytes n k).length = n := by
  induction n generalizing k with
  | zero => rfl
  | succ n ih => simp [leBytes, ih]

/-- Bytes within the maximum payload and one 4 KiB page stay in one piece. -/
theorem splitWrite_single {mps a : Nat} {b : List Byte} (h0 : 0 < b.length) (hm : b.length ≤ mps)
    (hp : a % 4096 + b.length ≤ 4096) : splitWrite mps b.length a b = [(a, b)] := by
  cases b with
  | nil => simp at h0
  | cons c t =>
    have hn : (c :: t).length ≤ max 1 (min mps (4096 - a % 4096)) := by omega
    have hnil (f a : Nat) : splitWrite mps f a [] = [] := by cases f <;> rfl
    simp only [List.length_cons, splitWrite]
    rw [List.take_of_length_le hn, List.drop_of_length_le hn, hnil]

/-- The TLP of an 8-byte write with Relaxed Ordering and ID-Based Ordering clear (R38, R146). -/
def State.wordWrite (s : State) (i a n : Nat) : Output :=
  .write (s.slPort i) (s.slFunc i) ⟨s.slPasid i, false, false, (s.func (s.slFn i)).ecrcGen⟩ a (leBytes 8 n)

/-- The state once that TLP is on its port. -/
def State.wordSent (s : State) (i a n : Nat) : State := (s.hostTraffic (s.slPort i)).emit (s.wordWrite i a n)

variable (s) in
theorem hostTraffic_eq (p : Nat) : ∃ d, s.hostTraffic p = { s with doms := d } := by
  have ht (s : State) (k : Nat) : ∃ d, s.traffic k = { s with doms := d } := ⟨_, rfl⟩
  obtain ⟨d, hd⟩ := ht s (136 + p)
  obtain ⟨e, he⟩ := ht { s with doms := d } 163
  exact ⟨e, by rw [State.hostTraffic, hd, he]⟩

theorem sendWrite_word {a : Nat} (hs : s.inSram i = false) (ht : s.atsOn i = false) (hm : 8 ≤ (s.func (s.slFn i)).mps)
    (ha : a % 8 = 0) (n : Nat) : s.sendWrite i a (leBytes 8 n) = s.wordSent i a n := by
  have hsplit : splitWrite (s.func (s.slFn i)).mps (leBytes 8 n).length a (leBytes 8 n) = [(a, leBytes 8 n)] :=
    splitWrite_single (by simp) (by simpa using hm) (by rw [length_leBytes]; omega)
  rw [State.sendWrite, xlatOf_of_atsOff ht, State.putWrite, if_neg (by simp [hs]), hsplit, State.wordSent]
  obtain ⟨d, e⟩ := hostTraffic_eq s (s.slPort i)
  rw [e]
  rfl

variable (s i) in
/-- Beside the output, such a write touches the records of power domains only. -/
theorem wordSent_eq (a n : Nat) :
    ∃ d, s.wordSent i a n = { s with doms := d, out := s.wordWrite i a n :: s.out } := by
  obtain ⟨d, e⟩ := hostTraffic_eq s (s.slPort i)
  exact ⟨d, by rw [State.wordSent, e]; rfl⟩

section
variable (s i) (a n : Nat)

/-- What looks neither at the output nor at the power domains is as before. -/
theorem wordSent_congr {α : Type} {f : State → α} (hf : ∀ d o, f { s with doms := d, out := o } = f s) :
    f (s.wordSent i a n) = f s := by
  obtain ⟨d, e⟩ := wordSent_eq s i a n
  rw [e, hf]

@[simp] theorem wordSent_rd (q : Reg) : (s.wordSent i a n).rd q = s.rd q :=
  wordSent_congr s i a n (f := (·.rd q)) fun _ _ => rfl
@[simp] theorem wordSent_flag (q : Reg) (f : Fld) : (s.wordSent i a n).flag q f = s.flag q f := by
  simp [State.flag, State.getF]
@[simp] theorem wordSent_ring (k : Nat) : (s.wordSent i a n).ring k = s.ring k :=
  wordSent_congr s i a n (f := (·.ring k)) fun _ _ => rfl
@[simp] theorem wordSent_cyc : (s.wordSent i a n).cyc = s.cyc := wordSent_congr s i a n fun _ _ => rfl
@[simp] theorem wordSent_wordWrite (b m : Nat) : (s.wordSent i a n).wordWrite i b m = s.wordWrite i b m :=
  wordSent_congr s i a n (f := (·.wordWrite i b m)) fun _ _ => rfl
@[simp] theorem wordSent_dhAddr : (s.wordSent i a n).dhAddr i r = s.dhAddr i r := by simp [State.dhAddr]
@[simp] theorem wordSent_ringN : (s.wordSent i a n).ringN i r = s.ringN i r := by simp [State.ringN, State.getF]

@[simp] theorem wordSent_out : (s.wordSent i a n).out = s.wordWrite i a n :: s.out := by
  obtain ⟨d, e⟩ := wordSent_eq s i a n
  rw [e]

theorem kept_wordSent : Kept s (s.wordSent i a n) :=
  ⟨wordSent_congr s i a n fun _ _ => rfl, wordSent_congr s i a n fun _ _ => rfl⟩

end

/-! ## An idle ring (R153, R157) -/

theorem ringDone_addr_ne_ringCtl : (Reg.ringDone i r).addr ≠ (Reg.ringCtl i r).addr := by
  simp only [Reg.addr]; omega
theorem ringDone_addr_ne_ringSts : (Reg.ringDone i r).addr ≠ (Reg.ringSts i r).addr := by
  simp only [Reg.addr]; omega
theorem ringCtl_addr_ne_ringSts (hr : r < 64) : (Reg.ringCtl i r).addr ≠ (Reg.ringSts i r).addr := by
  simp only [Reg.addr]; omega
theorem slcCsr_addr_ne_ringDone : (Reg.slcCsr i).addr ≠ (Reg.ringDone i r).addr := by
  simp only [Reg.addr]; omega

/-- A field that hardware has set to 1 reads as set. -/
theorem set1_flag_same {q : Reg} {f : Fld} (hf : f.ok = true) : (s.set1 q f).flag q f = true := by
  have hlo : f.lo ≤ f.hi ∧ f.hi < 64 := by simpa [Fld.ok] using hf
  have hw : 1 < 2 ^ f.width := Nat.one_lt_two_pow (by unfold Fld.width; omega)
  change ((s.setF q f 1).getF q f != 0) = true
  rw [getF_setF_same s q f 1 hf, Nat.mod_eq_of_lt hw]
  rfl

/-- Only what a ring that falls idle shows, and whether it is shut down, differs. -/
structure RingFalls (s t : State) (i r : Nat) : Prop where
  regs : KeepsRegs s t [(Reg.ringCtl i r).addr, (Reg.ringSts i r).addr]
  out : t.out = s.out
  taken : (t.ring (rKey i r)).taken = (s.ring (rKey i r)).taken
  pend : (t.ring (rKey i r)).pend = (s.ring (rKey i r)).pend
  kept : Kept s t

theorem RingFalls.refl (s : State) (i r : Nat) : RingFalls s s i r := ⟨fun _ _ => rfl, rfl, rfl, rfl, .refl s⟩

/-- A ring that the 7120 has shut down loses `EN`, but where software writes its control register in this cycle (R11, R113). -/
def State.ringUnshut (s : State) (i r : Nat) : State :=
  if (s.ring (rKey i r)).shut then
    (if s.wroteNow (.ringCtl i r) then s else s.clr1 (.ringCtl i r) RING_CTL.EN).setRing (rKey i r)
      { s.ring (rKey i r) with shut := false }
  else s

theorem ringIdle_of_on (h : s.ringOn i r = true) : s.ringIdle i r = s := by simp [State.ringIdle, h]

theorem ringIdle_of_off (h : s.ringOn i r = false) (ht : (s.ring (rKey i r)).taken = [])
    (hm : (s.ring (rKey i r)).timer = false) (hr : s.inReset i = false) :
    s.ringIdle i r = (s.ringUnshut i r).set1 (.ringSts i r) RING_STS.IDLE :=
  if_pos ⟨h, ht, hm, hr⟩

variable (s i r) in
theorem ringUnshut_falls : RingFalls s (s.ringUnshut i r) i r := by
  unfold State.ringUnshut
  split
  case isFalse => exact .refl s i r
  case isTrue =>
    have hring (t : State) (g : Ring) : (t.setRing (rKey i r) g).ring (rKey i r) = g := setRing_same t _ g
    split
    case isTrue => exact ⟨fun _ _ => rfl, rfl, by rw [hring], by rw [hring], rfl, rfl⟩
    case isFalse =>
      refine ⟨fun q hq => ?_, rfl, by rw [hring], by rw [hring], rfl, rfl⟩
      rw [setRing_rd, clr1_eq, rd_setF_ne s _ _ (fun e => hq (by simp [e]))]

variable (s i r) in
theorem ringIdle_falls : RingFalls s (s.ringIdle i r) i r := by
  have hu := ringUnshut_falls s i r
  have hset : RingFalls s ((s.ringUnshut i r).set1 (.ringSts i r) RING_STS.IDLE) i r :=
    ⟨fun q hq => by rw [set1_rd, rd_setF_ne _ _ _ (fun e => hq (by simp [e])), hu.regs q hq],
      hu.out, hu.taken, hu.pend, hu.kept⟩
  change RingFalls s (if _ then _ else s) i r
  split
  · exact hset
  · exact .refl s i r

/-- `EN` of a ring that was shut down is cleared as the ring falls idle. -/
theorem ringUnshut_en (hs : (s.ring (rKey i r)).shut = true) (hw : s.wroteNow (.ringCtl i r) = false) :
    (s.ringUnshut i r).flag (.ringCtl i r) RING_CTL.EN = false := by
  rw [State.ringUnshut, if_pos hs, hw, if_neg Bool.false_ne_true]
  change ((s.setF (.ringCtl i r) RING_CTL.EN 0).getF (.ringCtl i r) RING_CTL.EN != 0) = false
  rw [getF_setF_same _ _ _ _ rfl]
  rfl

/-! ## What is ready (R38, R146, R151) -/

theorem pubOpen_of_running (hst : (s.ring (rKey i r)).stopped = false) (hf : s.frozen i = false)
    (hr : s.inReset i = false) (hm : s.mayIssue i = true) (hh : s.flag .fltHold FLT_HOLD.HALT = false) :
    s.pubOpen i r = true := by
  simp [State.pubOpen, hst, hf, hr, hm, hh]

/-- Without translation an entry waits for its result, for its data and for the function's earlier writes only. -/
theorem pubReady_of_atsOff (h : s.atsOn i = false) (x : Taken) :
    s.pubReady i r x = (x.result != none && !(s.itemWrites i r x.idx x.lap) && s.fnClear i) := by
  simp [State.pubReady, State.pubTranslated, translated_of_atsOff h]

/-- While the oldest entry is not ready, nothing is published. -/
theorem publish_of_not_ready {l : List Taken} (ht : (s.ring (rKey i r)).taken = x :: l) (hn : s.pubReady i r x = false) :
    s.publish i r = s := by
  have hl : (s.ring (rKey i r)).taken.takeWhile (s.pubReady i r) = [] := by rw [ht]; simp [hn]
  simp [State.publish, hl, forL]

theorem pubAsk_of_atsOff (h : s.atsOn i = false) : s.pubAsk i r = s := by
  have ha := askTranslation_of_atsOff h
  unfold State.pubAsk
  split
  · split
    · simp [ha]
    · rfl
  · rfl

theorem pubAsk_of_empty (h : (s.ring (rKey i r)).taken = []) : s.pubAsk i r = s := by
  simp [State.pubAsk, h]

theorem exec_workItemFinish : exec (.workItemFinish i r) s = onDevice (fun s => (s.publish i r).pubAsk i r) s := rfl

theorem workItemFinish_not_ready {l : List Taken} (hu : s.up = true) (ha : s.atsOn i = false)
    (ht : (s.ring (rKey i r)).taken = x :: l) (hn : s.pubReady i r x = false) :
    exec (.workItemFinish i r) s = .next s :=
  exec_workItemFinish.trans
    (onDevice_eq hu (by rw [publish_of_not_ready ht hn, pubAsk_of_atsOff ha]) rfl rfl)

/-! ## One entry published (R146 to R148) -/

/-- The done head that covers an entry of a ring of `n` entries (R147). -/
def Taken.doneHead (n : Nat) (x : Taken) : Nat := (x.pos n + 1) / n * 65536 + (x.pos n + 1) % n

/-- The done head written after one entry, which is then no longer outstanding. -/
def State.headSent (s : State) (i r : Nat) (x : Taken) : State :=
  let v := x.doneHead (s.ringN i r)
  ((s.wordSent i (s.dhAddr i r) v).wr (.ringDone i r) (BitVec.ofNat 64 v)).modRing (rKey i r)
    (fun g => { g with taken := g.taken.drop 1, pend := g.pend + 1 })

/-- The two writes of the one finished entry: its status area and the done head. -/
def State.published (s : State) (i r : Nat) (x : Taken) (v : Result) : State :=
  (s.wordSent i (s.stAddr i r x.idx) (statusWord x.lap v)).headSent i r x

/-- A ring whose oldest entry can be published where it stands: 8-byte words of untranslated host memory, no timestamps. -/
structure State.PubPlain (s : State) (i r : Nat) (x : Taken) : Prop where
  sram : s.inSram i = false
  ats : s.atsOn i = false
  mps : 8 ≤ (s.func (s.slFn i)).mps
  tse : s.flag (.ringTsa i r) RING_TSA.TSE = false
  stOk : s.hostOk i (s.stAddr i r x.idx) 8 = true
  dhOk : s.hostOk i (s.dhAddr i r) 8 = true
  stAl : s.stAddr i r x.idx % 8 = 0
  dhAl : s.dhAddr i r % 8 = 0

variable (s i r x) in
theorem headSent_ring : (s.headSent i r x).ring (rKey i r) =
    { s.ring (rKey i r) with taken := (s.ring (rKey i r)).taken.drop 1, pend := (s.ring (rKey i r)).pend + 1 } := by
  have hw (t : State) (q : Reg) (w : Word64) (k : Nat) : (t.wr q w).ring k = t.ring k := rfl
  simp only [State.headSent, State.modRing, setRing_same, hw, wordSent_ring]

variable (s i r x) in
theorem headSent_ringDone : (s.headSent i r x).rd (.ringDone i r) = BitVec.ofNat 64 (x.doneHead (s.ringN i r)) :=
  rd_wr_same _ _ _

variable (s i r x) in
theorem headSent_out :
    (s.headSent i r x).out = s.wordWrite i (s.dhAddr i r) (x.doneHead (s.ringN i r)) :: s.out := by
  simp only [State.headSent, State.modRing, setRing_out, wr_out, wordSent_out]

variable (s i r x) in
theorem kept_headSent : Kept s (s.headSent i r x) := by
  have hw := kept_wordSent s i (s.dhAddr i r) (x.doneHead (s.ringN i r))
  exact hw.trans (Kept.trans ⟨wr_aon _ _ _, wr_pending _ _ _⟩ (kept_modRing _ _ _))

variable (s x) in
theorem headSent_rd_ne {q : Reg} (h : q.addr ≠ (Reg.ringDone i r).addr) : (s.headSent i r x).rd q = s.rd q := by
  rw [State.headSent, State.modRing, setRing_rd, rd_wr_ne _ _ h, wordSent_rd]

theorem State.PubPlain.wordSent (h : s.PubPlain i r x) (a n : Nat) : (s.wordSent i a n).PubPlain i r x := by
  obtain ⟨d, e⟩ := wordSent_eq s i a n
  rw [e]
  exact ⟨h.sram, h.ats, h.mps, h.tse, h.stOk, h.dhOk, h.stAl, h.dhAl⟩

theorem pubStamp_eq (h : s.flag (.ringTsa i r) RING_TSA.TSE = false) : s.pubStamp i r x = s := by
  unfold State.pubStamp
  split
  · rfl
  · exact if_neg (by simp [h])

theorem pubStatus_eq (h : s.PubPlain i r x) (hv : x.result = some v) :
    s.pubStatus i r x = s.wordSent i (s.stAddr i r x.idx) (statusWord x.lap v) := by
  rw [State.pubStatus, hv]
  exact sendWrite_word h.sram h.ats h.mps h.stAl _

/-- The done head after one entry, where the ring raises no interrupt events. -/
theorem pubHead_alone (h : s.PubPlain i r x) (hie : s.flag (.ringCtl i r) RING_CTL.IE = false) :
    s.pubHead i r [x] = (s.headSent i r x).ringIdle i r := by
  have hie' : (s.headSent i r x).flag (.ringCtl i r) RING_CTL.IE = false := by
    rw [State.flag, State.getF, headSent_rd_ne s x ringDone_addr_ne_ringCtl.symm]
    exact hie
  have hev (b : Bool) : (s.headSent i r x).pubEvent i r b = s.headSent i r x := if_neg (by simp [hie'])
  have hw := sendWrite_word h.sram h.ats h.mps h.dhAl (x.doneHead (s.ringN i r))
  calc s.pubHead i r [x]
      = ((((s.sendWrite i (s.dhAddr i r) (leBytes 8 (x.doneHead (s.ringN i r)))).wr (.ringDone i r)
          (BitVec.ofNat 64 (x.doneHead (s.ringN i r)))).modRing (rKey i r)
          (fun g => { g with taken := g.taken.drop 1, pend := g.pend + 1 })).pubEvent i r (x.ioc || false)).ringIdle i r := rfl
    _ = (s.headSent i r x).ringIdle i r := by rw [hw]; exact congrArg (·.ringIdle i r) (hev _)

/-- The one finished entry of an open ring is published. -/
theorem publish_alone (h : s.PubPlain i r x) (ho : s.pubOpen i r = true) (hh : s.flag .fltHold FLT_HOLD.HALT = false)
    (hie : s.flag (.ringCtl i r) RING_CTL.IE = false) (ht : (s.ring (rKey i r)).taken = [x]) (hv : x.result = some v)
    (hr : s.pubReady i r x = true) : s.publish i r = (s.published i r x v).ringIdle i r := by
  have hok : s.pubOk i r x.idx = true := by simp [State.pubOk, h.stOk, h.tse]
  have hl : (s.ring (rKey i r)).taken.takeWhile (s.pubReady i r) = [x] := by rw [ht]; simp [hr]
  have hg : [x].takeWhile (fun t => s.pubOk i r t.idx) = [x] := by simp [hok]
  have hp := h.wordSent (s.stAddr i r x.idx) (statusWord x.lap v)
  have hd := hp.dhOk
  rw [wordSent_dhAddr] at hd
  have hhead := pubHead_alone hp ((wordSent_flag s i _ _ _ _).trans hie)
  simp [State.publish, State.published, ho, hh, hl, hg, forL, pubStamp_eq h.tse, pubStatus_eq h hv, hd, hhead]

/-- What the one published entry leaves, before the ring may fall idle. -/
theorem published_ring (ht : (s.ring (rKey i r)).taken = [x]) :
    ((s.published i r x v).ring (rKey i r)) =
      { s.ring (rKey i r) with taken := [], pend := (s.ring (rKey i r)).pend + 1 } := by
  rw [State.published, headSent_ring, wordSent_ring, ht]
  rfl

variable (s x v) in
theorem published_rd_ne {q : Reg} (h : q.addr ≠ (Reg.ringDone i r).addr) : (s.published i r x v).rd q = s.rd q := by
  rw [State.published, headSent_rd_ne _ x h, wordSent_rd]

theorem published_flag_ne {q : Reg} (h : q.addr ≠ (Reg.ringDone i r).addr) (f : Fld) :
    (s.published i r x v).flag q f = s.flag q f := by
  rw [State.flag, State.getF, published_rd_ne s x v h]
  rfl

theorem published_ringOn (ht : (s.ring (rKey i r)).taken = [x]) : (s.published i r x v).ringOn i r = s.ringOn i r := by
  rw [State.ringOn, published_flag_ne ringDone_addr_ne_ringCtl.symm, published_ring ht]
  rfl

variable (s i r x v) in
theorem published_out : (s.published i r x v).out =
    s.wordWrite i (s.dhAddr i r) (x.doneHead (s.ringN i r)) ::
      s.wordWrite i (s.stAddr i r x.idx) (statusWord x.lap v) :: s.out := by
  rw [State.published, headSent_out, wordSent_wordWrite, wordSent_dhAddr, wordSent_ringN, wordSent_out]

variable (s i r x v) in
theorem published_ringDone :
    (s.published i r x v).rd (.ringDone i r) = BitVec.ofNat 64 (x.doneHead (s.ringN i r)) := by
  rw [State.published, headSent_ringDone, wordSent_ringN]

variable (s i r x v) in
theorem kept_published : Kept s (s.published i r x v) := (kept_wordSent s i _ _).trans (kept_headSent _ i r x)

variable (s i r x v) in
theorem published_wroteNow (q : Reg) : (s.published i r x v).wroteNow q = s.wroteNow q := by
  have hc : (s.published i r x v).cyc = s.cyc := by
    simp only [State.published, State.headSent, State.modRing, setRing_cyc, wr_cyc, wordSent_cyc]
  obtain ⟨ha, _⟩ := kept_published s i r x v
  have hcycle : (s.published i r x v).cycle = s.cycle := by rw [State.cycle, State.cycle, State.now, State.now, hc, ha]
  rw [State.wroteNow, State.wroteNow, hcycle]

/-- What the command answers where the one entry of an open ring is ready. -/
theorem workItemFinish_alone (hu : s.up = true) (h : s.PubPlain i r x) (ho : s.pubOpen i r = true)
    (hh : s.flag .fltHold FLT_HOLD.HALT = false) (hie : s.flag (.ringCtl i r) RING_CTL.IE = false)
    (ht : (s.ring (rKey i r)).taken = [x]) (hv : x.result = some v) (hr : s.pubReady i r x = true) :
    exec (.workItemFinish i r) s = .next ((s.published i r x v).ringIdle i r) := by
  have hf := ringIdle_falls (s.published i r x v) i r
  obtain ⟨ha, hp⟩ := (kept_published s i r x v).trans hf.kept
  have hnil : (((s.published i r x v).ringIdle i r).ring (rKey i r)).taken = [] := by rw [hf.taken, published_ring ht]
  refine exec_workItemFinish.trans (onDevice_eq hu ?_ ha hp)
  rw [publish_alone h ho hh hie ht hv hr, pubAsk_of_empty hnil]

/-- A ring that is off falls idle with its last entry (R153, R157). -/
theorem published_idle (hon : s.ringOn i r = false) (hm : (s.ring (rKey i r)).timer = false) (hr : s.inReset i = false)
    (ht : (s.ring (rKey i r)).taken = [x]) :
    (s.published i r x v).ringIdle i r = ((s.published i r x v).ringUnshut i r).set1 (.ringSts i r) RING_STS.IDLE := by
  have hg := published_ring (v := v) ht
  refine ringIdle_of_off ((published_ringOn ht).trans hon) (by rw [hg]) (by rw [hg, hm]) ?_
  rw [State.inReset, published_flag_ne slcCsr_addr_ne_ringDone]
  exact hr

end

/-- Settles O40: an entry that is not ready stops publication, and the one that is comes down to its two writes, the done head,
and a ring that may fall idle. -/
theorem publication : Obligations.Publication := by
  unfold Obligations.Publication
  intro s i r x v _ hr64 hu hs hm hf hr hh ha hmps hst htse hso hdo hsa hda hw p head put
  refine ⟨?published, ?unfinished, ?behind⟩
  case published =>
    intro ht hv hi hc hie
    have hready : s.pubReady i r x = true := by simp [pubReady_of_atsOff ha, hv, hi, hc]
    have hg := published_ring (v := v) ht
    have hfall := ringIdle_falls (s.published i r x v) i r
    refine ⟨_, workItemFinish_alone hu ⟨hs, ha, hmps, htse, hso, hdo, hsa, hda⟩ (pubOpen_of_running hst hf hr hm hh) hh hie
      ht hv hready, hfall.out.trans (published_out s i r x v), ?_, by rw [hfall.taken, hg], by rw [hfall.pend, hg], ?_, ?_⟩
    · rw [hfall.regs _ (by simp [ringDone_addr_ne_ringCtl, ringDone_addr_ne_ringSts])]
      exact published_ringDone s i r x v
    · intro hon q hq
      rw [ringIdle_of_on ((published_ringOn ht).trans hon), published_rd_ne s x v (by simpa using hq)]
    · intro hon hmt
      rw [published_idle hon hmt hr ht]
      refine ⟨set1_flag_same rfl, fun hshut => ?_⟩
      rw [State.flag, State.getF, set1_rd, rd_setF_ne _ _ _ (ringCtl_addr_ne_ringSts hr64)]
      exact ringUnshut_en (by rw [hg]; exact hshut) ((published_wroteNow s i r x v _).trans hw)
  case unfinished =>
    intro ht hn
    exact workItemFinish_not_ready hu ha ht (by simp [State.pubReady, hn])
  case behind =>
    intro ht _ hb
    refine workItemFinish_not_ready hu ha ht ?_
    rw [pubReady_of_atsOff ha]
    obtain hb | hb := hb
    · simp [hb]
    · simp [hb]

end Sys2Proof.Machine
end

section
/-!
Over-current on a path that has moved in the same cycle (R52, R61).
-/
namespace Sys2Proof.Machine

/-- Port 3 in ENABLED, powered, with an active over-current count. Its USB 2.0 path has moved in this REF cycle by a condition
of precedence 0, above all of those that R52 ranks (1 to 6): no condition of the model records 0, but the statement ranges
over every state. -/
def ocOutranked : State :=
  ((State.reset.setF (.portSts 3) PORT_STS.STATE pEnabled).setF (.portCtl 3) PORT_CTL.PP 1).modPort 3 (fun p => { p with
    pwren := true, oc := ⟨true, true, false, 20⟩, usb := { p.usb with moved := State.reset.now + 1, was := pEnabled, prec := 0 } })

/-- In that state the end of the count is an over-current condition that is passed over: the path stays ENABLED. -/
theorem ocOutranked_stays_enabled :
    (match exec (.ocFilterExpiry 3) ocOutranked with
      | .next t => t.pathSt 3 false
      | _ => pEnabled) = pEnabled := by
  decide +kernel

/-- Refutes O20: the clause on the end of an active count asks for OVERCURRENT in every state, and a path that has moved in
this cycle under a precedence above over-current's keeps its state (`State.cond`, R52). -/
theorem not_portAndLinkPower : ¬ Obligations.PortAndLinkPower := by
  unfold Obligations.PortAndLinkPower
  intro h
  have hup : ocOutranked.up = true := by decide +kernel
  have hcnt : (ocOutranked.port 3).oc.counting = true ∧ (ocOutranked.port 3).oc.sample = true ∧
      (ocOutranked.port 3).pwren = true ∧ ocOutranked.gangOf 3 = none := by decide +kernel
  obtain ⟨hcount, hsample, hpwren, hgang⟩ := hcnt
  obtain ⟨-, -, -, -, hoc, -⟩ := h.1 ocOutranked 3 (by decide) hup
  obtain ⟨t, ht, hst, -⟩ := hoc hcount hsample hpwren hgang
  have hstay := ocOutranked_stays_enabled
  rw [ht] at hstay
  exact absurd (hst.symm.trans hstay) (by decide)

end Sys2Proof.Machine
end

section
/-!
A malformed entry whose fence makes gambit data orphan data (R155, R328).
-/
namespace Sys2Proof.Machine

/-- Fetch 0 of ring 2 of slice 1, on its way. -/
def orphanFetch : HostReq := ⟨0, 1, noCtx, 0, 64, .ringFetch 2, .issued, 0, 0, 0⟩

/-- That fetch, for a ring that is enabled and scanning. The slice holds endpoint 20 exclusively, with one packet of pending
gambit data, and the endpoint's device stands on root port 1398038. No part has that port, but the statement ranges over
every state, and the port's `PORT_GMB_ORPH` has the address of the ring's `RING_STS`. -/
def orphanOnRingSts : State :=
  let ring := (({ State.reset with reqs := [orphanFetch], rings := [(rKey 1 2, { Ring.init with scanning := true })] }).setF
    (.ringCtl 1 2) RING_CTL.EN 1).wrE (.slcQmem 1) (SLC_QMEM.CTX.put 1 0)
  ((ring.setDev 9 { Dev.empty with live := true, port := 1398038 }).setEpc 20 { Ep.empty with
    live := true, dev := 9, typ := 2, dirIn := true, mps := 512, pend := [⟨[], true, 0⟩] }).setAtE (hKey 1 20)
      { Att.empty with cfg := { AttCfg.empty with live := true, ep := 20 } }

/-- An entry that ring owns, of opcode 0: malformed with cause 1. -/
def blankEntry : Entry := ⟨1, 0, 0, 0, 0, 0, 0, 0⟩

/-- The fence counts the packet, now orphan data (R328), in the register that shows `SCAN`. -/
theorem orphanOnRingSts_scan :
    (match exec (.entryFetchComplete 1 2 [blankEntry]) orphanOnRingSts with
      | .next t => t.getF (.ringSts 1 2) RING_STS.SCAN
      | _ => 0) = 1 := by
  decide +kernel

/-- Refutes O37: the fence of a malformed entry makes the slice's pending gambit data orphan data and counts it at the device's
port. The statement does not bound that port, and in `orphanOnRingSts` the count raises `SCAN`, which the last clause says
stays. -/
theorem not_ringEntries : ¬ Obligations.RingEntries := by
  unfold Obligations.RingEntries
  intro h
  have hup : orphanOnRingSts.up = true := by decide +kernel
  have hfetch : orphanOnRingSts.fetchOf 1 2 = some orphanFetch ∧ orphanOnRingSts.reqs = [orphanFetch] := by decide +kernel
  have hring : (orphanOnRingSts.ring (rKey 1 2)).scanning ∧ (orphanOnRingSts.ring (rKey 1 2)).taken = [] ∧
      orphanOnRingSts.scanOk 1 2 ∧ orphanOnRingSts.scanRoom 1 2 := by decide +kernel
  have hentry : blankEntry.phase = ((orphanOnRingSts.ring (rKey 1 2)).lap + 1) % 2 ∧
      orphanOnRingSts.validate 1 blankEntry ≠ 0 := by decide +kernel
  have hempty : orphanOnRingSts.ctxsOf 1 (fun x => x.act == .other) = [] ∧ orphanOnRingSts.ctxsOf 1 Ctx.going = [] := by
    decide +kernel
  have hzero : orphanOnRingSts.getF (.ringSts 1 2) RING_STS.SCAN = 0 := by decide +kernel
  obtain ⟨hscanning, htaken, hok, hroom⟩ := hring
  obtain ⟨t, ht, -, -, -, -, hscan, -⟩ := h.2 orphanOnRingSts 1 2 blankEntry orphanFetch [] hup (by decide) (by decide)
    (by decide) hfetch.1 hfetch.2 (by decide) hscanning htaken hok hroom hentry.1 hentry.2 hempty.1 hempty.2
  have hraised := orphanOnRingSts_scan
  rw [ht] at hraised
  exact absurd (hraised.symm.trans (hscan.trans hzero)) (by decide)

end Sys2Proof.Machine
end

section
/-!
What the ends of activations leave alone: every register but two counters, and of root ports all but the lines of their
sequencers (R181 to R185, R331, R332).
-/
namespace Sys2Proof.Machine

/-- A root port beside the lines of its sequencer and its order counter: what the ends of activations leave alone. -/
def Port.beside (p : Port) : Port := { p with lines := [], order := 0 }

/-- From `s` to `t`, registers change at addresses in `A` only, and of root ports only the lines and the order counter. -/
def Leaves (A : Nat → Prop) (s t : State) : Prop :=
  (∀ r : Reg, ¬ A r.addr → t.rd r = s.rd r) ∧ ∀ n, (t.port n).beside = (s.port n).beside

/-- The counters of orphan data and of abandoned semaphores, which count in the course of an end. -/
def endAddr (a : Nat) : Prop := a = (Reg.semAbnCnt).addr ∨ ∃ n, a = (Reg.portGmbOrph n).addr

variable {s t u : State} {A B : Nat → Prop}

theorem Leaves.of_eq (hr : t.regs = s.regs) (hp : t.ports = s.ports) : Leaves A s t :=
  ⟨fun _ _ => by rw [State.rd, hr, State.rd], fun _ => by rw [State.port, hp, State.port]⟩
theorem Leaves.refl (s : State) : Leaves A s s := .of_eq rfl rfl
theorem Leaves.trans (h : Leaves A s t) (k : Leaves A t u) : Leaves A s u :=
  ⟨fun r a => (k.1 r a).trans (h.1 r a), fun n => (k.2 n).trans (h.2 n)⟩
theorem Leaves.mono (h : Leaves A s t) (hab : ∀ a, A a → B a) : Leaves B s t :=
  ⟨fun r hr => h.1 r fun ha => hr (hab _ ha), h.2⟩
theorem Touches.leaves (h : Touches A s t) : Leaves A s t :=
  ⟨h.1, fun n => by
    have hp : t.ports = s.ports := show (t.faultsOf s).ports = s.ports from congrArg State.ports h.2.2
    rw [State.port, hp, State.port]⟩

theorem Leaves.getF (h : Leaves A s t) {r : Reg} (hr : ¬ A r.addr) (f : Fld) : t.getF r f = s.getF r f := by
  rw [State.getF, h.1 r hr, State.getF]
theorem Leaves.flag (h : Leaves A s t) {r : Reg} (hr : ¬ A r.addr) (f : Fld) : t.flag r f = s.flag r f := by
  rw [State.flag, h.getF hr, State.flag]

/-- A part of a port that stands beside its lines is kept. -/
theorem Leaves.port {α : Type} (h : Leaves A s t) (f : Port → α) (hf : ∀ p, f p.beside = f p) (n : Nat) :
    f (t.port n) = f (s.port n) := by
  rw [← hf (t.port n), h.2 n, hf]

theorem leaves_ite {c : Prop} [Decidable c] (ht : Leaves A s t) (hu : Leaves A s u) : Leaves A s (if c then t else u) := by
  split
  · exact ht
  · exact hu

theorem leaves_forL {α : Type} {f : α → State → State} (h : ∀ a s, Leaves A s (f a s)) (l : List α) (s : State) :
    Leaves A s (forL l f s) := by
  induction l generalizing s with
  | nil => exact .refl s
  | cons a l ih => exact (h a s).trans (ih (f a s))

theorem leaves_forN {f : Nat → State → State} (h : ∀ n s, Leaves A s (f n s)) (n : Nat) (s : State) :
    Leaves A s (forN n f s) := leaves_forL h (List.range n) s

theorem leaves_ite_fst {β : Type} {c : Prop} [Decidable c] {p p' : State × β} (h : Leaves A s p.1)
    (h' : Leaves A s p'.1) : Leaves A s (if c then p else p').1 := by
  split
  · exact h
  · exact h'

theorem leaves_foldl {α β : Type} {f : State × β → α → State × β} (h : ∀ p a, Leaves A p.1 (f p a).1) (l : List α)
    (p : State × β) : Leaves A p.1 (l.foldl f p).1 := by
  induction l generalizing p with
  | nil => exact .refl p.1
  | cons a l ih => exact (h p a).trans (ih (f p a))

theorem leaves_setF {r : Reg} (s : State) (h : A r.addr) (f : Fld) (x : Nat) : Leaves A s (s.setF r f x) :=
  (touches_setF s h f x).leaves
theorem leaves_set1 {r : Reg} (s : State) (h : A r.addr) (f : Fld) : Leaves A s (s.set1 r f) :=
  (touches_set1 s h f).leaves

/-- A change of a port's lines or order. -/
theorem leaves_modPort (s : State) (n : Nat) {g : Port → Port} (hg : ∀ p, (g p).beside = p.beside) :
    Leaves A s (s.modPort n g) := by
  refine ⟨fun _ _ => rfl, fun m => ?_⟩
  rw [State.modPort, setPort_get]
  split
  · next h => rw [h, hg]
  · rfl

/-! ## Changes outside the registers and the ports -/

section
variable (s : State)

theorem leaves_modCtx (c : Nat) (g : Ctx → Ctx) : Leaves A s (s.modCtx c g) := .of_eq rfl rfl
theorem leaves_modRing (k : Nat) (g : Ring → Ring) : Leaves A s (s.modRing k g) := .of_eq rfl rfl
theorem leaves_modToken (k : Nat) (g : Token → Token) : Leaves A s (s.modToken k g) := .of_eq rfl rfl
theorem leaves_modSem (k : Nat) (g : Sem → Sem) : Leaves A s (s.modSem k g) := .of_eq rfl rfl
theorem leaves_modEpc (k : Nat) (g : Ep → Ep) : Leaves A s (s.modEpc k g) := .of_eq rfl rfl
theorem leaves_modDev (k : Nat) (g : Dev → Dev) : Leaves A s (s.modDev k g) := .of_eq rfl rfl
theorem leaves_unready (c : Nat) : Leaves A s (s.unready c) := .of_eq rfl rfl
theorem leaves_runOn (te c : Nat) : Leaves A s (s.runOn te c) := .of_eq rfl rfl
theorem leaves_parkOp (te c : Nat) : Leaves A s (s.parkOp te c) := .of_eq rfl rfl
theorem leaves_enlist (c : Nat) (head : Bool) : Leaves A s (s.enlist c head) := .of_eq rfl rfl
theorem leaves_tokenLeave (c : Nat) : Leaves A s (s.tokenLeave c) := .of_eq rfl rfl
theorem leaves_semLeave (c : Nat) : Leaves A s (s.semLeave c) := .of_eq rfl rfl

end

/-! ## Capacity, contexts and results -/

theorem leaves_capAside (s : State) (k n : Nat) : Leaves A s (s.capAside k n) := by
  unfold State.capAside
  generalize List.range 256 = l
  refine leaves_foldl (fun p j => ?_) l (s, n)
  exact leaves_ite_fst (.refl p.1) (.of_eq rfl rfl)

theorem leaves_capFreed (s : State) (k i n : Nat) : Leaves A s (s.capFreed k i n) :=
  leaves_ite (leaves_capAside s k n) (.refl s)

theorem leaves_lbFree (s : State) (i n : Nat) : Leaves A s (s.lbFree i n) :=
  Leaves.trans (t := s.modLbOf i (fun u => u - n)) (.of_eq rfl rfl) (leaves_capFreed _ 1 i n)

theorem leaves_progDrop (s : State) (k : Nat) : Leaves A s (s.progDrop k) :=
  leaves_ite (Leaves.trans (t := s.setProg k Prog.empty) (.of_eq rfl rfl) (leaves_capFreed _ 2 _ _)) (.refl s)

theorem leaves_ctxFree (s : State) (c : Nat) : Leaves A s (s.ctxFree c) := by
  have hw (s : State) (w : List PWrite) : Leaves A s { s with writes := w } := .of_eq rfl rfl
  have hc (s : State) : Leaves A s (s.setCtx c Ctx.free) := .of_eq rfl rfl
  have hr : Leaves A s (s.reqsDrop c) := .of_eq rfl rfl
  unfold State.ctxFree
  dsimp only
  have h := hr.trans <| (hw _ (orphanWrites c s.writes)).trans <| (hc _).trans (leaves_capFreed _ 0 (s.ctx c).slice 1)
  exact leaves_ite (h.trans (leaves_progDrop _ _)) h

theorem leaves_finish (s : State) (c code step bytes : Nat) : Leaves A s (s.finish c code step bytes) :=
  (leaves_modRing s _ _).trans (leaves_ctxFree (s.modRing _ _) c)

theorem leaves_orphanize (s : State) (e : Nat) : Leaves endAddr s (s.orphanize e) :=
  leaves_ite (.refl s) ((leaves_modEpc s e _).trans (leaves_setF _ (Or.inr ⟨_, rfl⟩) _ _))

/-! ## Dispatch -/

theorem leaves_runOrPlace (s : State) (te c : Nat) : Leaves A s (s.runOrPlace te c) :=
  leaves_ite (leaves_runOn s te c) (.of_eq rfl rfl)

theorem leaves_gambitOver (s : State) (c n : Nat) : Leaves A s (s.gambitOver c n) := by
  unfold State.gambitOver
  split
  · exact .refl s
  · exact leaves_modPort s n fun _ => rfl

theorem leaves_queued (s : State) (c n : Nat) (st : OpStage) : Leaves A s (s.queued c n st) :=
  (leaves_ite (leaves_gambitOver s c n) (.refl s)).trans <|
    (leaves_modPort _ n (g := fun p => { p with order := (s.port n).order + 1 }) fun _ => rfl).trans (leaves_modCtx _ c _)

theorem leaves_toQueue (s : State) (c : Nat) : Leaves A s (s.toQueue c) := by
  unfold State.toQueue
  split
  · exact leaves_queued s c _ _
  · exact .refl s

theorem leaves_toSeq (s : State) (c : Nat) : Leaves A s (s.toSeq c) := (leaves_toQueue s c).trans (leaves_modCtx _ c _)

theorem leaves_opGo (s : State) (c : Nat) : Leaves A s (s.opGo c) := by
  unfold State.opGo
  split
  · exact leaves_toSeq s c
  · refine leaves_ite (leaves_toSeq s c) ?_
    split
    · exact (leaves_modSem s _ _).trans ((leaves_modCtx _ c _).trans (leaves_toSeq _ c))
    · exact .of_eq rfl rfl

theorem leaves_opStart (s : State) (c : Nat) (r : BusReq) : Leaves A s (s.opStart c r) :=
  (leaves_modCtx s c _).trans (leaves_opGo (s.modCtx c _) c)

theorem leaves_startOn (s : State) (te c : Nat) : Leaves A s (s.startOn te c) := by
  refine (leaves_unready s c).trans ?_
  unfold State.startOn
  dsimp only
  generalize s.unready c = t
  split
  next r _ =>
    have h := leaves_opStart (A := A) t c r
    exact leaves_ite (h.trans (leaves_runOrPlace _ te c)) (h.trans (leaves_parkOp _ te c))
  · split
    · exact leaves_ite (leaves_runOn t te c) ((leaves_modCtx t c _).trans (leaves_parkOp _ te c))
    · exact leaves_runOn t te c

theorem leaves_dispatch1 {k c : Nat} (h : s.dispatch1 k = some (t, c)) : Leaves A s t := by
  unfold State.dispatch1 at h
  split at h
  · cases h
    exact leaves_startOn s _ _
  · cases h

theorem leaves_dispatchN (k n : Nat) (s : State) : Leaves A s (s.dispatchN k n) := by
  induction n generalizing s with
  | zero => exact .refl s
  | succ n ih =>
    unfold State.dispatchN
    split
    · rename_i p h
      exact (leaves_dispatch1 h).trans (ih p.1)
    · exact .refl s

theorem leaves_settle (s : State) : Leaves A s s.settle :=
  leaves_forN (fun k s => leaves_ite (leaves_dispatchN k 8 s) (.refl s)) 20 s

/-! ## Semaphores and tokens -/

theorem leaves_leaveEng (s : State) (c : Nat) : Leaves A s (s.leaveEng c) := by
  unfold State.leaveEng
  split
  · exact .of_eq rfl rfl
  · exact .refl s

theorem leaves_placed (s : State) (c : Nat) : Leaves A s (s.placed c) := leaves_ite (leaves_enlist s c false) (.refl s)

theorem leaves_tokenGive (s : State) (k c : Nat) : Leaves A s (s.tokenGive k c) := by
  unfold State.tokenGive
  dsimp only
  split
  · exact (leaves_modToken s k _).trans <| (leaves_modCtx _ c _).trans <| (leaves_modCtx _ c _).trans
      (leaves_enlist _ c false)
  · exact (leaves_modToken s k _).trans <| (leaves_modCtx _ c _).trans (leaves_ite (.refl _) (leaves_enlist _ c false))

theorem leaves_tokenPass (s : State) (k : Nat) : Leaves A s (s.tokenPass k) := by
  unfold State.tokenPass
  split
  · exact leaves_modToken s k _
  · exact (leaves_modToken s k _).trans (leaves_tokenGive _ k _)

theorem leaves_tokenDrop (s : State) (c : Nat) : Leaves A s (s.tokenDrop c) := by
  unfold State.tokenDrop
  dsimp only
  split
  · exact .refl s
  · exact (leaves_modCtx s c _).trans (leaves_ite (.refl _) (leaves_tokenPass _ _))

theorem leaves_semPass (s : State) (i : Nat) : Leaves A s (s.semPass i).1 := by
  unfold State.semPass
  split
  · exact .refl s
  · dsimp only
    split
    · exact (leaves_modSem s i _).trans <| (leaves_modCtx _ _ _).trans (leaves_enlist _ _ false)
    · split
      · exact (leaves_modSem s i _).trans <| (leaves_modCtx _ _ _).trans <|
          leaves_ite_fst (.refl _) ((leaves_toSeq _ _).trans (leaves_placed _ _))
      · exact (leaves_modSem s i _).trans (leaves_modCtx _ _ _)

theorem leaves_semDrop (s : State) (i : Nat) (abandoned : Bool) : Leaves endAddr s (s.semDrop i abandoned).1 :=
  (leaves_modSem s i _).trans <| (leaves_ite (leaves_setF _ (Or.inl rfl) _ _) (.refl _)).trans (leaves_semPass _ i)

theorem leaves_semDrops (abandoned : Bool) (l : List Nat) (s : State) : Leaves endAddr s (s.semDrops abandoned l).1 := by
  induction l generalizing s with
  | nil => exact .refl s
  | cons i l ih => exact (leaves_ite_fst (.refl s) (leaves_semDrop s i abandoned)).trans (ih _)

/-! ## The end of an activation -/

theorem leaves_dropOp (s : State) (c : Nat) : Leaves A s (s.dropOp c) := by
  unfold State.dropOp
  split
  · exact .refl s
  · exact (leaves_lbFree s _ _).trans <|
      (leaves_ite ((leaves_lbFree _ _ _).trans (leaves_modEpc _ _ _)) (.refl _)).trans (.of_eq rfl rfl)

theorem leaves_seqEnd (s : State) (c : Nat) : Leaves A s (s.seqEnd c) :=
  (leaves_modCtx s c _).trans (leaves_forL (fun _ s => leaves_ite (leaves_modEpc s _ _) (.refl s)) _ _)

theorem leaves_endCommon (s : State) (c code : Nat) (abandoned : Bool) :
    Leaves endAddr s (s.endCommon c code abandoned).1 :=
  (leaves_leaveEng s c).trans <| (leaves_unready _ c).trans <| (leaves_tokenLeave _ c).trans <|
    (leaves_semLeave _ c).trans <| (leaves_dropOp _ c).trans <| (leaves_seqEnd _ c).trans <| (leaves_modCtx _ c _).trans <|
    (leaves_tokenDrop _ c).trans <| (leaves_ite (leaves_progDrop _ _) (.refl _)).trans (leaves_semDrops abandoned _ _)

theorem leaves_orphanTaken (s : State) (c : Nat) : Leaves endAddr s (s.orphanTaken c) := by
  unfold State.orphanTaken
  split
  · exact leaves_ite (leaves_orphanize s _) (.refl s)
  · exact .refl s

theorem leaves_latency (s : State) (c : Nat) : Leaves A s (s.latency c) := by
  unfold State.latency
  dsimp only
  split
  · exact .refl s
  · split
    · exact .of_eq rfl rfl
    · exact leaves_ite (.refl s) (.of_eq rfl rfl)

theorem leaves_tryFinish (s : State) (c : Nat) : Leaves A s (s.tryFinish c).1 :=
  leaves_ite_fst (leaves_finish s c _ _ _) (.refl s)

theorem leaves_eventAt (s : State) (c tick : Nat) : Leaves A s (s.eventAt c tick) := by
  unfold State.eventAt
  dsimp only
  split
  · exact leaves_ite (.refl s) ((leaves_modCtx s c _).trans (leaves_enlist _ c false))
  · exact .refl s

theorem leaves_childEnd (s : State) (c code : Nat) : Leaves A s (s.childEnd c code).1 := by
  unfold State.childEnd
  dsimp only
  split
  · exact .refl s
  · exact (leaves_ctxFree s c).trans <| (leaves_modCtx _ _ _).trans <| (leaves_eventAt _ _ 0).trans (leaves_tryFinish _ _)

theorem leaves_endResult (s : State) (c code : Nat) : Leaves A s (s.endResult c code).1 :=
  (leaves_ite (leaves_latency s c) (.refl s)).trans
    (leaves_ite_fst (leaves_tryFinish _ c) (leaves_childEnd _ c code))

theorem leaves_toEnding (s : State) (c : Nat) : Leaves A s (s.toEnding c) := by
  unfold State.toEnding
  dsimp only
  refine leaves_ite (.refl s) ?_
  split
  · exact (leaves_unready s c).trans <| (leaves_tokenLeave _ c).trans (leaves_modCtx _ c _)
  · exact (leaves_leaveEng s c).trans (leaves_modCtx _ c _)
  · exact leaves_modCtx s c _
  · exact leaves_modCtx s c _
  · exact leaves_modCtx s c _
  · exact (leaves_semLeave s c).trans (leaves_modCtx _ c _)
  · exact (leaves_tokenLeave s c).trans (leaves_modCtx _ c _)
  · exact .refl s

/-! ## The entries of a ring -/

theorem leaves_doReserve (s : State) (c : Nat) : Leaves A s (s.doReserve c) :=
  have hf := leaves_finish (A := A) s c
  leaves_ite (hf _ _ _) (leaves_ite (hf _ _ _) (leaves_ite (.of_eq rfl rfl) (hf _ _ _)))

theorem leaves_doRelease (s : State) (c : Nat) : Leaves A s (s.doRelease c) :=
  leaves_ite (leaves_finish s c _ _ _) (leaves_ite (leaves_finish s c _ _ _)
    (Leaves.trans (t := s.setRsvP _ _) (.of_eq rfl rfl) (leaves_finish _ c _ _ _)))

theorem leaves_startEntry (s : State) (i r : Nat) (t : Taken) : Leaves A s (s.startEntry i r t).1 := by
  unfold State.startEntry
  dsimp only
  split
  · exact leaves_modRing s _ _
  · split
    · exact (leaves_modRing s _ _).trans <|
        leaves_ite_fst (leaves_finish _ _ _ _ _) (leaves_ite (leaves_enlist _ _ false) (.refl _))
    · exact (leaves_modRing s _ _).trans (leaves_finish _ _ _ _ _)
    · exact (leaves_modRing s _ _).trans (leaves_modRing _ _ _)
    · exact (leaves_modRing s _ _).trans (leaves_doReserve _ _)
    · exact (leaves_modRing s _ _).trans (leaves_doRelease _ _)
    · exact leaves_modRing s _ _

theorem leaves_tryEntry (s : State) (before : List Taken) (t : Taken) : Leaves A s (s.tryEntry before t) := by
  unfold State.tryEntry
  split
  · exact .refl s
  · exact leaves_ite (leaves_finish s _ _ _ _) (leaves_ite (leaves_finish s _ _ _ _) (.refl s))

theorem leaves_pumpN (i r f k : Nat) (s : State) (js : List Job) : Leaves A s (State.pumpN i r f k s js).1 := by
  induction f generalizing k s js with
  | zero => exact .refl s
  | succ f ih =>
    unfold State.pumpN
    dsimp only
    split
    · exact .refl s
    · exact leaves_ite_fst (ih _ _ _) <| leaves_ite_fst (.refl s) <|
        (leaves_ite_fst (.refl s) (leaves_startEntry s i r _)).trans <| (leaves_tryEntry _ _ _).trans (ih _ _ _)

/-! ## Jobs -/

theorem leaves_job (s : State) (j : Job) : Leaves endAddr s (s.job j).1 := by
  cases j with
  | ends c code =>
    exact leaves_ite_fst ((leaves_orphanTaken s c).trans <| (leaves_endCommon _ c code true).trans
      (leaves_endResult _ c code)) (.refl s)
  | posts c code => exact leaves_ite_fst ((leaves_endCommon s c code false).trans (leaves_endResult _ c code)) (.refl s)
  | asks c code =>
    exact leaves_ite_fst (leaves_ite_fst (.refl s) ((leaves_modCtx s c _).trans (leaves_toEnding _ c))) <|
      leaves_ite_fst (leaves_modCtx s c _) (leaves_ite_fst (leaves_modCtx s c _) (.refl s))
  | pump i r => exact leaves_pumpN i r 65537 0 s []

theorem leaves_run (n : Nat) (js : List Job) (s : State) : Leaves endAddr s (State.run n js s) := by
  induction n generalizing js s with
  | zero => exact .refl s
  | succ n ih =>
    cases js with
    | nil => exact .refl s
    | cons j js => exact (leaves_job s j).trans (ih _ _)

theorem leaves_jobs (s : State) (js : List Job) : Leaves endAddr s (s.jobs js) :=
  (leaves_run 1000000 js s).trans (leaves_settle _)

/-! ## Detaches (R331, R332) -/

theorem leaves_detachEp (s : State) (e : Nat) : Leaves endAddr s (s.detachEp e) := by
  have hr (x : FMap Att) (y : FMap AttCfg) (z : List EpaOp) :
      Leaves endAddr s { s with att := x, attP := y, epaOps := z } := .of_eq rfl rfl
  exact (hr _ _ _).trans <| (leaves_orphanize _ e).trans <| (leaves_modEpc _ e _).trans (leaves_jobs _ _)

theorem leaves_detachOne (s : State) (d : Nat) : Leaves endAddr s (s.detachOne d) :=
  leaves_ite (.refl s) ((leaves_modDev s d _).trans (leaves_forL (fun e s => leaves_detachEp s e) _ _))

theorem leaves_freeDev (s : State) (d : Nat) : Leaves A s (s.freeDev d) :=
  have hd : Leaves A s (s.setDev d Dev.empty) := .of_eq rfl rfl
  have he (e : Nat) (s : State) : Leaves A s (s.setEpc e Ep.empty) := .of_eq rfl rfl
  leaves_ite (hd.trans (leaves_forL he _ _)) (.refl s)

theorem leaves_detachPath (s : State) (n : Nat) (ss : Bool) : Leaves endAddr s (s.detachPath n ss) :=
  (leaves_forL (fun k s => leaves_detachOne s k) _ s).trans (leaves_forL (fun d s => leaves_freeDev s d) _ _)

end Sys2Proof.Machine
end

section
/-!
The move of a path (R50, R51, R54): the word of `PORT_STS`, the record of the path, and what it leaves of the rest.
-/
namespace Sys2Proof.Machine
variable {s t u : State} {A B : Nat → Prop} {n : Nat} {ss : Bool} {st : Nat}

/-! ## The word of `PORT_STS` -/

/-- The fields of `PORT_STS` that belong to a path: state, speed, the bit of an unasked end of ENABLED, and FLIP. -/
def pathField (ss : Bool) : Fld := if ss then PORT_STS.SSTATE else PORT_STS.STATE
def speedField (ss : Bool) : Fld := if ss then PORT_STS.SSPEED else PORT_STS.SPEED
def errField (ss : Bool) : Fld := if ss then PORT_STS.SPEC else PORT_STS.PEC

/-- The word after the path has gone to `st`; `err` says that it sets the path's error bit. -/
def stsMoved (ss : Bool) (st flip : Nat) (err : Bool) (w : Word64) : Word64 :=
  let w := (pathField ss).put st w
  let w := if speedKept st then w else (speedField ss).put 0 w
  let w := if ss && decide (st = pDisconnected) then PORT_STS.FLIP.put flip w else w
  if err then (errField ss).put 1 w else w

/-- A field that no field of a path's move overlaps. -/
def offPath (ss : Bool) (f : Fld) : Bool :=
  f.apart (pathField ss) && f.apart (speedField ss) && f.apart PORT_STS.FLIP && f.apart (errField ss)

theorem get_ite (c : Prop) [Decidable c] (f : Fld) (v w : Word64) :
    f.get (if c then v else w) = if c then f.get v else f.get w := by split <;> rfl

/-- The fields of a path lie within the register. -/
theorem pathField_ok : (pathField ss).ok = true := by cases ss <;> rfl
theorem speedField_ok : (speedField ss).ok = true := by cases ss <;> rfl
theorem errField_ok : (errField ss).ok = true := by cases ss <;> rfl

theorem stsMoved_offPath {f : Fld} (hf : offPath ss f = true) (flip : Nat) (err : Bool) (w : Word64) :
    f.get (stsMoved ss st flip err w) = f.get w := by
  simp only [offPath, Bool.and_eq_true] at hf
  obtain ⟨⟨⟨hp, hs⟩, hl⟩, he⟩ := hf
  simp only [stsMoved, get_ite, Fld.get_put_apart _ _ _ _ pathField_ok hp, Fld.get_put_apart _ _ _ _ speedField_ok hs,
    Fld.get_put_apart _ PORT_STS.FLIP _ _ rfl hl, Fld.get_put_apart _ _ _ _ errField_ok he, ite_self]

theorem stsMoved_state (h : st < 16) (flip : Nat) (err : Bool) (w : Word64) :
    (pathField ss).get (stsMoved ss st flip err w) = st := by
  have hs : (pathField ss).apart (speedField ss) = true := by cases ss <;> rfl
  have hl : (pathField ss).apart PORT_STS.FLIP = true := by cases ss <;> rfl
  have he : (pathField ss).apart (errField ss) = true := by cases ss <;> rfl
  have hw : 2 ^ (pathField ss).width = 16 := by cases ss <;> rfl
  simp only [stsMoved, get_ite, Fld.get_put_apart _ _ _ _ speedField_ok hs, Fld.get_put_apart _ PORT_STS.FLIP _ _ rfl hl,
    Fld.get_put_apart _ _ _ _ errField_ok he, Fld.get_put_same _ _ _ pathField_ok, ite_self, hw, Nat.mod_eq_of_lt h]

theorem stsMoved_err (flip : Nat) (w : Word64) : (errField ss).get (stsMoved ss st flip true w) = 1 := by
  have hw : 2 ^ (errField ss).width = 2 := by cases ss <;> rfl
  simp only [stsMoved, if_true, Fld.get_put_same _ _ _ errField_ok, hw]

/-! ## The addresses -/

/-- The registers beside `PORT_STS` and `PORT_LINK` that a move of a path of port `n` can change: what follows from the end
of activations, the request of its sequencer's domain (R393), and its checker (R493). -/
def moveAddr (n a : Nat) : Prop :=
  endAddr a ∨ wakeAddr a ∨ a = (Reg.pwrCtl (80 + n)).addr ∨ a = (Reg.pwrSts (80 + n)).addr ∨
    a = (Reg.portTstSts n).addr ∨ a = (Reg.portTstBits n).addr ∨ a = (Reg.portTstErrs n).addr

theorem not_endAddr_of_port {a k : Nat} (hk : k < 0x128) (ha : a = 0x40000 + n * 0xC00 + k) :
    ¬ endAddr a := by
  rintro (h | ⟨m, h⟩) <;> simp only [Reg.addr] at h <;> omega

/-- A register of port `n` that stands below the sequencer's and the checker's is not among them. -/
theorem not_moveAddr_of_port {a : Nat} {k m : Nat} (hm : m < 20) (hk : k < 0x128)
    (ha : a = 0x40000 + n * 0xC00 + k) : ¬ moveAddr m a := by
  rintro (h | h | h)
  · exact not_endAddr_of_port hk ha h
  · simp only [wakeAddr, wakeRegs, List.mem_cons, Reg.addr, List.not_mem_nil, or_false] at h
    omega
  · simp only [Reg.addr] at h
    omega

/-! ## The move of a path -/

/-- The record of a path as the path goes to `st`, and VDM_SRC, which only a path before ATTACHED keeps. -/
def Port.entered (ss : Bool) (st : Nat) (p : Port) : Port :=
  if ss then { p with sup := p.sup.enter st } else { p with usb := p.usb.enter st }
def Port.vdmOff (ss : Bool) (st : Nat) (p : Port) : Port :=
  if ss then p else { p with vdm := p.vdm && (decide (st = pDisconnected) || decide (st = pQualify)) }

/-- A port after its path has gone to `st`. -/
def Port.moved (ss : Bool) (st : Nat) (p : Port) : Port := (p.entered ss st).vdmOff ss st

/-- What changes a port beside its lines changes equal ports alike. -/
theorem beside_map {g : Port → Port} (hg : ∀ p, (g p).beside = (g p.beside).beside) {p q : Port}
    (h : p.beside = q.beside) : (g p).beside = (g q).beside := by rw [hg p, h, ← hg q]

theorem entered_beside {p q : Port} (h : p.beside = q.beside) : (p.entered ss st).beside = (q.entered ss st).beside :=
  beside_map (fun _ => by cases ss <;> rfl) h
theorem vdmOff_beside {p q : Port} (h : p.beside = q.beside) : (p.vdmOff ss st).beside = (q.vdmOff ss st).beside :=
  beside_map (fun _ => by cases ss <;> rfl) h

/-- The first part of a move: registers and record of the path, before devices are detached. -/
def State.pathMoved (s : State) (n : Nat) (ss : Bool) (st : Nat) (sw : Bool) : State :=
  let old := s.pathSt n ss
  let s := if ss ∧ old = pTest then s.checkerOff n else s
  let s := s.pathRegs n ss st
  let s := (s.modPath n ss (fun x => x.enter st)).seqStirs n ss old st
  let s := if ss then s else
    s.modPort n (fun p => { p with vdm := p.vdm && (decide (st = pDisconnected) || decide (st = pQualify)) })
  if old = pEnabled ∧ st ≠ pSuspended ∧ sw = false then
    s.set1 (.portSts n) (if ss then PORT_STS.SPEC else PORT_STS.PEC) else s

/-- The second part: what hangs on the path is detached. -/
def State.pathLeft (s : State) (n : Nat) (ss : Bool) (old st : Nat) : State :=
  let s := if old = pEnabled ∧ s.defSS n = ss then s.detachEp (32768 + n) else s
  if pathAlive old && !(pathAlive st) then s.detachPath n ss else s

theorem setPath_eq (s : State) (n : Nat) (ss : Bool) (st : Nat) (sw : Bool) : s.setPath n ss st sw =
    if (ss && decide (16 ≤ n)) || s.pathSt n ss = st then s
    else (s.pathMoved n ss st sw).pathLeft n ss (s.pathSt n ss) st := rfl

theorem leaves_pathLeft (s : State) (n : Nat) (ss : Bool) (old st : Nat) : Leaves endAddr s (s.pathLeft n ss old st) :=
  (leaves_ite (leaves_detachEp s _) (.refl _)).trans (leaves_ite (leaves_detachPath _ n ss) (.refl _))

theorem leaves_checkerOff (s : State) (n : Nat) : Leaves (moveAddr n) s (s.checkerOff n) := by
  have hs : moveAddr n (Reg.portTstSts n).addr := .inr (.inr (.inr (.inr (.inl rfl))))
  have hb : moveAddr n (Reg.portTstBits n).addr := .inr (.inr (.inr (.inr (.inr (.inl rfl)))))
  have he : moveAddr n (Reg.portTstErrs n).addr := .inr (.inr (.inr (.inr (.inr (.inr rfl)))))
  have hx (s : State) : Leaves (moveAddr n) s s.next := .of_eq rfl rfl
  exact leaves_ite ((touches_wr s hb _).leaves.trans <| (hx _).trans <| (touches_wr _ he _).leaves.trans <|
    (hx _).trans (leaves_setF _ hs _ 0)) (.refl s)

theorem leaves_cancelEntry (s : State) (n apt : Nat) : Leaves (moveAddr n) s (s.cancelEntry (80 + n) apt) := by
  have hc : moveAddr n (Reg.pwrCtl (80 + n)).addr := .inr (.inr (.inl rfl))
  have hs : moveAddr n (Reg.pwrSts (80 + n)).addr := .inr (.inr (.inr (.inl rfl)))
  have hm (s : State) (g : Dom → Dom) : Leaves (moveAddr n) s (s.modDom (80 + n) g) := .of_eq rfl rfl
  exact (leaves_setF s hc _ 0).trans <| (leaves_setF _ hs _ dOn).trans <| (hm _ _).trans <| (leaves_set1 _ hs _).trans <|
    (leaves_set1 _ hs _).trans <| (leaves_setF _ hs _ apt).trans <| (hm _ _).trans <|
    (touches_irqWake _ 313).leaves.mono fun _ h => .inr (.inl h)

theorem leaves_seqStirs (s : State) (n : Nat) (ss : Bool) (old st : Nat) :
    Leaves (moveAddr n) s (s.seqStirs n ss old st) := leaves_ite (leaves_cancelEntry s n 0) (.refl s)

/-- Neither `PORT_STS` nor `PORT_LINK` nor a register of `moveAddr`. -/
def offMove (n : Nat) (r : Reg) : Prop :=
  r.addr ≠ (Reg.portSts n).addr ∧ r.addr ≠ (Reg.portLink n).addr ∧ ¬ moveAddr n r.addr

theorem portLink_ne_portSts (n m : Nat) : (Reg.portSts m).addr ≠ (Reg.portLink n).addr := by
  simp only [Reg.addr]
  omega

theorem pathRegs_rd_ne (s : State) {r : Reg} (h1 : r.addr ≠ (Reg.portSts n).addr) (h2 : r.addr ≠ (Reg.portLink n).addr) :
    (s.pathRegs n ss st).rd r = s.rd r := by
  unfold State.pathRegs
  cases ss <;> dsimp only <;> split_ifs <;> simp only [rd_setF_ne _ _ _ h1, rd_setF_ne _ _ _ h2]

theorem rd_setF_same (s : State) (r : Reg) (f : Fld) (x : Nat) : (s.setF r f x).rd r = f.put x (s.rd r) := by
  simp [State.setF]

/-- What `pathRegs` leaves in `PORT_STS`. -/
theorem pathRegs_sts (s : State) :
    (s.pathRegs n ss st).rd (.portSts n) = stsMoved ss st (s.port n).flip.toNat false (s.rd (.portSts n)) := by
  have hne := portLink_ne_portSts n n
  unfold State.pathRegs stsMoved pathField speedField
  cases ss
  · simp only [Bool.false_eq_true, if_false, Bool.false_and]
    split_ifs <;> simp only [rd_setF_same, rd_setF_ne _ _ _ hne]
  · simp only [if_true, Bool.true_and, decide_eq_true_eq, Bool.false_eq_true, if_false]
    split_ifs <;> simp only [rd_setF_same, rd_setF_ne _ _ _ hne, setF_ports, State.port]

theorem not_moveAddr_portSts (hn : n < 20) : ¬ moveAddr n (Reg.portSts n).addr :=
  not_moveAddr_of_port (k := 0) hn (by decide) rfl
theorem not_moveAddr_portLink (hn : n < 20) : ¬ moveAddr n (Reg.portLink n).addr :=
  not_moveAddr_of_port (n := n) (k := 0x10) hn (by decide) (by simp only [Reg.addr]; omega)

@[simp] theorem modPort_same (s : State) (n : Nat) (g : Port → Port) : (s.modPort n g).port n = g (s.port n) :=
  setPort_same _ _ _
theorem modPort_ne (s : State) {n k : Nat} (g : Port → Port) (h : k ≠ n) : (s.modPort n g).port k = s.port k := by
  rw [State.modPort, setPort_get, if_neg h]

section
variable (s) (sw : Bool)

/-- The move in three parts: the checker, the registers and the record of the path, and what follows in the sequencer's
domain and in the error bit. -/
def State.pathCore (s : State) (n : Nat) (ss : Bool) (st : Nat) : State :=
  ((if ss ∧ s.pathSt n ss = pTest then s.checkerOff n else s).pathRegs n ss st).modPath n ss (fun x => x.enter st)

theorem leaves_checked : Leaves (moveAddr n) s (if ss ∧ s.pathSt n ss = pTest then s.checkerOff n else s) :=
  leaves_ite (leaves_checkerOff s n) (.refl s)

theorem pathCore_sts (hn : n < 20) : (s.pathCore n ss st).rd (.portSts n) =
    stsMoved ss st (s.port n).flip.toNat false (s.rd (.portSts n)) := by
  have hc := leaves_checked (n := n) (ss := ss) s
  change (State.pathRegs _ n ss st).rd (.portSts n) = _
  rw [pathRegs_sts, hc.1 _ (not_moveAddr_portSts hn), hc.port Port.flip fun _ => rfl]

theorem pathCore_rd {r : Reg} (h : offMove n r) : (s.pathCore n ss st).rd r = s.rd r :=
  (pathRegs_rd_ne _ h.1 h.2.1).trans ((leaves_checked s).1 r h.2.2)

theorem pathRegs_ports : (s.pathRegs n ss st).ports = s.ports := by
  unfold State.pathRegs
  dsimp only
  split_ifs <;> rfl

/-- The port as its record stands after the core of a move. -/
theorem pathCore_port (k : Nat) : ((s.pathCore n ss st).port k).beside =
    (if k = n then (s.port n).entered ss st else s.port k).beside := by
  have hc := leaves_checked (n := n) (ss := ss) s
  generalize hs : (if ss ∧ s.pathSt n ss = pTest then s.checkerOff n else s) = u at hc
  have hp (k : Nat) : (u.pathRegs n ss st).port k = u.port k := by rw [State.port, pathRegs_ports, State.port]
  have hcore : s.pathCore n ss st = (u.pathRegs n ss st).modPort n (Port.entered ss st) := by rw [← hs]; rfl
  rw [hcore]
  by_cases hk : k = n
  · rw [if_pos hk, hk, modPort_same, hp, entered_beside (hc.2 n)]
  · rw [if_neg hk, modPort_ne _ _ hk, hp, hc.2 k]

/-- What follows the core of a move: the sequencer's domain, VDM_SRC, and the error bit. -/
def State.pathAfter (s : State) (n : Nat) (ss : Bool) (old st : Nat) (err : Bool) : State :=
  let s := s.seqStirs n ss old st
  let s := if ss then s else
    s.modPort n (fun p => { p with vdm := p.vdm && (decide (st = pDisconnected) || decide (st = pQualify)) })
  if err then s.set1 (.portSts n) (errField ss) else s

/-- ENABLED is left for another reason than software or suspension. -/
def unasked (old st : Nat) (sw : Bool) : Bool := decide (old = pEnabled ∧ st ≠ pSuspended ∧ sw = false)

theorem pathMoved_eq : s.pathMoved n ss st sw =
    (s.pathCore n ss st).pathAfter n ss (s.pathSt n ss) st (unasked (s.pathSt n ss) st sw) := by
  simp only [State.pathMoved, State.pathAfter, State.pathCore, unasked, errField, decide_eq_true_eq]

theorem pathAfter_sts (hn : n < 20) (old : Nat) (err : Bool) : (s.pathAfter n ss old st err).rd (.portSts n) =
    if err then (errField ss).put 1 (s.rd (.portSts n)) else s.rd (.portSts n) := by
  have h := (leaves_seqStirs s n ss old st).1 _ (not_moveAddr_portSts hn)
  unfold State.pathAfter
  cases ss <;> cases err <;> simp [rd_setF_same, State.modPort, h]

theorem pathAfter_rd {r : Reg} (h : offMove n r) (old : Nat) (err : Bool) :
    (s.pathAfter n ss old st err).rd r = s.rd r := by
  have hr := (leaves_seqStirs s n ss old st).1 r h.2.2
  unfold State.pathAfter
  cases ss <;> cases err <;> simpa [rd_setF_ne _ _ _ h.1, State.modPort] using hr

theorem pathAfter_port (old : Nat) (err : Bool) (k : Nat) : ((s.pathAfter n ss old st err).port k).beside =
    (if k = n then (s.port n).vdmOff ss st else s.port k).beside := by
  have hr := (leaves_seqStirs s n ss old st).2
  have he (s : State) : (if err then s.set1 (.portSts n) (errField ss) else s).port k = s.port k := by
    split <;> rfl
  unfold State.pathAfter
  dsimp only
  generalize s.seqStirs n ss old st = u at hr
  rw [he]
  by_cases hk : k = n
  · subst hk
    rw [if_pos rfl, ← vdmOff_beside (hr k)]
    cases ss <;> simp [Port.vdmOff]
  · rw [if_neg hk, ← hr k]
    cases ss <;> simp [modPort_ne _ _ hk]

/-! ## What a move leaves -/

theorem pathMoved_sts (hn : n < 20) : (s.pathMoved n ss st sw).rd (.portSts n) =
    stsMoved ss st (s.port n).flip.toNat (unasked (s.pathSt n ss) st sw) (s.rd (.portSts n)) := by
  rw [pathMoved_eq, pathAfter_sts _ hn, pathCore_sts _ hn]
  cases unasked (s.pathSt n ss) st sw <;> rfl

/-- The move of a path that is in another state; P16 to P19 have no SuperSpeed path. -/
structure Moves (s : State) (n : Nat) (ss : Bool) (st : Nat) : Prop where
  port : n < 20
  sup : ss = true → n < 16
  state : st < 12
  apart : s.pathSt n ss ≠ st

variable {s}

theorem Moves.eq (h : Moves s n ss st) : s.setPath n ss st sw = (s.pathMoved n ss st sw).pathLeft n ss (s.pathSt n ss) st := by
  rw [setPath_eq, if_neg]
  obtain ⟨-, hs, -, ha⟩ := h
  cases ss
  · simpa using ha
  · have := hs rfl
    simp [ha]
    omega

/-- The word of `PORT_STS` after the move. -/
theorem setPath_sts (h : Moves s n ss st) : (s.setPath n ss st sw).rd (.portSts n) =
    stsMoved ss st (s.port n).flip.toNat (unasked (s.pathSt n ss) st sw) (s.rd (.portSts n)) := by
  rw [h.eq, (leaves_pathLeft _ n ss _ st).1 _ fun he => not_moveAddr_portSts h.port (.inl he), pathMoved_sts _ _ h.port]

theorem setPath_pathSt (h : Moves s n ss st) : (s.setPath n ss st sw).pathSt n ss = st := by
  have h16 : st < 16 := by have := h.state; omega
  exact (congrArg (pathField ss).get (setPath_sts sw h)).trans (stsMoved_state h16 _ _ _)

/-- ENABLED left unasked sets the error bit of the path (R54). -/
theorem setPath_err (h : Moves s n ss st) (hu : unasked (s.pathSt n ss) st sw = true) :
    (s.setPath n ss st sw).flag (.portSts n) (errField ss) = true := by
  have hw := congrArg (errField ss).get (setPath_sts sw h)
  rw [hu, stsMoved_err] at hw
  simp [State.flag, State.getF, hw]

variable (s)

/-- Registers beside `PORT_STS` and `PORT_LINK` of the port are kept. -/
theorem setPath_rd {r : Reg} (hr : offMove n r) : (s.setPath n ss st sw).rd r = s.rd r := by
  rw [setPath_eq]
  split
  · rfl
  · rw [(leaves_pathLeft _ n ss _ st).1 r fun he => hr.2.2 (.inl he), pathMoved_eq, pathAfter_rd _ hr, pathCore_rd _ hr]

/-- A field of `PORT_STS` that is none of the path's is kept. -/
theorem setPath_offPath (hn : n < 20) {f : Fld} (hf : offPath ss f = true) :
    (s.setPath n ss st sw).getF (.portSts n) f = s.getF (.portSts n) f := by
  rw [setPath_eq]
  split
  · rfl
  · rw [(leaves_pathLeft _ n ss _ st).getF fun he => not_moveAddr_portSts hn (.inl he), State.getF, pathMoved_sts _ _ hn,
      stsMoved_offPath hf, State.getF]

/-- The ports beside their lines: the record of the path is that of the state entered. -/
theorem setPath_port (k : Nat) : ((s.setPath n ss st sw).port k).beside =
    (if k = n ∧ ¬ ((ss && decide (16 ≤ n)) || decide (s.pathSt n ss = st)) then (s.port n).moved ss st
      else s.port k).beside := by
  rw [setPath_eq]
  by_cases hc : (ss && decide (16 ≤ n)) || decide (s.pathSt n ss = st)
  · rw [if_pos hc, if_neg fun h => h.2 hc]
  · rw [if_neg hc, (leaves_pathLeft _ n ss _ st).2 k, pathMoved_eq, pathAfter_port]
    have hcore := pathCore_port (n := n) (ss := ss) (st := st) s
    by_cases hk : k = n
    · have hn := hcore n
      rw [if_pos rfl] at hn
      rw [if_pos hk, if_pos ⟨hk, hc⟩, vdmOff_beside hn, Port.moved]
    · have hn := hcore k
      rw [if_neg hk] at hn
      rw [if_neg hk, if_neg fun h => hk h.1, hn]

end

end Sys2Proof.Machine
end

section
/-!
Conditions on a path (R52), what a PHY half senses (R399), and the entry to ENABLED (R55).
-/
namespace Sys2Proof.Machine
variable {s t u : State} {n : Nat} {ss : Bool} {st : Nat}

/-! ## What a command on the device answers -/

/-- A command on the device whose effect leaves the always-on island and the queue alone answers its effect. -/
theorem answers_eq {i : Instr} {f : State → State} {P : State → Prop} (he : exec i s = onDevice f s)
    (hu : s.up = true) (hf : f s = t) (hk : Kept s t) (hp : P t) : Answers i s P :=
  ⟨_, he.trans (onDevice_eq hu hf hk.1 hk.2), hp⟩
theorem answers_kept {i : Instr} {f : State → State} {P : State → Prop} (he : exec i s = onDevice f s)
    (hu : s.up = true) (hk : Kept s (f s)) (hp : P (f s)) : Answers i s P := answers_eq he hu rfl hk hp

/-! ## Records of paths -/

@[simp] theorem modPath_path_same (s : State) (n : Nat) (ss : Bool) (f : Path → Path) :
    (s.modPath n ss f).path n ss = f (s.path n ss) := by
  unfold State.path State.modPath
  cases ss <;> simp
@[simp] theorem modPath_path_other (s : State) (n : Nat) (ss : Bool) (f : Path → Path) :
    (s.modPath n ss f).path n (!ss) = s.path n (!ss) := by
  unfold State.path State.modPath
  cases ss <;> simp

@[simp] theorem noteMove_pathSt (s : State) (n : Nat) (ss : Bool) (was prec m : Nat) (b : Bool) :
    (s.noteMove n ss was prec).pathSt m b = s.pathSt m b := rfl
@[simp] theorem noteMove_getF (s : State) (n : Nat) (ss : Bool) (was prec : Nat) (r : Reg) (f : Fld) :
    (s.noteMove n ss was prec).getF r f = s.getF r f := rfl
@[simp] theorem noteMove_flag (s : State) (n : Nat) (ss : Bool) (was prec : Nat) (r : Reg) (f : Fld) :
    (s.noteMove n ss was prec).flag r f = s.flag r f := rfl
@[simp] theorem modPath_pathSt (s : State) (n : Nat) (ss : Bool) (f : Path → Path) (m : Nat) (b : Bool) :
    (s.modPath n ss f).pathSt m b = s.pathSt m b := rfl
@[simp] theorem modPath_getF (s : State) (n : Nat) (ss : Bool) (f : Path → Path) (r : Reg) (g : Fld) :
    (s.modPath n ss f).getF r g = s.getF r g := rfl
@[simp] theorem set1_path (s : State) (r : Reg) (f : Fld) (n : Nat) (ss : Bool) :
    (s.set1 r f).path n ss = s.path n ss := rfl
@[simp] theorem setF_path (s : State) (r : Reg) (f : Fld) (x n : Nat) (ss : Bool) :
    (s.setF r f x).path n ss = s.path n ss := rfl
theorem noteMove_path_same (s : State) (n : Nat) (ss : Bool) (was prec : Nat) : (s.noteMove n ss was prec).path n ss =
    { s.path n ss with moved := s.now + 1, was := was, prec := prec } := modPath_path_same s n ss _

theorem setPath_path_same (h : Moves s n ss st) (sw : Bool) :
    (s.setPath n ss st sw).path n ss = (s.path n ss).enter st := by
  have hp := setPath_port s sw (n := n) (ss := ss) (st := st) n
  have hc : ¬ ((ss && decide (16 ≤ n)) || decide (s.pathSt n ss = st)) = true := by
    obtain ⟨-, hs, -, ha⟩ := h
    cases ss
    · simpa using ha
    · have := hs rfl
      simp [ha]
      omega
  rw [if_pos ⟨rfl, hc⟩] at hp
  unfold State.path
  cases ss
  · exact congrArg Port.usb hp
  · exact congrArg Port.sup hp

/-- A move of a path keeps what a port holds beside its lines, the path's record and VDM_SRC. -/
theorem setPath_keeps {α : Type} {f : Port → α} (hb : ∀ p, f p.beside = f p) (hm : ∀ p, f (p.moved ss st) = f p)
    (s : State) (sw : Bool) (k : Nat) : f ((s.setPath n ss st sw).port k) = f (s.port k) := by
  have hp := congrArg f (setPath_port s sw (n := n) (ss := ss) (st := st) k)
  rw [hb, hb] at hp
  split at hp
  · next h => rw [hp, hm, h.1]
  · exact hp

theorem setPath_path_other (s : State) (n : Nat) (ss : Bool) (st : Nat) (sw : Bool) :
    (s.setPath n ss st sw).path n (!ss) = s.path n (!ss) := by
  cases ss
  · exact setPath_keeps (f := Port.sup) (fun _ => rfl) (fun _ => rfl) s sw n
  · exact setPath_keeps (f := Port.usb) (fun _ => rfl) (fun _ => rfl) s sw n

theorem setPath_flip (s : State) (n : Nat) (ss : Bool) (st : Nat) (sw : Bool) :
    ((s.setPath n ss st sw).port n).flip = (s.port n).flip :=
  setPath_keeps (f := Port.flip) (fun _ => rfl) (fun _ => by cases ss <;> rfl) s sw n

/-! ## Bits that hardware sets in `PORT_STS` -/

theorem set1_getF_apart (s : State) (r : Reg) {f g : Fld} (hf : f.ok = true) (h : g.apart f = true) :
    (s.set1 r f).getF r g = s.getF r g := getF_setF_apart s r f g 1 hf h
theorem setF_pathSt (s : State) {f : Fld} (hf : f.ok = true) (h : (pathField ss).apart f = true) (x : Nat) :
    (s.setF (.portSts n) f x).pathSt n ss = s.pathSt n ss := getF_setF_apart s _ f (pathField ss) x hf h
@[simp] theorem modPort_pathSt (s : State) (k : Nat) (g : Port → Port) (m : Nat) (b : Bool) :
    (s.modPort k g).pathSt m b = s.pathSt m b := rfl
theorem set1_pathSt (s : State) {f : Fld} (hf : f.ok = true) (h : (pathField ss).apart f = true) :
    (s.set1 (.portSts n) f).pathSt n ss = s.pathSt n ss := set1_getF_apart s _ hf h

/-! ## Conditions (R52) -/

/-- A condition on a path that none has moved in this cycle. -/
theorem cond_calm {ok : Nat → Bool} (hc : s.calm n ss = true) (hok : ok (s.pathSt n ss) = true) (prec : Nat)
    (bits f : State → State) :
    s.cond n ss prec ok bits f = (f s).noteMove n ss (s.pathSt n ss) prec := by
  have hm : s.movedNow n ss = false := by simpa [State.calm, State.movedNow] using hc
  simp [State.cond, hm, hok]

/-- A command that is a condition on a path that none has moved in this cycle. -/
theorem answers_cond {i : Instr} {ok : Nat → Bool} {prec : Nat} {bits f : State → State} {P : State → Prop}
    (he : exec i s = onDevice (fun s => s.cond n ss prec ok bits f) s) (hu : s.up = true) (hc : s.calm n ss = true)
    (hok : ok (s.pathSt n ss) = true) (hk : Kept s (f s)) (hp : P ((f s).noteMove n ss (s.pathSt n ss) prec)) :
    Answers i s P :=
  answers_eq he hu (cond_calm hc hok prec bits f) (hk.trans (kept_noteMove _ n ss _ _)) hp

/-- What both effects of a condition keep of a register, the condition keeps. -/
theorem cond_getF {r : Reg} {g : Fld} {bits f : State → State} (hb : ∀ s, (bits s).getF r g = s.getF r g)
    (hf : ∀ s, (f s).getF r g = s.getF r g) (hu : ∀ s : State, (s.unmove n ss).getF r g = s.getF r g) (s : State)
    (prec : Nat) (ok : Nat → Bool) : (s.cond n ss prec ok bits f).getF r g = s.getF r g := by
  unfold State.cond
  dsimp only
  split_ifs
  · exact hb s
  · exact (hf _).trans (hu s)
  · exact hf s
  · rfl

theorem unmove_offPath (s : State) {f : Fld} (hf : offPath ss f = true) :
    (s.unmove n ss).getF (.portSts n) f = s.getF (.portSts n) f := by
  simp only [offPath, Bool.and_eq_true] at hf
  exact getF_setF_apart s _ (pathField ss) f _ pathField_ok hf.1.1.1

/-- A PHY half that is off senses nothing; one that is not senses (R399). -/
theorem senses_off (hs : ss = false ∨ n < 16) (h : s.phyOff n ss) (f : State → State) : s.senses n ss f = s :=
  if_pos ⟨hs, h⟩
theorem senses_on (h : ¬ s.phyOff n ss) (f : State → State) : s.senses n ss f = f s :=
  if_neg fun hc => h hc.2

theorem exec_unsensed {i : Instr} {f : State → State} (he : exec i s = onDevice (fun s => s.senses n ss f) s)
    (hu : s.up = true) (hs : ss = false ∨ n < 16) (h : s.phyOff n ss) : exec i s = .next s :=
  he.trans (onDevice_eq hu (senses_off hs h f) rfl rfl)

/-- A condition that the PHY half senses. -/
theorem answers_sensed {i : Instr} {ok : Nat → Bool} {prec : Nat} {bits f : State → State} {P : State → Prop}
    (he : exec i s = onDevice (fun s => s.senses n ss fun s => s.cond n ss prec ok bits f) s) (hu : s.up = true)
    (hp : ¬ s.phyOff n ss) (hc : s.calm n ss = true) (hok : ok (s.pathSt n ss) = true) (hk : Kept s (f s))
    (h : P ((f s).noteMove n ss (s.pathSt n ss) prec)) : Answers i s P :=
  answers_eq he hu ((senses_on hp (fun s => s.cond n ss prec ok bits f)).trans (cond_calm hc hok prec bits f))
    (hk.trans (kept_noteMove _ n ss _ _)) h

/-- The end of the SuperSpeed path keeps a field of `PORT_STS` that is none of that path's. -/
theorem ssGone_getF (hn : n < 20) {g : Fld} (hg : offPath true g = true) (hs : g.apart PORT_STS.SCSC = true) (s : State) :
    (s.ssGone n).getF (.portSts n) g = s.getF (.portSts n) g :=
  cond_getF (fun s => set1_getF_apart s _ rfl hs)
    (fun s => (set1_getF_apart _ _ rfl hs).trans (setPath_offPath s false hn hg)) (fun s => unmove_offPath s hg) s _ _

/-! ## Bits of `PORT_STS` after a move -/

theorem setPath_flag (s : State) (sw : Bool) (hn : n < 20) {f : Fld} (hf : offPath ss f = true) :
    (s.setPath n ss st sw).flag (.portSts n) f = s.flag (.portSts n) f := by
  rw [State.flag, setPath_offPath s sw hn hf, State.flag]

/-! ## Entering ENABLED (R55, R401) -/

/-- The registers of the link-power predictor. -/
def predAddr (n : Nat) (ss : Bool) (a : Nat) : Prop :=
  a = (Reg.pwrLpst n ss.toNat).addr ∨ a = (Reg.pwrLpcnt n ss.toNat).addr

theorem leaves_predReset (s : State) (n : Nat) (ss : Bool) : Leaves (predAddr n ss) s (s.predReset n ss) :=
  have hp (s : State) : Leaves (predAddr n ss) s (s.setPred (pKey n ss) Pred.init) := .of_eq rfl rfl
  (leaves_setF s (.inl rfl) _ _).trans <| (leaves_setF _ (.inl rfl) _ 0).trans <| (leaves_setF _ (.inr rfl) _ 0).trans
    (hp _)

theorem not_predAddr_portSts {m : Nat} : ¬ predAddr n ss (Reg.portSts m).addr := by
  have hb : ss.toNat ≤ 1 := by cases ss <;> decide
  simp only [predAddr, Reg.addr]
  omega

/-- The predictor returns to its defaults after a reset, before the path enters ENABLED. -/
def State.predAt (s : State) (n : Nat) (ss : Bool) : State :=
  if s.pathSt n ss = pResetting then s.predReset n ss else s

theorem leaves_predAt (s : State) (n : Nat) (ss : Bool) : Leaves (predAddr n ss) s (s.predAt n ss) :=
  leaves_ite (leaves_predReset s n ss) (.refl s)

/-- The record of a path that enters ENABLED: on USB 2.0 nothing but SOF is sent; on SuperSpeed polling succeeded. -/
def Path.enabled (ss : Bool) (x : Path) : Path := if ss then { x with pollFails := 0 } else { x with quiet := true }

theorem enterEnabled_eq (s : State) (n : Nat) (ss : Bool) :
    s.enterEnabled n ss = ((s.predAt n ss).setPath n ss pEnabled true).modPath n ss (Path.enabled ss) := by
  unfold State.enterEnabled State.predAt
  cases ss <;> rfl

theorem predAt_sts (s : State) : (s.predAt n ss).rd (.portSts n) = s.rd (.portSts n) :=
  (leaves_predAt s n ss).1 _ not_predAddr_portSts
theorem predAt_pathSt (s : State) : (s.predAt n ss).pathSt n ss = s.pathSt n ss := by
  rw [State.pathSt, State.getF, predAt_sts, State.pathSt, State.getF]

theorem predAt_path (s : State) (b : Bool) : (s.predAt n ss).path n b = s.path n b := by
  have h := leaves_predAt s n ss
  unfold State.path
  cases b
  · exact h.port Port.usb (fun _ => rfl) n
  · exact h.port Port.sup (fun _ => rfl) n

theorem kept_enterEnabled (s : State) (n : Nat) (ss : Bool) : Kept s (s.enterEnabled n ss) := by
  have hp : Kept s (s.predAt n ss) := kept_ite ⟨rfl, rfl⟩ (.refl s)
  rw [enterEnabled_eq]
  exact hp.trans ((kept_setPath _ n ss _ _).trans (kept_modPath _ n ss _))

section
variable (hn : n < 20)
include hn

theorem enterEnabled_pathSt (hs : ss = true → n < 16) (ha : s.pathSt n ss ≠ pEnabled) :
    (s.enterEnabled n ss).pathSt n ss = pEnabled := by
  rw [enterEnabled_eq, modPath_pathSt]
  exact setPath_pathSt true ⟨hn, hs, by decide, by rwa [predAt_pathSt]⟩

theorem enterEnabled_path (hs : ss = true → n < 16) (ha : s.pathSt n ss ≠ pEnabled) :
    (s.enterEnabled n ss).path n ss = ((s.path n ss).enter pEnabled).enabled ss := by
  rw [enterEnabled_eq, modPath_path_same, setPath_path_same ⟨hn, hs, by decide, by rwa [predAt_pathSt]⟩, predAt_path]

end

end Sys2Proof.Machine
end

section
/-!
Events of a USB 2.0 path (Table 3 of chapter 2, R51 to R57).
-/
namespace Sys2Proof.Machine

/-! ## Events of a USB 2.0 path -/

section
variable {s : State} {n : Nat}

theorem usb_moves (hn : n < 20) {st : Nat} (h : st < 12) (ha : s.pathSt n false ≠ st) : Moves s n false st :=
  ⟨hn, fun h => absurd h (by decide), h, ha⟩

theorem usb2_unsensed (hu : s.up = true) (low : Bool) (h : s.phyOff n false) {i : Instr}
    (hi : i = .usb2Connect n low ∨ i = .usb2Disconnect n ∨ i = .deviceResumeK n) : exec i s = .next s := by
  obtain rfl | rfl | rfl := hi
  · exact exec_unsensed (show exec _ s = execUsb2Connect n low s from rfl) hu (.inl rfl) h
  · exact exec_unsensed (show exec _ s = execUsb2Disconnect n s from rfl) hu (.inl rfl) h
  · exact exec_unsensed (show exec _ s = execDeviceResumeK n s from rfl) hu (.inl rfl) h

section
variable (hn : n < 20) (hu : s.up = true) (hc : s.calm n false = true)
include hn hu hc

theorem usb2Connect_qualifies (low : Bool) (hst : s.pathSt n false = pDisconnected) (hp : ¬ s.phyOff n false) :
    Answers (.usb2Connect n low) s (fun t => t.pathSt n false = pQualify ∧ t.flag (.portSts n) PORT_STS.CSC ∧
      (t.path n false).low = low) := by
  have hm := usb_moves (s := s) hn (st := pQualify) (by decide) (by rw [hst]; decide)
  refine answers_sensed (show exec _ s = execUsb2Connect n low s from rfl) hu hp hc (by simp [hst])
    ((kept_setPath s n false _ _).trans <| (kept_modPath _ n false _).trans (kept_set1 _ _ _)) ⟨?_, by rw [noteMove_flag, set1_flag_same rfl], ?_⟩
  · rw [noteMove_pathSt, set1_pathSt _ rfl rfl, modPath_pathSt, setPath_pathSt true hm]
  · rw [noteMove_path_same, set1_path, modPath_path_same]

theorem debounceExpiry_attaches (hst : s.pathSt n false = pQualify) :
    Answers (.debounceExpiry n) s (fun t => t.pathSt n false = pAttached) :=
  answers_cond (show exec _ s = execDebounceExpiry n s from rfl) hu hc (by simp [hst]) (kept_setPath s n false _ _)
    (by rw [noteMove_pathSt, setPath_pathSt true (usb_moves hn (by decide) (by rw [hst]; decide))])

theorem busResetEnd_enables (hst : s.pathSt n false = pResetting) :
    Answers (.busResetEnd n) s (fun t => t.pathSt n false = pEnabled ∧ t.flag (.portSts n) PORT_STS.RSC ∧
      t.getF (.portSts n) PORT_STS.SPEED = if (s.path n false).low then 1 else if (s.path n false).chirp then 3 else 2) := by
  have hne : s.pathSt n false ≠ pEnabled := by rw [hst]; decide
  have hs : false = true → n < 16 := fun h => absurd h (by decide)
  refine answers_cond (show exec _ s = execBusResetEnd n s from rfl) hu hc (by simp [hst]) ?_ ⟨?_, by rw [noteMove_flag, set1_flag_same rfl], ?_⟩
  · exact (kept_enterEnabled s n false).trans ((kept_setF _ _ _ _).trans (kept_set1 _ _ _))
  · rw [noteMove_pathSt, set1_pathSt _ rfl rfl, setF_pathSt _ rfl rfl, enterEnabled_pathSt hn hs hne]
  · rw [noteMove_getF, set1_getF_apart _ _ rfl rfl, getF_setF_same _ _ _ _ rfl]
    unfold Path.speed
    cases (s.path n false).low <;> cases (s.path n false).chirp <;> rfl

theorem deviceResumeK_resumes (hst : s.pathSt n false = pSuspended) (hp : ¬ s.phyOff n false) :
    Answers (.deviceResumeK n) s (fun t => t.pathSt n false = pResuming ∧ t.flag (.portSts n) PORT_STS.LSC) := by
  have hm := usb_moves (s := s) hn (st := pResuming) (by decide) (by rw [hst]; decide)
  exact answers_sensed (show exec _ s = execDeviceResumeK n s from rfl) hu hp hc (by simp [hst])
    ((kept_setPath s n false _ _).trans (kept_set1 _ _ _))
    ⟨by rw [noteMove_pathSt, set1_pathSt _ rfl rfl, setPath_pathSt false hm],
      by rw [noteMove_flag, set1_flag_same rfl]⟩

theorem resumeEnd_enables (hst : s.pathSt n false = pResuming) :
    Answers (.resumeEnd n) s (fun t => t.pathSt n false = pEnabled) :=
  answers_cond (show exec _ s = execResumeEnd n s from rfl) hu hc (by simp [hst]) (kept_enterEnabled s n false)
    (by rw [noteMove_pathSt, enterEnabled_pathSt hn (fun h => absurd h (by decide)) (by rw [hst]; decide)])

theorem frameBabble_disables (hst : s.pathSt n false = pEnabled) :
    Answers (.frameBabble n) s (fun t => t.pathSt n false = pDisabled ∧ t.flag (.portSts n) PORT_STS.PEC) := by
  have hm := usb_moves (s := s) hn (st := pDisabled) (by decide) (by rw [hst]; decide)
  exact answers_cond (show exec _ s = execFrameBabble n s from rfl) hu hc (by simp [hst])
    ((kept_setPath s n false _ _).trans (kept_set1 _ _ _))
    ⟨by rw [noteMove_pathSt, set1_pathSt _ rfl rfl, setPath_pathSt false hm],
      by rw [noteMove_flag, set1_flag_same rfl]⟩

end

/-! ### A disconnect, which ends both paths (R51, R57) -/

/-- What the end of the USB 2.0 path does: DISCONNECTED, no VDM_SRC, and `CSC`. -/
def State.usbGone (s : State) (n : Nat) : State :=
  ((s.setPath n false pDisconnected false).modPort n (fun p => { p with vdm := false })).set1 (.portSts n) PORT_STS.CSC

theorem kept_usbGone (s : State) (n : Nat) : Kept s (s.usbGone n) :=
  (kept_setPath s n false _ _).trans <| (kept_modPort _ n _).trans (kept_set1 _ _ _)

theorem kept_ssGone (s : State) (n : Nat) : Kept s (s.ssGone n) :=
  kept_cond (fun s => kept_set1 s _ _) (fun s => (kept_setPath s n true _ _).trans (kept_set1 _ _ _)) s n true _ _

theorem usbGone_pathSt (hn : n < 20) (h : s.pathSt n false ≠ pDisconnected) :
    (s.usbGone n).pathSt n false = pDisconnected := by
  unfold State.usbGone
  rw [set1_pathSt _ rfl rfl, modPort_pathSt, setPath_pathSt false (usb_moves hn (by decide) h)]

theorem usbGone_csc (s : State) (n : Nat) : (s.usbGone n).flag (.portSts n) PORT_STS.CSC = true := set1_flag_same rfl

/-- A path that is attached, or was when a condition moved it in this cycle, is at an end for a disconnect. -/
theorem exec_usb2Disconnect (hu : s.up = true) (hp : ¬ s.phyOff n false) {t : State}
    (ha : (pathAttached (s.pathSt n false) || ((s.path n false).moved == s.now + 1 && pathAttached (s.path n false).was)) =
      true)
    (ht : s.cond n false precGone pathAttached (fun s => s.set1 (.portSts n) PORT_STS.CSC) (fun s => s.usbGone n) = t) :
    exec (.usb2Disconnect n) s = .next (t.ssGone n) := by
  have hk : Kept s t := ht ▸ kept_cond (fun s => kept_set1 s _ _) (fun s => kept_usbGone s n) s n false _ _
  have hf : s.senses n false (fun s => if pathAttached (s.pathSt n false) || ((s.path n false).moved == s.now + 1 &&
      pathAttached (s.path n false).was) then (s.cond n false precGone pathAttached
        (fun s => s.set1 (.portSts n) PORT_STS.CSC) (fun s => s.usbGone n)).ssGone n else s.testGone n) = t.ssGone n := by
    rw [senses_on hp, if_pos ha, ht]
  have hg := hk.trans (kept_ssGone t n)
  exact onDevice_eq (f := fun s => s.senses n false fun s => _) hu hf hg.1 hg.2

/-- The end of the SuperSpeed path leaves the state of the USB 2.0 path and its change bits. -/
theorem ssGone_usb (hn : n < 20) (s : State) : (s.ssGone n).pathSt n false = s.pathSt n false ∧
    (s.ssGone n).flag (.portSts n) PORT_STS.CSC = s.flag (.portSts n) PORT_STS.CSC ∧
    (s.ssGone n).flag (.portSts n) PORT_STS.PEC = s.flag (.portSts n) PORT_STS.PEC := by
  have h {g : Fld} (hg : offPath true g = true) (hs : g.apart PORT_STS.SCSC = true) := ssGone_getF hn hg hs s
  exact ⟨h (g := PORT_STS.STATE) rfl rfl, by rw [State.flag, h rfl rfl, State.flag], by rw [State.flag, h rfl rfl, State.flag]⟩

theorem usb2Disconnect_detaches (hn : n < 20) (hu : s.up = true) (hc : s.calm n false = true)
    (h2 : 2 ≤ s.pathSt n false) (h8 : s.pathSt n false ≤ 8) (hp : ¬ s.phyOff n false) :
    Answers (.usb2Disconnect n) s (fun t => t.pathSt n false = pDisconnected ∧ t.flag (.portSts n) PORT_STS.CSC) := by
  have ha : pathAttached (s.pathSt n false) = true := by simp [pathAttached, h2, h8]
  have hne : s.pathSt n false ≠ pDisconnected := by simp only [pDisconnected]; omega
  refine ⟨_, exec_usb2Disconnect hu hp (by simp [ha]) (cond_calm hc ha _ _ _), ?_⟩
  obtain ⟨hst, hcsc, -⟩ := ssGone_usb hn ((s.usbGone n).noteMove n false (s.pathSt n false) precGone)
  rw [noteMove_pathSt] at hst
  rw [noteMove_flag] at hcsc
  exact ⟨hst.trans (usbGone_pathSt hn hne), hcsc.trans (usbGone_csc s n)⟩

/-! ### Conditions that meet in one cycle (R52) -/

/-- The path's move in this cycle is not taken: the path is in the state that it left. -/
theorem unmove_pathSt {ss : Bool} (h : (s.path n ss).was < 16) : (s.unmove n ss).pathSt n ss = (s.path n ss).was := by
  have hw : 2 ^ (pathField ss).width = 16 := by cases ss <;> rfl
  refine (getF_setF_same s (.portSts n) (pathField ss) _ pathField_ok).trans ?_
  rw [hw, Nat.mod_eq_of_lt h]

theorem cond_outranks {ss : Bool} {ok : Nat → Bool} {prec : Nat} (hc : s.calm n ss = false)
    (hok : ok (s.path n ss).was = true) (hp : prec < (s.path n ss).prec) (bits f : State → State) :
    s.cond n ss prec ok bits f = (f (s.unmove n ss)).noteMove n ss (s.path n ss).was prec := by
  have hm : s.movedNow n ss = true := by simpa [State.calm, State.movedNow] using hc
  simp [State.cond, hm, hok, Nat.ne_of_gt hp, Nat.not_lt_of_gt hp]

theorem cond_outranked {ss : Bool} {ok : Nat → Bool} {prec : Nat} (hc : s.calm n ss = false)
    (hok : ok (s.path n ss).was = true) (hp : (s.path n ss).prec < prec) (bits f : State → State) :
    s.cond n ss prec ok bits f = bits s := by
  have hm : s.movedNow n ss = true := by simpa [State.calm, State.movedNow] using hc
  simp [State.cond, hm, hok, Nat.ne_of_lt hp, hp]

theorem usb2Disconnect_outranks_software (hn : n < 20) (hu : s.up = true) (hc : s.calm n false = false)
    (hw : (s.path n false).was = pEnabled) (hsw : (s.path n false).prec = precSw) (hp : ¬ s.phyOff n false) :
    Answers (.usb2Disconnect n) s (fun t => t.pathSt n false = pDisconnected ∧ t.flag (.portSts n) PORT_STS.CSC ∧
      t.flag (.portSts n) PORT_STS.PEC) := by
  have hm : (s.path n false).moved = s.now + 1 := by simpa [State.calm] using hc
  have hun : (s.unmove n false).pathSt n false = pEnabled := by rw [unmove_pathSt (by rw [hw]; decide), hw]
  have hmv := usb_moves (s := s.unmove n false) hn (st := pDisconnected) (by decide) (by rw [hun]; decide)
  refine ⟨_, exec_usb2Disconnect hu hp (by rw [hm, hw]; simp [pathAttached, pEnabled])
    (cond_outranks hc (by rw [hw]; decide) (by rw [hsw]; decide) _ _), ?_⟩
  obtain ⟨hst, hcsc, hpec⟩ :=
    ssGone_usb hn (((s.unmove n false).usbGone n).noteMove n false (s.path n false).was precGone)
  rw [noteMove_pathSt] at hst
  rw [noteMove_flag] at hcsc hpec
  refine ⟨hst.trans (usbGone_pathSt hn (by rw [hun]; decide)), hcsc.trans (usbGone_csc _ n), hpec.trans ?_⟩
  have herr : ((s.unmove n false).setPath n false pDisconnected false).flag (.portSts n) PORT_STS.PEC = true :=
    setPath_err false hmv (by rw [hun]; rfl)
  rw [State.usbGone, State.flag, set1_getF_apart _ _ rfl rfl]
  exact herr

theorem frameBabble_outranked (hu : s.up = true) (hc : s.calm n false = false)
    (hw : (s.path n false).was = pEnabled) (hpp : (s.path n false).prec = precPp) :
    Answers (.frameBabble n) s (fun t => t.pathSt n false = s.pathSt n false ∧ t.flag (.portSts n) PORT_STS.PEC) := by
  have hb := cond_outranked (ok := (· = pEnabled)) (prec := precBabble) hc (by simp [hw]) (by rw [hpp]; decide)
    (fun s => s.set1 (.portSts n) PORT_STS.PEC)
    (fun s => (s.setPath n false pDisabled false).set1 (.portSts n) PORT_STS.PEC)
  exact answers_eq (show exec _ s = execFrameBabble n s from rfl) hu hb (kept_set1 s _ _)
    ⟨set1_pathSt (ss := false) s rfl rfl, set1_flag_same rfl⟩

/-! ### Events that move no path -/

theorem answers_whenPath {i : Instr} {ok : Nat → Bool} {f : State → State} {P : State → Prop} {ss : Bool}
    (he : exec i s = onDevice (fun s => s.whenPath n ss ok f) s) (hu : s.up = true) (hok : ok (s.pathSt n ss) = true)
    (hk : Kept s (f s)) (h : P (f s)) : Answers i s P :=
  answers_eq he hu (if_pos hok) hk h

/-- A write of a register by hardware changes that register only. -/
theorem onlyRegs_setF (s : State) (r : Reg) (f : Fld) (x : Nat) : OnlyRegs s (s.setF r f x) [r.addr] :=
  ⟨fun _ hq => rd_setF_ne s f x fun e => hq (by simp [e]), rfl⟩

theorem deviceChirp_noted (hu : s.up = true) (hst : s.pathSt n false = pResetting) (hl : (s.path n false).low = false) :
    Answers (.deviceChirp n) s (fun t => (t.path n false).chirp = true ∧ t.pathSt n false = pResetting) := by
  refine answers_whenPath (show exec _ s = execDeviceChirp n s from rfl) hu (by simp [hst]) (kept_modPath s n false _)
    ⟨?_, hst⟩
  rw [modPath_path_same]
  simp [hl]

theorem trafficHoldEnd_frees (hu : s.up = true) :
    Answers (.trafficHoldEnd n) s (fun t => (t.path n false).quiet = false ∧ t.regs = s.regs) := by
  refine answers_kept (show exec _ s = execTrafficHoldEnd n s from rfl) hu (kept_modPath s n false _) ⟨?_, rfl⟩
  rw [modPath_path_same]

theorem suspendIdleL2_links (hu : s.up = true) (hst : s.pathSt n false = pSuspended) :
    Answers (.suspendIdleL2 n) s (fun t => OnlyRegs s t [(Reg.portLink n).addr] ∧
      t.getF (.portLink n) PORT_LINK.LSTATE = 3) :=
  answers_whenPath (show exec _ s = execSuspendIdleL2 n s from rfl) hu (by simp [hst]) (kept_setF s _ _ _)
    ⟨onlyRegs_setF s _ _ _, getF_setF_same s _ _ _ rfl⟩

end

/-- Settles O17: each event by the condition that it is, in a calm cycle and in one in which another condition has moved the
path before. -/
theorem usb2PathEvents : Obligations.Usb2PathEvents := by
  refine ⟨fun s n low hn hu hc => ⟨fun h i hi => usb2_unsensed hu low h hi, ?_⟩, fun s n hn hu hc hw => ⟨?_, ?_⟩⟩
  · exact ⟨usb2Connect_qualifies hn hu hc low, debounceExpiry_attaches hn hu hc, deviceChirp_noted hu,
      busResetEnd_enables hn hu hc, trafficHoldEnd_frees hu, suspendIdleL2_links hu, deviceResumeK_resumes hn hu hc,
      resumeEnd_enables hn hu hc, usb2Disconnect_detaches hn hu hc, frameBabble_disables hn hu hc⟩
  · exact usb2Disconnect_outranks_software hn hu hc hw
  · exact frameBabble_outranked hu hc hw

end Sys2Proof.Machine
end

section
/-!
Events of a SuperSpeed path (Table 3 of chapter 2, R50, R51, R57, R58).
-/
namespace Sys2Proof.Machine

section
variable {s : State} {n : Nat}

theorem sup_moves (hn : n < 16) {st : Nat} (h : st < 12) (ha : s.pathSt n true ≠ st) : Moves s n true st :=
  ⟨by omega, fun _ => hn, h, ha⟩

theorem superSpeed_unsensed (hn : n < 16) (hu : s.up = true) (h : s.phyOff n true) {i : Instr}
    (hi : i = .ssTerminationsDetected n ∨ i = .ssTerminationsAbsent n ∨ i = .ssU3Wake n) : exec i s = .next s := by
  obtain rfl | rfl | rfl := hi
  · exact exec_unsensed (show exec _ s = execSsTerminationsDetected n s from rfl) hu (.inr hn) h
  · exact exec_unsensed (show exec _ s = execSsTerminationsAbsent n s from rfl) hu (.inr hn) h
  · exact exec_unsensed (show exec _ s = execSsU3Wake n s from rfl) hu (.inr hn) h

/-! ## A move with a bit of `PORT_STS` -/

/-- The path goes to `st`, and hardware sets the bit `f`. -/
theorem moveNoted_pathSt {st : Nat} (hn : n < 16) (h : st < 12) (ha : s.pathSt n true ≠ st) (sw : Bool) {f : Fld}
    (hf : f.ok = true) (hp : (pathField true).apart f = true) (was prec : Nat) :
    (((s.setPath n true st sw).set1 (.portSts n) f).noteMove n true was prec).pathSt n true = st := by
  rw [noteMove_pathSt, set1_pathSt _ hf hp, setPath_pathSt sw (sup_moves hn h ha)]

theorem noted_flag (s : State) (n : Nat) (ss : Bool) (was prec : Nat) {f : Fld} (hf : f.ok = true) :
    ((s.set1 (.portSts n) f).noteMove n ss was prec).flag (.portSts n) f = true := by
  rw [noteMove_flag, set1_flag_same hf]

theorem kept_moveNoted (s : State) (st : Nat) (sw : Bool) (f : Fld) :
    Kept s ((s.setPath n true st sw).set1 (.portSts n) f) := (kept_setPath s n true _ _).trans (kept_set1 _ _ _)

section
variable (hn : n < 16) (hu : s.up = true) (hc : s.calm n true = true)
include hn hu hc

theorem ssTerminationsDetected_qualifies (hst : s.pathSt n true = pDisconnected) (hp : ¬ s.phyOff n true) :
    Answers (.ssTerminationsDetected n) s (fun t => t.pathSt n true = pQualify ∧
      t.flag (.portSts n) PORT_STS.SCSC) :=
  answers_sensed (show exec _ s = execSsTerminationsDetected n s from rfl) hu hp hc (by simp [hst])
    (kept_moveNoted s _ _ _)
    ⟨moveNoted_pathSt hn (by decide) (by rw [hst]; decide) true rfl rfl _ _, noted_flag _ n true _ _ rfl⟩

theorem ssU3Wake_resumes (hst : s.pathSt n true = pSuspended) (hp : ¬ s.phyOff n true) :
    Answers (.ssU3Wake n) s (fun t => t.pathSt n true = pResuming ∧ t.flag (.portSts n) PORT_STS.SLSC) :=
  answers_sensed (show exec _ s = execSsU3Wake n s from rfl) hu hp hc (by simp [hst]) (kept_moveNoted s _ _ _)
    ⟨moveNoted_pathSt hn (by decide) (by rw [hst]; decide) false rfl rfl _ _, noted_flag _ n true _ _ rfl⟩

theorem ssResumeTimeout_disconnects (hst : s.pathSt n true = pResuming) :
    Answers (.ssResumeTimeout n) s (fun t => t.pathSt n true = pDisconnected ∧ t.flag (.portSts n) PORT_STS.SCSC) :=
  answers_cond (show exec _ s = execSsResumeTimeout n s from rfl) hu hc (by simp [hst]) (kept_moveNoted s _ _ _)
    ⟨moveNoted_pathSt hn (by decide) (by rw [hst]; decide) false rfl rfl _ _, noted_flag _ n true _ _ rfl⟩

theorem ssRecoveryFail_disables (hst : s.pathSt n true = pEnabled) :
    Answers (.ssRecoveryFail n) s (fun t => t.pathSt n true = pDisabled ∧ t.flag (.portSts n) PORT_STS.SPEC) := by
  have hm := sup_moves (s := s) hn (st := pDisabled) (by decide) (by rw [hst]; decide)
  have hl : (Reg.portSts n).addr ≠ (Reg.portLink n).addr := portLink_ne_portSts n n
  refine answers_cond (show exec _ s = execSsRecoveryFail n s from rfl) hu hc (by simp [hst])
    ((kept_setPath s n true _ _).trans <| (kept_setF _ _ _ _).trans (kept_set1 _ _ _)) ⟨?_, noted_flag _ n true _ _ rfl⟩
  rw [noteMove_pathSt, set1_pathSt _ rfl rfl, State.pathSt, getF_setF_ne _ _ _ _ hl]
  exact setPath_pathSt false hm

/-- A warm reset that fails leaves the path DISCONNECTED. -/
theorem warmResetTimeout_disconnects (hst : s.pathSt n true = pResetting) (hw : (s.path n true).warm = true) :
    Answers (.warmResetTimeout n) s (fun t => t.pathSt n true = pDisconnected ∧ t.flag (.portSts n) PORT_STS.SCSC) := by
  have hcond := cond_calm hc (ok := (· = pResetting)) (by simp [hst]) precTimer
    (fun s => s.set1 (.portSts n) PORT_STS.SCSC)
    (fun s => (s.setPath n true pDisconnected false).set1 (.portSts n) PORT_STS.SCSC)
  exact answers_eq (show exec _ s = execWarmResetTimeout n s from rfl) hu ((if_pos hw).trans hcond)
    ((kept_moveNoted s _ _ _).trans (kept_noteMove _ n true _ _))
    ⟨moveNoted_pathSt hn (by decide) (by rw [hst]; decide) false rfl rfl _ _, noted_flag _ n true _ _ rfl⟩

/-! ## Polling (R51, log entry 82) -/

theorem ssPollingFail_counts (hst : s.pathSt n true = pQualify) (hf : (s.path n true).pollFails < 2) :
    Answers (.ssPollingFail n) s (fun t =>
      t.pathSt n true = pDisconnected ∧ (t.path n true).pollFails = (s.path n true).pollFails + 1) := by
  have hm := sup_moves (s := s) hn (st := pDisconnected) (by decide) (by rw [hst]; decide)
  refine answers_cond (show exec _ s = execSsPollingFail n s from rfl) hu hc (by simp [hst]) ?_ ?_
  · exact kept_ite ((kept_setPath s n true _ _).trans (kept_modPath _ n true _))
      ((kept_setPath s n true _ _).trans (kept_modPath _ n true _))
  · rw [if_neg (by omega)]
    refine ⟨?_, ?_⟩
    · rw [noteMove_pathSt, modPath_pathSt, setPath_pathSt false hm]
    · rw [noteMove_path_same, modPath_path_same, setPath_path_same hm]
      rfl

theorem ssPollingFail_disables (hst : s.pathSt n true = pQualify) (hf : 2 ≤ (s.path n true).pollFails) :
    Answers (.ssPollingFail n) s (fun t => t.pathSt n true = pDisabled) := by
  have hm := sup_moves (s := s) hn (st := pDisabled) (by decide) (by rw [hst]; decide)
  refine answers_cond (show exec _ s = execSsPollingFail n s from rfl) hu hc (by simp [hst]) ?_ ?_
  · exact kept_ite ((kept_setPath s n true _ _).trans (kept_modPath _ n true _))
      ((kept_setPath s n true _ _).trans (kept_modPath _ n true _))
  · rw [if_pos hf, noteMove_pathSt, modPath_pathSt, setPath_pathSt false hm]

/-! ## U0 -/

/-- The link is up at a speed. -/
def State.linkUpAt (s : State) (n speed : Nat) : State := (s.enterEnabled n true).setF (.portSts n) PORT_STS.SSPEED speed

omit hu hc in
theorem linkUpAt_sts {speed : Nat} (hsp : speed < 8) (ha : s.pathSt n true ≠ pEnabled) :
    (s.linkUpAt n speed).pathSt n true = pEnabled ∧ (s.linkUpAt n speed).getF (.portSts n) PORT_STS.SSPEED = speed := by
  refine ⟨?_, (getF_setF_same _ _ _ _ rfl).trans (Nat.mod_eq_of_lt hsp)⟩
  rw [State.linkUpAt, setF_pathSt _ rfl rfl, enterEnabled_pathSt (by omega) (fun _ => hn) ha]

omit hn hu hc in
theorem kept_linkUpAt (s : State) (n speed : Nat) : Kept s (s.linkUpAt n speed) :=
  (kept_enterEnabled s n true).trans (kept_setF _ _ _ _)

omit hn hu in
/-- The state in which U0 is judged, in a calm cycle. -/
theorem ssLinkU0_judged : (if (s.path n true).moved = s.now + 1 then (s.path n true).was else s.pathSt n true) =
    s.pathSt n true := if_neg (by simpa [State.calm] using hc)

theorem ssLinkU0_from_polling {speed : Nat} (hsp : speed < 8) (hst : s.pathSt n true = pQualify) :
    Answers (.ssLinkU0 n speed) s (fun t => t.pathSt n true = pEnabled ∧
      t.getF (.portSts n) PORT_STS.SSPEED = speed) := by
  obtain ⟨hen, hss⟩ := linkUpAt_sts (s := s) hn hsp (by rw [hst]; decide)
  have hcond := cond_calm hc (ok := (· = pQualify)) (by simp [hst]) precTimer (fun s => s) (fun s => s.linkUpAt n speed)
  refine answers_eq (show exec _ s = execSsLinkU0 n speed s from rfl) hu (Eq.trans ?_ hcond)
    ((kept_linkUpAt s n speed).trans (kept_noteMove _ n true _ _))
    ⟨by rw [noteMove_pathSt, hen], by rw [noteMove_getF, hss]⟩
  dsimp only
  rw [ssLinkU0_judged hc, if_neg (by rw [hst]; decide), if_pos hst]
  rfl

theorem ssLinkU0_from_reset {speed : Nat} (hsp : speed < 8) (hst : s.pathSt n true = pResetting) :
    Answers (.ssLinkU0 n speed) s (fun t => t.pathSt n true = pEnabled ∧
      t.getF (.portSts n) PORT_STS.SSPEED = speed ∧ t.flag (.portSts n) PORT_STS.SRSC) := by
  obtain ⟨hen, hss⟩ := linkUpAt_sts (s := s) hn hsp (by rw [hst]; decide)
  have hcond := cond_calm hc (ok := (· = pResetting)) (by simp [hst]) precTimer
    (fun s => s.set1 (.portSts n) PORT_STS.SRSC) (fun s => (s.linkUpAt n speed).set1 (.portSts n) PORT_STS.SRSC)
  refine answers_eq (show exec _ s = execSsLinkU0 n speed s from rfl) hu (Eq.trans ?_ hcond)
    (((kept_linkUpAt s n speed).trans (kept_set1 _ _ _)).trans (kept_noteMove _ n true _ _)) ⟨?_, ?_, noted_flag _ n true _ _ rfl⟩
  · dsimp only
    rw [if_pos (.inr hst)]
    rfl
  · rw [noteMove_pathSt, set1_pathSt _ rfl rfl, hen]
  · rw [noteMove_getF, set1_getF_apart _ _ rfl rfl, hss]

end

/-! ## A path that is at an end, and FLIP (R57, R58) -/

theorem ssGone_calm (hc : s.calm n true = true) (h2 : 2 ≤ s.pathSt n true) (h8 : s.pathSt n true ≤ 8) : s.ssGone n =
    ((s.setPath n true pDisconnected false).set1 (.portSts n) PORT_STS.SCSC).noteMove n true (s.pathSt n true) precGone :=
  cond_calm hc (by simp [pathAttached, h2, h8]) _ _ _

theorem ssTerminationsAbsent_disconnects (hn : n < 16) (hu : s.up = true) (hc : s.calm n true = true)
    (h2 : 2 ≤ s.pathSt n true) (h8 : s.pathSt n true ≤ 8) (hp : ¬ s.phyOff n true) :
    Answers (.ssTerminationsAbsent n) s (fun t => t.pathSt n true = pDisconnected ∧ t.flag (.portSts n) PORT_STS.SCSC) :=
  answers_eq (show exec _ s = execSsTerminationsAbsent n s from rfl) hu
    ((senses_on hp (fun s => s.ssGone n)).trans (ssGone_calm hc h2 h8))
    ((kept_moveNoted s _ _ _).trans (kept_noteMove _ n true _ _))
    ⟨moveNoted_pathSt hn (by decide) (by simp only [pDisconnected]; omega) false rfl rfl _ _, noted_flag _ n true _ _ rfl⟩

theorem noteMove_flip (s : State) (n : Nat) (ss : Bool) (was prec : Nat) :
    ((s.noteMove n ss was prec).port n).flip = (s.port n).flip := by
  rw [State.noteMove, State.modPath, modPort_same]
  cases ss <;> rfl

/-- The FLIP input at a level, and the change bit that an attached path sets. -/
def State.flipped (s : State) (n : Nat) (level : Bool) : State :=
  ((s.traffic 167).modPort n (fun p => { p with flip := level })).set1 (.portSts n) PORT_STS.FLC

theorem flipped_pathSt (s : State) (n : Nat) (level : Bool) : (s.flipped n level).pathSt n true = s.pathSt n true := by
  unfold State.flipped
  rw [set1_pathSt _ rfl rfl]
  rfl

theorem flipped_calm (level : Bool) : (s.flipped n level).calm n true = s.calm n true := by
  have hport := congrArg Port.sup (modPort_same (s.traffic 167) n (fun p => { p with flip := level }))
  have hp : (s.flipped n level).path n true = s.path n true := hport
  rw [State.calm, hp, State.calm]
  rfl

theorem flipChange_disconnects (hn : n < 16) (hu : s.up = true) (hc : s.calm n true = true) (h2 : 2 ≤ s.pathSt n true)
    (h8 : s.pathSt n true ≤ 8) (hf : (s.port n).flip = false) (hp : s.pinsOn 167 = true) :
    Answers (.flipChange n true) s (fun t => (t.port n).flip = true ∧ t.flag (.portSts n) PORT_STS.FLC ∧
      t.pathSt n true = pDisconnected) := by
  have hst := flipped_pathSt s n true
  have hg := ssGone_calm (s := s.flipped n true) (n := n) (by rw [flipped_calm, hc]) (by rw [hst]; exact h2)
    (by rw [hst]; exact h8)
  have hne : (s.flipped n true).pathSt n true ≠ pDisconnected := by rw [hst]; simp only [pDisconnected]; omega
  have hk : Kept s (s.flipped n true) := ⟨rfl, rfl⟩
  refine answers_eq (show exec _ s = execFlipChange n true s from rfl) hu (Eq.trans ?_ hg)
    ((hk.trans (kept_moveNoted _ _ _ _)).trans (kept_noteMove _ n true _ _)) ⟨?_, ?_, ?_⟩
  · have hst' : ((s.traffic 167).modPort n (fun p => { p with flip := true })).pathSt n true = s.pathSt n true := rfl
    have ho : ¬ (s.pathSt n true = pOff ∨ s.pathSt n true = pDisconnected) := by
      simp only [pOff, pDisconnected]
      omega
    dsimp only
    rw [if_neg (by simp [hf, hp]; omega), hst', if_neg ho]
    rfl
  · rw [noteMove_flip]
    change (((s.flipped n true).setPath n true pDisconnected false).port n).flip = true
    rw [setPath_flip]
    exact congrArg Port.flip (modPort_same (s.traffic 167) n (fun p => { p with flip := true }))
  · rw [noteMove_flag, State.flag, set1_getF_apart _ _ rfl rfl, setPath_offPath _ _ (by omega) rfl]
    exact set1_flag_same rfl
  · exact moveNoted_pathSt hn (by decide) hne false rfl rfl _ _

end

/-- Settles O18: each event by the condition that it is, or by the one effect it has on a path in its state. -/
theorem superSpeedPathEvents : Obligations.SuperSpeedPathEvents := by
  refine fun s n speed hn hu hsp hc => ⟨fun h i hi => superSpeed_unsensed hn hu h hi,
    ssTerminationsDetected_qualifies hn hu hc, ssLinkU0_from_polling hn hu hc hsp, ssLinkU0_from_reset hn hu hc hsp,
    ssPollingFail_counts hn hu hc, ssPollingFail_disables hn hu hc, fun hst => ?_, warmResetTimeout_disconnects hn hu hc,
    ssU3Wake_resumes hn hu hc, ssResumeTimeout_disconnects hn hu hc, ssRecoveryFail_disables hn hu hc, fun hst => ?_,
    ssTerminationsAbsent_disconnects hn hu hc, flipChange_disconnects hn hu hc⟩
  · exact answers_whenPath (show exec _ s = execHotResetEscalate n s from rfl) hu (by simp [hst])
      (kept_modPath s n true _) ⟨by rw [modPath_path_same], hst⟩
  · exact answers_whenPath (show exec _ s = execSsLinkRecovery n s from rfl) hu (by simp [hst]) (kept_setF s _ _ _)
      ⟨onlyRegs_setF s _ _ _, (getF_setF_ne s _ _ _ (portLink_ne_portSts n n)).trans hst⟩

end Sys2Proof.Machine
end

section
/-!
Requests of `PORT_CTL` (R47, R48, R51 to R53, R391).
-/
namespace Sys2Proof.Machine

section
variable {s t u : State} {n : Nat} {ss : Bool} {q : Requester} {A : Nat → Prop}

/-! ## The island and the queue -/

theorem kept_tstHalt (s : State) (n : Nat) : Kept s (s.tstHalt n) :=
  kept_ite ((kept_checkerOff s n).trans (kept_setF _ _ _ _)) (.refl s)

theorem kept_toOff (s : State) (n : Nat) (sw : Bool) : Kept s (s.toOff n sw) := by
  have hgo (ss : Bool) (s : State) : Kept s (if s.pathSt n ss = pOvercurrent ∨ s.pathSt n ss = pOff then s
      else ((if s.movedNow n ss then s.unmove n ss else s).setPath n ss pOff sw).noteMove n ss
        ((if s.movedNow n ss then s.unmove n ss else s).pathSt n ss) precPp) :=
    kept_ite (.refl s) <| (kept_ite (kept_unmove s n ss) (.refl s)).trans <|
      (kept_setPath _ n ss _ _).trans (kept_noteMove _ n ss _ _)
  exact (hgo false s).trans (hgo true _)

theorem kept_pwrMates (s : State) (n : Nat) : Kept s (s.pwrMates n) := kept_forL (fun k s => kept_pwrSet s k) _ s

theorem kept_portPp (s : State) (n : Nat) (pp : Bool) : Kept s (s.portPp n pp) :=
  (kept_setF s _ _ _).trans <| (kept_ite (kept_tstHalt _ n) (kept_toOff _ n true)).trans (kept_pwrMates _ n)

theorem kept_softMove {f : State → State} (hf : ∀ s, Kept s (f s)) (s : State) (n : Nat) (ss : Bool) :
    Kept s (s.softMove n ss f) :=
  kept_ite (.refl s) <| (kept_ite (kept_unmove s n ss) (.refl s)).trans <| (hf _).trans (kept_noteMove _ n ss _ _)

theorem kept_pathReset (s : State) (n : Nat) (ss : Bool) : Kept s (s.pathReset n ss) := by
  cases ss <;> exact ⟨rfl, rfl⟩

theorem kept_startReset (s : State) (n : Nat) (ss warm : Bool) : Kept s (s.startReset n ss warm) :=
  (kept_setPath s n ss _ _).trans <| (kept_pathReset _ n ss).trans (kept_modPath _ n ss _)

theorem kept_portReq (s : State) (n bit : Nat) (path : Bool) : Kept s (s.portReq n bit path) := by
  unfold State.portReq
  dsimp only
  split
  · exact kept_set1 s _ _
  · exact kept_softMove (fun s => kept_ite (kept_startReset s n _ _) (kept_setPath s n _ _ _)) s n _

theorem kept_portTest (s : State) (n code : Nat) : Kept s (s.portTest n code) := by
  have hm (s : State) (ss : Bool) : Kept s (((if ss ∧ s.pathSt n ss = pTest then s.checkerOff n else s).setPath n ss pTest
      true).modPath n ss (fun x => { x with mode := code })) :=
    (kept_ite (kept_checkerOff s n) (.refl s)).trans <| (kept_setPath _ n ss pTest true).trans (kept_modPath _ n ss _)
  unfold State.portTest
  dsimp only
  split
  · exact kept_set1 s _ _
  · exact kept_ite (kept_set1 s _ _) (kept_ite
      (kept_softMove (fun s => kept_ite ((hm s _).trans (kept_setF _ _ _ _)) (hm s _)) s n _) (kept_set1 s _ _))

theorem kept_portCtlNow (s : State) (n : Nat) (v : Word64) : Kept s (s.portCtlNow n v) := by
  unfold State.portCtlNow
  dsimp only
  have hp := (kept_setF s (.portCtl n) PORT_CTL.TEST (PORT_CTL.TEST.get v)).trans
    (kept_portPp _ n (PORT_CTL.PP.get v != 0))
  have h := hp.trans (kept_ite (c := PORT_CTL.TEST.get v = 0) (.refl _) (kept_portTest _ n (PORT_CTL.TEST.get v)))
  split
  · exact h
  · exact h.trans (kept_portReq _ n _ _)
  · exact h.trans (kept_set1 _ _ _)

/-! ## A write of `PORT_CTL` that the gate lets pass (R391) -/

theorem gate_accepts {r : Reg} (h : s.accepts q r = true) (f : State → State) : s.gate q r f = f s := by
  simp only [State.accepts, Bool.and_eq_true, Bool.not_eq_true'] at h
  obtain ⟨⟨⟨⟨hu, hr⟩, hb⟩, hs⟩, hl⟩ := h
  rw [State.gate, gateLoc_opens (opens_iff.2 ⟨hu, hr, hb, hs⟩), if_pos hl]

theorem accepts_up {r : Reg} (h : s.accepts q r = true) : s.up = true := by
  simp only [State.accepts, Bool.and_eq_true] at h
  exact h.1.1.1.1

theorem answers_gate {i : Instr} {r : Reg} {f : State → State} {P : State → Prop}
    (he : exec i s = onDevice (fun s => s.gate q r f) s) (ha : s.accepts q r = true) (hf : f s = t) (hk : Kept s t)
    (hp : P t) : Answers i s P :=
  answers_eq he (accepts_up ha) ((gate_accepts ha f).trans hf) hk hp

/-- A write while the domain keeps a copy changes the copy, and neither registers nor ports. -/
theorem portCtlWrite_of_copy {i : Instr} {w : State → Word64}
    (he : exec i s = onDevice (fun s => s.gate q (.portCtl n) (fun s => s.wrPortCtl n (w s))) s)
    (ha : s.accepts q (.portCtl n) = true) (hc : (s.savedCopy (.portCtl n)).isSome = true) :
    Answers i s (fun t => t.regs = s.regs ∧ t.ports = s.ports) :=
  answers_gate he ha (if_pos hc) ⟨rfl, rfl⟩ ⟨rfl, rfl⟩

/-- A write without a copy, in a domain that is ON, acts. -/
theorem wrPortCtl_now (hd : s.domOn (80 + n) = true) (hc : s.savedCopy (.portCtl n) = none) (v : Word64) :
    s.wrPortCtl n v = s.portCtlNow n v := by
  simp [State.wrPortCtl, hc, hd]

theorem shown_portCtl (hc : s.savedCopy (.portCtl n) = none) : s.shown (.portCtl n) = s.rd (.portCtl n) := by
  simp [State.shown, hc]

/-! ## PWREN (R59) -/

/-- PWREN follows without a change of registers, of the records of paths, or of the island. -/
def Powers (s t : State) : Prop := t.regs = s.regs ∧ t.aon = s.aon ∧ ∀ n ss, t.path n ss = s.path n ss

theorem Powers.refl (s : State) : Powers s s := ⟨rfl, rfl, fun _ _ => rfl⟩
theorem Powers.trans (h : Powers s t) (k : Powers t u) : Powers s u :=
  ⟨k.1.trans h.1, k.2.1.trans h.2.1, fun n ss => (k.2.2 n ss).trans (h.2.2 n ss)⟩
theorem Powers.rd (h : Powers s t) (r : Reg) : t.rd r = s.rd r := by rw [State.rd, h.1, State.rd]
theorem Powers.getF (h : Powers s t) (r : Reg) (f : Fld) : t.getF r f = s.getF r f := by
  rw [State.getF, h.rd, State.getF]

theorem powers_modPort (s : State) (n : Nat) {g : Port → Port} (hu : ∀ p, (g p).usb = p.usb) (hs : ∀ p, (g p).sup = p.sup) :
    Powers s (s.modPort n g) := by
  refine ⟨rfl, rfl, fun m b => ?_⟩
  unfold State.path
  by_cases h : m = n
  · subst h
    rw [modPort_same, hu, hs]
  · rw [modPort_ne _ _ h]

/-- PWREN driven at a level; and an assertion, which opens the inrush window and restarts an active count (R60). -/
def State.pwrDriven (s : State) (n : Nat) (w : Bool) : State :=
  ((s.traffic 167).modPort n (fun p => { p with pwren := w })).drive (pinPwren n) w
def State.inrushed (s : State) (n : Nat) : State :=
  (s.modPort n (fun p => { p with inrush := s.now + s.inrushCycles n })).modPort (s.ocSource n) (fun p =>
    if p.oc.sample then { p with oc := { p.oc with counting := true, time := s.inrushTime (s.ocSource n) } } else p)

theorem pwrSet_eq (s : State) (n : Nat) : s.pwrSet n = if (s.port n).pwren = s.pwrWant n then s
    else if s.pwrWant n then (s.pwrDriven n (s.pwrWant n)).inrushed n else s.pwrDriven n (s.pwrWant n) := rfl

theorem powers_pwrDriven (s : State) (n : Nat) (w : Bool) : Powers s (s.pwrDriven n w) := by
  have hd (s : State) : Powers s (s.drive (pinPwren n) w) := by
    unfold State.drive
    split
    · exact .refl s
    · exact ⟨rfl, rfl, fun _ _ => rfl⟩
  have ht : Powers s (s.traffic 167) := ⟨rfl, rfl, fun _ _ => rfl⟩
  exact ht.trans ((powers_modPort _ n (g := fun p => { p with pwren := w }) (fun _ => rfl) fun _ => rfl).trans (hd _))

theorem powers_inrushed (s : State) (n : Nat) : Powers s (s.inrushed n) := by
  refine (powers_modPort s n (g := fun p => { p with inrush := s.now + s.inrushCycles n }) (fun _ => rfl)
    fun _ => rfl).trans (powers_modPort _ _ (fun p => ?_) fun p => ?_)
  · split <;> rfl
  · split <;> rfl

theorem powers_pwrSet (s : State) (n : Nat) : Powers s (s.pwrSet n) := by
  rw [pwrSet_eq]
  split_ifs
  · exact .refl s
  · exact (powers_pwrDriven s n _).trans (powers_inrushed _ n)
  · exact powers_pwrDriven s n _

theorem powers_pwrMates (s : State) (n : Nat) : Powers s (s.pwrMates n) := by
  unfold State.pwrMates
  generalize s.mates n = l
  induction l generalizing s with
  | nil => exact .refl s
  | cons k l ih => exact (powers_pwrSet s k).trans (ih _)

/-! ## `PP` and `TEST` stored, with `PP` = 1 -/

theorem leaves_tstHalt (s : State) (n : Nat) : Leaves (moveAddr n) s (s.tstHalt n) :=
  leaves_ite ((leaves_checkerOff s n).trans (leaves_setF _ (.inr (.inr (.inr (.inr (.inl rfl))))) _ 0)) (.refl s)

theorem portPp_on (s : State) (n : Nat) :
    s.portPp n true = ((s.setF (.portCtl n) PORT_CTL.PP 1).tstHalt n).pwrMates n := rfl

/-- A register that storing `PP` = 1 keeps. -/
theorem portPp_on_rd (s : State) {r : Reg} (h : ¬ moveAddr n r.addr) (hc : r.addr ≠ (Reg.portCtl n).addr) :
    (s.portPp n true).rd r = s.rd r := by
  rw [portPp_on, (powers_pwrMates _ n).rd, (leaves_tstHalt _ n).1 r h, rd_setF_ne _ _ _ hc]

theorem portPp_on_path (s : State) (m : Nat) (b : Bool) : (s.portPp n true).path m b = s.path m b := by
  have hl := leaves_tstHalt (s.setF (.portCtl n) PORT_CTL.PP 1) n
  rw [portPp_on, (powers_pwrMates _ n).2.2]
  unfold State.path
  cases b
  · exact hl.port Port.usb (fun _ => rfl) m
  · exact hl.port Port.sup (fun _ => rfl) m

/-- The state in which the requests of a write with `PP` = 1 are judged. -/
def State.ctlStored (s : State) (n code : Nat) : State := (s.setF (.portCtl n) PORT_CTL.TEST code).portPp n true

theorem portSts_ne_portCtl (n : Nat) : (Reg.portSts n).addr ≠ (Reg.portCtl n).addr := by
  simp only [Reg.addr]
  omega

theorem ctlStored_sts (hn : n < 20) (s : State) (code : Nat) (f : Fld) :
    (s.ctlStored n code).getF (.portSts n) f = s.getF (.portSts n) f := by
  have hne := portSts_ne_portCtl n
  rw [State.getF, State.ctlStored, portPp_on_rd _ (not_moveAddr_portSts hn) hne, rd_setF_ne _ _ _ hne, State.getF]

theorem ctlStored_pathSt (hn : n < 20) (s : State) (code : Nat) (b : Bool) :
    (s.ctlStored n code).pathSt n b = s.pathSt n b := ctlStored_sts hn s code _

theorem ctlStored_path (s : State) (code m : Nat) (b : Bool) : (s.ctlStored n code).path m b = s.path m b :=
  portPp_on_path _ m b

theorem ctlStored_calm (s : State) (code : Nat) (b : Bool) : (s.ctlStored n code).calm n b = s.calm n b := by
  have hk := (kept_setF s (.portCtl n) PORT_CTL.TEST code).trans (kept_portPp _ n true)
  have ha : (s.ctlStored n code).aon = s.aon := hk.1
  rw [State.calm, ctlStored_path, State.now, ha, State.calm, State.now]

/-! ## A request in a calm cycle (R47, R48, R52) -/

theorem judgedSt_calm (hc : s.calm n ss = true) : s.judgedSt n ss = s.pathSt n ss := by
  have hm : s.movedNow n ss = false := by simpa [State.calm, State.movedNow] using hc
  simp [State.judgedSt, hm]

theorem softMove_calm (hc : s.calm n ss = true) (f : State → State) :
    s.softMove n ss f = (f s).noteMove n ss (s.pathSt n ss) precSw := by
  have hm : s.movedNow n ss = false := by simpa [State.calm, State.movedNow] using hc
  simp [State.softMove, hm, judgedSt_calm hc]

theorem portReq_unlisted {bit : Nat} {path : Bool} (hs : (path || decide (bit = 1)) = ss) (hc : s.calm n ss = true)
    (ht : reqTarget bit ss (s.pathSt n ss) = none) : s.portReq n bit path = s.set1 (.portSts n) PORT_STS.REQ_IGN := by
  simp [State.portReq, hs, judgedSt_calm hc, ht]

theorem portReq_listed {bit target : Nat} {path : Bool} (hs : (path || decide (bit = 1)) = ss) (h16 : ss = true → n < 16)
    (hc : s.calm n ss = true) (ht : reqTarget bit ss (s.pathSt n ss) = some target) : s.portReq n bit path =
      (if target = pResetting then s.startReset n ss (decide (bit = 1)) else s.setPath n ss target true).noteMove n ss
        (s.pathSt n ss) precSw := by
  have hp : ¬ (ss && decide (16 ≤ n)) = true := by
    cases ss
    · simp
    · have := h16 rfl
      simp
      omega
  simp only [State.portReq, hs, judgedSt_calm hc, ht, if_neg hp, softMove_calm hc]

/-! ## The reset of a path (R51, R528) -/

theorem pathReset_sts (s : State) (n : Nat) (ss : Bool) : (s.pathReset n ss).rd (.portSts n) = s.rd (.portSts n) := by
  have hd : (Reg.portSts n).addr ≠ (Reg.portDefr n).addr := by simp only [Reg.addr]; omega
  have hl := portLink_ne_portSts n n
  have hdrop (v : State) : (v.resetReg (.portDefr n)).rd (.portSts n) = v.rd (.portSts n) := by
    simp [State.resetReg, State.rd, FMap.find_drop, hd]
  cases ss
  · refine (hdrop _).trans ?_
    refine (rd_setF_ne _ _ _ hl).trans ((rd_setF_ne _ _ _ hl).trans (rd_setF_ne _ _ _ hl))
  · exact hdrop _

theorem startReset_pathSt (h : Moves s n ss pResetting) (warm : Bool) :
    (s.startReset n ss warm).pathSt n ss = pResetting := by
  rw [State.startReset, modPath_pathSt, State.pathSt, State.getF, pathReset_sts]
  exact setPath_pathSt true h

theorem startReset_warm (s : State) (n : Nat) (ss warm : Bool) : ((s.startReset n ss warm).path n ss).warm = warm := by
  rw [State.startReset, modPath_path_same]

/-- A listed request takes the path to its target. -/
theorem portReq_pathSt {bit target : Nat} {path : Bool} (hs : (path || decide (bit = 1)) = ss)
    (hc : s.calm n ss = true) (ht : reqTarget bit ss (s.pathSt n ss) = some target) (hm : Moves s n ss target) :
    (s.portReq n bit path).pathSt n ss = target := by
  rw [portReq_listed hs hm.sup hc ht, noteMove_pathSt]
  split
  · next h =>
    subst h
    exact startReset_pathSt hm _
  · exact setPath_pathSt true hm

/-! ## The words that software writes -/

/-- `PP` = 1 and `TEST` = 0 at the time of a request. -/
structure Quiet (s : State) (n : Nat) : Prop where
  copy : s.savedCopy (.portCtl n) = none
  test : s.getF (.portCtl n) PORT_CTL.TEST = 0
  power : s.flag (.portCtl n) PORT_CTL.PP = true

theorem Quiet.pp (h : Quiet s n) : PORT_CTL.PP.get (s.rd (.portCtl n)) = 1 := by
  have hp := h.power
  have hlt : PORT_CTL.PP.get (s.rd (.portCtl n)) < 2 := Nat.mod_lt _ (by decide)
  simp only [State.flag, State.getF, bne_iff_ne, ne_eq] at hp
  omega

theorem Quiet.ctlWord (h : Quiet s n) (bits : Nat) : s.ctlWord n bits = BitVec.ofNat 64 (bits + 256) := by
  have ht : PORT_CTL.TEST.get (s.rd (.portCtl n)) = 0 := h.test
  simp [State.ctlWord, shown_portCtl h.copy, h.pp, ht]

theorem portCtlNow_request {v : Word64} {bit : Nat} (hp : PORT_CTL.PP.get v = 1) (ht : PORT_CTL.TEST.get v = 0)
    (hb : reqBits v = [bit]) : s.portCtlNow n v = (s.ctlStored n 0).portReq n bit (PORT_CTL.PATH.get v != 0) := by
  simp only [State.portCtlNow, hp, ht, hb, State.ctlStored, if_true]
  rfl

/-- The word of a request on one path. -/
theorem request_word {bit : Nat} (hb : bit = 0 ∨ bit = 2 ∨ bit = 3 ∨ bit = 4) (ss : Bool) :
    let v := BitVec.ofNat 64 (2 ^ bit + 32 * ss.toNat + 256)
    PORT_CTL.PP.get v = 1 ∧ PORT_CTL.TEST.get v = 0 ∧ reqBits v = [bit] ∧ (PORT_CTL.PATH.get v != 0) = ss := by
  obtain rfl | rfl | rfl | rfl := hb <;> cases ss <;> decide

section
variable (ha : s.accepts q (.portCtl n) = true) (hd : s.domOn (80 + n) = true) (hq : Quiet s n)
include ha hd hq

theorem answers_word {i : Instr} {bits : Nat} {P : State → Prop}
    (he : exec i s = onDevice (fun s => s.gate q (.portCtl n) (fun s => s.wrPortCtl n (s.ctlWord n bits))) s)
    (hf : s.portCtlNow n (BitVec.ofNat 64 (bits + 256)) = t) (hp : P t) : Answers i s P := by
  refine answers_gate he ha ?_ (hf ▸ kept_portCtlNow s n _) hp
  rw [wrPortCtl_now hd hq.copy, hq.ctlWord, hf]

/-- A request on one path, in the state in which it is judged. -/
theorem answers_request {i : Instr} {bit : Nat} {P : State → Prop} (hb : bit = 0 ∨ bit = 2 ∨ bit = 3 ∨ bit = 4)
    (he : exec i s = onDevice (fun s => s.gate q (.portCtl n) (fun s => s.wrPortCtl n
      (s.ctlWord n (2 ^ bit + 32 * ss.toNat)))) s) (hp : P ((s.ctlStored n 0).portReq n bit ss)) : Answers i s P := by
  obtain ⟨hpp, htest, hbits, hpath⟩ := request_word hb ss
  exact answers_word ha hd hq he ((portCtlNow_request hpp htest hbits).trans (by rw [hpath])) hp

theorem request_moves {i : Instr} {bit target : Nat} (hn : n < 20) (h16 : ss = true → n < 16)
    (hc : s.calm n ss = true) (hb : bit = 0 ∨ bit = 2 ∨ bit = 3 ∨ bit = 4)
    (he : exec i s = onDevice (fun s => s.gate q (.portCtl n) (fun s => s.wrPortCtl n
      (s.ctlWord n (2 ^ bit + 32 * ss.toNat)))) s) (ht : reqTarget bit ss (s.pathSt n ss) = some target)
    (h12 : target < 12) (hne : s.pathSt n ss ≠ target) : Answers i s (fun t => t.pathSt n ss = target) := by
  have hst := ctlStored_pathSt hn s 0 ss
  refine answers_request ha hd hq hb he (portReq_pathSt ?_ (by rw [ctlStored_calm, hc]) (by rw [hst, ht])
    ⟨hn, h16, h12, by rwa [hst]⟩)
  have : bit ≠ 1 := by omega
  simp [this]

/-- A request that Table 3 does not list in DISCONNECTED. -/
theorem request_ignored {i : Instr} {bit : Nat} (hn : n < 20) (hc : s.calm n ss = true)
    (hb : bit = 0 ∨ bit = 2 ∨ bit = 3 ∨ bit = 4)
    (he : exec i s = onDevice (fun s => s.gate q (.portCtl n) (fun s => s.wrPortCtl n
      (s.ctlWord n (2 ^ bit + 32 * ss.toNat)))) s) (hst : s.pathSt n ss = pDisconnected) :
    Answers i s (fun t => t.flag (.portSts n) PORT_STS.REQ_IGN ∧ t.pathSt n ss = s.pathSt n ss) := by
  have hs := ctlStored_pathSt hn s 0 ss
  have hu : (s.ctlStored n 0).portReq n bit ss = (s.ctlStored n 0).set1 (.portSts n) PORT_STS.REQ_IGN := by
    refine portReq_unlisted (ss := ss) ?_ (by rw [ctlStored_calm, hc]) ?_
    · have : bit ≠ 1 := by omega
      simp [this]
    · rw [hs, hst]
      obtain rfl | rfl | rfl | rfl := hb <;> cases ss <;> rfl
  refine answers_request ha hd hq hb he ?_
  rw [hu]
  refine ⟨set1_flag_same rfl, ?_⟩
  rw [set1_pathSt _ rfl (by cases ss <;> rfl), hs]

/-- A warm reset of an ENABLED SuperSpeed path. -/
theorem wreset_resets (hn : n < 16) (hc : s.calm n true = true) (hst : s.pathSt n true = pEnabled) :
    Answers (.portCtlWreset q n) s (fun t => t.pathSt n true = pResetting ∧ (t.path n true).warm = true) := by
  have hs := ctlStored_pathSt (by omega) s 0 true (n := n)
  have hc' : (s.ctlStored n 0).calm n true = true := by rw [ctlStored_calm, hc]
  have ht : reqTarget 1 true ((s.ctlStored n 0).pathSt n true) = some pResetting := by rw [hs, hst]; rfl
  have hm : Moves (s.ctlStored n 0) n true pResetting :=
    ⟨by omega, fun _ => hn, by decide, by rw [hs, hst]; decide⟩
  refine answers_word ha hd hq (show exec _ s = execPortCtlWreset q n s from rfl)
    (portCtlNow_request (by decide) (by decide) (bit := 1) (by decide)) ⟨portReq_pathSt rfl hc' ht hm, ?_⟩
  rw [portReq_listed (path := PORT_CTL.PATH.get (BitVec.ofNat 64 (2 + 256)) != 0) (ss := true) rfl hm.sup hc' ht,
    noteMove_path_same]
  exact startReset_warm _ n true true

end

/-! ## Test mode (R496) -/

theorem testWord_fields : PORT_CTL.PP.get (BitVec.ofNat 64 (256 + 4 % 16 * 65536)) = 1 ∧
    PORT_CTL.TEST.get (BitVec.ofNat 64 (256 + 4 % 16 * 65536)) = 4 ∧
    reqBits (BitVec.ofNat 64 (256 + 4 % 16 * 65536)) = [] := by decide

theorem portTest_usb {code : Nat} (h1 : 1 ≤ code) (h5 : code < 6) (hc : s.calm n false = true)
    (hst : s.pathSt n false = pEnabled) : s.portTest n code =
      ((s.setPath n false pTest true).modPath n false (fun x => { x with mode := code })).noteMove n false pEnabled
        precSw := by
  have hp : testPath code = some false := by
    rw [testPath, if_neg (by omega)]
    simp
    omega
  simp [State.portTest, hp, judgedSt_calm hc, hst, softMove_calm hc]

theorem portCtl_offMove (hn : n < 20) : offMove n (.portCtl n) :=
  ⟨(portSts_ne_portCtl n).symm, by simp only [Reg.addr]; omega,
    not_moveAddr_of_port (n := n) (k := 4) hn (by decide) (by simp only [Reg.addr]; omega)⟩

theorem portPp_on_test (hn : n < 20) (s : State) :
    (s.portPp n true).getF (.portCtl n) PORT_CTL.TEST = s.getF (.portCtl n) PORT_CTL.TEST := by
  rw [portPp_on, (powers_pwrMates _ n).getF, (leaves_tstHalt _ n).getF (portCtl_offMove hn).2.2]
  exact getF_setF_apart s _ PORT_CTL.PP PORT_CTL.TEST 1 rfl rfl

theorem testWrite_tests (hn : n < 20) (ha : s.accepts q (.portCtl n) = true) (hd : s.domOn (80 + n) = true)
    (hq : Quiet s n) (hc : s.calm n false = true) (hst : s.pathSt n false = pEnabled) :
    Answers (.portCtlTestWrite q n 4) s (fun t => t.pathSt n false = pTest ∧
      t.getF (.portCtl n) PORT_CTL.TEST = 4) := by
  obtain ⟨hpp, htest, hbits⟩ := testWord_fields
  have hs := ctlStored_pathSt hn s 4 false
  have ht := portTest_usb (s := s.ctlStored n 4) (n := n) (code := 4) (by decide) (by decide)
    (by rw [ctlStored_calm, hc]) (by rw [hs, hst])
  have hnow : s.portCtlNow n (BitVec.ofNat 64 (256 + 4 % 16 * 65536)) = (s.ctlStored n 4).portTest n 4 := by
    simp only [State.portCtlNow, hpp, htest, hbits, State.ctlStored]
    rfl
  refine answers_gate (show exec _ s = execPortCtlTestWrite q n 4 s from rfl) ha (t := (s.ctlStored n 4).portTest n 4) ?_
    (hnow ▸ kept_portCtlNow s n _) ?_
  · rw [wrPortCtl_now hd hq.copy, shown_portCtl hq.copy, hq.pp]
    exact hnow
  · rw [ht]
    refine ⟨?_, ?_⟩
    · rw [noteMove_pathSt, modPath_pathSt, setPath_pathSt true ⟨hn, fun h => absurd h (by decide), by decide, by
        rw [hs, hst]; decide⟩]
    · rw [noteMove_getF, modPath_getF, State.getF, setPath_rd _ _ (portCtl_offMove hn)]
      exact (portPp_on_test hn _).trans (getF_setF_same _ _ _ _ rfl)

/-! ## `PP` written (R51, R53, R59) -/

/-- A write of `PP` alone. -/
theorem portCtlNow_pp (pp : Bool) : s.portCtlNow n (BitVec.ofNat 64 (pp.toNat * 256)) =
    (s.setF (.portCtl n) PORT_CTL.TEST 0).portPp n pp := by
  cases pp <;> rfl

theorem answers_ppWrite {P : State → Prop} {pp : Bool} (ha : s.accepts q (.portCtl n) = true)
    (hd : s.domOn (80 + n) = true) (hcopy : s.savedCopy (.portCtl n) = none)
    (ht : s.getF (.portCtl n) PORT_CTL.TEST = 0)
    (hp : P ((s.setF (.portCtl n) PORT_CTL.TEST 0).portPp n pp)) : Answers (.portCtlPpWrite q n pp) s P := by
  have hnow := portCtlNow_pp (s := s) (n := n) pp
  refine answers_gate (show exec _ s = execPortCtlPpWrite q n pp s from rfl) ha
    (t := (s.setF (.portCtl n) PORT_CTL.TEST 0).portPp n pp) ?_ (hnow ▸ kept_portCtlNow s n _) hp
  have ht' : PORT_CTL.TEST.get (s.rd (.portCtl n)) = 0 := ht
  rw [wrPortCtl_now hd hcopy, shown_portCtl hcopy, ht', Nat.zero_mul, Nat.add_zero]
  exact hnow

/-- One path goes to OFF, unless OVERCURRENT keeps it. -/
def State.pathToOff (s : State) (n : Nat) (ss sw : Bool) : State :=
  if s.pathSt n ss = pOvercurrent ∨ s.pathSt n ss = pOff then s
  else ((if s.movedNow n ss then s.unmove n ss else s).setPath n ss pOff sw).noteMove n ss
    ((if s.movedNow n ss then s.unmove n ss else s).pathSt n ss) precPp

theorem toOff_eq (s : State) (n : Nat) (sw : Bool) : s.toOff n sw = (s.pathToOff n false sw).pathToOff n true sw := rfl

theorem pathToOff_pathSt (hn : n < 20) (hs : ss = true → n < 16) (hc : s.calm n ss = true)
    (ho : s.pathSt n ss ≠ pOvercurrent) (sw : Bool) : (s.pathToOff n ss sw).pathSt n ss = pOff := by
  have hm : s.movedNow n ss = false := by simpa [State.calm, State.movedNow] using hc
  unfold State.pathToOff
  split
  · next h => exact h.resolve_left ho
  · next h =>
    simp only [hm, Bool.false_eq_true, if_false]
    rw [noteMove_pathSt, setPath_pathSt sw ⟨hn, hs, by decide, fun e => h (.inr e)⟩]

/-- Registers that the end of a path leaves: none of its own fields of `PORT_STS`. -/
theorem pathToOff_offPath (hn : n < 20) {f : Fld} (hf : offPath ss f = true) (s : State) (sw : Bool) :
    (s.pathToOff n ss sw).getF (.portSts n) f = s.getF (.portSts n) f := by
  unfold State.pathToOff
  split
  · rfl
  · rw [noteMove_getF, setPath_offPath _ _ hn hf]
    split
    · exact unmove_offPath s hf
    · rfl

theorem pathToOff_rd {r : Reg} (hr : offMove n r) (s : State) (sw : Bool) : (s.pathToOff n ss sw).rd r = s.rd r := by
  have hm (s : State) (was prec : Nat) : (s.noteMove n ss was prec).rd r = s.rd r := rfl
  unfold State.pathToOff
  split
  · rfl
  · rw [hm, setPath_rd _ _ hr]
    split
    · exact rd_setF_ne s _ _ hr.1
    · rfl

theorem portPp_off (s : State) (n : Nat) :
    s.portPp n false = ((s.setF (.portCtl n) PORT_CTL.PP 0).toOff n true).pwrMates n := rfl

theorem ppOff_ends (hn : n < 20) (ha : s.accepts q (.portCtl n) = true) (hd : s.domOn (80 + n) = true)
    (hcopy : s.savedCopy (.portCtl n) = none) (ht : s.getF (.portCtl n) PORT_CTL.TEST = 0)
    (hc : s.calm n false = true) (ho : s.pathSt n false ≠ pOvercurrent) :
    Answers (.portCtlPpWrite q n false) s (fun t => t.pathSt n false = pOff ∧
      t.flag (.portCtl n) PORT_CTL.PP = false) := by
  refine answers_ppWrite ha hd hcopy ht ?_
  rw [portPp_off, toOff_eq]
  generalize hu : (s.setF (.portCtl n) PORT_CTL.TEST 0).setF (.portCtl n) PORT_CTL.PP 0 = u
  have hust : u.pathSt n false = s.pathSt n false := by
    have hne := portSts_ne_portCtl n
    rw [← hu, State.pathSt, getF_setF_ne _ _ _ _ hne, getF_setF_ne _ _ _ _ hne, State.pathSt]
  have huc : u.calm n false = true := by rw [← hu]; exact hc
  refine ⟨?_, ?_⟩
  · rw [State.pathSt, (powers_pwrMates _ n).getF, pathToOff_offPath hn rfl]
    exact pathToOff_pathSt hn (fun h => absurd h (by decide)) huc (by rw [hust]; exact ho) true
  · rw [State.flag, (powers_pwrMates _ n).getF, State.getF, pathToOff_rd (portCtl_offMove hn),
      pathToOff_rd (portCtl_offMove hn), ← hu]
    have h0 := getF_setF_same (s.setF (.portCtl n) PORT_CTL.TEST 0) (.portCtl n) PORT_CTL.PP 0 rfl
    simp only [State.getF] at h0
    rw [h0]
    rfl

/-- PWREN follows what is wanted. -/
theorem pwrSet_pwren (s : State) (n : Nat) : ((s.pwrSet n).port n).pwren = s.pwrWant n := by
  have hd (s : State) (w : Bool) : ((s.pwrDriven n w).port n).pwren = w := by
    have hp : (s.pwrDriven n w).port n = ((s.traffic 167).modPort n (fun p => { p with pwren := w })).port n := by
      unfold State.pwrDriven State.drive
      split <;> rfl
    rw [hp, modPort_same]
  have hi (s : State) : ((s.inrushed n).port n).pwren = (s.port n).pwren := by
    unfold State.inrushed
    generalize s.ocSource n = m
    by_cases h : n = m
    · subst h
      rw [modPort_same, modPort_same]
      split <;> rfl
    · rw [modPort_ne _ _ h, modPort_same]
  rw [pwrSet_eq]
  split_ifs with h hw
  · exact h
  · rw [hi, hd]
  · rw [hd]

theorem gangOf_congr {s t : State} (h : ∀ g, g < 4 → t.rd (.portGang g) = s.rd (.portGang g)) (n : Nat) :
    t.gangOf n = s.gangOf n := by
  have hl : List.range 4 = [0, 1, 2, 3] := rfl
  simp only [State.gangOf, State.flag, State.getF, hl, List.find?, h 0 (by decide), h 1 (by decide), h 2 (by decide),
    h 3 (by decide)]

/-- The registers of the gangs and of the pins' domain are none that storing `PP` changes. -/
theorem not_moveAddr_portGang {g : Nat} (hn : n < 20) (hg : g < 4) : ¬ moveAddr n (Reg.portGang g).addr := by
  rintro (h | h | h)
  · obtain h | ⟨m, h⟩ := h <;> simp only [Reg.addr] at h <;> omega
  · simp only [wakeAddr, wakeRegs, List.mem_cons, Reg.addr, List.not_mem_nil, or_false] at h
    omega
  · simp only [Reg.addr] at h
    omega

theorem not_moveAddr_pwrSts {d : Nat} (hd : 162 ≤ d) (h' : d < 200) (hn : n < 20) : ¬ moveAddr n (Reg.pwrSts d).addr := by
  rintro (h | h | h)
  · obtain h | ⟨m, h⟩ := h <;> simp only [Reg.addr] at h <;> omega
  · simp only [wakeAddr, wakeRegs, List.mem_cons, Reg.addr, List.not_mem_nil, or_false] at h
    omega
  · simp only [Reg.addr] at h
    omega

theorem ppOn_powers (hn : n < 20) (ha : s.accepts q (.portCtl n) = true) (hd : s.domOn (80 + n) = true)
    (hcopy : s.savedCopy (.portCtl n) = none) (ht : s.getF (.portCtl n) PORT_CTL.TEST = 0)
    (ho : s.pathSt n false ≠ pOvercurrent) (hg : s.gangOf n = none) (hl : s.domLive 167 = true)
    (hcyc : s.aon.portCycle = none) :
    Answers (.portCtlPpWrite q n true) s (fun t => (t.port n).pwren = true ∧ t.flag (.portCtl n) PORT_CTL.PP) := by
  refine answers_ppWrite ha hd hcopy ht ?_
  rw [portPp_on]
  generalize hu : ((s.setF (.portCtl n) PORT_CTL.TEST 0).setF (.portCtl n) PORT_CTL.PP 1).tstHalt n = u
  have hleaves := leaves_tstHalt ((s.setF (.portCtl n) PORT_CTL.TEST 0).setF (.portCtl n) PORT_CTL.PP 1) n
  rw [hu] at hleaves
  have hkeep {r : Reg} (hm : ¬ moveAddr n r.addr) (hr : r.addr ≠ (Reg.portCtl n).addr) : u.rd r = s.rd r := by
    rw [hleaves.1 r hm, rd_setF_ne _ _ _ hr, rd_setF_ne _ _ _ hr]
  have hpp : u.flag (.portCtl n) PORT_CTL.PP = true := by
    rw [hleaves.flag (portCtl_offMove hn).2.2, State.flag, getF_setF_same _ _ _ _ rfl]
    rfl
  have hgang : u.gangOf n = none := by
    refine (gangOf_congr (fun g hg => hkeep (not_moveAddr_portGang hn hg) ?_) n).trans hg
    simp only [Reg.addr]
    omega
  have haon : u.aon = s.aon := by
    rw [← hu]
    exact (kept_tstHalt _ n).1
  have hst : u.pathSt n false = s.pathSt n false :=
    congrArg (Fld.get PORT_STS.STATE) (hkeep (not_moveAddr_portSts hn) (portSts_ne_portCtl n))
  have hlive : u.domLive 167 = true := by
    have hr : u.rd (.pwrSts 167) = s.rd (.pwrSts 167) :=
      hkeep (not_moveAddr_pwrSts (by decide) (by decide) hn) (by simp only [Reg.addr]; omega)
    rw [← hl, State.domLive, State.getF, hr, State.domLive, State.getF]
  have hwant : u.pwrWant n = true := by
    simp [State.pwrWant, State.mates, hgang, State.ppEff, hpp, haon, hcyc, hst, ho, hlive]
  have hmates : u.pwrMates n = u.pwrSet n := by simp [State.pwrMates, State.mates, hgang, forL]
  rw [hmates]
  exact ⟨(pwrSet_pwren u n).trans hwant, by rw [State.flag, (powers_pwrSet u n).getF]; exact hpp⟩

end

/-- Settles O19: a write while there is a copy changes the copy alone; without one each request is that of Table 3, judged
in a calm cycle. -/
theorem portControlRequests : Obligations.PortControlRequests := by
  refine ⟨fun s q n ss _ ha hcopy i hi => ?_, fun s q n ss hn hss ha hcf hct hd hcopy => ?_⟩
  · obtain rfl | rfl | rfl := hi
    · exact portCtlWrite_of_copy (show exec _ s = execPortCtlReset q n ss s from rfl) ha hcopy
    · exact portCtlWrite_of_copy (show exec _ s = execPortCtlPpWrite q n false s from rfl) ha hcopy
    · exact portCtlWrite_of_copy (show exec _ s = execPortCtlTestWrite q n 4 s from rfl) ha hcopy
  · have hc : s.calm n ss = true := by cases ss <;> assumption
    have hreset : exec (.portCtlReset q n ss) s = onDevice (fun s => s.gate q (.portCtl n) (fun s =>
      s.wrPortCtl n (s.ctlWord n (2 ^ 0 + 32 * ss.toNat)))) s := rfl
    have hsuspend : exec (.portCtlSuspend q n ss) s = onDevice (fun s => s.gate q (.portCtl n) (fun s =>
      s.wrPortCtl n (s.ctlWord n (2 ^ 2 + 32 * ss.toNat)))) s := rfl
    have hresume : exec (.portCtlResume q n ss) s = onDevice (fun s => s.gate q (.portCtl n) (fun s =>
      s.wrPortCtl n (s.ctlWord n (2 ^ 3 + 32 * ss.toNat)))) s := rfl
    have hdisable : exec (.portCtlDisable q n ss) s = onDevice (fun s => s.gate q (.portCtl n) (fun s =>
      s.wrPortCtl n (s.ctlWord n (2 ^ 4 + 32 * ss.toNat)))) s := rfl
    have hq (h : s.getF (.portCtl n) PORT_CTL.TEST = 0 ∧ s.flag (.portCtl n) PORT_CTL.PP) : Quiet s n := ⟨hcopy, h.1, h.2⟩
    refine ⟨fun h hst => ?_, fun h hst => ?_, fun h hst => ?_, fun h hst => ?_,
      fun h h16 hst => wreset_resets ha hd (hq h) h16 hct hst, fun h hst => ⟨?_, ?_, ?_, ?_⟩,
      fun h hst => testWrite_tests hn ha hd (hq h) hcf hst, fun ht ho => ppOff_ends hn ha hd hcopy ht hcf ho,
      fun ht ho hg hl hcyc => ppOn_powers hn ha hd hcopy ht ho hg hl hcyc⟩
    · exact request_moves ha hd (hq h) hn hss hc (by decide) hreset (by rw [hst]; cases ss <;> rfl) (by decide)
        (by rw [hst]; decide)
    · exact request_moves ha hd (hq h) hn hss hc (by decide) hsuspend (by rw [hst]; rfl) (by decide) (by rw [hst]; decide)
    · exact request_moves ha hd (hq h) hn hss hc (by decide) hresume (by rw [hst]; rfl) (by decide) (by rw [hst]; decide)
    · exact request_moves ha hd (hq h) hn hss hc (by decide) hdisable (by rw [hst]; rfl) (by decide) (by rw [hst]; decide)
    · exact request_ignored ha hd (hq h) hn hc (by decide) hreset hst
    · exact request_ignored ha hd (hq h) hn hc (by decide) hsuspend hst
    · exact request_ignored ha hd (hq h) hn hc (by decide) hresume hst
    · exact request_ignored ha hd (hq h) hn hc (by decide) hdisable hst

end Sys2Proof.Machine
end

section
/-!
Responses on a 2.0 line (R312 to R316).
-/
namespace Sys2Proof.Machine

section
variable {s t u : State} {n c e E : Nat} {o : Op} {x : Option Txn}

/-! ## The endpoint as the sequencer sees it -/

/-- What a response needs of an endpoint: its type, its direction and its maximum packet. -/
def SameEp (s t : State) (e : Nat) : Prop :=
  (t.epInfo e).typ = (s.epInfo e).typ ∧ (t.epInfo e).dirIn = (s.epInfo e).dirIn ∧ (t.epInfo e).mps = (s.epInfo e).mps

theorem SameEp.refl (s : State) (e : Nat) : SameEp s s e := ⟨rfl, rfl, rfl⟩
theorem SameEp.trans (h : SameEp s t e) (k : SameEp t u e) : SameEp s u e :=
  ⟨k.1.trans h.1, k.2.1.trans h.2.1, k.2.2.trans h.2.2⟩

/-- The registers that say what the default pipes are. -/
def PipeRegs (s t : State) : Prop := ∀ m, t.rd (.portDefr m) = s.rd (.portDefr m) ∧ t.rd (.portSts m) = s.rd (.portSts m)

theorem defMps_congr (h : PipeRegs s t) (m : Nat) : t.defMps m = s.defMps m := by
  obtain ⟨hd, hs⟩ := h m
  unfold State.defMps State.defSpeed State.defSS State.flag State.getF
  rw [hd, hs]

theorem devInfo_speed_congr (h : PipeRegs s t) (hd : t.devs = s.devs) (d : Nat) :
    (t.devInfo d).speed = (s.devInfo d).speed := by
  unfold State.devInfo
  split
  · rw [State.dev, hd, State.dev]
  · obtain ⟨hp, hs⟩ := h (d - 65536)
    change t.defSpeed _ = s.defSpeed _
    unfold State.defSpeed State.defSS State.flag State.getF
    rw [hp, hs]

/-- An endpoint context with the same type, direction, maximum packet and device is the same to a response. -/
theorem sameEp_of_shape (h : PipeRegs s t) (hd : t.devs = s.devs) (ht : (t.epc e).typ = (s.epc e).typ)
    (hi : (t.epc e).dirIn = (s.epc e).dirIn) (hm : (t.epc e).mps = (s.epc e).mps) (hv : (t.epc e).dev = (s.epc e).dev) :
    SameEp s t e := by
  unfold SameEp State.epInfo
  split
  · simp only [Ep.limited, ht, hi, hm, hv, devInfo_speed_congr h hd, and_self]
  · simp only [hi, defMps_congr h, and_self]

theorem sameEp_of_eps (h : PipeRegs s t) (hd : t.devs = s.devs) (he : t.eps = s.eps) : SameEp s t e := by
  have h' : t.epc e = s.epc e := by rw [State.epc, he, State.epc]
  exact sameEp_of_shape h hd (by rw [h']) (by rw [h']) (by rw [h']) (by rw [h'])

/-! ## A response under way -/

/-- In the course of the answer to the transaction of the only request: the request keeps what it has moved and how it
stands, with `E` errors in a row; `x` is the transaction on the 2.0 line; the FIFO is empty; and the endpoint, the order
of parking, the registers of the port that the answer counts in, and the always-on island are those of `s`. -/
structure Serving (s : State) (n c e : Nat) (o : Op) (E : Nat) (x : Option Txn) (u : State) : Prop where
  op : ∃ p, (u.ctx c).op = some p ∧ p.req = o.req ∧ p.moved = o.moved ∧ p.result = o.result ∧ p.bnd = o.bnd ∧ p.errs = E
  txn : (u.seqLine n 0).txn = x
  lines : (u.port n).lines.length = 3
  fifo : (u.port n).fifo = Fifo.init
  order : (u.port n).order = (s.port n).order
  ep : SameEp s u e
  notes : u.rd (.portPrfNote n) = s.rd (.portPrfNote n)
  xerr : u.rd (.portXerr n) = s.rd (.portXerr n)
  kept : Kept s u

/-- A step that leaves contexts, ports, registers, devices and the endpoint's shape. -/
theorem Serving.of_eq (h : Serving s n c e o E x t) (hc : u.ctxs = t.ctxs) (hp : u.ports = t.ports) (hr : u.regs = t.regs)
    (he : SameEp t u e) (hk : Kept t u) : Serving s n c e o E x u := by
  obtain ⟨hop, htx, hl, hf, ho, hep, hn, hx, hkept⟩ := h
  have hrd (r : Reg) : u.rd r = t.rd r := by rw [State.rd, hr, State.rd]
  have hport : u.port n = t.port n := by rw [State.port, hp, State.port]
  have hctx : u.ctx c = t.ctx c := by rw [State.ctx, hc, State.ctx]
  exact ⟨by rw [hctx]; exact hop, by rw [State.seqLine, hport]; exact htx, by rw [hport]; exact hl, by rw [hport]; exact hf,
    by rw [hport]; exact ho, hep.trans he, by rw [hrd]; exact hn, by rw [hrd]; exact hx,
    hkept.trans hk⟩

theorem pipeRegs_of_regs (h : t.regs = s.regs) : PipeRegs s t := fun m => by
  constructor <;> rw [State.rd, h, State.rd]

/-- The operation's record changes in its errors at most, of what is kept here. -/
theorem Serving.modOp {E' : Nat} (h : Serving s n c e o E x u) {f : Op → Op}
    (hf : ∀ p, (f p).req = p.req ∧ (f p).moved = p.moved ∧ (f p).result = p.result ∧ (f p).bnd = p.bnd)
    (hE : ∀ p : Op, p.errs = E → (f p).errs = E') : Serving s n c e o E' x (u.modOp c f) := by
  obtain ⟨⟨p, hp, hr, hm, hs, hb, he⟩, htx, hl, hfi, ho, hep, hn, hx, hk⟩ := h
  obtain ⟨fr, fm, fs, fb⟩ := hf p
  refine ⟨⟨f p, ?_, fr.trans hr, fm.trans hm, fs.trans hs, fb.trans hb, hE p he⟩, htx, hl, hfi, ho, ?_, hn, hx, hk.trans ⟨rfl, rfl⟩⟩
  · rw [State.modOp, State.modCtx, setCtx_same]
    exact congrArg (Option.map f) hp
  · exact hep.trans (sameEp_of_eps (pipeRegs_of_regs rfl) rfl rfl)

theorem Serving.goodTxn (h : Serving s n c e o E x u) : Serving s n c e o 0 x (u.goodTxn c) :=
  h.modOp (fun _ => ⟨rfl, rfl, rfl, rfl⟩) fun _ _ => rfl

/-- The endpoint context changes in what is not its shape. -/
theorem Serving.modEpc (h : Serving s n c e o E x u) (k : Nat) {g : Ep → Ep}
    (hg : ∀ p, (g p).typ = p.typ ∧ (g p).dirIn = p.dirIn ∧ (g p).mps = p.mps ∧ (g p).dev = p.dev) :
    Serving s n c e o E x (u.modEpc k g) := by
  refine h.of_eq rfl rfl rfl ?_ ⟨rfl, rfl⟩
  have hk : ((u.modEpc k g).epc e).typ = (u.epc e).typ ∧ ((u.modEpc k g).epc e).dirIn = (u.epc e).dirIn ∧
      ((u.modEpc k g).epc e).mps = (u.epc e).mps ∧ ((u.modEpc k g).epc e).dev = (u.epc e).dev := by
    rw [State.modEpc, setEpc_get]
    split
    · next hek => rw [hek]; exact hg _
    · exact ⟨rfl, rfl, rfl, rfl⟩
  exact sameEp_of_shape (pipeRegs_of_regs rfl) rfl hk.1 hk.2.1 hk.2.2.1 hk.2.2.2

theorem Serving.toggleOn (h : Serving s n c e o E x u) (k : Nat) (ss : Bool) :
    Serving s n c e o E x (u.toggleOn k ss) := h.modEpc k fun _ => ⟨rfl, rfl, rfl, rfl⟩

/-! ### Landing-buffer granules -/

/-- What is set aside is all that a freeing of capacity changes. -/
theorem capAside_eq (s : State) (k n : Nat) : ∃ a, s.capAside k n = { s with aside := a } := by
  unfold State.capAside
  generalize List.range 256 = l
  suffices h : ∀ (p : State × Nat), (∃ a, p.1 = { s with aside := a }) →
      ∃ a, (l.foldl (fun (p : State × Nat) j =>
        let g := min p.2 (p.1.capShort k j)
        if g = 0 then p else (p.1.modAsideOf (j * 4 + k) (· + g), p.2 - g)) p).1 = { s with aside := a } from
    h (s, n) ⟨s.aside, rfl⟩
  induction l with
  | nil => exact fun p h => h
  | cons j l ih =>
    rintro p ⟨a, ha⟩
    refine ih _ ?_
    dsimp only
    split
    · exact ⟨a, ha⟩
    · exact ⟨_, by rw [ha]; rfl⟩

theorem capFreed_eq (s : State) (k i n : Nat) : ∃ a, s.capFreed k i n = { s with aside := a } := by
  unfold State.capFreed
  split
  · exact capAside_eq s k n
  · exact ⟨s.aside, rfl⟩

theorem lbFree_eq (s : State) (i n : Nat) : ∃ a l, s.lbFree i n = { s with aside := a, lb := l } := by
  obtain ⟨a, ha⟩ := capFreed_eq (s.modLbOf i (fun u => u - n)) 1 i n
  exact ⟨a, _, ha⟩

theorem Serving.lbFree (h : Serving s n c e o E x u) (i g : Nat) : Serving s n c e o E x (u.lbFree i g) := by
  obtain ⟨a, l, hl⟩ := lbFree_eq u i g
  rw [hl]
  exact h.of_eq rfl rfl rfl (sameEp_of_eps (pipeRegs_of_regs rfl) rfl rfl) ⟨rfl, rfl⟩

/-! ### The end of the transaction (R401) -/

theorem seqLine_modLine (h : 0 < (u.port n).lines.length) (g : Line → Line) :
    (u.modLine n 0 g).seqLine n 0 = g (u.seqLine n 0) := by
  unfold State.seqLine State.modLine
  rw [modPort_same]
  cases hl : (u.port n).lines with
  | nil => simp [hl] at h
  | cons a l => rfl

/-- The registers of the predictor are none of the port's. -/
theorem predAddr_lt {ss : Bool} (hn : n < 20) {a : Nat} (h : predAddr n ss a) : a < 0x40000 := by
  have hb : ss.toNat ≤ 1 := by cases ss <;> decide
  simp only [predAddr, Reg.addr] at h
  omega

/-- Registers below those of the root ports change, and neither contexts, ports, devices nor endpoints. -/
theorem Serving.below (h : Serving s n c e o E x u) (hc : t.ctxs = u.ctxs) (hp : t.ports = u.ports) (hd : t.devs = u.devs)
    (he : t.eps = u.eps) (hr : ∀ r : Reg, 0x40000 ≤ r.addr → t.rd r = u.rd r)
    (hk : Kept u t) : Serving s n c e o E x t := by
  obtain ⟨hop, htx, hl, hf, ho, hep, hn, hx, hkept⟩ := h
  have hport : t.port n = u.port n := by rw [State.port, hp, State.port]
  have hctx : t.ctx c = u.ctx c := by rw [State.ctx, hc, State.ctx]
  have hpipe : PipeRegs u t := fun m =>
    ⟨hr _ (by simp only [Reg.addr]; omega), hr _ (by simp only [Reg.addr]; omega)⟩
  exact ⟨by rw [hctx]; exact hop, by rw [State.seqLine, hport]; exact htx, by rw [hport]; exact hl, by rw [hport]; exact hf,
    by rw [hport]; exact ho, hep.trans (sameEp_of_eps hpipe hd he), (hr _ (by simp only [Reg.addr]; omega)).trans hn,
    (hr _ (by simp only [Reg.addr]; omega)).trans hx, hkept.trans hk⟩

theorem Serving.predIdle (h : Serving s n c e o E x u) (hn : n < 20) (ss : Bool) :
    Serving s n c e o E x (u.predIdle n ss) := by
  unfold State.predIdle
  dsimp only
  split
  · refine h.below rfl rfl rfl rfl (fun r hr => ?_) ⟨rfl, rfl⟩
    refine rd_setF_ne u _ _ fun he => ?_
    have := predAddr_lt (ss := ss) hn (.inr rfl)
    omega
  · exact h.below rfl rfl rfl rfl (fun _ _ => rfl) ⟨rfl, rfl⟩

theorem Serving.modLine (h : Serving s n c e o E x u) {g : Line → Line} {y : Option Txn}
    (hg : ∀ l : Line, (g l).txn = y) : Serving s n c e o E y (u.modLine n 0 g) := by
  obtain ⟨hop, htx, hl, hf, ho, hep, hn, hx, hk⟩ := h
  have hp : (u.modLine n 0 g).port n = { u.port n with lines := (u.port n).lines.modify 0 g } := modPort_same _ _ _
  exact ⟨hop, by rw [seqLine_modLine (by omega), hg], by rw [hp]; simp [hl], by rw [hp]; exact hf, by rw [hp]; exact ho,
    hep.trans (sameEp_of_eps (pipeRegs_of_regs rfl) rfl rfl), hn, hx,
    hk.trans ⟨rfl, rfl⟩⟩

theorem Serving.unask (h : Serving s n c e o E x u) (k : Nat) : Serving s n c e o E x (u.unask c k) := by
  unfold State.unask
  split
  · exact (h.lbFree _ _).modOp (fun _ => ⟨rfl, rfl, rfl, rfl⟩) fun _ h => h
  · exact h

/-- The transaction of the request ends. -/
theorem Serving.endTxn (h : Serving s n c e o E x u) (hn : n < 20) {t : Txn} (ht : t.ctx = some c) :
    Serving s n c e o E none (u.endTxn n 0 t) := by
  have hm : Serving s n c e o E none (u.modLine n 0 (fun x => { x with txn := none })) := h.modLine fun _ => rfl
  unfold State.endTxn
  rw [ht]
  dsimp only
  split
  · exact hm.unask _
  · exact (hm.predIdle hn _).unask _

/-! ### What an answer writes into the FIFO (R316, R319) -/

/-- Up to four words find room in an empty FIFO. -/
theorem write_init (l : List (Word64 × Bool)) (h : l.length ≤ 4) (items : List Item) :
    (Fifo.write l { Fifo.init with items := items }).items = items ∧
      (Fifo.write l { Fifo.init with items := items }).occ = l.length := by
  match l, h with
  | [], _ => exact ⟨rfl, rfl⟩
  | [a], _ => simp [Fifo.write, Fifo.place, fallOnce, Fifo.top, Fifo.init, Fifo.occ, List.replicate, List.set]
  | [a, b], _ => simp [Fifo.write, Fifo.place, fallOnce, Fifo.top, Fifo.init, Fifo.occ, List.replicate, List.set]
  | [a, b, c], _ => simp [Fifo.write, Fifo.place, fallOnce, Fifo.top, Fifo.init, Fifo.occ, List.replicate, List.set]
  | [a, b, c, d], _ => simp [Fifo.write, Fifo.place, fallOnce, Fifo.top, Fifo.init, Fifo.occ, List.replicate, List.set]

/-- The words of an item: a header, and what of the payload stands inline. -/
theorem itemWords_length (e kind lba : Nat) (i : Item) : (itemWords e kind lba i).length ≤ 4 := by
  have h : (if i.data.length ≤ 24 then ceilDiv i.data.length 8 else 0) ≤ 3 := by
    split
    · unfold ceilDiv
      omega
    · omega
  simp only [itemWords, List.length_cons, List.length_map, List.length_range]
  omega

/-- The item as it stands in the FIFO, whole; and the FIFO that takes it. -/
def Item.written (e kind lba : Nat) (i : Item) : Item :=
  { i with words := (itemWords e kind lba i).length, whole := true }
def Fifo.give (e kind lba : Nat) (i : Item) (f : Fifo) : Fifo :=
  Fifo.write (itemWords e kind lba i) { f with items := f.items ++ [{ i with words := (itemWords e kind lba i).length }] }

theorem give_init (e kind lba : Nat) (i : Item) : (Fifo.give e kind lba i Fifo.init).marked.items = [i.written e kind lba] ∧
    (Fifo.give e kind lba i Fifo.init).marked.pkts = 1 := by
  obtain ⟨hi, ho⟩ := write_init (itemWords e kind lba i) (itemWords_length e kind lba i)
    [{ i with words := (itemWords e kind lba i).length }]
  have hm : (Fifo.give e kind lba i Fifo.init).marked.items = [i.written e kind lba] := by
    change markWhole (Fifo.occ (Fifo.write _ { Fifo.init with items := [_] }))
      (Fifo.items (Fifo.write _ { Fifo.init with items := [_] })) = _
    rw [hi, ho]
    simp [markWhole, Item.written]
  exact ⟨hm, by rw [Fifo.pkts, hm]; rfl⟩

/-- The item that `putItem` writes. -/
def State.answerItem (s : State) (e : Nat) (ctx : Option Nat) (kind code : Nat) (data : List Byte) (last : Bool) : Item :=
  ⟨epClass (s.epInfo e).typ, 0, false, e, ctx, kind == 2, code,
    kind == 0 && decide (data.length < (s.epInfo e).mps), data, kind != 1, last, none,
    if kind = 1 then (s.epc e).partAt else s.now⟩

theorem putItem_eq (s : State) (n e : Nat) (ctx : Option Nat) (kind code lba : Nat) (data : List Byte) (last : Bool) :
    s.putItem n e ctx kind code lba data last =
      s.fifoStep n (Fifo.give e kind lba (s.answerItem e ctx kind code data last)) := rfl

theorem epClass_ne_one {typ : Nat} (h : typ ≠ 3) : (epClass typ == 1) = false := by
  simp only [epClass, if_neg h]
  split_ifs <;> rfl

/-- An item of another class than interrupt is no report. -/
theorem sealWhole_other {i : Item} (hc : (i.cls == 1) = false) (s : State) (n j : Nat) (was : Bool) :
    s.sealWhole n j [(i, was)] = s := by
  simp [State.sealWhole, hc]

/-- The crossing of `LEVEL`, of which software hears. -/
theorem level_frame (s : State) (n : Nat) :
    let t := (s.set1 (.portPrfSts n) PORT_PRF_STS.LVL).irqWake (276 + n)
    t.ctxs = s.ctxs ∧ t.ports = s.ports ∧ t.rd (.portPrfNote n) = s.rd (.portPrfNote n) ∧
      t.rd (.portXerr n) = s.rd (.portXerr n) := by
  have h := touches_irqWake (s.set1 (.portPrfSts n) PORT_PRF_STS.LVL) (276 + n)
  obtain ⟨hr, -, hs⟩ := h
  have hw {a : Nat} (h : 0x40000 ≤ a) : ¬ wakeAddr a := by
    simp only [wakeAddr, wakeRegs, List.mem_cons, Reg.addr, List.not_mem_nil, or_false]
    omega
  have hc := congrArg State.ctxs hs
  have hp := congrArg State.ports hs
  refine ⟨hc, hp, ?_, ?_⟩
  · rw [hr _ (hw (by simp only [Reg.addr]; omega))]
    exact rd_setF_ne s _ _ (by simp only [Reg.addr]; omega)
  · rw [hr _ (hw (by simp only [Reg.addr]; omega))]
    exact rd_setF_ne s _ _ (by simp only [Reg.addr]; omega)

/-- What `fifoStep` does to an empty FIFO that takes an item of no report. -/
theorem fifoStep_init {g : Fifo → Fifo} {i : Item} (hf : (u.port n).fifo = Fifo.init)
    (hi : (g Fifo.init).marked.items = [i]) (hp : (g Fifo.init).marked.pkts = 1) (hc : (i.cls == 1) = false) :
    (u.fifoStep n g).ctxs = u.ctxs ∧ (∃ f, f.items = [i] ∧ (u.fifoStep n g).port n = { u.port n with fifo := f }) ∧
      (u.fifoStep n g).rd (.portPrfNote n) =
        PORT_PRF_NOTE.NOTES.put (u.getF (.portPrfNote n) PORT_PRF_NOTE.NOTES + 1) (u.rd (.portPrfNote n)) ∧
      (u.fifoStep n g).rd (.portXerr n) = u.rd (.portXerr n) ∧ Kept u (u.fifoStep n g) := by
  have hold : Fifo.init.pkts = 0 := rfl
  unfold State.fifoStep
  rw [hf]
  dsimp only
  generalize (g Fifo.init).marked = f at hi hp
  rw [hi, hp, hold]
  generalize hv : (u.modPort n (fun p => { p with fifo := f })).addF (.portPrfNote n) PORT_PRF_NOTE.NOTES (1 - 0) = v
  have hvc : v.ctxs = u.ctxs := by rw [← hv]; rfl
  have hvp : v.port n = { u.port n with fifo := f } := by
    rw [← hv]
    exact modPort_same u n (fun p => { p with fifo := f })
  have hvn : v.rd (.portPrfNote n) =
      PORT_PRF_NOTE.NOTES.put (u.getF (.portPrfNote n) PORT_PRF_NOTE.NOTES + 1) (u.rd (.portPrfNote n)) := by
    rw [← hv]
    exact rd_setF_same _ _ _ _
  have hvx : v.rd (.portXerr n) = u.rd (.portXerr n) := by
    rw [← hv]
    exact rd_setF_ne _ _ _ (by simp only [Reg.addr]; omega)
  have hvk : Kept u v := by
    rw [← hv]
    exact ⟨rfl, rfl⟩
  have hs : v.sealWhole n 0 ([i].zipIdx.map (fun p => (p.1, (Fifo.init.items[p.2]?.map Item.whole).getD false))) = v :=
    sealWhole_other hc v n 0 _
  rw [hs]
  split
  · obtain ⟨lc, lp, ln, lx⟩ := level_frame v n
    have lport : ((v.set1 (.portPrfSts n) PORT_PRF_STS.LVL).irqWake (276 + n)).port n = v.port n := by
      rw [State.port, lp, State.port]
    exact ⟨lc.trans hvc, ⟨f, hi, lport.trans hvp⟩, ln.trans hvn, lx.trans hvx,
      hvk.trans ((kept_set1 v _ _).trans (kept_irqWake _ _))⟩
  · exact ⟨hvc, ⟨f, hi, hvp⟩, hvn, hvx, hvk⟩

/-- The transaction has ended, and the request stands as it did. -/
def TxnOver (n c : Nat) (o : Op) (t : State) : Prop := (t.seqLine n 0).txn = none ∧
  ∃ p, (t.ctx c).op = some p ∧ p.req = o.req ∧ p.moved = o.moved ∧ p.result = o.result ∧ p.bnd = o.bnd

/-- The errors in a row of the request. -/
def errsOf (c : Nat) (t : State) : Nat := ((t.ctx c).op.map Op.errs).getD 0

/-- The FIFO holds one item of the request, which is whole. -/
def Gives (n c : Nat) (o : Op) (t : State) (P : Item → Prop) : Prop :=
  ∃ i, (t.port n).fifo.items = [i] ∧ i.ctx = some c ∧ i.ep = o.ep ∧ i.whole ∧ P i

theorem Serving.over (h : Serving s n c e o E none u) : TxnOver n c o u := by
  obtain ⟨p, hp, hr, hm, hs, hb, -⟩ := h.op
  exact ⟨h.txn, p, hp, hr, hm, hs, hb⟩

theorem Serving.errs (h : Serving s n c e o E x u) : errsOf c u = E := by
  obtain ⟨p, hp, -, -, -, -, he⟩ := h.op
  simp [errsOf, hp, he]

/-- An item that ends the answer: what the state then shows. -/
theorem Serving.putItem (h : Serving s n c o.ep o E none u) (ht : (s.epInfo o.ep).typ ≠ 3) (kind code lba : Nat)
    (data : List Byte) (last : Bool) :
    let t := u.putItem n o.ep (some c) kind code lba data last
    Kept s t ∧ TxnOver n c o t ∧ errsOf c t = E ∧
      Gives n c o t (fun i => i.code = code ∧ i.data = data ∧ i.last = last ∧ i.hasData = (kind != 1) ∧
        i.short = (kind == 0 && decide (data.length < (s.epInfo o.ep).mps))) ∧
      t.getF (.portPrfNote n) PORT_PRF_NOTE.NOTES =
        (s.getF (.portPrfNote n) PORT_PRF_NOTE.NOTES + 1) % 2 ^ PORT_PRF_NOTE.NOTES.width ∧
      t.rd (.portXerr n) = s.rd (.portXerr n) := by
  obtain ⟨htyp, -, hmps⟩ := h.ep
  rw [putItem_eq]
  have hcls : (u.answerItem o.ep (some c) kind code data last).cls = epClass (u.epInfo o.ep).typ := rfl
  have hfields : (u.answerItem o.ep (some c) kind code data last).short =
    (kind == 0 && decide (data.length < (u.epInfo o.ep).mps)) := rfl
  obtain ⟨hitems, hpkts⟩ := give_init o.ep kind lba (u.answerItem o.ep (some c) kind code data last)
  obtain ⟨hctx, ⟨f, hf, hport⟩, hnote, hxerr, hkept⟩ := fifoStep_init (u := u) (n := n) h.fifo hitems hpkts
    ((congrArg (· == 1) hcls).trans (epClass_ne_one (by rw [htyp]; exact ht)))
  generalize u.fifoStep n (Fifo.give o.ep kind lba (u.answerItem o.ep (some c) kind code data last)) = v at *
  obtain ⟨p, hp, hr, hm, hs, hb, he⟩ := h.op
  have hop : (v.ctx c).op = some p := by
    rw [State.ctx, hctx]
    exact hp
  refine ⟨h.kept.trans hkept, ⟨?_, p, hop, hr, hm, hs, hb⟩, ?_,
    ⟨(u.answerItem o.ep (some c) kind code data last).written o.ep kind lba, ?_, rfl, rfl, rfl, rfl, rfl, rfl, rfl, ?_⟩, ?_,
    hxerr.trans h.xerr⟩
  · rw [State.seqLine, hport]
    exact h.txn
  · simp [errsOf, hop, he]
  · rw [hport]
    exact hf
  · exact hfields.trans (by rw [hmps])
  · rw [State.getF, hnote, Fld.get_put_same _ _ _ rfl, State.getF, h.notes, State.getF]

end

section
variable {s u : State} {n c lba : Nat} {y : Ctx} {o : Op} {x : Option Txn}

/-! ### A transaction of the only request -/

theorem ctx_op_only (hc : s.ctxs = [(c, y)]) (hy : y.op = some o) : (s.ctx c).op = some o := by
  rw [State.ctx, hc, ← hy]
  exact congrArg Ctx.op (if_pos rfl)

/-- A state whose only request is `o`, in context `c`, with transaction `x` on the 2.0 line of its port. -/
theorem serving_start (hc : s.ctxs = [(c, y)]) (ho : y.op = some o) (hl : (s.port n).lines.length = 3)
    (hf : (s.port n).fifo = Fifo.init) (hx : (s.seqLine n 0).txn = x) : Serving s n c o.ep o o.errs x s := by
  exact ⟨⟨o, ctx_op_only hc ho, rfl, rfl, rfl, rfl, rfl⟩, hx, hl, hf, rfl, SameEp.refl s _, rfl, rfl, ⟨rfl, rfl⟩⟩

/-- The transaction of one packet for endpoint `e` and context `c`. -/
def oneTxn (e c : Nat) (asks : Bool) (mf : Nat) : Txn := ⟨e, some c, false, 1, false, 0, asks, mf⟩

variable {asks : Bool} {mf : Nat}

/-- What answers a transaction of a control or bulk endpoint. -/
theorem respond_async (hx : (s.seqLine n 0).txn = some (oneTxn o.ep c asks mf)) (h1 : (s.epInfo o.ep).typ ≠ 1)
    (h3 : (s.epInfo o.ep).typ ≠ 3) (k : ResponseKind) (d : List Byte) (last : Bool) :
    s.respond n ⟨0, k, d, last, lba⟩ = s.asyncResp n 0 (oneTxn o.ep c asks mf) c ⟨0, k, d, last, lba⟩ := by
  simp only [State.respond, hx]
  rw [if_neg (show ¬ (oneTxn o.ep c asks mf).gambit = true from Bool.false_ne_true),
    if_neg (show ¬ (oneTxn o.ep c asks mf).split = 1 from nofun), if_neg fun h => h3 h.1]
  exact if_neg fun h => h1 h.1

/-- A bulk IN lands what the device sends. -/
theorem lands_bulkIn (hk : o.req.kind = .inn) {e : Ep} (ht : e.typ = 2) : o.lands e = true := by
  simp [Op.lands, hk, ht]

/-- An IN sends nothing. -/
theorem sendsOut_inn (hk : o.req.kind = .inn) : s.sendsOut c o = false := by
  simp [State.sendsOut, hk, BusKind.sends]

/-! ### The answers -/

/-- The answer to a SETUP: an item without data that is the last of its request. -/
theorem ackResp_setup (hs : Serving s n c o.ep o o.errs (some (oneTxn o.ep c asks mf)) s) (hn : n < 20)
    (ho : (s.ctx c).op = some o) (hk : o.req.kind = .setup) (hf : o.flight = some 0) :
    ∃ u, Serving s n c o.ep o 0 none u ∧
      s.ackResp n 0 (oneTxn o.ep c asks mf) c = u.putItem n o.ep (some c) 1 0 0 [] true := by
  have hg : ((s.goodTxn c).ctx c).op = some { o with errs := 0 } := by
    rw [State.goodTxn, State.modOp, State.modCtx, setCtx_same]
    exact congrArg (Option.map _) ho
  have hsv := (((hs.goodTxn.toggleOn o.ep false).modEpc o.ep (g := fun e => { e with ping := false })
    fun _ => ⟨rfl, rfl, rfl, rfl⟩).modOp (E' := 0) (f := fun o => { o with split := false, flight := none })
    (fun _ => ⟨rfl, rfl, rfl, rfl⟩) fun _ h => h).endTxn hn (t := oneTxn o.ep c asks mf) rfl
  refine ⟨_, hsv, ?_⟩
  unfold State.ackResp
  dsimp only
  rw [hg]
  simp [oneTxn, hk, hf, BusKind.sends, lineSS]

/-- A packet of endpoint `e` is received: the errors in a row are over, the toggle goes on. -/
def State.received (s : State) (c e : Nat) : State :=
  ((s.goodTxn c).toggleOn e false).modEpc e (fun x => { x with partAt := (s.goodTxn c).now })

/-- What the data packet of a transaction of one packet does. -/
theorem dataResp_one (e : Nat) (r : Response) : s.dataResp n 0 (oneTxn e c asks mf) r =
    if (s.epInfo e).mps < r.data.length then
      ((s.received c e).endTxn n 0 (oneTxn e c asks mf)).putItem n e (some c) 1 stBabble 0 [] true
    else
      ((if ((s.received c e).ctx c).op = none then s.received c e
        else ((s.received c e).lbFree ((s.received c e).ctx c).slice
          (granules (s.epInfo e).mps - granules r.data.length)).modOp c (fun o =>
            { o with asked := o.asked - 1, split := false })).endTxn n 0 { oneTxn e c asks mf with left := 0 }).putItem n e
        (some c) 0 0 r.lba r.data (((s.epInfo e).typ == 1 || (s.epInfo e).typ == 3) && r.last) := by
  unfold State.dataResp
  simp [oneTxn, lineSS, State.received]
  rfl

theorem Serving.received {E : Nat} (h : Serving s n c o.ep o E x u) : Serving s n c o.ep o 0 x (u.received c o.ep) :=
  (h.goodTxn.toggleOn o.ep false).modEpc o.ep fun _ => ⟨rfl, rfl, rfl, rfl⟩

/-- A data packet that fits: an item with the data. -/
theorem dataResp_fits {r : Response} (hs : Serving s n c o.ep o o.errs (some (oneTxn o.ep c asks mf)) s) (hn : n < 20)
    (h : r.data.length ≤ (s.epInfo o.ep).mps) :
    ∃ u, Serving s n c o.ep o 0 none u ∧ s.dataResp n 0 (oneTxn o.ep c asks mf) r =
      u.putItem n o.ep (some c) 0 0 r.lba r.data (((s.epInfo o.ep).typ == 1 || (s.epInfo o.ep).typ == 3) && r.last) := by
  have hr := hs.received
  obtain ⟨p, hp, -⟩ := hr.op
  rw [dataResp_one, if_neg (Nat.not_lt.mpr h), if_neg (by rw [hp]; nofun)]
  have hf := ((hr.lbFree ((s.received c o.ep).ctx c).slice (granules (s.epInfo o.ep).mps - granules r.data.length)).modOp
    (E' := 0) (f := fun o => { o with asked := o.asked - 1, split := false }) (fun _ => ⟨rfl, rfl, rfl, rfl⟩)
    fun _ h => h).endTxn hn (t := { oneTxn o.ep c asks mf with left := 0 }) rfl
  exact ⟨_, hf, rfl⟩

/-- A data packet that is too long: an item with `BABBLE`. -/
theorem dataResp_long {r : Response} (hs : Serving s n c o.ep o o.errs (some (oneTxn o.ep c asks mf)) s) (hn : n < 20)
    (h : (s.epInfo o.ep).mps < r.data.length) :
    ∃ u, Serving s n c o.ep o 0 none u ∧ s.dataResp n 0 (oneTxn o.ep c asks mf) r =
      u.putItem n o.ep (some c) 1 stBabble 0 [] true := by
  rw [dataResp_one, if_pos h]
  exact ⟨_, hs.received.endTxn hn rfl, rfl⟩

theorem modOp_port (s : State) (c n : Nat) (f : Op → Op) : (s.modOp c f).port n = s.port n := rfl
theorem modEpc_port (s : State) (e n : Nat) (g : Ep → Ep) : (s.modEpc e g).port n = s.port n := rfl
theorem modOp_epc (s : State) (c e : Nat) (f : Op → Op) : (s.modOp c f).epc e = s.epc e := rfl

section
variable (u : State) (n c e : Nat) (out keep : Bool)

theorem parkTxn_port : (u.parkTxn n 0 c e out keep).port n = { u.port n with order := (u.port n).order + 1 } := by
  unfold State.parkTxn
  dsimp only
  rw [modOp_port, modEpc_port, modPort_same]

theorem parkTxn_parked : ((u.parkTxn n 0 c e out keep).epc e).parked = some (u.port n).order := by
  unfold State.parkTxn
  dsimp only
  rw [modOp_epc, State.modEpc, setEpc_same]

theorem parkTxn_op : ((u.parkTxn n 0 c e out keep).ctx c).op =
    (u.ctx c).op.map (fun p => { p with flight := none, split := p.split && keep }) := by
  unfold State.parkTxn
  rw [State.modOp, State.modCtx, setCtx_same]
  rfl

theorem kept_parkTxn : Kept u (u.parkTxn n 0 c e out keep) := by
  unfold State.parkTxn
  exact ((kept_modPort u n _).trans (kept_modEpc _ e _)).trans (kept_modCtx _ c _)

end

/-- NAK parks the endpoint of a request of the 2.0 line at the end of its port's order. -/
theorem parkTxn_parks (h : Serving s n c o.ep o 0 none u) (out keep : Bool) :
    let t := u.parkTxn n 0 c o.ep out keep
    Kept s t ∧ TxnOver n c o t ∧ errsOf c t = 0 ∧ (t.port n).fifo = Fifo.init ∧
      (t.epc o.ep).parked = some (s.port n).order := by
  obtain ⟨⟨p, hp, hr, hm, hs, hb, he⟩, htx, hl, hf, ho, hep, hn, hx, hk⟩ := h
  have hop := parkTxn_op u n c o.ep out keep
  have hport := parkTxn_port u n c o.ep out keep
  have hparked := parkTxn_parked u n c o.ep out keep
  have hkept := kept_parkTxn u n c o.ep out keep
  generalize u.parkTxn n 0 c o.ep out keep = v at *
  rw [hp] at hop
  refine ⟨hk.trans hkept, ⟨?_, _, hop, hr, hm, hs, hb⟩, ?_, ?_, by rw [hparked, ho]⟩
  · rw [State.seqLine, hport]
    exact htx
  · simp [errsOf, hop, he]
  · rw [hport]
    exact hf

/-- A transaction error of a control or bulk endpoint: counted, and the third in a row brings an item with `XACT_ERR`. -/
theorem txnError_async {v : State} (hv : s.addF (.portXerr n) PORT_XERR.ERRS 1 = v)
    (hs : Serving v n c o.ep o o.errs (some (oneTxn o.ep c asks mf)) v) (hn : n < 20)
    (h1 : (v.epInfo o.ep).typ ≠ 1) (h3 : (v.epInfo o.ep).typ ≠ 3) (last : Bool) :
    ∃ u, Serving v n c o.ep o (o.errs + 1) none u ∧ s.txnError n 0 (oneTxn o.ep c asks mf) last lba [] =
      if 3 ≤ o.errs + 1 then u.putItem n o.ep (some c) 1 stXactErr 0 [] true else u := by
  have hend := hs.endTxn hn (t := oneTxn o.ep c asks mf) rfl
  have hu := hend.modOp (E' := o.errs + 1) (f := fun o => { o with errs := o.errs + 1, flight := none })
    (fun _ => ⟨rfl, rfl, rfl, rfl⟩) fun p h => congrArg (· + 1) h
  refine ⟨_, hu, ?_⟩
  unfold State.txnError
  rw [hv]
  generalize v.endTxn n 0 (oneTxn o.ep c asks mf) = w at *
  have hw : (w.epInfo o.ep).typ ≠ 3 := by rwa [hend.ep.1]
  simp only [oneTxn, hw, ↓reduceIte]
  generalize State.modOp w c _ = u at *
  obtain ⟨p, hp, -, -, -, -, he⟩ := hu.op
  have hu1 : (u.epInfo o.ep).typ ≠ 1 := by rwa [hu.ep.1]
  have hu3 : (u.epInfo o.ep).typ ≠ 3 := by rwa [hu.ep.1]
  simp only [hp, hu1, hu3, he, false_and, ↓reduceIte]

/-! ### The responses of the statement -/

/-- Data for a bulk IN. -/
theorem respond_inn_data (hc : s.ctxs = [(c, y)]) (hy : y.op = some o)
    (hx : (s.seqLine n 0).txn = some (oneTxn o.ep c asks mf)) (ht : (s.epInfo o.ep).typ = 2) (hk : o.req.kind = .inn)
    (d : List Byte) : s.respond n ⟨0, .data, d, true, lba⟩ =
    s.dataResp n 0 (oneTxn o.ep c asks mf) ⟨0, .data, d, true, lba⟩ := by
  rw [respond_async hx (by omega) (by omega)]
  unfold State.asyncResp
  rw [ctx_op_only hc hy]
  simp [lands_bulkIn hk ht]

/-- A transaction error of a bulk IN. -/
theorem respond_inn_error (hc : s.ctxs = [(c, y)]) (hy : y.op = some o)
    (hx : (s.seqLine n 0).txn = some (oneTxn o.ep c asks mf)) (ht : (s.epInfo o.ep).typ = 2) (last : Bool) :
    s.respond n ⟨0, .error, [], last, 0⟩ = s.txnError n 0 (oneTxn o.ep c asks mf) last 0 [] := by
  rw [respond_async hx (by omega) (by omega)]
  unfold State.asyncResp
  rw [ctx_op_only hc hy]

theorem exec_received (s : State) (n : Nat) (r : Response) :
    exec (.responseReceived n r) s = onDevice (fun s => s.respond n r) s := rfl
theorem exec_timeout (s : State) (n : Nat) :
    exec (.responseTimeout n 0) s = onDevice (fun s => s.respond n ⟨0, .error, [], s.lastPlace n 0, 0⟩) s := rfl

/-- A response that brings an item settles what the statement says of it. -/
theorem answers_item {i : Instr} {f : State → State} {P : State → Prop} {E kind code : Nat} {data : List Byte} {last : Bool}
    (hi : exec i s = onDevice f s) (hup : s.up = true) (hsu : Kept s u)
    (hf : ∃ v, Serving u n c o.ep o E none v ∧ f s = v.putItem n o.ep (some c) kind code lba data last)
    (ht : (u.epInfo o.ep).typ ≠ 3)
    (hP : ∀ t, TxnOver n c o t → errsOf c t = E →
      Gives n c o t (fun i => i.code = code ∧ i.data = data ∧ i.last = last ∧ i.hasData = (kind != 1) ∧
        i.short = (kind == 0 && decide (data.length < (u.epInfo o.ep).mps))) →
      t.getF (.portPrfNote n) PORT_PRF_NOTE.NOTES =
        (u.getF (.portPrfNote n) PORT_PRF_NOTE.NOTES + 1) % 2 ^ PORT_PRF_NOTE.NOTES.width →
      t.rd (.portXerr n) = u.rd (.portXerr n) → P t) : Answers i s P := by
  obtain ⟨v, hv, he⟩ := hf
  obtain ⟨hk, hover, herrs, hgives, hnote, hxerr⟩ := hv.putItem ht kind code lba data last
  exact answers_eq hi hup he (hsu.trans hk) (hP _ hover herrs hgives hnote hxerr)

theorem Gives.mono {t : State} {P Q : Item → Prop} (h : Gives n c o t P) (hPQ : ∀ i, P i → Q i) : Gives n c o t Q := by
  obtain ⟨i, hi, hc, he, hw, hp⟩ := h
  exact ⟨i, hi, hc, he, hw, hPQ i hp⟩

section
variable (hc : s.ctxs = [(c, y)]) (hy : y.op = some o) (hl : (s.port n).lines.length = 3) (hf : (s.port n).fifo = Fifo.init)
  (hx : (s.seqLine n 0).txn = some (oneTxn o.ep c asks mf)) (hn : n < 20)
include hc hy hl hf hx hn

/-- A SETUP that is acknowledged. -/
theorem respond_setup_ack (ht : (s.epInfo o.ep).typ = 0) (hk : o.req.kind = .setup) (hfl : o.flight = some 0) :
    ∃ u, Serving s n c o.ep o 0 none u ∧ s.respond n ⟨0, .ack, [], true, lba⟩ = u.putItem n o.ep (some c) 1 0 0 [] true := by
  have hop := ctx_op_only hc hy
  have hs := serving_start hc hy hl hf hx
  obtain ⟨u, hu, he⟩ := ackResp_setup hs hn hop hk hfl
  refine ⟨u, hu, ?_⟩
  rw [respond_async hx (by omega) (by omega), ← he]
  unfold State.asyncResp
  rw [hop]
  simp [Op.lands, hk]

section
variable (ht : (s.epInfo o.ep).typ = 2) (hk : o.req.kind = .inn)
include ht hk

/-- NAK to a bulk IN. -/
theorem respond_inn_nak : ∃ u, Serving s n c o.ep o 0 none u ∧
    s.respond n ⟨0, .nak, [], true, lba⟩ = u.parkTxn n 0 c o.ep false false := by
  have hop := ctx_op_only hc hy
  have hs := serving_start hc hy hl hf hx
  refine ⟨_, hs.goodTxn.endTxn hn (t := oneTxn o.ep c asks mf) rfl, ?_⟩
  rw [respond_async hx (by omega) (by omega)]
  unfold State.asyncResp
  rw [hop]
  simp [hk, lineSS, sendsOut_inn hk]

/-- STALL to a bulk IN. -/
theorem respond_inn_stall : ∃ u, Serving s n c o.ep o 0 none u ∧
    s.respond n ⟨0, .stall, [], true, lba⟩ = u.putItem n o.ep (some c) 1 stStall 0 [] true := by
  have hop := ctx_op_only hc hy
  have hs := serving_start hc hy hl hf hx
  have hu := (hs.goodTxn.endTxn hn (t := oneTxn o.ep c asks mf) rfl).modOp (E' := 0) (f := fun o => { o with flight := none })
    (fun _ => ⟨rfl, rfl, rfl, rfl⟩) fun _ h => h
  refine ⟨_, hu, ?_⟩
  rw [respond_async hx (by omega) (by omega)]
  unfold State.asyncResp
  rw [hop]
  simp [hk, oneTxn]

end
end

/-- A count of errors moves no register of a default pipe. -/
theorem pipeRegs_addF_xerr (s : State) (n : Nat) : PipeRegs s (s.addF (.portXerr n) PORT_XERR.ERRS 1) := fun m =>
  ⟨rd_setF_ne s _ _ (by simp only [Reg.addr]; omega), rd_setF_ne s _ _ (by simp only [Reg.addr]; omega)⟩

/-- Settles O47: each answer, and each third error, brings the item that R312 to R316 state; NAK parks. -/
theorem responses : Obligations.Responses := by
  intro s n c y o hn hup hl hc hy _ hf hx
  obtain ⟨asks, mf, hx⟩ := hx
  change (s.seqLine n 0).txn = some (oneTxn o.ep c asks mf) at hx
  have hs := serving_start hc hy hl hf hx
  have hv := serving_start (s := s.addF (.portXerr n) PORT_XERR.ERRS 1) hc hy hl hf hx
  have hvE : (s.addF (.portXerr n) PORT_XERR.ERRS 1).getF (.portXerr n) PORT_XERR.ENDED =
      s.getF (.portXerr n) PORT_XERR.ENDED := getF_setF_apart _ _ _ _ _ rfl rfl
  have hve := sameEp_of_eps (e := o.ep) (pipeRegs_addF_xerr s n) rfl rfl
  refine ⟨fun lba ht hk hfl => ?_, fun lba ht hd hk => ⟨?_, ?_, fun d hm _ => ?_, fun d hm => ?_, fun he => ?_, fun he => ?_⟩⟩
  · exact answers_item (kind := 1) (lba := 0) (exec_received s n _) hup ⟨rfl, rfl⟩
      (respond_setup_ack hc hy hl hf hx hn ht hk hfl) (by omega)
      fun t ho hE hg hno _ => ⟨ho, hE, hg.mono fun i ⟨h1, _, h2, h3, _⟩ => ⟨h1, h2, h3⟩, hno⟩
  · obtain ⟨u, hu, he⟩ := respond_inn_nak (lba := lba) hc hy hl hf hx hn ht hk
    obtain ⟨hk', ho, hE, hfi, hp⟩ := parkTxn_parks hu false false
    exact answers_eq (exec_received s n _) hup he hk' ⟨ho, hE, hfi, hp⟩
  · exact answers_item (kind := 1) (lba := 0) (exec_received s n _) hup ⟨rfl, rfl⟩
      (respond_inn_stall hc hy hl hf hx hn ht hk) (by omega)
      fun t ho hE hg _ _ => ⟨ho, hE, hg.mono fun i ⟨h1, _, h2, _, _⟩ => ⟨h1, h2⟩⟩
  · have hr := dataResp_fits (r := ⟨0, .data, d, true, lba⟩) hs hn hm
    rw [← respond_inn_data hc hy hx ht hk] at hr
    exact answers_item (kind := 0) (lba := lba) (data := d) (exec_received s n _) hup ⟨rfl, rfl⟩ hr (by omega)
      fun t ho hE hg _ _ => ⟨ho, hE, hg.mono fun i ⟨h1, h2, _, h3, h4⟩ => ⟨h1, h2, h3, by simpa using h4⟩⟩
  · have hr := dataResp_long (r := ⟨0, .data, d, true, lba⟩) hs hn hm
    rw [← respond_inn_data hc hy hx ht hk] at hr
    exact answers_item (kind := 1) (lba := 0) (exec_received s n _) hup ⟨rfl, rfl⟩ hr (by omega)
      fun t ho _ hg _ _ => ⟨ho, hg.mono fun i ⟨h1, _, h2, _, _⟩ => ⟨h1, h2⟩⟩
  · obtain ⟨u, hu, hr⟩ := txnError_async (s := s) (lba := 0) rfl hv hn (by rw [hve.1]; omega) (by rw [hve.1]; omega)
      (s.lastPlace n 0)
    rw [if_neg (by omega), ← respond_inn_error hc hy hx ht] at hr
    refine answers_eq (exec_timeout s n) hup hr ((kept_setF s _ _ _).trans hu.kept)
      ⟨hu.over, hu.errs, hu.fifo, ?_, ?_⟩
    · rw [State.getF, hu.xerr, State.addF, rd_setF_same, Fld.get_put_same _ _ _ rfl]
    · rw [State.getF, hu.xerr, ← hvE, State.getF]
  · obtain ⟨u, hu, hr⟩ := txnError_async (s := s) (lba := 0) rfl hv hn (by rw [hve.1]; omega) (by rw [hve.1]; omega)
      (s.lastPlace n 0)
    rw [if_pos (by omega), ← respond_inn_error hc hy hx ht] at hr
    exact answers_item (u := s.addF (.portXerr n) PORT_XERR.ERRS 1) (kind := 1) (lba := 0) (exec_timeout s n) hup
      (kept_setF s _ _ _) ⟨u, hu, hr⟩ (by rw [hve.1]; omega)
      fun t ho _ hg _ hxe => ⟨ho, hg.mono fun i ⟨h1, _, h2, _, _⟩ => ⟨h1, h2⟩,
        by rw [State.getF, hxe, ← hvE, State.getF]⟩

end

end Sys2Proof.Machine
end

section
/-!
Requests for host memory that are alone, and the scans that begin with one (R83, R85, R109, R144, R145).
-/
namespace Sys2Proof.Machine

section
variable {s : State} {q : HostReq} {i r : Nat}

/-! ## One request (R83 to R86) -/

/-- The state with other requests, records of domains and outputs. -/
def State.withReqs (s : State) (l : List HostReq) (d : FMap Dom) (o : List Output) : State :=
  { s with reqs := l, doms := d, out := o }

/-- The requests once `q` is issued: its completion timer starts. -/
def State.issuedReqs (s : State) (q : HostReq) : List HostReq :=
  setIssued q.tag s.now (s.ctoOf (s.slPort q.slice)) s.reqs

/-- The TLP of an issued request is put on the port. -/
theorem issued_eq (s : State) (q : HostReq) :
    ∃ d, ((s.withReqs (s.issuedReqs q) s.doms s.out).hostTraffic (s.slPort q.slice)).emit (s.readTlp q) =
      s.withReqs (s.issuedReqs q) d (s.readTlp q :: s.out) := by
  obtain ⟨d, e⟩ := hostTraffic_eq (s.withReqs (s.issuedReqs q) s.doms s.out) (s.slPort q.slice)
  exact ⟨d, by rw [e]; rfl⟩

/-- A request that can be issued to a host. -/
theorem tryIssue_of_canIssue (h : s.canIssue q = true) (hs : s.inSram q.slice = false) :
    ∃ d, s.tryIssue q = s.withReqs (s.issuedReqs q) d (s.readTlp q :: s.out) := by
  obtain ⟨d, e⟩ := issued_eq s q
  exact ⟨d, (if_pos h).trans ((if_neg (Bool.eq_false_iff.1 hs)).trans e)⟩

/-- A request issued, where it can be, changes the requests, what is on the links and the records of domains alone. -/
theorem tryIssue_eq (s : State) (q : HostReq) :
    ∃ d o, s.tryIssue q = s.withReqs (if s.canIssue q then s.issuedReqs q else s.reqs) d o := by
  by_cases h : s.canIssue q = true
  · rw [if_pos h]
    cases hs : s.inSram q.slice
    case false =>
      obtain ⟨d, e⟩ := tryIssue_of_canIssue h hs
      exact ⟨d, _, e⟩
    case true => exact ⟨s.doms, s.out, (if_pos h).trans (if_pos hs)⟩
  · rw [if_neg h]
    exact ⟨s.doms, s.out, if_neg h⟩

theorem tryIssue_rings (s : State) (q : HostReq) : (s.tryIssue q).rings = s.rings := by
  obtain ⟨d, o, e⟩ := tryIssue_eq s q
  rw [e, State.withReqs]

theorem kept_tryIssue (s : State) (q : HostReq) : Kept s (s.tryIssue q) := by
  obtain ⟨d, o, e⟩ := tryIssue_eq s q
  rw [e]
  exact ⟨rfl, rfl⟩

/-- The only request of the block once it is issued. -/
theorem issuedReqs_alone (hr : s.reqs = [q]) :
    s.issuedReqs q = [{ q with phase := .issued, since := s.now, cto := s.ctoOf (s.slPort q.slice) }] := by
  simp [State.issuedReqs, setIssued, hr]

/-- The only request of the block, tried, stays the only one, issued or as it was. -/
theorem tryIssue_reqs_alone (hr : s.reqs = [q]) :
    ∃ ph t k, (s.tryIssue q).reqs = [{ q with phase := ph, since := t, cto := k }] := by
  obtain ⟨d, o, e⟩ := tryIssue_eq s q
  rw [e, State.withReqs, issuedReqs_alone hr, hr]
  split
  · exact ⟨_, _, _, rfl⟩
  · exact ⟨q.phase, q.since, q.cto, rfl⟩

/-- The only request of the block, with no write waiting, is all that there is to be tried (R85). -/
theorem pumpReqs_alone (hr : s.reqs = [q]) (hw : s.writes = []) : s.pumpReqs = s.pumpRead q := by
  simp [State.pumpReqs, hr, hw, sortUp, putUp, forL]

/-- A request that needs no translation is tried as it stands. -/
theorem pumpRead_of_not_missing (h : (∀ w, q.purpose ≠ .translate w) → s.missing q.slice q.addr q.len false = none) :
    s.pumpRead q = s.tryIssue q := by
  unfold State.pumpRead
  dsimp only
  split
  · split
    next => rfl
    next hp => rw [State.askTranslation, h fun w => hp w]
  · rfl

/-- A request as it is made, and the state that has it as its newest. -/
def State.made (s : State) (i c a n : Nat) (p : Purpose) : HostReq := ⟨s.tag, i, c, a, n, p, .waiting, 0, 0, 0⟩
def State.asked (s : State) (q : HostReq) : State := { s with reqs := s.reqs ++ [q], tag := s.tag + 1 }

/-- A request of a function that does not translate, made while nothing else waits. -/
theorem newReq_alone (hr : s.reqs = []) (hw : s.writes = []) (ha : s.atsOn i = false) (c a n : Nat) (p : Purpose) :
    s.newReq i c a n p = (s.asked (s.made i c a n p)).tryIssue (s.made i c a n p) := by
  have ht : (s.asked (s.made i c a n p)).atsOn i = false := ha
  have hq : (s.asked (s.made i c a n p)).reqs = [s.made i c a n p] := congrArg (· ++ [s.made i c a n p]) hr
  exact (pumpReqs_alone hq hw).trans (pumpRead_of_not_missing fun _ => (missing_of_atsOff ht a n false))

/-! ## A scan begins (R144, R145) -/

/-- A ring's record at the beginning of a scan, and the state with it. -/
def Ring.begun (g : Ring) : Ring := { g with scanning := true, rescan := false, blocked := false }
def State.begun (s : State) (i r : Nat) : State := s.modRing (rKey i r) Ring.begun

theorem begun_ring (s : State) (i r : Nat) : (s.begun i r).ring (rKey i r) = (s.ring (rKey i r)).begun :=
  setRing_same s _ _

/-- The address from which a scan reads, and how many entries: at most 8, not past the ring's end, and within a read (R83). -/
def State.fetchAddr (s : State) (i r : Nat) : Nat :=
  (s.rd (.ringBase i r)).toNat + 64 * s.getF (.ringSts i r) RING_STS.SCAN
def State.fetchCount (s : State) (i r : Nat) : Nat :=
  min (min 8 (s.ringN i r - s.getF (.ringSts i r) RING_STS.SCAN)) (max 1 (s.readMax i (s.fetchAddr i r) / 64))

/-- The read that a scan begins with. -/
def State.fetchReq (s : State) (i r : Nat) : HostReq :=
  s.made i noCtx (s.fetchAddr i r) (64 * s.fetchCount i r) (.ringFetch r)

/-- From `s` to `t` a scan of the ring has begun, and its first read is the newest request. -/
def Fetches (s t : State) (i r : Nat) : Prop :=
  (t.ring (rKey i r)).scanning = true ∧ (t.ring (rKey i r)).rescan = false ∧
    ∃ w, t.reqs = s.reqs ++ [w] ∧ w.slice = i ∧ w.addr = s.fetchAddr i r ∧ w.len = 64 * s.fetchCount i r ∧
      w.purpose = .ringFetch r ∧ w.tag = s.tag

/-- What the scanner looks at is the same at the top of a scan as before it. -/
theorem begun_scanOk (s : State) (i r : Nat) : (s.begun i r).scanOk i r = s.scanOk i r := by
  rw [State.scanOk, State.ringOn, begun_ring]
  rfl

theorem begun_scanRoom (s : State) (i r : Nat) : (s.begun i r).scanRoom i r = s.scanRoom i r := by
  rw [State.scanRoom, begun_ring]
  rfl

/-- A scan that may go on and has room begins with one read. -/
theorem scanStart_eq (hk : s.scanOk i r = true) (hm : s.scanRoom i r = true)
    (hh : s.hostOk i (s.fetchAddr i r) (64 * s.fetchCount i r) = true) :
    s.scanStart i r = (s.begun i r).newReq i noCtx (s.fetchAddr i r) (64 * s.fetchCount i r) (.ringFetch r) := by
  change (s.begun i r).scanTop i r = _
  rw [State.scanTop, begun_scanOk, begun_scanRoom, if_neg (by simp [hk]), if_pos hm]
  exact if_pos hh

theorem scanStart_fetches (hk : s.scanOk i r = true) (hm : s.scanRoom i r = true)
    (hh : s.hostOk i (s.fetchAddr i r) (64 * s.fetchCount i r) = true) (ha : s.atsOn i = false) (hr : s.reqs = [])
    (hw : s.writes = []) : Kept s (s.scanStart i r) ∧ Fetches s (s.scanStart i r) i r := by
  have hu : s.scanStart i r = ((s.begun i r).asked (s.fetchReq i r)).tryIssue (s.fetchReq i r) :=
    (scanStart_eq hk hm hh).trans (newReq_alone (s := s.begun i r) hr hw ha _ _ _ _)
  have hg : ((s.begun i r).asked (s.fetchReq i r)).ring (rKey i r) = (s.ring (rKey i r)).begun := begun_ring s i r
  obtain ⟨ph, t, k, hq⟩ := tryIssue_reqs_alone (s := (s.begun i r).asked (s.fetchReq i r)) (q := s.fetchReq i r)
    (congrArg (· ++ [s.fetchReq i r]) hr)
  rw [hu]
  refine ⟨kept_tryIssue ((s.begun i r).asked (s.fetchReq i r)) _, ?_⟩
  rw [Fetches, State.ring, tryIssue_rings, ← State.ring, hg, hq, hr]
  exact ⟨rfl, rfl, _, rfl, rfl, rfl, rfl, rfl, rfl⟩

/-! ## Doorbells (R145, R157) -/

theorem scanOk_iff : s.scanOk i r = true ↔ s.ringOn i r = true ∧ s.scanBarred i = false ∧ s.frozen i = false := by
  simp [State.scanOk, and_assoc]

theorem doorbell_starts (hk : s.scanOk i r = true) (hg : (s.ring (rKey i r)).scanning = false) :
    s.doorbell i r = s.scanStart i r := by
  obtain ⟨ho, hb, hf⟩ := scanOk_iff.1 hk
  simp [State.doorbell, ho, hb, hf, hg]

theorem doorbell_remembered (hk : s.scanOk i r = true) (hg : (s.ring (rKey i r)).scanning = true) :
    s.doorbell i r = s.modRing (rKey i r) (fun g => { g with rescan := true }) := by
  obtain ⟨ho, hb, -⟩ := scanOk_iff.1 hk
  simp [State.doorbell, ho, hb, hg]

theorem doorbell_ignored (h : s.flag (.ringCtl i r) RING_CTL.EN = false ∨ s.fenced i = true) : s.doorbell i r = s := by
  have hn : s.ringOn i r = false ∨ s.scanBarred i = true := by
    rcases h with h | h
    · exact .inl (by simp [State.ringOn, h])
    · exact .inr (by simp [State.scanBarred, h])
  exact if_pos hn

variable {p : Requester}

/-- A doorbell that the checks on page writes let through. -/
theorem answers_doorbell {t : State} {P : State → Prop} (ho : s.opens p (.page i (dbOff r)) = true)
    (hf : s.doorbell i r = t) (hk : Kept s t) (hp : P t) : Answers (.doorbell p i r) s P := by
  obtain ⟨hu, -⟩ := opens_iff.1 ho
  exact answers_eq (i := .doorbell p i r)
    (f := fun s => s.gateLoc p (.page i (dbOff r)) (fun _ s => s.doorbell i r)) rfl hu
    ((gateLoc_opens ho _).trans hf) hk hp

theorem doorbell_fetches (ho : s.opens p (.page i (dbOff r)) = true) (hk : s.scanOk i r = true)
    (hm : s.scanRoom i r = true) (hg : (s.ring (rKey i r)).scanning = false)
    (hh : s.hostOk i (s.fetchAddr i r) (64 * s.fetchCount i r) = true) (ha : s.atsOn i = false) (hr : s.reqs = [])
    (hw : s.writes = []) : Answers (.doorbell p i r) s (fun t => Fetches s t i r) := by
  obtain ⟨hkept, hf⟩ := scanStart_fetches hk hm hh ha hr hw
  exact answers_doorbell ho (doorbell_starts hk hg) hkept hf

/-- A scan that ended for want of room goes on once there is room (R109, R144). -/
theorem scanResume_fetches (hu : s.up = true) (hb : (s.ring (rKey i r)).blocked = true)
    (hg : (s.ring (rKey i r)).scanning = false) (hk : s.scanOk i r = true) (hm : s.scanRoom i r = true)
    (hh : s.hostOk i (s.fetchAddr i r) (64 * s.fetchCount i r) = true) (ha : s.atsOn i = false) (hr : s.reqs = [])
    (hw : s.writes = []) : Answers (.scanResume i r) s (fun t => Fetches s t i r) := by
  obtain ⟨hkept, hf⟩ := scanStart_fetches hk hm hh ha hr hw
  exact answers_eq rfl hu (if_pos (by simp [hb, hg, hk, hm])) hkept hf

end

/-- Settles O38: a doorbell is a scan, whose first step is the one read, or a mark in the ring's record, or nothing. -/
theorem doorbellsAndScans : Obligations.DoorbellsAndScans := by
  intro s q i r _ _
  refine ⟨fun ho hk hm hg hh ha hr hw => doorbell_fetches ho hk hm hg hh ha hr hw, fun ho hk hg => ?_,
    fun ho hoff => ?_, fun hu hb hg hk hm hh ha hr hw => scanResume_fetches hu hb hg hk hm hh ha hr hw⟩
  · exact answers_doorbell ho (doorbell_remembered hk hg) ⟨rfl, rfl⟩ ⟨setRing_same _ _ _, rfl⟩
  · obtain ⟨t, he, ht⟩ := answers_doorbell ho (doorbell_ignored hoff) (.refl s) (P := (· = s)) rfl
    rw [he, ht]

end Sys2Proof.Machine
end

section
/-!
Address translation, bus mastering and MSI-X (R83 to R92).
-/
namespace Sys2Proof.Machine

section
variable {s : State} {q : HostReq} {p fn : Nat}

/-! ## Invalidations (R87) -/

/-- An Invalidate Request drops what it names, and waits for nothing where no write is under way. -/
theorem atsInvalidateRequest_drops (hu : s.up = true) (he : s.fnExists p fn = true) (pasid : Option Nat)
    (page pages : Nat) (glob : Bool) :
    Answers (.atsInvalidateRequest p fn pasid page pages glob) s (fun t =>
      t.atc = s.atc.filter (fun a => !(a.hit p fn pasid page pages glob)) ∧
      (s.writes = [] → t.invals = s.invals ++ [(p, fn, [])]) ∧ { t with atc := s.atc, invals := s.invals } = s) := by
  refine answers_eq rfl hu (if_pos he) ⟨rfl, rfl⟩ ⟨rfl, fun hw => ?_, rfl⟩
  dsimp only
  rw [hw]
  rfl

/-- The oldest invalidation of the function waits for nothing: it is answered. -/
theorem atsInvalidateCompletion_answers (hu : s.up = true) {l : List (Nat × Nat × List Nat)}
    (h : s.invals = (p, fn, []) :: l) : exec (.atsInvalidateCompletion p fn) s =
      .next { s with invals := l, out := .invalidateDone p fn :: s.out } := by
  have hd : invalDone p fn s.invals = some l := by simp [h, invalDone]
  change execAtsInvalidateCompletion p fn s = _
  rw [execAtsInvalidateCompletion, onDevice_up _ hu, hd]
  rfl

/-- It waits for a write that has not left: nothing happens. -/
theorem atsInvalidateCompletion_waits (hu : s.up = true) {tag : Nat} {m : List Nat} {l : List (Nat × Nat × List Nat)}
    (h : s.invals = (p, fn, tag :: m) :: l) : exec (.atsInvalidateCompletion p fn) s = .next s := by
  have hd : invalDone p fn s.invals = none := by simp [h, invalDone]
  change execAtsInvalidateCompletion p fn s = _
  rw [execAtsInvalidateCompletion, onDevice_up _ hu, hd]

/-! ## Pending vectors (R91, R92) -/

/-- A pending vector that nothing holds back sends one message. -/
theorem msixPendingRelease_sends (hu : s.up = true) {vec : Nat} (hm : (s.func (fKey p fn)).msixEn = true)
    (hp : (s.vec (vKey p fn vec)).pba = true) (hh : s.vecHeld p fn vec = false) :
    Answers (.msixPendingRelease p fn vec) s (fun t => t.out = .msix p fn vec :: s.out ∧
      t.vec (vKey p fn vec) = { s.vec (vKey p fn vec) with pba := false } ∧ t.regs = s.regs) := by
  obtain ⟨d, e⟩ := hostTraffic_eq s p
  refine answers_eq rfl hu (if_pos (by simp [hm, hp, hh])) ?_ ⟨?_, setVec_same _ _ _, ?_⟩ <;> rw [e]
  · exact ⟨rfl, rfl⟩
  · rfl
  · rfl

/-! ## Waiting reads (R83, R85) -/

/-- A request that can be issued needs no translation any more. -/
theorem not_missing_of_canIssue (h : s.canIssue q = true) (hp : ∀ w, q.purpose ≠ .translate w) :
    s.missing q.slice q.addr q.len false = none := by
  unfold State.canIssue at h
  split at h
  next w hw => exact absurd hw (hp w)
  next => simpa [State.translated] using (Bool.and_eq_true_iff.1 (Bool.and_eq_true_iff.1 h).2).2

/-- With every request issued and no write waiting, nothing is refused late. -/
theorem refuseLate_of_issued (hr : ∀ q ∈ s.reqs, q.phase = .issued) (hw : s.writes = []) : s.refuseLate = s := by
  have hl : s.reqs.filter (fun q => q.phase == .waiting && !q.isTrans && s.mayIssue q.slice && s.limitOk q.slice &&
      s.orderOk q && !(s.hostOk q.slice q.addr q.len)) = [] := by
    refine List.filter_eq_nil_iff.2 fun q hq => ?_
    simp [hr q hq]
  rw [State.refuseLate, hl]
  change forL (s.writes.filter _) _ s = s
  rw [hw]
  rfl

/-- Without contexts no mover looks ahead. -/
theorem lookAheadAll_of_no_ctxs (h : s.ctxs = []) : s.lookAheadAll = s := by
  rw [State.lookAheadAll, h]
  rfl

/-- The only request of the block, which can be issued, goes out when bus mastering returns. -/
theorem busMasterEnableReturn_issues (hu : s.up = true) (hr : s.reqs = [q]) (hw : s.writes = []) (hc : s.canIssue q = true)
    (hs : s.inSram q.slice = false) (hb : (s.func (fKey p fn)).bme = true) (hd : (s.func (fKey p fn)).d3hot = false)
    (hx : s.ctxs = []) : Answers (.busMasterEnableReturn p fn) s (fun t =>
      t.reqs = [{ q with phase := .issued, since := s.now, cto := s.ctoOf (s.slPort q.slice) }] ∧
      t.out = s.readTlp q :: s.out) := by
  have hon : (s.func (fKey p fn)).on = true := by simp [Func.on, hb, hd]
  obtain ⟨d, e⟩ := tryIssue_of_canIssue hc hs
  have hi := issuedReqs_alone hr
  have ht : s.pumpReqs = s.withReqs (s.issuedReqs q) d (s.readTlp q :: s.out) :=
    (pumpReqs_alone hr hw).trans ((pumpRead_of_not_missing (not_missing_of_canIssue hc)).trans e)
  have hl : (s.withReqs (s.issuedReqs q) d (s.readTlp q :: s.out)).lookAheadAll =
      s.withReqs (s.issuedReqs q) d (s.readTlp q :: s.out) := lookAheadAll_of_no_ctxs hx
  have hf : (s.withReqs (s.issuedReqs q) d (s.readTlp q :: s.out)).refuseLate =
      s.withReqs (s.issuedReqs q) d (s.readTlp q :: s.out) :=
    refuseLate_of_issued (show ∀ v ∈ s.issuedReqs q, v.phase = .issued by simp [hi]) hw
  refine answers_eq rfl hu (t := s.withReqs (s.issuedReqs q) d (s.readTlp q :: s.out)) ?_ ⟨rfl, rfl⟩ ⟨hi, rfl⟩
  rw [if_pos hon, ht, hl, hf]

/-- A read that is not translated carries its address and the PASID of its slice's binding, RO and IDO clear. -/
theorem readTlp_of_atsOff (ha : s.atsOn q.slice = false) (hp : ∀ w, q.purpose ≠ .translate w) :
    s.readTlp q = .read (s.slPort q.slice) (s.slFunc q.slice) q.tag
      ⟨s.slPasid q.slice, false, false, (s.func (s.slFn q.slice)).ecrcGen⟩ q.addr q.len := by
  unfold State.readTlp
  dsimp only
  split
  next w hw => exact absurd hw (hp w)
  next => rw [xlatOf_of_atsOff ha]; rfl

end

/-- Settles O30: what an invalidation drops and waits for, the one message of a vector, and the one read that is tried when
bus mastering returns. -/
theorem translationAndVectors : Obligations.TranslationAndVectors := fun _ _ _ hu =>
  ⟨fun pasid page pages glob he => atsInvalidateRequest_drops hu he pasid page pages glob,
    fun _ h => atsInvalidateCompletion_answers hu h, fun _ _ _ h => atsInvalidateCompletion_waits hu h,
    fun _ hm hp hh => msixPendingRelease_sends hu hm hp hh,
    fun _ hr hw hc _ hs hb hd hx => busMasterEnableReturn_issues hu hr hw hc hs hb hd hx,
    fun _ ha hp => readTlp_of_atsOff ha hp⟩

end Sys2Proof.Machine
end

section
/-!
The manager claim (R93 to R95, Table 4 of chapter 3).
-/
namespace Sys2Proof.Machine

section
variable {s : State} {q : Requester} {token st : Nat}

/-! ## Changes of registers alone -/

theorem OnlyRegs.trans {t u : State} {l : List Nat} (h : OnlyRegs s t l) (k : OnlyRegs t u l) : OnlyRegs s u l := by
  obtain ⟨hr, hs⟩ := h
  obtain ⟨kr, ks⟩ := k
  refine ⟨fun r a => (kr r a).trans (hr r a), ?_⟩
  calc ({ u with regs := s.regs, cyc := s.cyc } : State)
      = { ({ u with regs := t.regs, cyc := t.cyc } : State) with regs := s.regs, cyc := s.cyc } := rfl
    _ = { t with regs := s.regs, cyc := s.cyc } := by rw [ks]
    _ = s := hs

/-! ## An interrupt event (R410, R421) -/

theorem Touches.claimTimer {A : Nat → Prop} {t : State} (h : Touches A s t) : t.claimTimer = s.claimTimer := by
  obtain ⟨-, -, hs⟩ := h
  exact show (t.faultsOf s).claimTimer = s.claimTimer from congrArg State.claimTimer hs
theorem Touches.icPend {A : Nat → Prop} {t : State} (h : Touches A s t) : t.icPend = s.icPend := by
  obtain ⟨-, -, hs⟩ := h
  exact show (t.faultsOf s).icPend = s.icPend from congrArg State.icPend hs

/-- An event source with its bit set, before it wakes anyone. -/
def State.pended (s : State) (i : Nat) : State := { s with icPend := FMap.put false i true s.icPend }

theorem touches_irqEvent (s : State) (i : Nat) : Touches wakeAddr (s.pended i) (s.irqEvent i) := touches_irqWake _ i

theorem irqEvent_getF (s : State) (i : Nat) {r : Reg} (h : ¬ wakeAddr r.addr) (f : Fld) :
    (s.irqEvent i).getF r f = s.getF r f := (touches_irqEvent s i).getF h f

theorem irqEvent_flag (s : State) (i : Nat) {r : Reg} (h : ¬ wakeAddr r.addr) (f : Fld) :
    (s.irqEvent i).flag r f = s.flag r f := (touches_irqEvent s i).leaves.flag h f

theorem irqEvent_claimTimer (s : State) (i : Nat) : (s.irqEvent i).claimTimer = s.claimTimer :=
  (touches_irqEvent s i).claimTimer

/-- The event is pending, whoever it wakes. -/
theorem irqEvent_pend (s : State) {i : Nat} (h : irqIsEvent i = true) : (s.irqEvent i).irqPend i = true := by
  simp [State.irqPend, h, (touches_irqEvent s i).icPend, State.pended]

/-! ## `GLB_MGR_STS` -/

theorem glbMgrSts_not_wakeAddr : ¬ wakeAddr (Reg.glbMgrSts).addr := by decide

section
variable (s)

theorem token_lt : s.getF .glbMgrSts GLB_MGR_STS.TOKEN < 65536 := Nat.mod_lt _ (by decide)

/-- The claim's state and token as they are written. -/
theorem setClaim_getF (r : Reg) (f : Fld) : (s.setClaim st token).getF r f =
    ((s.setF .glbMgrSts GLB_MGR_STS.STATE st).setF .glbMgrSts GLB_MGR_STS.TOKEN token).getF r f := rfl

theorem setClaim_claim (h : st < 8) : (s.setClaim st token).claim = st := by
  rw [State.claim, setClaim_getF, getF_setF_apart _ _ _ _ _ rfl rfl, getF_setF_same _ _ _ _ rfl]
  exact Nat.mod_eq_of_lt h
theorem setClaim_token (h : token < 65536) : (s.setClaim st token).getF .glbMgrSts GLB_MGR_STS.TOKEN = token := by
  rw [setClaim_getF, getF_setF_same _ _ _ _ rfl]
  exact Nat.mod_eq_of_lt h

theorem onlyRegs_setClaim :
    OnlyRegs s { s.setClaim st token with claimTimer := s.claimTimer } [(Reg.glbMgrSts).addr] :=
  (onlyRegs_setF s _ _ st).trans (onlyRegs_setF _ _ _ token)

theorem kept_setClaim : Kept s (s.setClaim st token) := ⟨rfl, rfl⟩

/-- An ignored command shows in `IGN`, and nothing else changes. -/
theorem claimIgn_claim : s.claimIgn.claim = s.claim := set1_getF_apart s _ rfl rfl
theorem claimIgn_token : s.claimIgn.getF .glbMgrSts GLB_MGR_STS.TOKEN = s.getF .glbMgrSts GLB_MGR_STS.TOKEN :=
  set1_getF_apart s _ rfl rfl
theorem claimIgn_ign : s.claimIgn.flag .glbMgrSts GLB_MGR_STS.IGN = true := set1_flag_same rfl
theorem onlyRegs_claimIgn : OnlyRegs s s.claimIgn [(Reg.glbMgrSts).addr] := ⟨(onlyRegs_setF s _ _ 1).1, rfl⟩
theorem kept_claimIgn : Kept s s.claimIgn := ⟨rfl, rfl⟩

end

/-- The timer runs in WAITING and ABANDONED, and not in HOST or LOCAL (R94). -/
theorem claimOpen_iff : s.claimOpen = true ↔ s.claim = claimWaiting ∨ s.claim = claimAbandoned := by
  simp [State.claimOpen]

theorem claimOpen_of_local (h : s.claim = claimLocal) : s.claimOpen = false := by simp [State.claimOpen, h]; decide
theorem claimOpen_of_host (h : s.claim = claimHost) : s.claimOpen = false := by simp [State.claimOpen, h]; decide
theorem isLocal_of_local (h : s.claim = claimLocal) : s.isLocal = true := decide_eq_true h
theorem isLocal_of_host (h : s.claim = claimHost) : s.isLocal = false :=
  decide_eq_false (by rw [h]; decide)

/-! ## The commands of Table 4 -/

/-- Where a claim waits for its holder, the manager function takes it. -/
theorem claimCmd_open (hm : s.isMgrFunc q = true) (h0 : 0 < token) (ho : s.claim = claimWaiting ∨ s.claim = claimAbandoned) :
    s.claimCmd q token = s.setClaim claimHost token := by
  have h0' : token ≠ 0 := by omega
  simp [State.claimCmd, hm, h0', claimOpen_iff.2 ho]

/-- In LOCAL it asks the manager for it. -/
theorem claimCmd_local (hm : s.isMgrFunc q = true) (h0 : 0 < token) (hl : s.claim = claimLocal) :
    s.claimCmd q token =
      ((s.set1 .glbMgrSts GLB_MGR_STS.HREQ).setF .glbMgrSts GLB_MGR_STS.TOKEN token).irqEvent 300 := by
  have h0' : token ≠ 0 := by omega
  simp [State.claimCmd, hm, h0', claimOpen_of_local hl, isLocal_of_local hl]

/-- One by another requester, with token 0, or in HOST is ignored. -/
theorem claimCmd_ignored (h : s.isMgrFunc q = false ∨ token = 0 ∨ s.claim = claimHost) :
    s.claimCmd q token = s.claimIgn := by
  by_cases hb : s.isMgrFunc q = false ∨ token = 0
  · exact if_pos hb
  · have hh : s.claim = claimHost := (h.resolve_left fun e => hb (.inl e)).resolve_left fun e => hb (.inr e)
    simp [State.claimCmd, claimOpen_of_host hh, isLocal_of_host hh]

theorem releaseCmd_holder (hm : s.isMgrFunc q = true) (hh : s.claim = claimHost) :
    s.releaseCmd q (s.getF .glbMgrSts GLB_MGR_STS.TOKEN) = (s.setClaim claimWaiting 0).claimStart :=
  if_pos ⟨hm, hh, rfl⟩

theorem hreq_eq (hl : s.claim = claimLocal) : s.hreq = s.flag .glbMgrSts GLB_MGR_STS.HREQ := by
  rw [State.hreq, isLocal_of_local hl, Bool.true_and]

theorem localReleaseCmd_hands (hq : isPair q = true) (hl : s.claim = claimLocal)
    (hr : s.flag .glbMgrSts GLB_MGR_STS.HREQ = true) : s.localReleaseCmd q =
      (s.setClaim claimHost (s.getF .glbMgrSts GLB_MGR_STS.TOKEN)).clr1 .glbMgrSts GLB_MGR_STS.HREQ :=
  if_pos (by rw [hq, hreq_eq hl, hr]; rfl)

theorem localDeclineCmd_drops (hq : isPair q = true) (hl : s.claim = claimLocal)
    (hr : s.flag .glbMgrSts GLB_MGR_STS.HREQ = true) : s.localDeclineCmd q = s.hreqDrop :=
  if_pos (by rw [hq, hreq_eq hl, hr]; rfl)

theorem localReleaseCmd_ignored (hr : s.flag .glbMgrSts GLB_MGR_STS.HREQ = false) : s.localReleaseCmd q = s.claimIgn :=
  if_neg (by simp [State.hreq, hr])
theorem localDeclineCmd_ignored (hr : s.flag .glbMgrSts GLB_MGR_STS.HREQ = false) : s.localDeclineCmd q = s.claimIgn :=
  if_neg (by simp [State.hreq, hr])

/-! ## The word of a command (R93) -/

theorem claimWord_cmd {cmd : Nat} (h : cmd < 16) : GLB_MGR_CLAIM.CMD.get (claimWord cmd token) = cmd := by
  simp only [Fld.get, claimWord, Fld.width, GLB_MGR_CLAIM.CMD, BitVec.toNat_ofNat, Nat.shiftRight_eq_div_pow]
  omega

theorem claimWord_token (cmd : Nat) : GLB_MGR_CLAIM.TOKEN.get (claimWord cmd token) = token % 65536 := by
  simp only [Fld.get, claimWord, Fld.width, GLB_MGR_CLAIM.TOKEN, BitVec.toNat_ofNat, Nat.shiftRight_eq_div_pow]
  omega

/-- Every requester that may write the register: not the standby pair (R444). -/
def State.mayClaim (s : State) (q : Requester) : Prop := isPair q = false ∨ s.isActive q = true

theorem mayClaim_of_mgrFunc (h : s.isMgrFunc q = true) : s.mayClaim q := by
  have hq : q = .func s.mgrPort 0 := of_decide_eq_true h
  exact .inl (hq ▸ rfl)

theorem not_standby (h : s.mayClaim q) : (isPair q && !(s.isActive q)) = false := by
  rcases h with h | h <;> simp [h]

section
variable (h : s.mayClaim q)
include h

theorem wrMgrClaim_claim : s.wrMgrClaim q (claimWord 1 token) = s.claimCmd q (token % 65536) := by
  simp [State.wrMgrClaim, not_standby h, claimWord_cmd, claimWord_token]
theorem wrMgrClaim_release : s.wrMgrClaim q (claimWord 2 token) = s.releaseCmd q (token % 65536) := by
  simp [State.wrMgrClaim, not_standby h, claimWord_cmd, claimWord_token]
theorem wrMgrClaim_localRelease : s.wrMgrClaim q (claimWord 3 token) = s.localReleaseCmd q := by
  simp [State.wrMgrClaim, not_standby h, claimWord_cmd]
theorem wrMgrClaim_localDecline : s.wrMgrClaim q (claimWord 4 token) = s.localDeclineCmd q := by
  simp [State.wrMgrClaim, not_standby h, claimWord_cmd]

end

/-- The standby pair's command is an access violation, and is ignored. -/
theorem wrMgrClaim_standby (hq : isPair q = true) (ha : s.isActive q = false) :
    s.wrMgrClaim q (claimWord 1 token) = (s.violation q (Reg.loc .glbMgrClaim)).claimIgn := by
  simp [State.wrMgrClaim, hq, ha, claimWord_cmd]

/-- Recording a violation leaves the claim as it is, whatever entry the source's open record has. -/
theorem violation_mgrSts (s : State) (q : Requester) (l : Loc) (f : Fld) :
    (s.violation q l).getF .glbMgrSts f = s.getF .glbMgrSts f := by
  have he : EventIn (fun a => a ≠ (Reg.glbMgrSts).addr) s 49 :=
    { hist := fun a ha => by simp only [histAddr, Reg.addr] at *; omega
      wake := fun a ha e => glbMgrSts_not_wakeAddr (e ▸ ha)
      sts := by decide
      entries := fun e _ k _ => by simp only [Reg.addr]; omega }
  exact (touches_fltCount he _ _ _).getF (fun h => h rfl) f

/-! ## What the commands answer -/

section
variable (ha : s.accepts q .glbMgrClaim = true)
include ha

theorem mgrClaim_takes (hm : s.isMgrFunc q = true) (h0 : 0 < token) (ht : token < 65536)
    (ho : s.claim = claimWaiting ∨ s.claim = claimAbandoned) :
    Answers (.mgrClaim q token) s (fun t => t.claim = claimHost ∧ t.getF .glbMgrSts GLB_MGR_STS.TOKEN = token ∧
      t.claimTimer = none ∧ OnlyRegs s { t with claimTimer := s.claimTimer } [(Reg.glbMgrSts).addr]) := by
  refine answers_gate rfl ha (t := s.setClaim claimHost token) ?_ ⟨rfl, rfl⟩
    ⟨setClaim_claim s (by decide), setClaim_token s ht, rfl, onlyRegs_setClaim s⟩
  rw [wrMgrClaim_claim (mayClaim_of_mgrFunc hm), Nat.mod_eq_of_lt ht, claimCmd_open hm h0 ho]

theorem mgrClaim_asks (hm : s.isMgrFunc q = true) (h0 : 0 < token) (ht : token < 65536) (hl : s.claim = claimLocal) :
    Answers (.mgrClaim q token) s (fun t => t.claim = claimLocal ∧ t.flag .glbMgrSts GLB_MGR_STS.HREQ = true ∧
      t.getF .glbMgrSts GLB_MGR_STS.TOKEN = token) := by
  have hn := glbMgrSts_not_wakeAddr
  refine answers_gate rfl ha
    (t := ((s.set1 .glbMgrSts GLB_MGR_STS.HREQ).setF .glbMgrSts GLB_MGR_STS.TOKEN token).irqEvent 300) ?_
    (kept_irqEvent _ 300) ⟨?_, ?_, ?_⟩
  · rw [wrMgrClaim_claim (mayClaim_of_mgrFunc hm), Nat.mod_eq_of_lt ht, claimCmd_local hm h0 hl]
  · rw [State.claim, irqEvent_getF _ _ hn, getF_setF_apart _ _ _ _ _ rfl rfl, set1_getF_apart _ _ rfl rfl]
    exact hl
  · rw [irqEvent_flag _ _ hn, State.flag, getF_setF_apart _ _ _ _ _ rfl rfl]
    exact set1_flag_same rfl
  · rw [irqEvent_getF _ _ hn, getF_setF_same _ _ _ _ rfl]
    exact Nat.mod_eq_of_lt ht

theorem mgrClaim_ignored (hq : isPair q = false) (h : s.isMgrFunc q = false ∨ token = 0 ∨ s.claim = claimHost) :
    Answers (.mgrClaim q token) s (fun t => t.claim = s.claim ∧ t.flag .glbMgrSts GLB_MGR_STS.IGN = true ∧
      t.getF .glbMgrSts GLB_MGR_STS.TOKEN = s.getF .glbMgrSts GLB_MGR_STS.TOKEN ∧
      OnlyRegs s t [(Reg.glbMgrSts).addr]) := by
  refine answers_gate rfl ha ?_ (kept_claimIgn s)
    ⟨claimIgn_claim s, claimIgn_ign s, claimIgn_token s, onlyRegs_claimIgn s⟩
  rw [wrMgrClaim_claim (.inl hq), claimCmd_ignored (h.imp_right (Or.imp_left fun e => by rw [e]))]

theorem mgrRelease_frees (hm : s.isMgrFunc q = true) (hh : s.claim = claimHost) :
    Answers (.mgrRelease q (s.getF .glbMgrSts GLB_MGR_STS.TOKEN)) s (fun t => t.claim = claimWaiting ∧
      t.getF .glbMgrSts GLB_MGR_STS.TOKEN = 0 ∧ t.claimTimer = some s.now) := by
  refine answers_gate rfl ha (t := (s.setClaim claimWaiting 0).claimStart) ?_ ⟨rfl, rfl⟩
    ⟨setClaim_claim s (by decide), setClaim_token s (by decide), rfl⟩
  rw [wrMgrClaim_release (mayClaim_of_mgrFunc hm), Nat.mod_eq_of_lt (token_lt s), releaseCmd_holder hm hh]

theorem mgrClaim_standby (hq : isPair q = true) (hs : s.isActive q = false) :
    Answers (.mgrClaim q token) s (fun t => t.claim = s.claim ∧ t.flag .glbMgrSts GLB_MGR_STS.IGN = true ∧
      t.getF .glbMgrSts GLB_MGR_STS.TOKEN = s.getF .glbMgrSts GLB_MGR_STS.TOKEN) :=
  answers_gate rfl ha (wrMgrClaim_standby hq hs)
    (Kept.trans ⟨violation_aon s q _, violation_pending s q _⟩ (kept_claimIgn _))
    ⟨(claimIgn_claim _).trans (violation_mgrSts s q _ _), claimIgn_ign _,
      (claimIgn_token _).trans (violation_mgrSts s q _ _)⟩

section
variable (hq : s.isActive q = true)
include hq

theorem localRelease_hands (hp : isPair q = true) (hl : s.claim = claimLocal)
    (hr : s.flag .glbMgrSts GLB_MGR_STS.HREQ = true) :
    Answers (.localRelease q) s (fun t => t.claim = claimHost ∧ t.flag .glbMgrSts GLB_MGR_STS.HREQ = false ∧
      t.getF .glbMgrSts GLB_MGR_STS.TOKEN = s.getF .glbMgrSts GLB_MGR_STS.TOKEN) := by
  refine answers_gate rfl ha ((wrMgrClaim_localRelease (.inr hq)).trans (localReleaseCmd_hands hp hl hr)) ⟨rfl, rfl⟩
    ⟨?_, ?_, ?_⟩
  · exact (getF_setF_apart _ _ _ _ _ rfl rfl).trans (setClaim_claim s (by decide))
  · rw [State.flag, clr1_eq, getF_setF_same _ _ _ _ rfl]
    rfl
  · exact (getF_setF_apart _ _ _ _ _ rfl rfl).trans (setClaim_token s (token_lt s))

theorem localDecline_drops (hp : isPair q = true) (hl : s.claim = claimLocal)
    (hr : s.flag .glbMgrSts GLB_MGR_STS.HREQ = true) :
    Answers (.localDecline q) s (fun t => t.claim = claimLocal ∧ t.flag .glbMgrSts GLB_MGR_STS.HREQ = false ∧
      t.getF .glbMgrSts GLB_MGR_STS.TOKEN = 0) := by
  refine answers_gate rfl ha ((wrMgrClaim_localDecline (.inr hq)).trans (localDeclineCmd_drops hp hl hr)) ⟨rfl, rfl⟩
    ⟨?_, ?_, ?_⟩
  · exact (getF_setF_apart _ _ _ _ _ rfl rfl).trans ((getF_setF_apart _ _ _ _ _ rfl rfl).trans hl)
  · rw [State.flag, State.hreqDrop, getF_setF_apart _ _ _ _ _ rfl rfl, clr1_eq, getF_setF_same _ _ _ _ rfl]
    rfl
  · exact getF_setF_same _ _ _ _ rfl

variable (hr : s.flag .glbMgrSts GLB_MGR_STS.HREQ = false)
include hr

theorem localRelease_ignored :
    Answers (.localRelease q) s (fun t => t.flag .glbMgrSts GLB_MGR_STS.IGN = true ∧ t.claim = s.claim) :=
  answers_gate rfl ha ((wrMgrClaim_localRelease (.inr hq)).trans (localReleaseCmd_ignored hr)) (kept_claimIgn s)
    ⟨claimIgn_ign s, claimIgn_claim s⟩
theorem localDecline_ignored :
    Answers (.localDecline q) s (fun t => t.flag .glbMgrSts GLB_MGR_STS.IGN = true ∧ t.claim = s.claim) :=
  answers_gate rfl ha ((wrMgrClaim_localDecline (.inr hq)).trans (localDeclineCmd_ignored hr)) (kept_claimIgn s)
    ⟨claimIgn_ign s, claimIgn_claim s⟩

end
end

/-! ## The claim timer (R94) -/

/-- The state after the claim timer has expired (Table 4). -/
def State.claimExpired (s : State) : State := (s.setClaim claimLocal 0).irqEvent 300

theorem claimExpired_claim : s.claimExpired.claim = claimLocal := by
  rw [State.claim, State.claimExpired, irqEvent_getF _ _ glbMgrSts_not_wakeAddr]
  exact setClaim_claim s (by decide)

theorem claimExpired_claimTimer : s.claimExpired.claimTimer = none := irqEvent_claimTimer _ 300

theorem kept_claimExpired : Kept s s.claimExpired := (kept_setClaim s).trans (kept_irqEvent _ 300)

/-- What the instruction does with the state of a device that is up. -/
theorem exec_claimTimerExpiry :
    exec .claimTimerExpiry s = onDevice (fun s => if s.claimOpen && s.claimDue then s.claimExpired else s) s := rfl

theorem claimTimerExpiry_local (hu : s.up = true) {t0 : Nat} (ho : s.claim = claimWaiting ∨ s.claim = claimAbandoned)
    (ht : s.claimTimer = some t0) (hd : t0 + s.getF .glbMgrTmo GLB_MGR_TMO.TIMEOUT * 250000 ≤ s.now) :
    Answers .claimTimerExpiry s (fun t => t.claim = claimLocal ∧ t.claimTimer = none ∧ t.irqPend 300 = true) := by
  have hdue : s.claimDue = true := by simp [State.claimDue, ht, hd]
  exact answers_eq exec_claimTimerExpiry hu (if_pos (by rw [claimOpen_iff.2 ho, hdue]; rfl)) kept_claimExpired
    ⟨claimExpired_claim, claimExpired_claimTimer, irqEvent_pend _ (by decide)⟩

theorem mgrTmoWrite_writes (ha : s.accepts q .glbMgrTmo = true) (v : Word32) :
    Answers (.mgrTmoWrite q v) s (fun t =>
      t.getF .glbMgrTmo GLB_MGR_TMO.TIMEOUT = GLB_MGR_TMO.TIMEOUT.get (v.setWidth 64) ∧
      OnlyRegs s t [(Reg.glbMgrTmo).addr]) := by
  refine answers_gate rfl ha (plainWrite_of_no_w1c (by decide) _) ⟨rfl, rfl⟩ ⟨?_, onlyRegs_wr _⟩
  rw [State.getF, rd_wr_same]
  exact (Fld.get_put_same _ _ _ rfl).trans (Nat.mod_mod _ _)

end

/-- Settles O31: each command by its row of Table 4 in the state of the claim, and every other one by `IGN` alone. -/
theorem managerClaim : Obligations.ManagerClaim := by
  intro s q ha
  refine ⟨fun _ hm h0 ht ho => mgrClaim_takes ha hm h0 ht ho, fun _ hm h0 ht hl => mgrClaim_asks ha hm h0 ht hl,
    fun _ hq h => mgrClaim_ignored ha hq h, fun hm hh => mgrRelease_frees ha hm hh,
    fun _ hq hs => mgrClaim_standby ha hq hs, fun hp hq hl hr => ?_, fun _ hq hr => ?_,
    fun _ ho ht hd => claimTimerExpiry_local (accepts_up ha) ho ht hd, fun v ha => mgrTmoWrite_writes ha v⟩
  · exact ⟨localRelease_hands ha hq hp hl hr, localDecline_drops ha hq hp hl hr⟩
  · exact ⟨localRelease_ignored ha hq hr, localDecline_ignored ha hq hr⟩

end Sys2Proof.Machine
end

section
/-!
Links of upstream ports: training, loss of link, hot reset, L2/L3 Ready (R74 to R77, R97, R499).
-/
namespace Sys2Proof.Machine

/-- The addresses of the two registers of a link, and of its status alone. -/
def linkAddr (p a : Nat) : Prop := a = (Reg.glbHpCtl p).addr ∨ a = (Reg.glbHpSts p).addr
def stsAddr (p a : Nat) : Prop := a = (Reg.glbHpSts p).addr

theorem glbHpCtl_ne_glbHpSts (p : Nat) : (Reg.glbHpCtl p).addr ≠ (Reg.glbHpSts p).addr := by
  show 0x500 + p * 0x20 ≠ 0x504 + p * 0x20
  omega

theorem glbMgrSts_not_linkAddr (p : Nat) : ¬ linkAddr p (Reg.glbMgrSts).addr := by
  show ¬ (0x414 = 0x500 + p * 0x20 ∨ 0x414 = 0x504 + p * 0x20)
  omega

section
variable {s t u : State} {A : Nat → Prop} {p l : Nat}

/-! ## What moves of a link leave unchanged -/

/-- From `s` to `t` the link has moved: registers at addresses in `A` change, and neither functions nor contexts. -/
structure LinkMoves (A : Nat → Prop) (s t : State) : Prop where
  leaves : Leaves A s t
  kept : Kept s t
  funcs : t.funcs = s.funcs
  ctxs : t.ctxs = s.ctxs

theorem LinkMoves.refl (A : Nat → Prop) (s : State) : LinkMoves A s s := ⟨.refl s, .refl s, rfl, rfl⟩
theorem LinkMoves.trans (h : LinkMoves A s t) (k : LinkMoves A t u) : LinkMoves A s u :=
  ⟨h.leaves.trans k.leaves, h.kept.trans k.kept, k.funcs.trans h.funcs, k.ctxs.trans h.ctxs⟩
theorem LinkMoves.ite {c : Prop} [Decidable c] (h : LinkMoves A s t) (k : LinkMoves A s u) :
    LinkMoves A s (if c then t else u) := by
  split
  · exact h
  · exact k
theorem LinkMoves.of_sts (h : LinkMoves (stsAddr p) s t) : LinkMoves (linkAddr p) s t :=
  ⟨h.leaves.mono fun _ ha => .inr ha, h.kept, h.funcs, h.ctxs⟩

theorem linkMoves_setF (s : State) {r : Reg} (h : A r.addr) (f : Fld) (x : Nat) : LinkMoves A s (s.setF r f x) :=
  ⟨leaves_setF s h f x, ⟨rfl, rfl⟩, rfl, rfl⟩
theorem linkMoves_set1 (s : State) {r : Reg} (h : A r.addr) (f : Fld) : LinkMoves A s (s.set1 r f) :=
  ⟨leaves_set1 s h f, ⟨rfl, rfl⟩, rfl, rfl⟩
theorem linkMoves_sts (s : State) (p : Nat) (f : Fld) (x : Nat) : LinkMoves (stsAddr p) s (s.setF (.glbHpSts p) f x) :=
  linkMoves_setF (A := stsAddr p) s rfl f x
theorem linkMoves_sts1 (s : State) (p : Nat) (f : Fld) : LinkMoves (stsAddr p) s (s.set1 (.glbHpSts p) f) :=
  linkMoves_set1 (A := stsAddr p) s rfl f
theorem linkMoves_modHp (s : State) (k : Nat) (g : Hp → Hp) : LinkMoves A s (s.modHp k g) :=
  ⟨.of_eq rfl rfl, ⟨rfl, rfl⟩, rfl, rfl⟩
theorem linkMoves_takeSris (s : State) (k : Nat) : LinkMoves A s (s.takeSris k) := linkMoves_modHp s k _
theorem linkMoves_emit (s : State) (o : Output) : LinkMoves A s (s.emit o) := ⟨.of_eq rfl rfl, ⟨rfl, rfl⟩, rfl, rfl⟩
theorem linkMoves_claimKick (s : State) (k : Nat) : LinkMoves A s (s.claimKick k) :=
  .ite ⟨.of_eq rfl rfl, ⟨rfl, rfl⟩, rfl, rfl⟩ (.refl A s)

theorem LinkMoves.now (h : LinkMoves A s t) : t.now = s.now := by rw [State.now, h.kept.1, State.now]
theorem LinkMoves.mgrPort (h : LinkMoves A s t) : t.mgrPort = s.mgrPort := by rw [State.mgrPort, h.kept.1, State.mgrPort]
theorem LinkMoves.claimOpen (h : LinkMoves (linkAddr p) s t) : t.claimOpen = s.claimOpen := by
  rw [State.claimOpen, State.claim, h.leaves.getF (glbMgrSts_not_linkAddr p), State.claimOpen, State.claim]
theorem LinkMoves.keepsRegs (h : LinkMoves (linkAddr p) s t) :
    KeepsRegs s t [(Reg.glbHpCtl p).addr, (Reg.glbHpSts p).addr] :=
  fun r hr => h.leaves.1 r (by simpa [linkAddr] using hr)
theorem LinkMoves.keepsRegs_sts (h : LinkMoves (stsAddr p) s t) : KeepsRegs s t [(Reg.glbHpSts p).addr] :=
  fun r hr => h.leaves.1 r (by simpa [stsAddr] using hr)

/-- Moves that change the status alone leave the control register as it reads. -/
theorem LinkMoves.ctl (h : LinkMoves (stsAddr p) s t) (f : Fld) :
    t.getF (.glbHpCtl p) f = s.getF (.glbHpCtl p) f := h.leaves.getF (glbHpCtl_ne_glbHpSts p) f

theorem modHp_getF (s : State) (k : Nat) (g : Hp → Hp) (r : Reg) (f : Fld) : (s.modHp k g).getF r f = s.getF r f := rfl

theorem takeSris_getF (s : State) (k : Nat) (r : Reg) (f : Fld) : (s.takeSris k).getF r f = s.getF r f := rfl
theorem emit_getF (s : State) (o : Output) (r : Reg) (f : Fld) : (s.emit o).getF r f = s.getF r f := rfl
theorem emit_hp (s : State) (o : Output) (k : Nat) : (s.emit o).hp k = s.hp k := rfl
theorem setF_hp (s : State) (r : Reg) (f : Fld) (x k : Nat) : (s.setF r f x).hp k = s.hp k := rfl
theorem set1_hp (s : State) (r : Reg) (f : Fld) (k : Nat) : (s.set1 r f).hp k = s.hp k := rfl
theorem modHp_same (s : State) (k : Nat) (g : Hp → Hp) : (s.modHp k g).hp k = g (s.hp k) := setHp_same _ _ _

/-- The state with other records of links, another claim timer and other outputs. -/
def State.withLinks (s : State) (h : FMap Hp) (c : Option Nat) (o : List Output) : State :=
  { s with hps := h, claimTimer := c, out := o }

theorem setF_withLinks (s : State) (h : FMap Hp) (c : Option Nat) (o : List Output) (r : Reg) (f : Fld) (x : Nat) :
    (s.withLinks h c o).setF r f x = (s.setF r f x).withLinks h c o := rfl
theorem set1_withLinks (s : State) (h : FMap Hp) (c : Option Nat) (o : List Output) (r : Reg) (f : Fld) :
    (s.withLinks h c o).set1 r f = (s.set1 r f).withLinks h c o := rfl
theorem modHp_eq (s : State) (k : Nat) (g : Hp → Hp) : ∃ h, s.modHp k g = s.withLinks h s.claimTimer s.out := ⟨_, rfl⟩

/-- Changes of registers stay such where the links' records, the claim timer and the outputs are put back. -/
theorem OnlyRegs.withLinks {l : List Nat} (h : OnlyRegs s t l) : OnlyRegs s (t.withLinks s.hps s.claimTimer s.out) l := by
  obtain ⟨hr, ht⟩ := h
  exact ⟨hr, congrArg (fun x => x.withLinks s.hps s.claimTimer s.out) ht⟩

theorem OnlyRegs.linksBack {l : List Nat} {h : FMap Hp} {c : Option Nat} (k : OnlyRegs s t l) :
    OnlyRegs s { t.withLinks h c s.out with claimTimer := s.claimTimer, hps := s.hps } l := k.withLinks
theorem OnlyRegs.outBack {l : List Nat} {h : FMap Hp} {o : List Output} (k : OnlyRegs s t l) :
    OnlyRegs s { t.withLinks h s.claimTimer o with hps := s.hps, out := s.out } l := k.withLinks

theorem onlyRegs_set1 (s : State) (r : Reg) (f : Fld) : OnlyRegs s (s.set1 r f) [r.addr] := 
  ⟨(onlyRegs_setF s r f 1).1, (onlyRegs_setF s r f 1).2⟩

/-! ## Link down -/

section
variable (s p l)

theorem linkOff_ltssm (hl : l < 32) : (s.linkOff p l).getF (.glbHpSts p) GLB_HP_STS.LTSSM = l := by
  rw [State.linkOff, getF_setF_apart _ _ _ _ _ rfl rfl, getF_setF_apart _ _ _ _ _ rfl rfl,
    getF_setF_apart _ _ _ _ _ rfl rfl, getF_setF_same _ _ _ _ rfl]
  exact Nat.mod_eq_of_lt hl

theorem linkOff_dlUp : (s.linkOff p l).dlUp p = false := by
  rw [State.dlUp, State.flag, State.linkOff, getF_setF_apart _ _ _ _ _ rfl rfl, getF_setF_apart _ _ _ _ _ rfl rfl,
    getF_setF_same _ _ _ _ rfl]
  rfl

theorem linkOff_claimTimer : (s.linkOff p l).claimTimer = s.claimTimer := by
  rw [State.linkOff, setF_claimTimer, setF_claimTimer, setF_claimTimer, setF_claimTimer]

theorem linkMoves_linkOff : LinkMoves (stsAddr p) s (s.linkOff p l) :=
  (((linkMoves_sts s p _ _).trans (linkMoves_sts _ p _ _)).trans (linkMoves_sts _ p _ _)).trans (linkMoves_sts _ p _ _)

/-- The link goes down in a port function reset: `FRC` and `LDC` show it and the count rises (R97). -/
def State.linkLost : State :=
  ((((s.linkOff p l).modHp p (fun h => { h with turnOff := false })).set1 (.glbHpSts p) GLB_HP_STS.FRC).set1 (.glbHpSts p)
    GLB_HP_STS.LDC).satF (.glbHpSts p) GLB_HP_STS.LDOWN_CNT 1

/-- A field of the status that neither `FRC`, `LDC` nor the count is. -/
theorem linkLost_getF {f : Fld} (h0 : f.apart GLB_HP_STS.LDOWN_CNT = true) (h1 : f.apart GLB_HP_STS.LDC = true)
    (h2 : f.apart GLB_HP_STS.FRC = true) :
    (s.linkLost p l).getF (.glbHpSts p) f = (s.linkOff p l).getF (.glbHpSts p) f := by
  rw [State.linkLost, State.satF, getF_setF_apart _ _ _ _ _ rfl h0, set1_getF_apart _ _ rfl h1,
    set1_getF_apart _ _ rfl h2, modHp_getF]

theorem linkLost_ltssm (hl : l < 32) : (s.linkLost p l).getF (.glbHpSts p) GLB_HP_STS.LTSSM = l :=
  (linkLost_getF s p l rfl rfl rfl).trans (linkOff_ltssm s p l hl)
theorem linkLost_dlUp : (s.linkLost p l).dlUp p = false := by
  rw [State.dlUp, State.flag, linkLost_getF s p l rfl rfl rfl]
  exact linkOff_dlUp s p l
theorem linkLost_ldc : (s.linkLost p l).flag (.glbHpSts p) GLB_HP_STS.LDC = true := by
  rw [State.linkLost, State.satF, State.flag, getF_setF_apart _ _ _ _ _ rfl rfl]
  exact set1_flag_same rfl
theorem linkLost_frc : (s.linkLost p l).flag (.glbHpSts p) GLB_HP_STS.FRC = true := by
  rw [State.linkLost, State.satF, State.flag, getF_setF_apart _ _ _ _ _ rfl rfl, set1_getF_apart _ _ rfl rfl]
  exact set1_flag_same rfl

theorem linkLost_lnkCtl2 : ((s.linkLost p l).hp p).lnkCtl2 = (s.hp p).lnkCtl2 := by
  rw [State.linkLost, State.satF, setF_hp, set1_hp, set1_hp, modHp_same, State.linkOff, setF_hp, setF_hp, setF_hp, setF_hp]

theorem linkMoves_linkLost : LinkMoves (stsAddr p) s (s.linkLost p l) :=
  ((((linkMoves_linkOff s p l).trans (linkMoves_modHp _ p _)).trans (linkMoves_sts1 _ p _)).trans
    (linkMoves_sts1 _ p _)).trans (linkMoves_sts _ p _ _)

/-! ## Function resets (R97, R98) -/

variable (fns : Nat → Bool)

/-- A key of the configuration spaces that the reset covers. -/
def keyCovered (k : Nat) : Bool := k / 64 == p && fns (k % 64)

/-- The state with the functions' own part of a reset done. -/
def State.funcsCleared : State := { s with
  funcs := s.funcs.filter (fun q => !(keyCovered p fns q.1)),
  vecs := s.vecs.filter (fun q => !(keyCovered p fns (q.1 / 2048))),
  atc := s.atc.filter (fun a => !(a.port == p && fns a.func)),
  invals := s.invals.filter (fun v => !(v.1 == p && fns v.2.1)) }

end

/-- A map without the keys that `c` names. -/
theorem FMap.find_filter_not {α : Type} (d : α) (c : Nat → Bool) (k : Nat) (m : FMap α) :
    FMap.find d k (m.filter (fun q => !(c q.1))) = if c k then d else FMap.find d k m := by
  induction m with
  | nil => simp
  | cons q m ih =>
    obtain ⟨j, a⟩ := q
    by_cases hj : j = k
    · subst hj
      cases hc : c j <;> simp_all [FMap.find]
    · cases hc : c j <;> simp_all [FMap.find]

theorem funcsCleared_func (fns : Nat → Bool) (k : Nat) :
    (s.funcsCleared p fns).func k = if keyCovered p fns k then Func.init else s.func k :=
  FMap.find_filter_not Func.init (keyCovered p fns) k s.funcs

theorem keyCovered_fKey (fns : Nat → Bool) {fn : Nat} (hf : fn < 64) : keyCovered p fns (fKey p fn) = fns fn := by
  have hd : fKey p fn / 64 = p := by unfold fKey; omega
  have hm : fKey p fn % 64 = fn := by unfold fKey; omega
  simp [keyCovered, hd, hm]

/-- Steps that leave the state alone, in a loop. -/
theorem forN_id {f : Nat → State → State} {n : Nat} (h : ∀ i, i < n → f i s = s) : forN n f s = s := by
  induction n with
  | zero => rfl
  | succ n ih =>
    rw [forN, List.range_succ, List.foldl_append]
    exact (congrArg (f n) (ih fun i hi => h i (by omega))).trans (h n (by omega))

/-- No slice is bound to the functions: the reset is theirs alone. -/
theorem funcsReset_free (fns : Nat → Bool) (h : ∀ i, i < 256 → s.resetCovers p fns i = false) :
    s.funcsReset p fns = s.funcsCleared p fns :=
  forN_id (s := s.funcsCleared p fns) fun i hi => if_neg (ne_true_of_eq_false (h i hi))

/-- In LOCAL, without a request for the claim, a function reset leaves the claim. -/
theorem claimLost_local (hl : s.claim = claimLocal) (hr : s.flag .glbMgrSts GLB_MGR_STS.HREQ = false) : s.claimLost = s := by
  have hh : s.hreq = false := by rw [State.hreq, hr, Bool.and_false]
  rw [State.claimLost, if_neg (by rw [hl]; decide), if_neg (ne_true_of_eq_false hh)]

/-- What a port function reset of a port to which no slice is bound leaves. -/
theorem portFunctionReset_free (hfree : ∀ i, i < 256 → s.resetCovers p (fun _ => true) i = false) (hl : s.claim = claimLocal)
    (hr : s.flag .glbMgrSts GLB_MGR_STS.HREQ = false) (l : Nat) :
    s.portFunctionReset p l = (s.funcsCleared p (fun _ => true)).linkLost p l := by
  have hc : (s.funcsCleared p (fun _ => true)).claimLost = s.funcsCleared p (fun _ => true) := claimLost_local hl hr
  have hf : s.functionReset p (fun _ => true) = s.funcsCleared p (fun _ => true) := by
    rw [State.functionReset, funcsReset_free _ hfree, hc, ite_self]
  rw [State.portFunctionReset, hf]
  rfl

/-- Moves of the link after the functions are cleared. -/
theorem LinkMoves.cleared_func (h : LinkMoves A (s.funcsCleared p (fun _ => true)) t) {fn : Nat} (hf : fn < 64) :
    t.func (fKey p fn) = Func.init := by
  rw [State.func, h.funcs]
  exact (funcsCleared_func _ _).trans (if_pos (keyCovered_fKey _ hf))
theorem LinkMoves.cleared_kept {fns : Nat → Bool} (h : LinkMoves A (s.funcsCleared p fns) t) : Kept s t :=
  Kept.trans ⟨rfl, rfl⟩ h.kept

/-! ## Polling.Compliance (R499) -/

theorem toPolling_plain (h : (s.hp p).lnkCtl2.testBit 4 = false) : s.toPolling p = s :=
  if_neg fun hc => Bool.false_ne_true (h.symm.trans hc.1)

theorem linkMoves_toPolling (s : State) (p : Nat) : LinkMoves (stsAddr p) s (s.toPolling p) :=
  .ite (((linkMoves_takeSris s p).trans (linkMoves_sts _ p _ _)).trans (linkMoves_emit _ _)) (.refl _ s)

/-- It shows in the link state alone. -/
theorem toPolling_getF (s : State) (p : Nat) {f : Fld} (h : f.apart GLB_HP_STS.LTSSM = true) :
    (s.toPolling p).getF (.glbHpSts p) f = s.getF (.glbHpSts p) f := by
  rw [State.toPolling]
  split
  · exact getF_setF_apart (s.takeSris p) _ _ _ _ rfl h
  · rfl

section
variable (hb : (s.hp p).lnkCtl2.testBit 4 = true) (hl : s.lte p = true)
include hb hl

theorem toPolling_out : (s.toPolling p).out = .compliance p ((s.hp p).lnkCtl2.testBit 10)
    (min ((s.hp p).lnkCtl2 % 16) (s.maxSpeed p)) ((s.hp p).lnkCtl2 / 128) :: s.out := by
  rw [State.toPolling]
  rw [if_pos ⟨hb, hl⟩]
  rfl
theorem toPolling_ltssm : (s.toPolling p).getF (.glbHpSts p) GLB_HP_STS.LTSSM = ltPolling := by
  rw [State.toPolling]
  rw [if_pos ⟨hb, hl⟩]
  exact getF_setF_same (s.takeSris p) _ _ _ rfl

end

theorem exec_linkDown (s : State) (p : Nat) : exec (.linkDown p) s = onDevice (fun s =>
    if s.present p && s.dlUp p then ((s.portFunctionReset p ltDetect).takeSris p).toPolling p else s) s := rfl

theorem exec_hotReset (s : State) (p : Nat) (disabled : Bool) : exec (.hotResetReceived p disabled) s = onDevice (fun s =>
    if s.present p && s.lte p then
      if disabled then s.portFunctionReset p ltDisabled else (s.portFunctionReset p ltHotReset).toPolling p
    else s) s := rfl

/-! ## Loss of link, hot reset, loopback (R97) -/

section
variable (hu : s.up = true) (hp : s.present p = true) (hfree : ∀ i, i < 256 → s.resetCovers p (fun _ => true) i = false)
  (hl : s.claim = claimLocal) (hr : s.flag .glbMgrSts GLB_MGR_STS.HREQ = false)
include hu hp hfree hl hr

theorem linkDown_resets (hd : s.dlUp p = true) :
    Answers (.linkDown p) s (fun t => t.dlUp p = false ∧ t.flag (.glbHpSts p) GLB_HP_STS.FRC = true ∧
      t.flag (.glbHpSts p) GLB_HP_STS.LDC = true ∧ (∀ fn, fn < 64 → t.func (fKey p fn) = Func.init) ∧
      t.ctxs = s.ctxs ∧ KeepsRegs s t [(Reg.glbHpSts p).addr]) := by
  have m := ((linkMoves_linkLost (s.funcsCleared p fun _ => true) p ltDetect).trans (linkMoves_takeSris _ p)).trans
    (linkMoves_toPolling _ p)
  refine answers_eq (exec_linkDown s p) hu ((if_pos (by rw [hp, hd]; rfl)).trans
    (congrArg (fun t => (t.takeSris p).toPolling p) (portFunctionReset_free hfree hl hr ltDetect))) m.cleared_kept
    ⟨?_, ?_, ?_, fun fn hf => m.cleared_func hf, m.ctxs, m.keepsRegs_sts⟩
  · rw [State.dlUp, State.flag, toPolling_getF _ _ rfl, takeSris_getF]
    exact linkLost_dlUp _ _ _
  · rw [State.flag, toPolling_getF _ _ rfl, takeSris_getF]
    exact linkLost_frc _ _ _
  · rw [State.flag, toPolling_getF _ _ rfl, takeSris_getF]
    exact linkLost_ldc _ _ _

theorem hotReset_resets (hlte : s.lte p = true) (hb : (s.hp p).lnkCtl2.testBit 4 = false) :
    Answers (.hotResetReceived p false) s (fun t => t.getF (.glbHpSts p) GLB_HP_STS.LTSSM = 9 ∧
      t.flag (.glbHpSts p) GLB_HP_STS.FRC = true ∧ (∀ fn, fn < 64 → t.func (fKey p fn) = Func.init) ∧
      KeepsRegs s t [(Reg.glbHpSts p).addr]) := by
  have m := linkMoves_linkLost (s.funcsCleared p fun _ => true) p ltHotReset
  have hb' : (((s.funcsCleared p fun _ => true).linkLost p ltHotReset).hp p).lnkCtl2.testBit 4 = false := by
    rw [linkLost_lnkCtl2]
    exact hb
  refine answers_eq (exec_hotReset s p false) hu ((if_pos (by rw [hp, hlte]; rfl)).trans
    ((if_neg Bool.false_ne_true).trans ((congrArg (·.toPolling p) (portFunctionReset_free hfree hl hr _)).trans
      (toPolling_plain hb')))) m.cleared_kept
    ⟨linkLost_ltssm _ _ _ (by decide), linkLost_frc _ _ _, fun fn hf => m.cleared_func hf, m.keepsRegs_sts⟩

theorem hotReset_disables (hlte : s.lte p = true) :
    Answers (.hotResetReceived p true) s (fun t => t.getF (.glbHpSts p) GLB_HP_STS.LTSSM = 7 ∧
      t.flag (.glbHpSts p) GLB_HP_STS.FRC = true) :=
  answers_eq (exec_hotReset s p true) hu
    ((if_pos (by rw [hp, hlte]; rfl)).trans ((if_pos rfl).trans (portFunctionReset_free hfree hl hr ltDisabled)))
    (linkMoves_linkLost _ p _).cleared_kept ⟨linkLost_ltssm _ _ _ (by decide), linkLost_frc _ _ _⟩

theorem routerLoopback_resets (hlte : s.lte p = true) :
    Answers (.routerLoopbackEntry p) s (fun t => t.getF (.glbHpSts p) GLB_HP_STS.LTSSM = 8 ∧
      t.flag (.glbHpSts p) GLB_HP_STS.FRC = true) :=
  answers_eq rfl hu ((if_pos (by rw [hp, hlte]; rfl)).trans (portFunctionReset_free hfree hl hr ltLoopback))
    (linkMoves_linkLost _ p _).cleared_kept ⟨linkLost_ltssm _ _ _ (by decide), linkLost_frc _ _ _⟩

end

/-! ## L2/L3 Ready (R77) -/

section
variable (hu : s.up = true) (hp : s.present p = true) (hd : s.dlUp p = true)
include hu hp hd

/-- A port with a PME_Turn_Off to answer. -/
def State.turningOff (s : State) (p : Nat) : State := s.modHp p (fun h => { h with turnOff := true })

omit hu hp hd in
theorem turningOff_turnOff (s : State) (p : Nat) : ((s.turningOff p).hp p).turnOff = true := by
  rw [State.turningOff, State.modHp, setHp_same]

omit hu hp hd in
theorem turningOff_issuedPort (s : State) (p : Nat) : (s.turningOff p).issuedPort p = s.issuedPort p := rfl
omit hu hp hd in
theorem turningOff_writesOut (s : State) (p : Nat) :
    (s.turningOff p).writes.any (fun w => w.issued && !((s.turningOff p).inSram w.slice) &&
      (s.turningOff p).slPort w.slice == p) =
    s.writes.any (fun w => w.issued && !(s.inSram w.slice) && s.slPort w.slice == p) := rfl

theorem pmeTurnOff_waits (hi : s.issuedPort p ≠ 0) :
    Answers (.pmeTurnOff p) s (fun t => t.out = s.out ∧ (t.hp p).turnOff = true ∧ t.regs = s.regs) := by
  have hw : (s.turningOff p).pmeAck p = s.turningOff p := if_neg (by
    rw [turningOff_issuedPort, beq_false_of_ne hi, Bool.and_false, Bool.false_and]
    exact Bool.false_ne_true)
  exact answers_eq rfl hu ((if_pos (by rw [hp, hd]; rfl)).trans hw) ⟨rfl, rfl⟩ ⟨rfl, turningOff_turnOff s p, rfl⟩

/-- The state after the answer to PME_Turn_Off. -/
def State.turnedOff (s : State) (p : Nat) : State :=
  (((s.turningOff p).modHp p (fun h => { h with turnOff := false })).setF (.glbHpSts p) GLB_HP_STS.LTSSM ltL2).emit
    (.pmeToAck p)

omit hu hp hd in
theorem linkMoves_turnedOff (s : State) (p : Nat) : LinkMoves (stsAddr p) s (s.turnedOff p) :=
  (((linkMoves_modHp s p _).trans (linkMoves_modHp _ p _)).trans (linkMoves_sts _ p _ _)).trans (linkMoves_emit _ _)

omit hu hp hd in
theorem turnedOff_eq (s : State) (p : Nat) :
    ∃ h o, s.turnedOff p = (s.setF (.glbHpSts p) GLB_HP_STS.LTSSM ltL2).withLinks h s.claimTimer o := by
  obtain ⟨g, hg⟩ := modHp_eq s p (fun h => { h with turnOff := true })
  obtain ⟨h, hh⟩ := modHp_eq (s.turningOff p) p (fun h => { h with turnOff := false })
  refine ⟨h, .pmeToAck p :: s.out, ?_⟩
  rw [State.turnedOff, hh, setF_withLinks, State.turningOff, hg, setF_withLinks]
  rfl

theorem pmeTurnOff_answers (hi : s.issuedPort p = 0)
    (hw : ∀ w ∈ s.writes, w.issued = false ∨ s.inSram w.slice = true ∨ s.slPort w.slice ≠ p) :
    Answers (.pmeTurnOff p) s (fun t => t.out = .pmeToAck p :: s.out ∧ (t.hp p).turnOff = false ∧
      t.getF (.glbHpSts p) GLB_HP_STS.LTSSM = ltL2 ∧ OnlyRegs s { t with hps := s.hps, out := s.out }
        [(Reg.glbHpSts p).addr]) := by
  have hany : s.writes.any (fun w => w.issued && !(s.inSram w.slice) && s.slPort w.slice == p) = false := by
    refine List.any_eq_false.2 fun w hm => ?_
    rcases hw w hm with h | h | h <;> simp [h]
  have ha : (s.turningOff p).pmeAck p = s.turnedOff p := if_pos (by
    rw [turningOff_turnOff, turningOff_issuedPort, hi, turningOff_writesOut, hany]
    rfl)
  refine answers_eq rfl hu ((if_pos (by rw [hp, hd]; rfl)).trans ha) (linkMoves_turnedOff s p).kept
    ⟨rfl, ?_, ?_, ?_⟩
  · rw [State.turnedOff, emit_hp, setF_hp, modHp_same]
  · rw [State.turnedOff, emit_getF, getF_setF_same _ _ _ _ rfl]
    rfl
  · obtain ⟨h, o, e⟩ := turnedOff_eq s p
    rw [e]
    have k := onlyRegs_setF s (.glbHpSts p) GLB_HP_STS.LTSSM ltL2
    exact k.outBack

end

/-! ## Links that come up (R74, R75) -/

/-- The port takes `SRIS` where its link, last in state `l`, has passed Detect. -/
def State.fromDetect (s : State) (p l : Nat) : State :=
  if !(s.dlUp p) && (l == ltL2 || l == ltDisabled || l == ltLoopback || l == ltHotReset) then s.takeSris p else s

/-- The highest speed that the port takes now. -/
def State.topSpeed (s : State) (p : Nat) : Nat := if (s.hp p).held16 then min 4 (s.maxSpeed p) else s.maxSpeed p

/-- The status of a link in L0. -/
def State.inL0 (s : State) (p speed width : Nat) : State :=
  (((s.setF (.glbHpSts p) GLB_HP_STS.SPEED speed).setF (.glbHpSts p) GLB_HP_STS.WIDTH width).setF (.glbHpSts p)
    GLB_HP_STS.LTSSM ltL0).set1 (.glbHpSts p) GLB_HP_STS.DL_UP

/-- The state after training that ends in L0, of a link last in state `l`. -/
def State.trained (s : State) (p l speed width : Nat) : State :=
  let t := (s.fromDetect p l).inL0 p (min speed ((s.fromDetect p l).topSpeed p)) width
  if !(s.dlUp p) then t.claimKick p else t

/-- The instruction, where no equalisation has failed. -/
theorem exec_dlUp (s : State) (p speed width : Nat) : exec (.dlUp p speed width false) s = onDevice (fun s =>
    if s.present p && s.lte p && s.widthOk width && decide (1 ≤ speed) then
      (if s.dlUp p && s.getF (.glbHpSts p) GLB_HP_STS.LTSSM == ltL2 then s.portFunctionReset p ltDetect else s).trained p
        (s.getF (.glbHpSts p) GLB_HP_STS.LTSSM) speed width
    else s) s := rfl

section
variable (s p l) {speed width : Nat}

theorem inL0_dlUp : (s.inL0 p speed width).dlUp p = true := set1_flag_same rfl
theorem inL0_ltssm : (s.inL0 p speed width).getF (.glbHpSts p) GLB_HP_STS.LTSSM = 3 := by
  rw [State.inL0, set1_getF_apart _ _ rfl rfl, getF_setF_same _ _ _ _ rfl]
  rfl
theorem inL0_speed (h : speed < 8) : (s.inL0 p speed width).getF (.glbHpSts p) GLB_HP_STS.SPEED = speed := by
  rw [State.inL0, set1_getF_apart _ _ rfl rfl, getF_setF_apart _ _ _ _ _ rfl rfl, getF_setF_apart _ _ _ _ _ rfl rfl,
    getF_setF_same _ _ _ _ rfl]
  exact Nat.mod_eq_of_lt h
theorem inL0_hp (k : Nat) : (s.inL0 p speed width).hp k = s.hp k := by
  rw [State.inL0, set1_hp, setF_hp, setF_hp, setF_hp]
theorem linkMoves_inL0 : LinkMoves (stsAddr p) s (s.inL0 p speed width) :=
  (((linkMoves_sts s p _ _).trans (linkMoves_sts _ p _ _)).trans (linkMoves_sts _ p _ _)).trans (linkMoves_sts1 _ p _)
theorem onlyRegs_inL0 : OnlyRegs s (s.inL0 p speed width) [(Reg.glbHpSts p).addr] :=
  (((onlyRegs_setF s _ _ _).trans (onlyRegs_setF _ _ _ _)).trans (onlyRegs_setF _ _ _ _)).trans (onlyRegs_set1 _ _ _)
theorem inL0_withLinks (h : FMap Hp) (c : Option Nat) (o : List Output) :
    (s.withLinks h c o).inL0 p speed width = (s.inL0 p speed width).withLinks h c o := by
  rw [State.inL0, setF_withLinks, setF_withLinks, setF_withLinks, set1_withLinks, State.inL0]

theorem claimKick_getF (r : Reg) (f : Fld) : (s.claimKick p).getF r f = s.getF r f := by
  unfold State.claimKick
  split <;> rfl
theorem claimKick_hp (k : Nat) : (s.claimKick p).hp k = s.hp k := by
  unfold State.claimKick
  split <;> rfl
theorem claimKick_out : (s.claimKick p).out = s.out := by
  unfold State.claimKick
  split <;> rfl
theorem claimKick_eq (h : FMap Hp) (c : Option Nat) (o : List Output) :
    ∃ d, (s.withLinks h c o).claimKick p = s.withLinks h d o := by
  unfold State.claimKick
  split
  · exact ⟨some s.now, rfl⟩
  · exact ⟨c, rfl⟩
theorem claimKick_claimTimer (hm : s.mgrPort = p) (ho : s.claimOpen = true) :
    (s.claimKick p).claimTimer = some s.now := by
  rw [State.claimKick, if_pos ⟨hm, ho⟩]
  rfl

theorem takeSris_eq : ∃ h, s.takeSris p = s.withLinks h s.claimTimer s.out := modHp_eq s p _
theorem takeSris_hp : (s.takeSris p).hp p = { s.hp p with sris := s.flag (.glbHpCtl p) GLB_HP_CTL.SRIS } := modHp_same _ _ _

theorem fromDetect_eq : ∃ h, s.fromDetect p l = s.withLinks h s.claimTimer s.out := by
  unfold State.fromDetect
  split
  · exact takeSris_eq s p
  · exact ⟨s.hps, rfl⟩
theorem fromDetect_held16 : ((s.fromDetect p l).hp p).held16 = (s.hp p).held16 := by
  unfold State.fromDetect
  split
  · rw [takeSris_hp]
  · rfl
theorem fromDetect_getF (r : Reg) (f : Fld) : (s.fromDetect p l).getF r f = s.getF r f := by
  obtain ⟨h, e⟩ := fromDetect_eq s p l
  rw [e]
  rfl
theorem fromDetect_sris (hd : s.dlUp p = false) (h6 : 6 ≤ l) (h10 : l < 10) :
    ((s.fromDetect p l).hp p).sris = s.flag (.glbHpCtl p) GLB_HP_CTL.SRIS := by
  rw [State.fromDetect, hd, if_pos (by interval_cases l <;> rfl), takeSris_hp]
theorem fromDetect_topSpeed : (s.fromDetect p l).topSpeed p = s.topSpeed p := by
  rw [State.topSpeed, fromDetect_held16, State.maxSpeed, fromDetect_getF, State.topSpeed, State.maxSpeed]
theorem linkMoves_fromDetect : LinkMoves (stsAddr p) s (s.fromDetect p l) := .ite (linkMoves_takeSris s p) (.refl _ s)

theorem linkMoves_trained : LinkMoves (stsAddr p) s (s.trained p l speed width) :=
  have m := (linkMoves_fromDetect s p l).trans (linkMoves_inL0 (s.fromDetect p l) p)
  .ite (m.trans (linkMoves_claimKick _ p)) m

theorem trained_getF (r : Reg) (f : Fld) : (s.trained p l speed width).getF r f =
    ((s.fromDetect p l).inL0 p (min speed (s.topSpeed p)) width).getF r f := by
  rw [State.trained, fromDetect_topSpeed]
  split
  · exact claimKick_getF _ _ _ _
  · rfl
theorem trained_hp (k : Nat) : (s.trained p l speed width).hp k = (s.fromDetect p l).hp k := by
  unfold State.trained
  split
  · rw [claimKick_hp, inL0_hp]
  · rw [inL0_hp]
theorem trained_claimTimer (hd : s.dlUp p = false) (hm : s.mgrPort = p) (ho : s.claimOpen = true) :
    (s.trained p l speed width).claimTimer = some s.now := by
  have m := (linkMoves_fromDetect s p l).trans (linkMoves_inL0 (s.fromDetect p l) p
    (speed := min speed ((s.fromDetect p l).topSpeed p)) (width := width))
  rw [State.trained, hd, ← m.now]
  exact claimKick_claimTimer _ _ (m.mgrPort.trans hm) (m.of_sts.claimOpen.trans ho)
theorem trained_eq : ∃ h c, s.trained p l speed width = (s.inL0 p (min speed (s.topSpeed p)) width).withLinks h c s.out := by
  obtain ⟨h, e⟩ := fromDetect_eq s p l
  rw [State.trained, fromDetect_topSpeed, e, inL0_withLinks]
  split
  · exact ⟨h, claimKick_eq _ p h _ _⟩
  · exact ⟨h, s.claimTimer, rfl⟩

end

section
variable (hu : s.up = true) {speed width : Nat}
include hu

theorem dlUp_ignored (h : (s.present p && s.lte p && s.widthOk width && decide (1 ≤ speed)) = false) :
    exec (.dlUp p speed width false) s = .next s :=
  (exec_dlUp s p speed width).trans (onDevice_eq hu (if_neg (ne_true_of_eq_false h)) rfl rfl)

theorem dlUp_trains (hp : s.present p = true) (hl : s.lte p = true) (h1 : 1 ≤ speed) (h5 : speed ≤ 5)
    (hw : s.widthOk width = true) (hc : s.dlUp p = false ∨ s.getF (.glbHpSts p) GLB_HP_STS.LTSSM ≠ ltL2) :
    Answers (.dlUp p speed width false) s (fun t => t.dlUp p = true ∧ t.getF (.glbHpSts p) GLB_HP_STS.LTSSM = 3 ∧
      t.getF (.glbHpSts p) GLB_HP_STS.SPEED = min speed (s.topSpeed p) ∧
      (s.dlUp p = false → s.mgrPort = p → s.claimOpen = true → t.claimTimer = some s.now) ∧
      (t.hp p).held16 = (s.hp p).held16 ∧
      (s.dlUp p = false → 6 ≤ s.getF (.glbHpSts p) GLB_HP_STS.LTSSM → s.getF (.glbHpSts p) GLB_HP_STS.LTSSM < 10 →
        (t.hp p).sris = s.flag (.glbHpCtl p) GLB_HP_CTL.SRIS) ∧
      OnlyRegs s { t with claimTimer := s.claimTimer, hps := s.hps } [(Reg.glbHpSts p).addr]) := by
  have hcond : (s.present p && s.lte p && s.widthOk width && decide (1 ≤ speed)) = true := by simp [hp, hl, hw, h1]
  refine answers_eq (exec_dlUp s p speed width) hu (t := s.trained p (s.getF (.glbHpSts p) GLB_HP_STS.LTSSM) speed width) ?_
    (linkMoves_trained s p _).kept
    ⟨?_, ?_, ?_, trained_claimTimer s p _, ?_, ?_, ?_⟩
  · refine (if_pos hcond).trans ?_
    rw [if_neg (by rcases hc with h | h <;> simp [h])]
  · rw [State.dlUp, State.flag, trained_getF]
    exact inL0_dlUp _ _
  · rw [trained_getF, inL0_ltssm]
  · rw [trained_getF, inL0_speed]
    omega
  · rw [trained_hp, fromDetect_held16]
  · rw [trained_hp]
    exact fromDetect_sris s p _
  · obtain ⟨h, c, e⟩ := trained_eq s p (s.getF (.glbHpSts p) GLB_HP_STS.LTSSM) (speed := speed) (width := width)
    rw [e]
    have k := onlyRegs_inL0 s p (speed := min speed (s.topSpeed p)) (width := width)
    exact k.linksBack

end

/-! ## Writes to `GLB_HPp_CTL` (R74 to R76) -/

/-- `SRIS` and `MAX_SPEED` as a write of `v` leaves them. -/
def State.hpRates (s : State) (p : Nat) (v : Word64) : State :=
  (s.setF (.glbHpCtl p) GLB_HP_CTL.SRIS (GLB_HP_CTL.SRIS.get v)).setF (.glbHpCtl p) GLB_HP_CTL.MAX_SPEED
    (GLB_HP_CTL.MAX_SPEED.get v)

/-- A link told to train again, where `b` says so. -/
def State.retrainIf (s : State) (b : Bool) (p : Nat) : State := if b then s.retrain p else s

/-- A link that enters Detect to train, with 32 GT/s to be tried again. -/
def State.detecting (s : State) (p : Nat) : State :=
  ((((s.setF (.glbHpCtl p) GLB_HP_CTL.LTE 1).modHp p (fun h => { h with held16 := false })).takeSris p).setF (.glbHpSts p)
    GLB_HP_STS.LTSSM ltDetect).claimKick p

theorem linkMoves_ctl (s : State) (p : Nat) (f : Fld) (x : Nat) : LinkMoves (linkAddr p) s (s.setF (.glbHpCtl p) f x) :=
  linkMoves_setF (A := linkAddr p) s (.inl rfl) f x

section
variable (s p)

theorem linkMoves_hpRates (v : Word64) : LinkMoves (linkAddr p) s (s.hpRates p v) :=
  (linkMoves_ctl s p _ _).trans (linkMoves_ctl _ p _ _)

theorem hpRates_sts (v : Word64) (f : Fld) : (s.hpRates p v).getF (.glbHpSts p) f = s.getF (.glbHpSts p) f := by
  have hne := (glbHpCtl_ne_glbHpSts p).symm
  rw [State.hpRates, getF_setF_ne _ _ _ _ hne, getF_setF_ne _ _ _ _ hne]
theorem hpRates_lte (v : Word64) : (s.hpRates p v).lte p = s.lte p := by
  rw [State.lte, State.flag, State.hpRates, getF_setF_apart _ _ _ _ _ rfl rfl, getF_setF_apart _ _ _ _ _ rfl rfl,
    State.lte, State.flag]
theorem hpRates_hp (v : Word64) (k : Nat) : (s.hpRates p v).hp k = s.hp k := by
  rw [State.hpRates, setF_hp, setF_hp]
theorem hpRates_dlUp (v : Word64) : (s.hpRates p v).dlUp p = s.dlUp p := by
  rw [State.dlUp, State.flag, hpRates_sts, State.dlUp, State.flag]
theorem hpRates_maxSpeed {v : Word64} (h : GLB_HP_CTL.MAX_SPEED.get v = s.getF (.glbHpCtl p) GLB_HP_CTL.MAX_SPEED) :
    (s.hpRates p v).maxSpeed p = s.maxSpeed p := by
  have hlt : s.getF (.glbHpCtl p) GLB_HP_CTL.MAX_SPEED < 2 ^ GLB_HP_CTL.MAX_SPEED.width := Nat.mod_lt _ (by decide)
  rw [State.maxSpeed, State.hpRates, getF_setF_same _ _ _ _ rfl, h, Nat.mod_eq_of_lt hlt, State.maxSpeed]
theorem hpRates_out (v : Word64) : (s.hpRates p v).out = s.out := rfl
theorem hpRates_claimTimer (v : Word64) : (s.hpRates p v).claimTimer = s.claimTimer := rfl

theorem retrain_held16 : ((s.retrain p).hp p).held16 = false := by
  rw [State.retrain]
  split
  · rw [setF_hp, modHp_same]
  · rw [modHp_same]
theorem retrain_ltssm (h : s.getF (.glbHpSts p) GLB_HP_STS.LTSSM = ltL0) :
    (s.retrain p).getF (.glbHpSts p) GLB_HP_STS.LTSSM = 4 := by
  rw [State.retrain, modHp_getF, if_pos h, getF_setF_same _ _ _ _ rfl]
  rfl

theorem linkMoves_retrainIf (b : Bool) : LinkMoves (stsAddr p) s (s.retrainIf b p) :=
  .ite ((linkMoves_modHp s p _).trans (.ite (linkMoves_sts _ p _ _) (.refl _ _))) (.refl _ s)
theorem retrainIf_out (b : Bool) : (s.retrainIf b p).out = s.out := by
  unfold State.retrainIf State.retrain
  split
  · dsimp only
    split <;> rfl
  · rfl
theorem retrainIf_claimTimer (b : Bool) : (s.retrainIf b p).claimTimer = s.claimTimer := by
  unfold State.retrainIf State.retrain
  split
  · dsimp only
    split <;> rfl
  · rfl
theorem retrainIf_ltssm {b : Bool} (h : s.getF (.glbHpSts p) GLB_HP_STS.LTSSM ≠ ltL0) :
    (s.retrainIf b p).getF (.glbHpSts p) GLB_HP_STS.LTSSM = s.getF (.glbHpSts p) GLB_HP_STS.LTSSM := by
  unfold State.retrainIf
  split
  · rw [State.retrain, modHp_getF, if_neg h, modHp_getF]
  · rfl
theorem retrainIf_held16 {b : Bool} (h : (s.hp p).held16 = false) : ((s.retrainIf b p).hp p).held16 = false := by
  unfold State.retrainIf
  split
  · exact retrain_held16 s p
  · exact h

end

section
variable (s p)

theorem linkMoves_detecting : LinkMoves (linkAddr p) s (s.detecting p) :=
  ((((linkMoves_ctl s p _ _).trans (linkMoves_modHp _ p _)).trans (linkMoves_takeSris _ p)).trans
    (linkMoves_sts _ p _ _).of_sts).trans (linkMoves_claimKick _ p)
theorem detecting_lte : (s.detecting p).lte p = true := by
  rw [State.lte, State.flag, State.detecting, claimKick_getF, getF_setF_ne _ _ _ _ (glbHpCtl_ne_glbHpSts p), takeSris_getF,
    modHp_getF, getF_setF_same _ _ _ _ rfl]
  rfl
theorem detecting_ltssm : (s.detecting p).getF (.glbHpSts p) GLB_HP_STS.LTSSM = 0 := by
  rw [State.detecting, claimKick_getF, getF_setF_same _ _ _ _ rfl]
  rfl
theorem detecting_hp : (s.detecting p).hp p =
    { s.hp p with held16 := false, sris := s.flag (.glbHpCtl p) GLB_HP_CTL.SRIS } := by
  rw [State.detecting, claimKick_hp, setF_hp, takeSris_hp, modHp_same, setF_hp, State.flag, modHp_getF,
    getF_setF_apart _ _ _ _ _ rfl rfl, State.flag]
theorem detecting_maxSpeed : (s.detecting p).maxSpeed p = s.maxSpeed p := by
  rw [State.maxSpeed, State.detecting, claimKick_getF, getF_setF_ne _ _ _ _ (glbHpCtl_ne_glbHpSts p), takeSris_getF,
    modHp_getF, getF_setF_apart _ _ _ _ _ rfl rfl, State.maxSpeed]
theorem detecting_out : (s.detecting p).out = s.out := claimKick_out _ p
theorem detecting_claimTimer (hm : s.mgrPort = p) (ho : s.claimOpen = true) :
    (s.detecting p).claimTimer = some s.now := by
  have m : LinkMoves (linkAddr p) s _ := (((linkMoves_ctl s p GLB_HP_CTL.LTE 1).trans (linkMoves_modHp _ p
    (fun h => { h with held16 := false }))).trans (linkMoves_takeSris _ p)).trans
      (linkMoves_sts _ p GLB_HP_STS.LTSSM ltDetect).of_sts
  rw [State.detecting, ← m.now]
  exact claimKick_claimTimer _ _ (m.mgrPort.trans hm) (m.claimOpen.trans ho)

theorem setLte_same : s.setLte p (s.lte p) = s := if_pos rfl
theorem setLte_on (h : s.lte p = false) : s.setLte p true = (s.detecting p).toPolling p :=
  if_neg (by rw [h]; exact Bool.false_ne_true)
theorem setLte_off (h : s.lte p = true) (hd : s.dlUp p = false) :
    s.setLte p false = (s.setF (.glbHpCtl p) GLB_HP_CTL.LTE 0).linkOff p ltDisabled := by
  have hd' : (s.setF (.glbHpCtl p) GLB_HP_CTL.LTE 0).dlUp p = false := by
    rw [State.dlUp, State.flag, getF_setF_ne _ _ _ _ (glbHpCtl_ne_glbHpSts p).symm]
    exact hd
  exact (if_neg (by rw [h]; exact Bool.noConfusion)).trans (if_neg (ne_true_of_eq_false hd'))

/-- What a write of `v` to the control register of a present port does. -/
def State.hpWritten (v : Word64) : State :=
  ((s.hpRates p v).setLte p (GLB_HP_CTL.LTE.get v != 0)).retrainIf (GLB_HP_CTL.RETRAIN.get v != 0) p

theorem wrHpCtl_present (hp : s.present p = true) (hc : s.savedCopy (.glbHpCtl p) = none) (g : Word64 → Word64) :
    s.wrHpCtl p (g (s.shown (.glbHpCtl p))) = s.hpWritten p (g (s.rd (.glbHpCtl p))) := by
  rw [State.wrHpCtl, State.shown, hc]
  exact (if_neg Bool.false_ne_true).trans (if_pos hp)

end

section
variable {q : Requester} (hp : s.present p = true) (ha : s.accepts q (.glbHpCtl p) = true)
  (hc : s.savedCopy (.glbHpCtl p) = none)
include hp ha hc

theorem hpLteWrite_answers {on : Bool} {P : State → Prop}
    (hk : Kept s (s.hpWritten p (GLB_HP_CTL.LTE.put on.toNat (s.rd (.glbHpCtl p)))))
    (hP : P (s.hpWritten p (GLB_HP_CTL.LTE.put on.toNat (s.rd (.glbHpCtl p))))) : Answers (.hpLteWrite q p on) s P :=
  answers_gate rfl ha (wrHpCtl_present s p hp hc (GLB_HP_CTL.LTE.put on.toNat)) hk hP

theorem hpRetrain_answers {P : State → Prop}
    (hk : Kept s (s.hpWritten p (GLB_HP_CTL.RETRAIN.put 1 (s.rd (.glbHpCtl p)))))
    (hP : P (s.hpWritten p (GLB_HP_CTL.RETRAIN.put 1 (s.rd (.glbHpCtl p))))) : Answers (.hpRetrain q p) s P :=
  answers_gate rfl ha (wrHpCtl_present s p hp hc (GLB_HP_CTL.RETRAIN.put 1)) hk hP

end

theorem LinkMoves.lte (h : LinkMoves (stsAddr p) s t) : t.lte p = s.lte p := by
  rw [State.lte, State.flag, h.ctl, State.lte, State.flag]

/-- The control register's value with `LTE` replaced, and with `RETRAIN` set. -/
def State.lteWord (s : State) (p : Nat) (on : Bool) : Word64 := GLB_HP_CTL.LTE.put on.toNat (s.rd (.glbHpCtl p))
def State.retrainWord (s : State) (p : Nat) : Word64 := GLB_HP_CTL.RETRAIN.put 1 (s.rd (.glbHpCtl p))

section
variable (s p) (on : Bool)

theorem lteWord_lte : (GLB_HP_CTL.LTE.get (s.lteWord p on) != 0) = on := by
  rw [State.lteWord, Fld.get_put_same _ _ _ rfl]
  cases on <;> rfl
theorem lteWord_maxSpeed : GLB_HP_CTL.MAX_SPEED.get (s.lteWord p on) = s.getF (.glbHpCtl p) GLB_HP_CTL.MAX_SPEED :=
  Fld.get_put_apart _ _ _ _ rfl rfl
theorem retrainWord_lte : (GLB_HP_CTL.LTE.get (s.retrainWord p) != 0) = s.lte p := by
  rw [State.retrainWord, Fld.get_put_apart _ _ _ _ rfl rfl]
  rfl
theorem retrainWord_retrain : (GLB_HP_CTL.RETRAIN.get (s.retrainWord p) != 0) = true := by
  rw [State.retrainWord, Fld.get_put_same _ _ _ rfl]
  rfl

/-- The state in which the link enters Detect after `LTE` has been written 1. -/
def State.lteOn : State := (s.hpRates p (s.lteWord p true)).detecting p

theorem linkMoves_lteOn : LinkMoves (linkAddr p) s (s.lteOn p) := (linkMoves_hpRates s p _).trans (linkMoves_detecting _ p)
theorem lteOn_hp : (s.lteOn p).hp p =
    { s.hp p with held16 := false, sris := (s.hpRates p (s.lteWord p true)).flag (.glbHpCtl p) GLB_HP_CTL.SRIS } := by
  rw [State.lteOn, detecting_hp, hpRates_hp]
theorem lteOn_maxSpeed : (s.lteOn p).maxSpeed p = s.maxSpeed p := by
  rw [State.lteOn, detecting_maxSpeed, hpRates_maxSpeed s p (lteWord_maxSpeed s p true)]

theorem hpWritten_on (h : s.lte p = false) : ∃ b, s.hpWritten p (s.lteWord p true) =
    ((s.lteOn p).toPolling p).retrainIf b p := by
  rw [State.hpWritten, lteWord_lte, setLte_on _ p ((hpRates_lte s p _).trans h)]
  exact ⟨_, rfl⟩
theorem hpWritten_off (h : s.lte p = true) (hd : s.dlUp p = false) : ∃ b, s.hpWritten p (s.lteWord p false) =
    (((s.hpRates p (s.lteWord p false)).setF (.glbHpCtl p) GLB_HP_CTL.LTE 0).linkOff p ltDisabled).retrainIf b p := by
  rw [State.hpWritten, lteWord_lte, setLte_off _ p ((hpRates_lte s p _).trans h) ((hpRates_dlUp s p _).trans hd)]
  exact ⟨_, rfl⟩
theorem hpWritten_retrain : s.hpWritten p (s.retrainWord p) = (s.hpRates p (s.retrainWord p)).retrain p := by
  rw [State.hpWritten, retrainWord_lte, retrainWord_retrain, ← hpRates_lte s p (s.retrainWord p), setLte_same]
  rfl

end

section
variable {q : Requester} (hp : s.present p = true) (ha : s.accepts q (.glbHpCtl p) = true)
  (hc : s.savedCopy (.glbHpCtl p) = none)
include hp ha hc

theorem hpLteWrite_detects (h : s.lte p = false) (hb : (s.hp p).lnkCtl2.testBit 4 = false) :
    Answers (.hpLteWrite q p true) s (fun t => t.lte p = true ∧ t.getF (.glbHpSts p) GLB_HP_STS.LTSSM = 0 ∧
      (t.hp p).held16 = false ∧ (s.mgrPort = p → s.claimOpen = true → t.claimTimer = some s.now) ∧
      KeepsRegs s t [(Reg.glbHpCtl p).addr, (Reg.glbHpSts p).addr]) := by
  obtain ⟨b, e⟩ := hpWritten_on s p h
  rw [toPolling_plain (by rw [lteOn_hp]; exact hb)] at e
  have m := linkMoves_retrainIf (s.lteOn p) p b
  have n := (linkMoves_lteOn s p).trans m.of_sts
  have h0 : (s.lteOn p).getF (.glbHpSts p) GLB_HP_STS.LTSSM = 0 := detecting_ltssm _ p
  refine hpLteWrite_answers hp ha hc ?_ ?_ <;> rw [← State.lteWord, e]
  · exact n.kept
  · refine ⟨m.lte.trans (detecting_lte _ p), ?_, retrainIf_held16 _ p (by rw [lteOn_hp]), fun hm ho => ?_, n.keepsRegs⟩
    · rw [retrainIf_ltssm _ p (by rw [h0]; decide), h0]
    · have r := linkMoves_hpRates s p (s.lteWord p true)
      rw [retrainIf_claimTimer, State.lteOn, detecting_claimTimer _ p (r.mgrPort.trans hm) (r.claimOpen.trans ho), r.now]

theorem hpLteWrite_complies (h : s.lte p = false) (hb : (s.hp p).lnkCtl2.testBit 4 = true) :
    Answers (.hpLteWrite q p true) s (fun t => t.lte p = true ∧ t.getF (.glbHpSts p) GLB_HP_STS.LTSSM = ltPolling ∧
      t.out = .compliance p ((s.hp p).lnkCtl2.testBit 10) (min ((s.hp p).lnkCtl2 % 16) (s.maxSpeed p))
        ((s.hp p).lnkCtl2 / 128) :: s.out ∧
      KeepsRegs s t [(Reg.glbHpCtl p).addr, (Reg.glbHpSts p).addr]) := by
  obtain ⟨b, e⟩ := hpWritten_on s p h
  have hb' : ((s.lteOn p).hp p).lnkCtl2.testBit 4 = true := by rw [lteOn_hp]; exact hb
  have hl : (s.lteOn p).lte p = true := detecting_lte _ p
  have m := (linkMoves_toPolling (s.lteOn p) p).trans (linkMoves_retrainIf _ p b)
  have n := (linkMoves_lteOn s p).trans m.of_sts
  have h1 := toPolling_ltssm hb' hl
  refine hpLteWrite_answers hp ha hc ?_ ?_ <;> rw [← State.lteWord, e]
  · exact n.kept
  · refine ⟨m.lte.trans hl, ?_, ?_, n.keepsRegs⟩
    · rw [retrainIf_ltssm _ p (by rw [h1]; decide), h1]
    · rw [retrainIf_out, toPolling_out hb' hl, lteOn_hp, lteOn_maxSpeed, State.lteOn, detecting_out, hpRates_out]

theorem hpLteWrite_disables (h : s.lte p = true) (hd : s.dlUp p = false) :
    Answers (.hpLteWrite q p false) s (fun t => t.lte p = false ∧ t.getF (.glbHpSts p) GLB_HP_STS.LTSSM = 7 ∧
      t.claimTimer = s.claimTimer ∧ KeepsRegs s t [(Reg.glbHpCtl p).addr, (Reg.glbHpSts p).addr]) := by
  obtain ⟨b, e⟩ := hpWritten_off s p h hd
  have m := (linkMoves_linkOff ((s.hpRates p (s.lteWord p false)).setF (.glbHpCtl p) GLB_HP_CTL.LTE 0) p ltDisabled).trans
    (linkMoves_retrainIf _ p b)
  have n := ((linkMoves_hpRates s p (s.lteWord p false)).trans (linkMoves_ctl _ p GLB_HP_CTL.LTE 0)).trans m.of_sts
  have h7 := linkOff_ltssm ((s.hpRates p (s.lteWord p false)).setF (.glbHpCtl p) GLB_HP_CTL.LTE 0) p ltDisabled (by decide)
  refine hpLteWrite_answers hp ha hc ?_ ?_ <;> rw [← State.lteWord, e]
  · exact n.kept
  · refine ⟨m.lte.trans ?_, ?_, ?_, n.keepsRegs⟩
    · rw [State.lte, State.flag, getF_setF_same _ _ _ _ rfl]
      rfl
    · rw [retrainIf_ltssm _ p (by rw [h7]; decide), h7]
      rfl
    · rw [retrainIf_claimTimer, linkOff_claimTimer, setF_claimTimer, hpRates_claimTimer]

theorem hpRetrain_recovers (h : s.getF (.glbHpSts p) GLB_HP_STS.LTSSM = 3) :
    Answers (.hpRetrain q p) s (fun t => t.getF (.glbHpSts p) GLB_HP_STS.LTSSM = 4 ∧ (t.hp p).held16 = false ∧
      KeepsRegs s t [(Reg.glbHpCtl p).addr, (Reg.glbHpSts p).addr]) := by
  have n := (linkMoves_hpRates s p (s.retrainWord p)).trans (linkMoves_retrainIf _ p true).of_sts
  refine hpRetrain_answers hp ha hc ?_ ?_ <;> rw [← State.retrainWord, hpWritten_retrain]
  · exact n.kept
  · exact ⟨retrain_ltssm _ p ((hpRates_sts s p _ _).trans h), retrain_held16 _ p, n.keepsRegs⟩

end
end

/-- Settles O28: each event moves the link's own registers and records as its lemma says; a reset of functions to which no
slice is bound is theirs alone. -/
theorem upstreamLinkEvents : Obligations.UpstreamLinkEvents := by
  intro s p _ hu hp free plain
  refine ⟨fun _ ha hc hl hb => hpLteWrite_detects hp ha hc hl hb, fun _ ha hc hl hb => hpLteWrite_complies hp ha hc hl hb,
    fun _ ha hc hl hd => hpLteWrite_disables hp ha hc hl hd, fun _ ha hc h => hpRetrain_recovers hp ha hc h,
    fun _ _ _ hw => dlUp_ignored hu (by rw [hw, Bool.and_false, Bool.false_and]),
    fun _ => dlUp_ignored hu (Bool.and_false _), fun _ _ hl h1 h5 hw hc => dlUp_trains hu hp hl h1 h5 hw hc,
    fun hf hd hl hr => linkDown_resets hu hp hf hl hr hd,
    fun hf ht hl hr => ⟨hotReset_resets hu hp hf hl hr ht, hotReset_disables hu hp hf hl hr ht,
      routerLoopback_resets hu hp hf hl hr ht⟩,
    fun hd hi hw => pmeTurnOff_answers hu hp hd hi hw, fun hd hi => pmeTurnOff_waits hu hp hd hi⟩

end Sys2Proof.Machine
end

section
/-!
Function-level reset, configuration requests and upstream errors (R78 to R82, R97 to R100).
-/
namespace Sys2Proof.Machine

section
variable {s t : State} {p fn : Nat}

/-! ## Function-level reset (R98) -/

/-- The functions that an FLR of `fn` covers. -/
def flrCovers (fn f : Nat) : Bool := decide (fn = 0) || decide (f = fn)

/-- The FLR of a function other than PF0 covers its own key alone. -/
theorem keyCovered_flr_ne (h0 : fn ≠ 0) {k : Nat} (hk : k ≠ fKey p fn) : keyCovered p (flrCovers fn) k = false := by
  have hne : ¬ (k / 64 = p ∧ k % 64 = fn) := by
    unfold fKey at hk
    omega
  by_cases hp : k / 64 = p
  · have hm : k % 64 ≠ fn := fun h => hne ⟨hp, h⟩
    simp [keyCovered, flrCovers, h0, hm]
  · simp [keyCovered, hp]

theorem functionReset_flr (h0 : fn ≠ 0) (hfree : ∀ i, i < 256 → s.resetCovers p (flrCovers fn) i = false) :
    s.functionReset p (flrCovers fn) = s.funcsCleared p (flrCovers fn) := by
  have hf : flrCovers fn 0 = false := by simp [flrCovers, h0, h0.symm]
  rw [State.functionReset, funcsReset_free _ hfree, if_neg (by simp [hf])]

theorem flr_initial (hu : s.up = true) (hn : fn < 64) (he : s.fnExists p fn = true) (h0 : fn ≠ 0)
    (hfree : ∀ i, i < 256 → s.resetCovers p (flrCovers fn) i = false) :
    Answers (.flr p fn) s (fun t => t.func (fKey p fn) = Func.init ∧ (∀ k, k ≠ fKey p fn → t.func k = s.func k) ∧
      t.regs = s.regs ∧ t.claimTimer = s.claimTimer) := by
  refine answers_eq rfl hu ((if_pos he).trans (functionReset_flr h0 hfree)) ⟨rfl, rfl⟩ ⟨?_, fun k hk => ?_, rfl, rfl⟩
  · rw [funcsCleared_func, keyCovered_fKey _ hn]
    simp [flrCovers]
  · rw [funcsCleared_func, keyCovered_flr_ne h0 hk]
    rfl

/-! ## Configuration requests (R79) -/

theorem modFunc_same (s : State) (k : Nat) (g : Func → Func) : (s.modFunc k g).func k = g (s.func k) := setFunc_same _ _ _
theorem modFunc_ne (s : State) (k : Nat) (g : Func → Func) {j : Nat} (h : j ≠ k) : (s.modFunc k g).func j = s.func j :=
  (setFunc_get _ _ _ _).trans (if_neg h)

/-- Bus mastering that is not lost: the function changes as it says, whatever becomes of its timers. -/
theorem funcOn_rising {k : Nat} {g : Func → Func} (h : (s.func k).on = true → (g (s.func k)).on = true) :
    ∃ l, s.funcOn k g = (s.modFunc k g).withReqs l s.doms s.out := by
  rw [State.funcOn, modFunc_same]
  cases hw : (s.func k).on
  case true =>
    rw [h hw]
    exact ⟨s.reqs, rfl⟩
  case false =>
    split
    · exact ⟨s.reqs, rfl⟩
    · exact ⟨_, rfl⟩

/-- A request to a function that is there, while the link is up. -/
theorem configRequest_answers {op : ConfigOp} {P : State → Prop} (hu : s.up = true) (hp : s.present p = true)
    (hd : s.dlUp p = true) (he : s.fnExists p fn = true) (hc : s.config p fn op = t) (hk : Kept s t) (hP : P t) :
    Answers (.configRequest p fn op) s P :=
  answers_eq rfl hu ((if_pos (by rw [hp, hd]; rfl)).trans ((if_pos he).trans hc)) hk hP

/-- A field of the function replaced. -/
theorem configRequest_changes {op : ConfigOp} {g : Func → Func} (hu : s.up = true) (hp : s.present p = true)
    (hd : s.dlUp p = true) (he : s.fnExists p fn = true) (hc : s.config p fn op = s.modFunc (fKey p fn) g) :
    Answers (.configRequest p fn op) s (fun t => t.func (fKey p fn) = g (s.func (fKey p fn)) ∧ t.regs = s.regs ∧
      ∀ k, k ≠ fKey p fn → t.func k = s.func k) :=
  configRequest_answers hu hp hd he hc ⟨rfl, rfl⟩ ⟨modFunc_same _ _ _, rfl, fun _ hk => modFunc_ne _ _ _ hk⟩

theorem configRequest_bme (hu : s.up = true) (hp : s.present p = true) (hd : s.dlUp p = true)
    (he : s.fnExists p fn = true) :
    Answers (.configRequest p fn (.bme true)) s (fun t =>
      t.func (fKey p fn) = { s.func (fKey p fn) with bme := true } ∧ t.regs = s.regs) := by
  obtain ⟨l, e⟩ := funcOn_rising (s := s) (k := fKey p fn) (g := fun f => { f with bme := true }) fun h => by
    simpa [Func.on] using (Bool.and_eq_true_iff.1 h).2
  refine configRequest_answers hu hp hd he e ⟨rfl, rfl⟩ ⟨?_, rfl⟩
  exact modFunc_same s (fKey p fn) fun f => { f with bme := true }

theorem configRequest_read (hu : s.up = true) (hp : s.present p = true) (hd : s.dlUp p = true)
    (he : s.fnExists p fn = true) (x : ConfigField) : exec (.configRequest p fn (.read x)) s =
      .next { s with readData := [(s.configVal p fn x).lo, (s.configVal p fn x).hi] } :=
  onDevice_eq hu ((if_pos (by rw [hp, hd]; rfl)).trans (if_pos he)) rfl rfl

/-- VF Enable set while it is 0, with a legal NumVFs (R78). -/
theorem vfWrite_enables {f : Func} {num : Nat} (hn : num < 64) (he : f.vfEnable = false) :
    f.vfWrite true num = { f with numVfs := num, vfEnable := true } := by
  have h63 : ¬ 63 < num := by omega
  simp [Func.vfWrite, he, h63]

theorem vfsCut_pf0 (s : State) (p n : Nat) : (s.vfsCut p n).func (fKey p 0) = s.func (fKey p 0) :=
  (FMap.find_filter_not Func.init (fun k => k / 64 == p && decide (n < k % 64)) (fKey p 0) s.funcs).trans
    (if_neg (by simp [fKey]))

theorem configRequest_vf (hu : s.up = true) (hp : s.present p = true) (hd : s.dlUp p = true) {num : Nat} (hn : num < 64)
    (he : (s.func (fKey p 0)).vfEnable = false) :
    Answers (.configRequest p 0 (.vf true num)) s (fun t => (t.func (fKey p 0)).vfEnable = true ∧
      (t.func (fKey p 0)).vfs = num ∧ (∀ fn, fn < 64 → t.fnExists p fn = decide (fn ≤ num)) ∧ t.regs = s.regs) := by
  have hx : s.fnExists p 0 = true := by simp [State.fnExists, hp]
  refine configRequest_answers hu hp hd hx rfl ⟨rfl, rfl⟩ ?_
  have hf : ((s.config p 0 (.vf true num)).func (fKey p 0)) =
      { s.func (fKey p 0) with numVfs := num, vfEnable := true } :=
    (vfsCut_pf0 _ _ _).trans ((modFunc_same _ _ _).trans (vfWrite_enables hn he))
  have hv : ((s.config p 0 (.vf true num)).func (fKey p 0)).vfs = num := by rw [hf]; rfl
  refine ⟨by rw [hf], hv, fun fn _ => ?_, rfl⟩
  have hp' : (s.config p 0 (.vf true num)).present p = true := hp
  rw [State.fnExists, hp', hv, Bool.true_and, ← Bool.decide_or]
  exact decide_eq_decide.2 ⟨fun h => by omega, .inr⟩

/-! ## Errors (R100, R422) -/

theorem mem_logErr (f : Func) (e : Nat) : e ∈ (f.logErr e).aer := by
  unfold Func.logErr
  dsimp only
  split
  · assumption
  · exact List.mem_cons_self

theorem logErr_keeps {f : Func} {e d : Nat} (h : e ∈ f.aer) : e ∈ (f.logErr d).aer := by
  unfold Func.logErr
  dsimp only
  split
  · exact h
  · exact List.mem_cons_of_mem _ h

/-- An error is logged in its function, masked or not. -/
theorem aer_logs (s : State) (p fn e : Nat) : e ∈ ((s.aer p fn e).func (fKey p fn)).aer := by
  have hm : (s.aer p fn e).func (fKey p fn) = (s.modFunc (fKey p fn) (fun f =>
      if e < 32 ∧ f.severity e = 0 then (f.logErr e).logErr 45 else f.logErr e)).func (fKey p fn) := by
    rw [State.aer]
    split <;> rfl
  rw [hm, modFunc_same]
  split
  · exact logErr_keeps (mem_logErr _ e)
  · exact mem_logErr _ e

theorem aer_regs (s : State) (p fn e : Nat) : (s.aer p fn e).regs = s.regs := by
  rw [State.aer]
  split <;> rfl

theorem aer_getF (s : State) (p fn e : Nat) (r : Reg) (f : Fld) : (s.aer p fn e).getF r f = s.getF r f := by
  rw [State.getF, State.rd, aer_regs, State.getF, State.rd]

theorem kept_upErr (s : State) (p fn e : Nat) : Kept s (s.upErr p fn e) :=
  (kept_aer s p fn e).trans (kept_faultEvent _ _ _ _ _)

/-- With its fault source disabled, an uncorrectable error is logged in the function alone. -/
theorem upErr_disabled (h : s.flag (.fltCfg (40 + p)) FLT_CFG.EN = false) (fn e : Nat) : s.upErr p fn e = s.aer p fn e := by
  have h' : (s.aer p fn e).flag (.fltCfg (40 + p)) FLT_CFG.EN = false := by rw [State.flag, aer_getF]; exact h
  rw [State.upErr, State.faultEvent, fltCount_disabled h']
  rfl

section
variable (h : s.flag (.fltCfg (40 + p)) FLT_CFG.EN = false)
include h

theorem upErr_logs (fn e : Nat) : e ∈ ((s.upErr p fn e).func (fKey p fn)).aer ∧ (s.upErr p fn e).regs = s.regs := by
  rw [upErr_disabled h]
  exact ⟨aer_logs s p fn e, aer_regs s p fn e⟩

/-- A request that ends with Unsupported Request, in function `f`. -/
theorem unsupported_logs {f : Nat} (hf : (if s.fnExists p fn then fn else 0) = f) :
    .unsupported p f ∈ (s.unsupported p fn).out ∧ 20 ∈ ((s.unsupported p fn).func (fKey p f)).aer ∧
      (s.unsupported p fn).regs = s.regs := by
  obtain ⟨ha, hr⟩ := upErr_logs h f 20
  rw [State.unsupported, hf]
  exact ⟨List.mem_cons_self, ha, hr⟩

theorem configRequest_absent (hu : s.up = true) (hp : s.present p = true) (hd : s.dlUp p = true)
    (he : s.fnExists p fn = false) (op : ConfigOp) :
    Answers (.configRequest p fn op) s (fun t => .unsupported p 0 ∈ t.out ∧ 20 ∈ (t.func (fKey p 0)).aer ∧
      t.regs = s.regs) :=
  answers_eq rfl hu ((if_pos (by rw [hp, hd]; rfl)).trans (if_neg (ne_true_of_eq_false he))) (kept_unsupported s p fn)
    (unsupported_logs h (by rw [he]; rfl))

theorem hostRequestUr_logs (hu : s.up = true) (hp : s.present p = true) (he : s.fnExists p fn = true) {why : UrCause}
    (hw : why ≠ .mseOff ∨ s.barOn p fn = false) :
    Answers (.hostRequestUr p fn why) s (fun t => .unsupported p fn ∈ t.out ∧ 20 ∈ (t.func (fKey p fn)).aer ∧
      t.regs = s.regs) := by
  refine answers_eq rfl hu (if_pos ?_) (kept_unsupported s p fn) (unsupported_logs h (if_pos he))
  rcases hw with hw | hw <;> simp [hp, hw]

theorem poisonedWrite_logs (hu : s.up = true) {l : Loc} (hr : s.reaches (.func p fn) l = true) :
    Answers (.poisonedWrite (.func p fn) l) s (fun t => 12 ∈ (t.func (fKey p fn)).aer ∧ t.regs = s.regs) := by
  have hpl : s.place (.func p fn) l = .reg l := if_pos hr
  obtain ⟨ha, hq⟩ := kept_upErr s p fn aerPoisoned
  refine ⟨s.upErr p fn aerPoisoned, ?_, upErr_logs h fn aerPoisoned⟩
  change execPoisonedWrite (.func p fn) l s = _
  rw [execPoisonedWrite]
  exact onDevice_eq hu (by simp only [hpl]) ha hq

end

/-- Lower link errors are logged in PF0. -/
theorem badTlp_logs (hu : s.up = true) (hp : s.present p = true) :
    Answers (.upstreamErrorDetected p fn .badTlp) s (fun t => 38 ∈ (t.func (fKey p 0)).aer ∧ t.regs = s.regs) :=
  answers_eq rfl hu (if_pos (by rw [hp]; rfl)) (kept_aer s p 0 38) ⟨aer_logs s p 0 38, aer_regs s p 0 38⟩

/-! ## Link errors as fault events (R424) -/

theorem Touches.funcs {A : Nat → Prop} (h : Touches A s t) : t.funcs = s.funcs := by
  obtain ⟨-, -, hs⟩ := h
  exact show (t.faultsOf s).funcs = s.funcs from congrArg State.funcs hs

/-- What the first event of source `i` writes: the history and the state of the source. -/
def firstAddr (i a : Nat) : Prop := histAddr a ∨ a = (Reg.fltSts i).addr

theorem touches_firstAddr (s : State) (i detail aux : Nat) (forced : Bool) :
    Touches (firstAddr i) s (s.fltFirst i detail aux forced) :=
  touches_fltFirst (fun _ => .inl) (.inr rfl) detail aux forced

theorem fltCfg_not_firstAddr (hp : p < 4) : ¬ firstAddr (40 + p) (Reg.fltCfg (40 + p)).addr := by
  show ¬ ((0x10200 ≤ 0x10000 + (40 + p) * 8 ∧ 0x10000 + (40 + p) * 8 < 0x11000) ∨
    0x10000 + (40 + p) * 8 = 0x10004 + (40 + p) * 8)
  omega

/-- The first event of an idle source that takes more than one to decide. -/
theorem fltCount_first {i : Nat} (he : s.flag (.fltCfg i) FLT_CFG.EN = true) (h : s.getF (.fltSts i) FLT_STS.STATE = 0)
    {detail aux : Nat} {forced : Bool} (hn : ¬ (s.fltFirst i detail aux forced).fltN i ≤ 1) :
    s.fltCount i detail aux forced = (s.fltFirst i detail aux forced, false) := by
  simp only [State.fltCount, he, h, if_true]
  exact if_neg hn

/-- It is COUNTING, with a count of 1. -/
theorem fltFirst_counting (s : State) (i detail aux : Nat) (forced : Bool) :
    (s.fltFirst i detail aux forced).getF (.fltSts i) FLT_STS.COUNT = 1 ∧
      (s.fltFirst i detail aux forced).getF (.fltSts i) FLT_STS.STATE = 1 := by
  rw [State.fltFirst, modFlt_getF, modFlt_getF, State.fltStarted]
  constructor
  · rw [getF_setF_same _ _ _ _ rfl]
    rfl
  · rw [getF_setF_apart _ _ _ _ _ rfl rfl, getF_setF_same _ _ _ _ rfl]
    rfl

theorem malformed_counts (hu : s.up = true) (hp4 : p < 4) (hp : s.present p = true)
    (he : s.flag (.fltCfg (40 + p)) FLT_CFG.EN = true) (h0 : s.getF (.fltSts (40 + p)) FLT_STS.STATE = 0)
    (hn : 2 ≤ s.getF (.fltCfg (40 + p)) FLT_CFG.N) :
    Answers (.upstreamErrorDetected p fn .malformed) s (fun t => 18 ∈ (t.func (fKey p 0)).aer ∧
      t.getF (.fltSts (40 + p)) FLT_STS.COUNT = 1 ∧ t.getF (.fltSts (40 + p)) FLT_STS.STATE = 1) := by
  have hcfg := fltCfg_not_firstAddr hp4
  have htouch := touches_firstAddr (s.aer p 0 18) (40 + p) 18 ((s.func (fKey p 0)).bus * 256) false
  have hN : ¬ ((s.aer p 0 18).fltFirst (40 + p) 18 ((s.func (fKey p 0)).bus * 256) false).fltN (40 + p) ≤ 1 := by
    rw [State.fltN, htouch.getF hcfg, aer_getF]
    omega
  have he' : (s.aer p 0 18).flag (.fltCfg (40 + p)) FLT_CFG.EN = true := by rw [State.flag, aer_getF]; exact he
  have hev : s.upErr p 0 18 = (s.aer p 0 18).fltFirst (40 + p) 18 ((s.func (fKey p 0)).bus * 256) false := by
    rw [State.upErr, State.faultEvent, Nat.mod_eq_of_lt (by decide), Nat.add_zero,
      fltCount_first he' ((aer_getF s p 0 18 _ _).trans h0) hN]
    rfl
  refine answers_eq rfl hu ((if_pos (by rw [hp]; rfl)).trans hev) (hev ▸ kept_upErr s p 0 18)
    ⟨?_, fltFirst_counting _ _ _ _ _⟩
  rw [State.func, htouch.funcs]
  exact aer_logs s p 0 18

end

/-- Settles O29: resets and configuration requests change the function they name alone; errors are logged in the function,
and are counted by the source of the link. -/
theorem functionsAndErrors : Obligations.FunctionsAndErrors := by
  intro s p fn hp4 hn hu hp
  refine ⟨fun he h0 hf => flr_initial hu hn he h0 hf, fun hd he => ⟨?_, configRequest_bme hu hp hd he, fun b => ?_,
    configRequest_read hu hp hd he⟩, fun hd num hnum hv => configRequest_vf hu hp hd hnum hv, ⟨rfl, rfl, rfl⟩,
    fun hd he hx => configRequest_absent hx hu hp hd he _, fun why he hx hw => hostRequestUr_logs hx hu hp he hw,
    fun l hr hx => poisonedWrite_logs hx hu hr, badTlp_logs hu hp, fun he h0 hN => malformed_counts hu hp4 hp he h0 hN⟩
  · exact configRequest_changes (op := .mse true) (g := fun f => { f with mse := true }) hu hp hd he rfl
  · obtain ⟨t, ht, hf, hr, -⟩ :=
      configRequest_changes (op := .captureBus b) (g := fun f => { f with bus := b }) hu hp hd he rfl
    exact ⟨t, ht, hf, hr⟩

end Sys2Proof.Machine
end

section
/-!
Writes to the blocks of slices and to their mailboxes (R102 to R112, R128, R129).
-/
namespace Sys2Proof.Machine

section

variable {s t : State} {r : Reg} {q : Requester} {l : List Nat}

/-! ## Registers -/

/-- A step that changes registers only leaves the island and the queue alone. -/
theorem OnlyRegs.kept (h : OnlyRegs s t l) : Kept s t := by
  obtain ⟨-, hs⟩ := h
  exact ⟨(congrArg State.aon hs :), (congrArg State.pending hs :)⟩

/-- A write that changes nothing answers the state itself. -/
theorem exec_ignored {i : Instr} {f : State → State} (he : exec i s = onDevice (fun s => s.gate q r f) s)
    (ha : s.accepts q r = true) (hf : f s = s) : exec i s = .next s :=
  he.trans (onDevice_eq (accepts_up ha) ((gate_accepts ha f).trans hf) rfl rfl)

theorem onlyRegs_plainWrite (s : State) (r : Reg) (v : Word64) : OnlyRegs s (s.plainWrite r v) [r.addr] :=
  onlyRegs_wr _

theorem rd_plainWrite (hm : maskOf .w1c r.fields = 0) (v : Word64) :
    (s.plainWrite r v).rd r = applyFields v r.fields (s.rd r) := by
  rw [plainWrite_of_no_w1c hm, rd_wr_same]

theorem flag_setF_apart (s : State) (r : Reg) {f g : Fld} (x : Nat) (hf : f.ok = true) (h : g.apart f = true) :
    (s.setF r f x).flag r g = s.flag r g := by
  rw [State.flag, getF_setF_apart s r f g x hf h, State.flag]

theorem flag_setF_zero (s : State) (r : Reg) {f : Fld} (hf : f.ok = true) : (s.setF r f 0).flag r f = false := by
  rw [State.flag, getF_setF_same s r f 0 hf, Nat.zero_mod]
  rfl

theorem flag_set1_apart (s : State) (r : Reg) {f g : Fld} (hf : f.ok = true) (h : g.apart f = true) :
    (s.set1 r f).flag r g = s.flag r g := flag_setF_apart s r 1 hf h

theorem OnlyRegs.flag (h : OnlyRegs s t l) (hr : r.addr ∉ l) (f : Fld) : t.flag r f = s.flag r f := by
  rw [State.flag, State.getF, h.1 r hr, State.flag, State.getF]

/-- A field put back as it was read. -/
theorem Fld.put_get (f : Fld) (v : Word64) (hf : f.ok = true) : f.put (f.get v) v = v := by
  apply BitVec.eq_of_toNat_eq
  apply Nat.eq_of_testBit_eq
  intro i
  rw [Fld.put_bit f _ v i hf, Fld.get_eq]
  simp only [Fld.ok, Bool.and_eq_true, decide_eq_true_eq] at hf
  have hw : f.width = f.hi + 1 - f.lo := rfl
  split
  next h =>
    rw [show f.lo + (i - f.lo) = i by omega, decide_eq_true (show i - f.lo < f.width by omega), Bool.true_and]
  next => rfl

/-- What a field reads as fits it. -/
theorem Fld.get_mod (f : Fld) (v : Word64) : f.get v % 2 ^ f.width = f.get v := Nat.mod_mod _ _

end

section

/-! ## Binding and quotas (R103, R107, R110) -/

variable {s : State} {q : Requester} {i : Nat}

/-- A refused write to a slice's block sets `REJ` and changes nothing else. -/
theorem onlyRegs_rej (s : State) (i : Nat) : OnlyRegs s (s.rej i) [(Reg.slcCsr i).addr] := onlyRegs_set1 s _ _
theorem rej_flag (s : State) (i : Nat) : (s.rej i).flag (.slcCsr i) SLC_CSR.REJ = true := set1_flag_same rfl

theorem slcBind_ne_slcCsr (i j : Nat) : (Reg.slcBind i).addr ≠ (Reg.slcCsr j).addr := by
  simp only [Reg.addr]
  omega

/-- `REJ` leaves the binding alone. -/
theorem rej_bound (s : State) (i j : Nat) : (s.rej j).bound i = s.bound i := by
  rw [State.bound, (onlyRegs_rej s j).flag (by simpa using slcBind_ne_slcCsr i j), State.bound]

/-- What a binding that is accepted writes. -/
theorem slcBind_written (v old : Word64) (f : Fld)
    (hf : f = SLC_BIND.VALID ∨ f = SLC_BIND.PORT ∨ f = SLC_BIND.FUNC ∨ f = SLC_BIND.PASID) :
    f.get (applyFields v (Reg.slcBind i).fields old) = f.get v := by
  have put (g : Fld) (x : Nat) (w : Word64) (ho : g.ok = true) (ha : f.apart g = true) : f.get (g.put x w) = f.get w :=
    Fld.get_put_apart f g x w ho ha
  have same (w : Word64) (ho : f.ok = true) : f.get (f.put (f.get v) w) = f.get v :=
    (Fld.get_put_same f _ w ho).trans (f.get_mod v)
  change f.get (SLC_BIND.PASID.put _ (SLC_BIND.FUNC.put _ (SLC_BIND.PORT.put _ (SLC_BIND.PEN.put _
    (SLC_BIND.VALID.put _ old))))) = _
  obtain rfl | rfl | rfl | rfl := hf
  · rw [put _ _ _ rfl rfl, put _ _ _ rfl rfl, put _ _ _ rfl rfl, put _ _ _ rfl rfl, same _ rfl]
  · rw [put _ _ _ rfl rfl, put _ _ _ rfl rfl, same _ rfl]
  · rw [put _ _ _ rfl rfl, same _ rfl]
  · rw [same _ rfl]

theorem plainWrite_slcBind (v : Word64) (f : Fld)
    (hf : f = SLC_BIND.VALID ∨ f = SLC_BIND.PORT ∨ f = SLC_BIND.FUNC ∨ f = SLC_BIND.PASID) :
    (s.plainWrite (.slcBind i) v).getF (.slcBind i) f = f.get v := by
  rw [State.getF, rd_plainWrite rfl, slcBind_written v _ f hf]

theorem exec_slcBindWrite (v : Word32) : exec (.slcBindWrite q i v) s =
    onDevice (fun s => s.gate q (.slcBind i) (fun s => s.wrSlcBind i (v.setWidth 64))) s := rfl
theorem exec_slcQuotaWrite (x : QuotaReg) (v : Word64) : exec (.slcQuotaWrite q i x v) s =
    onDevice (fun s => s.gate q (quotaReg i x) (fun s => s.wrQuota i x v)) s := rfl

theorem wrSlcBind_bound (h : s.bound i = true) (v : Word64) : s.wrSlcBind i v = s.rej i := if_pos h
theorem wrSlcBind_refused {v : Word64} (h : s.bound i = false) (hv : SLC_BIND.VALID.get v ≠ 0)
    (hr : s.bindRefused i v = true) : s.wrSlcBind i v = s.rej i := by
  simp [State.wrSlcBind, h, hv, hr]
theorem wrSlcBind_accepted {v : Word64} (h : s.bound i = false) (hr : s.bindRefused i v = false) :
    s.wrSlcBind i v = s.plainWrite (.slcBind i) v := by
  simp [State.wrSlcBind, h, hr]

/-- A binding to a port that the part does not have is refused (R103). -/
theorem bindRefused_of_absent {v : Word64} (h : s.present (SLC_BIND.PORT.get v) = false) : s.bindRefused i v = true := by
  simp [State.bindRefused, h]

/-- A write that is refused: the command, where the write comes down to `REJ`. -/
theorem answers_rej {c : Instr} {r : Reg} {f : State → State} {P : State → Prop}
    (he : exec c s = onDevice (fun s => s.gate q r f) s) (ha : s.accepts q r = true) (hf : f s = s.rej i)
    (hp : P (s.rej i)) : Answers c s P :=
  answers_gate he ha hf (onlyRegs_rej s i).kept hp

/-- An accepted binding. -/
theorem slcBindWrite_binds {v : Word32} (ha : s.accepts q (.slcBind i) = true) (hb : s.bound i = false)
    (hv : SLC_BIND.VALID.get (v.setWidth 64) ≠ 0) (hr : s.bindRefused i (v.setWidth 64) = false) :
    Answers (.slcBindWrite q i v) s (fun t => t.flag (.slcBind i) SLC_BIND.VALID ∧
      t.getF (.slcBind i) SLC_BIND.PORT = SLC_BIND.PORT.get (v.setWidth 64) ∧
      t.getF (.slcBind i) SLC_BIND.FUNC = SLC_BIND.FUNC.get (v.setWidth 64) ∧
      t.getF (.slcBind i) SLC_BIND.PASID = SLC_BIND.PASID.get (v.setWidth 64) ∧
      t.flag (.slcCsr i) SLC_CSR.ACTIVE = s.flag (.slcCsr i) SLC_CSR.ACTIVE ∧
      OnlyRegs s t [(Reg.slcBind i).addr]) := by
  have ho := onlyRegs_plainWrite s (.slcBind i) (v.setWidth 64)
  refine answers_gate (exec_slcBindWrite v) ha (wrSlcBind_accepted hb hr) ho.kept
    ⟨?_, plainWrite_slcBind _ _ (by simp), plainWrite_slcBind _ _ (by simp), plainWrite_slcBind _ _ (by simp), ?_, ho⟩
  · rw [State.flag, plainWrite_slcBind _ _ (by simp)]
    simpa using hv
  · exact ho.flag (by simpa using (slcBind_ne_slcCsr i i).symm) _

/-- A quota write that Table 2 allows; the effective copy stays (R110). -/
theorem slcQmemWrite_takes {v : Word64} (ha : s.accepts q (.slcQmem i) = true)
    (hc : s.sumOthers i .slcQmem SLC_QMEM.CTX + SLC_QMEM.CTX.get v ≤ 16384)
    (hl : s.sumOthers i .slcQmem SLC_QMEM.LB + SLC_QMEM.LB.get v ≤ 4096 - s.getF .portGpool PORT_GPOOL.SIZE) :
    Answers (.slcQuotaWrite q i .qmem v) s (fun t =>
      t.getF (.slcQmem i) SLC_QMEM.CTX = SLC_QMEM.CTX.get v ∧ t.getF (.slcQmem i) SLC_QMEM.LB = SLC_QMEM.LB.get v ∧
      t.rdE (.slcQmem i) = s.rdE (.slcQmem i) ∧ OnlyRegs s t [(Reg.slcQmem i).addr]) := by
  have hb : s.quotaBad i .qmem v = false := by
    simp only [State.quotaBad, Bool.or_eq_false_iff, decide_eq_false_iff_not]
    exact ⟨by omega, by omega⟩
  have hf : s.wrQuota i .qmem v = s.plainWrite (.slcQmem i) v := by simp [State.wrQuota, hb, quotaReg]
  have ho := onlyRegs_plainWrite s (.slcQmem i) v
  have hrd : (s.plainWrite (.slcQmem i) v).rd (.slcQmem i) =
      SLC_QMEM.LB.put (SLC_QMEM.LB.get v) (SLC_QMEM.CTX.put (SLC_QMEM.CTX.get v) (s.rd (.slcQmem i))) :=
    rd_plainWrite rfl v
  refine answers_gate (exec_slcQuotaWrite .qmem v) ha hf ho.kept ⟨?_, ?_, rfl, ho⟩
  · rw [State.getF, hrd, Fld.get_put_apart _ _ _ _ rfl rfl, Fld.get_put_same _ _ _ rfl, Fld.get_mod]
  · rw [State.getF, hrd, Fld.get_put_same _ _ _ rfl, Fld.get_mod]

end

/-- Settles O32: a write to a slice's block is a plain write of its fields, or `REJ` alone. -/
theorem bindingAndQuotas : Obligations.BindingAndQuotas := by
  unfold Obligations.BindingAndQuotas
  intro s q i h0 _ ha
  have hrej := rej_flag s i
  have ho := onlyRegs_rej s i
  refine ⟨fun v hb hv hr => slcBindWrite_binds ha hb hv hr, fun v hb => ?_, fun v hb hv hp => ?_,
    fun v ha hc hl => slcQmemWrite_takes ha hc hl, fun v ha hc => ?_⟩
  · exact answers_rej (exec_slcBindWrite v) ha (wrSlcBind_bound hb _) ⟨hrej, ho⟩
  · exact answers_rej (exec_slcBindWrite v) ha (wrSlcBind_refused hb hv (bindRefused_of_absent hp))
      ⟨hrej, (rej_bound s i i).trans hb, ho⟩
  · have hb : s.quotaBad i .qmem v = true := by simp [State.quotaBad, hc]
    exact answers_rej (exec_slcQuotaWrite .qmem v) ha (if_pos hb) ⟨hrej, ho⟩

end Sys2Proof.Machine
end

section
/-!
The mailboxes of slices (R89, R128, R129).
-/
namespace Sys2Proof.Machine

section

variable {s t : State} {q : Requester} {i : Nat} {f : Fld}

/-! ## Interrupts leave registers alone -/

theorem msix_rd (s : State) (p fn v : Nat) (r : Reg) : (s.msix p fn v).rd r = s.rd r := by
  unfold State.msix
  dsimp only
  split_ifs <;> rfl

theorem mbxIrq_rd (s : State) (i : Nat) (r : Reg) : (s.mbxIrq i).rd r = s.rd r := by
  unfold State.mbxIrq
  split
  · exact msix_rd s _ _ _ r
  · rfl

theorem mbxIrq_flag (s : State) (i : Nat) (r : Reg) (f : Fld) : (s.mbxIrq i).flag r f = s.flag r f := by
  rw [State.flag, State.getF, mbxIrq_rd, State.flag, State.getF]

theorem kept_mbxIrq (s : State) (i : Nat) : Kept s (s.mbxIrq i) := kept_ite (kept_msix s _ _ _) (.refl s)

/-- The manager's event changes what a woken pair shows, and no other register. -/
theorem mgrIrq_flag (s : State) (i : Nat) {r : Reg} (h : ¬ wakeAddr r.addr) (f : Fld) :
    (s.mgrIrq i).flag r f = s.flag r f := by
  rw [State.mgrIrq, irqEvent_flag _ _ h]
  split
  · rw [State.flag, State.getF, State.sliceIrq, msix_rd, State.flag, State.getF]
  · rfl

/-- The manager's sources of the slices are of kind event (Table 1 of chapter 14). -/
theorem irqIsEvent_slice (h0 : 0 < i) (h : i < 256) : irqIsEvent i = true := by
  simp only [irqIsEvent, decide_eq_true_eq]
  omega

theorem mgrIrq_pend (s : State) (h : irqIsEvent i = true) : (s.mgrIrq i).irqPend i = true := irqEvent_pend _ h

theorem mbxCsr_not_wakeAddr : ¬ wakeAddr (Reg.mbxCsr i).addr := by
  simp [wakeAddr, wakeRegs, Reg.addr]
  omega

/-! ## The word that names an operation and leaves `IE` and `VEC` as they are -/

theorem apart_of_below {g : Fld} (h : g.hi < f.lo) : g.apart f = true := by simp [Fld.apart, h]

/-- The fields of a word made of one bit, `IE` and `VEC`. -/
theorem mbxWord_get {g : Fld} (hf : f.ok = true) (hg : g.apart f = true) (s : State) :
    g.get (s.mbxWord i f) =
      g.get (MBX_CSR.IE.put (s.getF (.mbxCsr i) MBX_CSR.IE) (MBX_CSR.VEC.put (s.getF (.mbxCsr i) MBX_CSR.VEC) 0)) :=
  Fld.get_put_apart _ _ _ _ hf hg

theorem mbxWord_ie (hf : f.ok = true) (hg : MBX_CSR.IE.apart f = true) (s : State) :
    MBX_CSR.IE.get (s.mbxWord i f) = s.getF (.mbxCsr i) MBX_CSR.IE := by
  rw [mbxWord_get hf hg, Fld.get_put_same _ _ _ rfl, State.getF, Fld.get_mod]

theorem mbxWord_vec (hf : f.ok = true) (hg : MBX_CSR.VEC.apart f = true) (s : State) :
    MBX_CSR.VEC.get (s.mbxWord i f) = s.getF (.mbxCsr i) MBX_CSR.VEC := by
  rw [mbxWord_get hf hg, Fld.get_put_apart _ _ _ _ rfl rfl, Fld.get_put_same _ _ _ rfl, State.getF, Fld.get_mod]

/-- It clears no flag: no W1C bit of it is set. -/
theorem mbxWord_w1c (hf : f.ok = true) (hlo : 18 ≤ f.lo) (s : State) : s.mbxWord i f &&& mbxW1c = 0#64 := by
  apply BitVec.eq_of_getLsbD_eq
  intro j hj
  rw [BitVec.getLsbD_and]
  by_cases h : j < 6
  · have hz : (s.mbxWord i f).toNat.testBit j = false := by
      rw [State.mbxWord, Fld.put_bit _ _ _ _ hf, if_neg (by omega), Fld.put_bit _ _ _ _ rfl,
        if_neg (by simp only [MBX_CSR.IE]; omega), Fld.put_bit _ _ _ _ rfl, if_neg (by simp only [MBX_CSR.VEC]; omega)]
      simp
    rw [show (s.mbxWord i f).getLsbD j = false from hz, Bool.false_and, BitVec.getLsbD_zero]
  · have hw : mbxW1c.getLsbD j = false := Nat.testBit_lt_two_pow (Nat.lt_of_lt_of_le (show mbxW1c.toNat < 2 ^ 6 by decide)
      (Nat.pow_le_pow_right (by decide) (by omega)))
    rw [hw, Bool.and_false, BitVec.getLsbD_zero]

/-! ## A write to `MBX_CSR` -/

/-- What a write does before its operations: flags cleared, `IE` and `VEC` set. -/
def State.mbxSet (s : State) (i : Nat) (v : Word64) : State :=
  (s.wr (.mbxCsr i) (s.rd (.mbxCsr i) &&& ~~~(v &&& mbxW1c))).mbxVec i v

theorem wrMbxCsr_eq (h0 : 0 < i) (v : Word64) : s.wrMbxCsr i v =
    (let u := if MBX_CSR.IN_ACK.get v != 0 then (s.mbxSet i v).clr1 (.mbxCsr i) MBX_CSR.IN_FULL else s.mbxSet i v
     if MBX_CSR.DB.get v != 0 then u.mbxDb i else u) :=
  if_neg (by omega)

theorem onlyRegs_mbxSet (s : State) (v : Word64) : OnlyRegs s (s.mbxSet i v) [(Reg.mbxCsr i).addr] := by
  unfold State.mbxSet
  refine OnlyRegs.trans (onlyRegs_wr (s.rd (.mbxCsr i) &&& ~~~(v &&& mbxW1c))) ?_
  unfold State.mbxVec
  split
  · exact ⟨fun _ _ => rfl, rfl⟩
  · exact (onlyRegs_setF _ _ _ _).trans (onlyRegs_setF _ _ _ _)

/-- A word that clears nothing and keeps `IE` and `VEC` leaves the register as it is. -/
theorem mbxSet_word (hf : f.ok = true) (hlo : 30 ≤ f.lo) (s : State) :
    (s.mbxSet i (s.mbxWord i f)).rd (.mbxCsr i) = s.rd (.mbxCsr i) := by
  have hie : MBX_CSR.IE.apart f = true := apart_of_below (Nat.lt_of_lt_of_le (by decide) hlo)
  have hvec : MBX_CSR.VEC.apart f = true := apart_of_below (Nat.lt_of_lt_of_le (by decide) hlo)
  have hrd (u : State) (g : Fld) (x : Nat) : (u.setF (.mbxCsr i) g x).rd (.mbxCsr i) = g.put x (u.rd (.mbxCsr i)) :=
    rd_setF_same u _ g x
  have hw : s.rd (.mbxCsr i) &&& ~~~(s.mbxWord i f &&& mbxW1c) = s.rd (.mbxCsr i) := by
    rw [mbxWord_w1c hf (by omega), BitVec.not_zero, BitVec.and_allOnes]
  unfold State.mbxSet State.mbxVec
  split
  · rw [rd_wr_same, hw]
  · rw [hrd, hrd, rd_wr_same, hw, mbxWord_ie hf hie, mbxWord_vec hf hvec, State.getF, State.getF,
      Fld.put_get _ _ rfl, Fld.put_get _ _ rfl]

theorem mbxSet_flag (hf : f.ok = true) (hlo : 30 ≤ f.lo) (s : State) (g : Fld) :
    (s.mbxSet i (s.mbxWord i f)).flag (.mbxCsr i) g = s.flag (.mbxCsr i) g := by
  rw [State.flag, State.getF, mbxSet_word hf hlo, State.flag, State.getF]

/-- Which operation a word names. -/
theorem wrMbxCsr_db (h0 : 0 < i) :
    s.wrMbxCsr i (s.mbxWord i MBX_CSR.DB) = (s.mbxSet i (s.mbxWord i MBX_CSR.DB)).mbxDb i := by
  have hack : MBX_CSR.IN_ACK.get (s.mbxWord i MBX_CSR.DB) = 0 := by
    rw [mbxWord_get rfl rfl, Fld.get_put_apart _ _ _ _ rfl rfl, Fld.get_put_apart _ _ _ _ rfl rfl]
    rfl
  have hdb : MBX_CSR.DB.get (s.mbxWord i MBX_CSR.DB) = 1 := Fld.get_put_same _ _ _ rfl
  rw [wrMbxCsr_eq h0, hack, hdb]
  rfl

theorem wrMbxCsr_ack (h0 : 0 < i) : s.wrMbxCsr i (s.mbxWord i MBX_CSR.IN_ACK) =
    (s.mbxSet i (s.mbxWord i MBX_CSR.IN_ACK)).clr1 (.mbxCsr i) MBX_CSR.IN_FULL := by
  have hdb : MBX_CSR.DB.get (s.mbxWord i MBX_CSR.IN_ACK) = 0 := by
    rw [mbxWord_get rfl rfl, Fld.get_put_apart _ _ _ _ rfl rfl, Fld.get_put_apart _ _ _ _ rfl rfl]
    rfl
  have hack : MBX_CSR.IN_ACK.get (s.mbxWord i MBX_CSR.IN_ACK) = 1 := Fld.get_put_same _ _ _ rfl
  rw [wrMbxCsr_eq h0, hack, hdb]
  rfl

/-! ## The slice's doorbell and acknowledgement (R128) -/

theorem mbxDb_free (h : s.flag (.mbxCsr i) MBX_CSR.OUT_BUSY = false) :
    s.mbxDb i = (s.set1 (.mbxCsr i) MBX_CSR.OUT_BUSY).mgrIrq i := by simp [State.mbxDb, h]
theorem mbxDb_busy (h : s.flag (.mbxCsr i) MBX_CSR.OUT_BUSY = true) :
    s.mbxDb i = s.set1 (.mbxCsr i) MBX_CSR.OVR := by simp [State.mbxDb, h]

theorem exec_mbxSliceDb : exec (.mbxSliceDb q i) s =
    onDevice (fun s => s.gate q (.mbxCsr i) (fun s => s.wrMbxCsr i (s.mbxWord i MBX_CSR.DB))) s := rfl
theorem exec_mbxInAck : exec (.mbxInAck q i) s =
    onDevice (fun s => s.gate q (.mbxCsr i) (fun s => s.wrMbxCsr i (s.mbxWord i MBX_CSR.IN_ACK))) s := rfl

theorem mbxSliceDb_raises (h0 : 0 < i) (h : i < 256) (ha : s.accepts q (.mbxCsr i) = true)
    (hb : s.flag (.mbxCsr i) MBX_CSR.OUT_BUSY = false) :
    Answers (.mbxSliceDb q i) s (fun t => t.flag (.mbxCsr i) MBX_CSR.OUT_BUSY ∧ t.irqPend i ∧
      t.flag (.mbxCsr i) MBX_CSR.OVR = s.flag (.mbxCsr i) MBX_CSR.OVR) := by
  have hw (g : Fld) := mbxSet_flag (i := i) (f := MBX_CSR.DB) rfl (by decide) s g
  refine answers_gate exec_mbxSliceDb ha ((wrMbxCsr_db h0).trans (mbxDb_free ((hw _).trans hb)))
    ((onlyRegs_mbxSet s _).kept.trans ((kept_set1 _ _ _).trans (kept_mgrIrq _ i)))
    ⟨?_, mgrIrq_pend _ (irqIsEvent_slice h0 h), ?_⟩
  · rw [mgrIrq_flag _ _ mbxCsr_not_wakeAddr, set1_flag_same rfl]
  · rw [mgrIrq_flag _ _ mbxCsr_not_wakeAddr, flag_set1_apart _ _ rfl rfl, hw]

theorem mbxSliceDb_overruns (h0 : 0 < i) (ha : s.accepts q (.mbxCsr i) = true)
    (hb : s.flag (.mbxCsr i) MBX_CSR.OUT_BUSY = true) :
    Answers (.mbxSliceDb q i) s (fun t => t.flag (.mbxCsr i) MBX_CSR.OUT_BUSY ∧ t.flag (.mbxCsr i) MBX_CSR.OVR ∧
      OnlyRegs s t [(Reg.mbxCsr i).addr]) := by
  have hw := (mbxSet_flag (i := i) (f := MBX_CSR.DB) rfl (by decide) s MBX_CSR.OUT_BUSY).trans hb
  have ho := (onlyRegs_mbxSet (i := i) s (s.mbxWord i MBX_CSR.DB)).trans (onlyRegs_set1 _ _ MBX_CSR.OVR)
  exact answers_gate exec_mbxSliceDb ha ((wrMbxCsr_db h0).trans (mbxDb_busy hw)) ho.kept
    ⟨(flag_set1_apart _ _ rfl rfl).trans hw, set1_flag_same rfl, ho⟩

theorem mbxInAck_clears (h0 : 0 < i) (ha : s.accepts q (.mbxCsr i) = true) :
    Answers (.mbxInAck q i) s (fun t => t.flag (.mbxCsr i) MBX_CSR.IN_FULL = false ∧
      t.flag (.mbxCsr i) MBX_CSR.OUT_BUSY = s.flag (.mbxCsr i) MBX_CSR.OUT_BUSY ∧ OnlyRegs s t [(Reg.mbxCsr i).addr]) := by
  have ho := (onlyRegs_mbxSet (i := i) s (s.mbxWord i MBX_CSR.IN_ACK)).trans (onlyRegs_setF _ _ MBX_CSR.IN_FULL 0)
  exact answers_gate exec_mbxInAck ha (wrMbxCsr_ack h0) ho.kept ⟨flag_setF_zero _ _ rfl,
    (flag_setF_apart _ _ 0 rfl rfl).trans (mbxSet_flag rfl (by decide) s _), ho⟩

/-! ## The manager's doorbell and acknowledgement (R128) -/

theorem exec_mbxMgrDb : exec (.mbxMgrDb q i) s =
    onDevice (fun s => s.gate q (.mbxSCsr i) (fun s => s.wrMbxSCsr i (MBX_S_CSR.DB.put 1 0))) s := rfl
theorem exec_mbxMgrAck : exec (.mbxMgrAck q i) s =
    onDevice (fun s => s.gate q (.mbxSCsr i) (fun s => s.wrMbxSCsr i (MBX_S_CSR.ACK.put 1 0))) s := rfl

theorem wrMbxSCsr_eq (h0 : 0 < i) (v : Word64) : s.wrMbxSCsr i v =
    (let u := if MBX_S_CSR.ACK.get v != 0 && s.flag (.mbxCsr i) MBX_CSR.OUT_BUSY then
        (s.clr1 (.mbxCsr i) MBX_CSR.OUT_BUSY).mbxFlag i MBX_CSR.OUT_DONE else s
     if MBX_S_CSR.DB.get v != 0 && !(u.flag (.mbxCsr i) MBX_CSR.IN_FULL) then
        (u.set1 (.mbxCsr i) MBX_CSR.IN_FULL).mbxFlag i MBX_CSR.IN_NEW
     else u) :=
  if_neg (by omega)

theorem wrMbxSCsr_db (h0 : 0 < i) : s.wrMbxSCsr i (MBX_S_CSR.DB.put 1 0) =
    if s.flag (.mbxCsr i) MBX_CSR.IN_FULL then s
    else (s.set1 (.mbxCsr i) MBX_CSR.IN_FULL).mbxFlag i MBX_CSR.IN_NEW := by
  have hack : MBX_S_CSR.ACK.get (MBX_S_CSR.DB.put 1 0) = 0 := by decide
  have hdb : MBX_S_CSR.DB.get (MBX_S_CSR.DB.put 1 0) = 1 := by decide
  rw [wrMbxSCsr_eq h0, hack, hdb]
  cases h : s.flag (.mbxCsr i) MBX_CSR.IN_FULL <;> simp [h]

theorem wrMbxSCsr_ack (h0 : 0 < i) : s.wrMbxSCsr i (MBX_S_CSR.ACK.put 1 0) =
    if s.flag (.mbxCsr i) MBX_CSR.OUT_BUSY then
      (s.setF (.mbxCsr i) MBX_CSR.OUT_BUSY 0).mbxFlag i MBX_CSR.OUT_DONE
    else s := by
  have hack : MBX_S_CSR.ACK.get (MBX_S_CSR.ACK.put 1 0) = 1 := by decide
  have hdb : MBX_S_CSR.DB.get (MBX_S_CSR.ACK.put 1 0) = 0 := by decide
  rw [wrMbxSCsr_eq h0, hack, hdb]
  cases h : s.flag (.mbxCsr i) MBX_CSR.OUT_BUSY <;> simp

theorem mbxFlag_eq (h0 : 0 < i) (f : Fld) : s.mbxFlag i f = (s.set1 (.mbxCsr i) f).mbxIrq i := if_neg (by omega)

theorem kept_mbxFlag (s : State) (i : Nat) (f : Fld) : Kept s (s.mbxFlag i f) :=
  kept_ite (.refl s) ((kept_set1 s _ _).trans (kept_mbxIrq _ i))

theorem mbxFlag_same (h0 : 0 < i) (hf : f.ok = true) : (s.mbxFlag i f).flag (.mbxCsr i) f = true := by
  rw [mbxFlag_eq h0, mbxIrq_flag, set1_flag_same hf]
theorem mbxFlag_apart (h0 : 0 < i) {g : Fld} (hf : f.ok = true) (h : g.apart f = true) :
    (s.mbxFlag i f).flag (.mbxCsr i) g = s.flag (.mbxCsr i) g := by
  rw [mbxFlag_eq h0, mbxIrq_flag, flag_set1_apart _ _ hf h]

theorem mbxMgrDb_raises (h0 : 0 < i) (ha : s.accepts q (.mbxSCsr i) = true)
    (hb : s.flag (.mbxCsr i) MBX_CSR.IN_FULL = false) :
    Answers (.mbxMgrDb q i) s (fun t => t.flag (.mbxCsr i) MBX_CSR.IN_FULL ∧ t.flag (.mbxCsr i) MBX_CSR.IN_NEW) :=
  answers_gate exec_mbxMgrDb ha ((wrMbxSCsr_db h0).trans (if_neg (by simp [hb])))
    ((kept_set1 s _ _).trans (kept_mbxFlag _ i _))
    ⟨(mbxFlag_apart h0 rfl rfl).trans (set1_flag_same rfl), mbxFlag_same h0 rfl⟩

theorem mbxMgrAck_clears (h0 : 0 < i) (ha : s.accepts q (.mbxSCsr i) = true)
    (hb : s.flag (.mbxCsr i) MBX_CSR.OUT_BUSY = true) :
    Answers (.mbxMgrAck q i) s (fun t => t.flag (.mbxCsr i) MBX_CSR.OUT_BUSY = false ∧
      t.flag (.mbxCsr i) MBX_CSR.OUT_DONE) :=
  answers_gate exec_mbxMgrAck ha ((wrMbxSCsr_ack h0).trans (if_pos hb)) ((kept_setF s _ _ _).trans (kept_mbxFlag _ i _))
    ⟨(mbxFlag_apart h0 rfl rfl).trans (flag_setF_zero s _ rfl), mbxFlag_same h0 rfl⟩

end

/-- Settles O36: the word of a slice's operation leaves every field as it is, and each of the four operations acts on the
flags of `MBX_CSR` and on the interrupt that goes with them. -/
theorem mailboxes : Obligations.Mailboxes := by
  unfold Obligations.Mailboxes
  intro s q i h0 h
  refine ⟨mbxSliceDb_raises h0 h, mbxSliceDb_overruns h0, fun ha _ => mbxInAck_clears h0 ha, mbxMgrDb_raises h0,
    fun ha hb => ?_, mbxMgrAck_clears h0, fun ha hb => ?_⟩
  · exact exec_ignored exec_mbxMgrDb ha ((wrMbxSCsr_db h0).trans (if_pos hb))
  · exact exec_ignored exec_mbxMgrAck ha ((wrMbxSCsr_ack h0).trans (if_neg (by simp [hb])))

end Sys2Proof.Machine
end

section
/-!
Commands on endpoint assignments, and the operations of the handle view (R114 to R119, R124, R127).
-/
namespace Sys2Proof.Machine

section

variable {s t : State} {q : Requester}

/-! ## The words of commands and operations -/

theorem epaWord_cmd {code : Nat} (h : code < 16) : SLC_EPA_CS.CMD.get (epaWord code) = code := by
  simp only [epaWord, SLC_EPA_CS.CMD, Fld.get, Fld.width, Nat.shiftRight_eq_div_pow, BitVec.toNat_ofNat]
  omega

theorem epvWord_op {op h : Nat} (ho : op < 16) : EPV_CSR.OP.get (epvWord op h) = op := by
  simp only [epvWord, EPV_CSR.OP, Fld.get, Fld.width, Nat.shiftRight_eq_div_pow, BitVec.toNat_ofNat]
  omega

theorem epvWord_handle {op h : Nat} (hh : h < 65536) : EPV_CSR.HANDLE.get (epvWord op h) = h := by
  simp only [epvWord, EPV_CSR.HANDLE, Fld.get, Fld.width, Nat.shiftRight_eq_div_pow, BitVec.toNat_ofNat]
  omega

/-! ## The checks on a command (Table 6, R115) -/

/-- The mode of an ASSIGN is not reserved, and the command's handle is one that commands may name: the checks that come
before those of the command itself. -/
structure Checked (s : State) (cmd : Nat) : Prop where
  mode : cmd = 1 → s.epaCfg.mode ≠ 3
  handle : defKey s.epaKey = false
  bound : s.bound (s.epaKey / 65536) = true

theorem epaCheck_assign (h : Checked s 1) (hc : s.assignCode s.epaKey s.epaCfg = 0) :
    s.epaCheck 1 = (0, some (.assign s.epaKey s.epaCfg)) := by
  simp [State.epaCheck, h.mode rfl, h.handle, h.bound, hc]
theorem epaCheck_retarget (h : Checked s 4) (hc : s.retargetCode s.epaKey s.epaCfg.ep = 0) :
    s.epaCheck 4 = (0, some (.retarget s.epaKey s.epaCfg.ep)) := by
  simp [State.epaCheck, h.handle, h.bound, hc]

/-- The three commands that need an attachment and nothing more. -/
theorem epaCheck_unassign (h : Checked s 2) (hl : (s.atp s.epaKey).live = true) :
    s.epaCheck 2 = (0, some (.unassign s.epaKey)) := by
  simp [State.epaCheck, h.handle, h.bound, hl]
theorem epaCheck_update (h : Checked s 3) (hl : (s.atp s.epaKey).live = true) :
    s.epaCheck 3 = (0, some (.update s.epaKey s.epaCfg)) := by
  simp [State.epaCheck, h.handle, h.bound, hl]
theorem epaCheck_secRevoke (h : Checked s 5) (hl : (s.atp s.epaKey).live = true) :
    s.epaCheck 5 = (0, some (.secEnd s.epaKey true)) := by
  simp [State.epaCheck, h.handle, h.bound, hl]

/-- An UNASSIGN or UPDATE of a handle that names no attachment (log entry 32). -/
theorem epaCheck_unassigned {cmd : Nat} (h : Checked s cmd) (hc : cmd = 2 ∨ cmd = 3)
    (hl : (s.atp s.epaKey).live = false) : s.epaCheck cmd = (4, none) := by
  obtain rfl | rfl := hc <;> simp [State.epaCheck, h.handle, h.bound, hl]

/-- A reserved command goes before every other cause (log entry 18). -/
theorem epaCheck_reserved {cmd : Nat} (h : 5 < cmd) : s.epaCheck cmd = (13, none) := if_pos (.inl h)

/-! ## A command issued (R115) -/

/-- `BUSY`, with the result and the change that the check has found. -/
def State.epaBusy (s : State) (p : Nat × Option EpaOp) : State :=
  { s.set1 .slcEpaCs SLC_EPA_CS.BUSY with epaCmd := some p }

/-- The command once it has been checked. -/
def State.epaIssued (s : State) (p : Nat × Option EpaOp) : State :=
  match p.2 with
  | some o => (s.epaBusy p).pendApply o
  | none => s.epaBusy p

theorem wrEpaCs_eq {cmd : Nat} (hb : s.flag .slcEpaCs SLC_EPA_CS.BUSY = false) (h0 : 0 < cmd) (h : cmd < 16) :
    s.wrEpaCs (epaWord cmd) = s.epaIssued (s.epaCheck cmd) := by
  have hn : ¬ (s.flag .slcEpaCs SLC_EPA_CS.BUSY = true ∨ cmd = 0) := by simp [hb]; omega
  rw [State.wrEpaCs, epaWord_cmd h]
  exact if_neg hn

/-- A change of the pending table leaves the registers, the effective table and the command itself. -/
theorem pendApply_frame (s : State) (o : EpaOp) : Kept s (s.pendApply o) ∧ (s.pendApply o).regs = s.regs ∧
    (s.pendApply o).att = s.att ∧ (s.pendApply o).epaCmd = s.epaCmd := by
  cases o <;> exact ⟨⟨rfl, rfl⟩, rfl, rfl, rfl⟩

/-- A RETARGET's attachment in the pending table. -/
theorem retarget_atp (s : State) (p : Nat × Option EpaOp) (k e : Nat) :
    (((s.epaBusy p).pendApply (.retarget k e)).atp k).ep = e ∧
    (((s.epaBusy p).pendApply (.retarget k e)).atp k).mode = (s.atp k).mode := by
  change (((s.epaBusy p).modAtp k _).atp k).ep = e ∧ (((s.epaBusy p).modAtp k _).atp k).mode = _
  rw [State.modAtp, setAtp_same]
  exact ⟨rfl, rfl⟩

/-- What every command leaves: `BUSY`, the effective table as it was, and the result that waits. -/
theorem epaIssued_frame (s : State) (p : Nat × Option EpaOp) : Kept s (s.epaIssued p) ∧
    (s.epaIssued p).flag .slcEpaCs SLC_EPA_CS.BUSY = true ∧ (s.epaIssued p).att = s.att ∧
    (s.epaIssued p).epaCmd = some p := by
  have hk : Kept s (s.epaBusy p) := ⟨rfl, rfl⟩
  have hb : (s.epaBusy p).flag .slcEpaCs SLC_EPA_CS.BUSY = true := set1_flag_same (s := s) rfl
  obtain ⟨r, _ | o⟩ := p
  · exact ⟨hk, hb, rfl, rfl⟩
  · obtain ⟨kp, hr, ha, hc⟩ := pendApply_frame (s.epaBusy (r, some o)) o
    refine ⟨hk.trans kp, ?_, ha, hc⟩
    change ((s.epaBusy (r, some o)).pendApply o).flag .slcEpaCs SLC_EPA_CS.BUSY = true
    rwa [State.flag, State.getF, State.rd, hr]

/-- A command that the gate lets pass while none is in progress. -/
theorem answers_epa {i : Instr} {cmd : Nat} {p : Nat × Option EpaOp} {P : State → Prop}
    (he : exec i s = onDevice (fun s => s.gate q .slcEpaCs (fun s => s.wrEpaCs (epaWord cmd))) s)
    (ha : s.accepts q .slcEpaCs = true) (hb : s.flag .slcEpaCs SLC_EPA_CS.BUSY = false) (h0 : 0 < cmd) (h : cmd < 16)
    (hc : s.epaCheck cmd = p) (hp : P (s.epaIssued p)) : Answers i s P :=
  answers_gate he ha ((wrEpaCs_eq hb h0 h).trans (congrArg s.epaIssued hc)) (epaIssued_frame s p).1 hp

/-- A command that is refused shows its result and changes no table. -/
theorem answers_epaRefused {i : Instr} {cmd code : Nat}
    (he : exec i s = onDevice (fun s => s.gate q .slcEpaCs (fun s => s.wrEpaCs (epaWord cmd))) s)
    (ha : s.accepts q .slcEpaCs = true) (hb : s.flag .slcEpaCs SLC_EPA_CS.BUSY = false) (h0 : 0 < cmd) (h : cmd < 16)
    (hc : s.epaCheck cmd = (code, none)) :
    Answers i s (fun t => t.flag .slcEpaCs SLC_EPA_CS.BUSY ∧ t.attP = s.attP ∧ t.epaCmd = some (code, none)) := by
  obtain ⟨-, hf, -, hcmd⟩ := epaIssued_frame s (code, none)
  exact answers_epa he ha hb h0 h hc ⟨hf, rfl, hcmd⟩

/-- An accepted command: what it says of the pending table is left to the case. -/
theorem answers_epaAccepted {i : Instr} {cmd : Nat} {o : EpaOp} {P : State → Prop}
    (he : exec i s = onDevice (fun s => s.gate q .slcEpaCs (fun s => s.wrEpaCs (epaWord cmd))) s)
    (ha : s.accepts q .slcEpaCs = true) (hb : s.flag .slcEpaCs SLC_EPA_CS.BUSY = false) (h0 : 0 < cmd) (h : cmd < 16)
    (hc : s.epaCheck cmd = (0, some o)) (hp : P ((s.epaBusy (0, some o)).pendApply o)) :
    Answers i s (fun t => t.flag .slcEpaCs SLC_EPA_CS.BUSY ∧ P t ∧ t.att = s.att ∧ t.epaCmd = some (0, some o)) := by
  obtain ⟨-, hf, hatt, hcmd⟩ := epaIssued_frame s (0, some o)
  exact answers_epa he ha hb h0 h hc ⟨hf, hp, hatt, hcmd⟩

theorem exec_epaAssign : exec (.epaAssign q) s =
    onDevice (fun s => s.gate q .slcEpaCs (fun s => s.wrEpaCs (epaWord 1))) s := rfl
theorem exec_epaUnassign : exec (.epaUnassign q) s =
    onDevice (fun s => s.gate q .slcEpaCs (fun s => s.wrEpaCs (epaWord 2))) s := rfl
theorem exec_epaUpdate : exec (.epaUpdate q) s =
    onDevice (fun s => s.gate q .slcEpaCs (fun s => s.wrEpaCs (epaWord 3))) s := rfl
theorem exec_epaRetarget : exec (.epaRetarget q) s =
    onDevice (fun s => s.gate q .slcEpaCs (fun s => s.wrEpaCs (epaWord 4))) s := rfl
theorem exec_epaSecRevoke : exec (.epaSecRevoke q) s =
    onDevice (fun s => s.gate q .slcEpaCs (fun s => s.wrEpaCs (epaWord 5))) s := rfl
theorem exec_epaBadCommand (code : Nat) : exec (.epaBadCommand q code) s =
    onDevice (fun s => s.gate q .slcEpaCs (fun s => s.wrEpaCs (epaWord code))) s := rfl

/-! ## The end of a command (R115) -/

/-- What the end of a command does to the state: `BUSY` falls, the result is shown, the change waits for the tick. -/
def State.epaEnded (s : State) (r : Nat) (o : Option EpaOp) : State :=
  { (s.clr1 .slcEpaCs SLC_EPA_CS.BUSY).setF .slcEpaCs SLC_EPA_CS.RESULT r with
    epaCmd := none, epaOps := s.epaOps ++ o.toList }

theorem epaCommandDone_ends (hu : s.up = true) {r : Nat} {o : Option EpaOp} (h : s.epaCmd = some (r, o)) :
    Answers .epaCommandDone s (fun t => t.flag .slcEpaCs SLC_EPA_CS.BUSY = false ∧
      t.getF .slcEpaCs SLC_EPA_CS.RESULT = r % 2 ^ SLC_EPA_CS.RESULT.width ∧ t.epaCmd = none ∧
      t.epaOps = s.epaOps ++ o.toList ∧ OnlyRegs s { t with epaCmd := s.epaCmd, epaOps := s.epaOps }
        [(Reg.slcEpaCs).addr]) := by
  have hexec : exec .epaCommandDone s = .next (s.epaEnded r o) := by
    change execEpaCommandDone s = _
    unfold execEpaCommandDone
    refine onDevice_eq hu ?_ rfl rfl
    simp only [h]
    rfl
  have ho := (onlyRegs_setF s .slcEpaCs SLC_EPA_CS.BUSY 0).trans (onlyRegs_setF _ .slcEpaCs SLC_EPA_CS.RESULT r)
  refine ⟨_, hexec, ?_, getF_setF_same _ .slcEpaCs SLC_EPA_CS.RESULT r rfl, rfl, rfl, ho⟩
  exact (flag_setF_apart (s.clr1 .slcEpaCs SLC_EPA_CS.BUSY) .slcEpaCs (f := SLC_EPA_CS.RESULT) r rfl rfl).trans
    (flag_setF_zero s .slcEpaCs rfl)

end

/-- Settles O34: a command is one check, whose result waits, and one change of the pending table if the result is 0. -/
theorem assignmentCommands : Obligations.AssignmentCommands := by
  unfold Obligations.AssignmentCommands
  intro s q ha hb
  refine ⟨fun hdef hbound => ?_, fun code h6 h16 => ?_, fun r o _ h => epaCommandDone_ends (accepts_up ha) h⟩
  · have checked (cmd : Nat) (h1 : 1 < cmd) : Checked s cmd := ⟨fun h => absurd h (by omega), hdef, hbound⟩
    refine ⟨fun hm hc => ?_, fun hl => ⟨?_, ?_, ?_⟩, fun hc => ?_, fun hl => ⟨?_, ?_⟩⟩
    · obtain ⟨t, ht, hf, ⟨hk, hj⟩, hatt, hcmd⟩ := answers_epaAccepted
        (P := fun t => t.atp s.epaKey = s.epaCfg ∧ ∀ j, j ≠ s.epaKey → t.atp j = s.atp j) exec_epaAssign ha hb
        (by decide) (by decide) (epaCheck_assign ⟨fun _ => hm, hdef, hbound⟩ hc)
        ⟨setAtp_same _ _ _, fun j hj => (setAtp_get _ _ _ _).trans (if_neg hj)⟩
      exact ⟨t, ht, hf, hk, hj, hatt, hcmd⟩
    · exact answers_epaAccepted (P := fun t => t.atp s.epaKey = AttCfg.empty) exec_epaUnassign ha hb (by decide)
        (by decide) (epaCheck_unassign (checked 2 (by decide)) hl) (setAtp_same _ _ _)
    · exact answers_epaAccepted (P := fun t => t.atp s.epaKey = (s.atp s.epaKey).upd s.epaCfg) exec_epaUpdate ha hb
        (by decide) (by decide) (epaCheck_update (checked 3 (by decide)) hl) (setAtp_same _ _ _)
    · exact answers_epaAccepted (P := fun t => t.attP = s.attP) exec_epaSecRevoke ha hb (by decide) (by decide)
        (epaCheck_secRevoke (checked 5 (by decide)) hl) rfl
    · obtain ⟨t, ht, hf, ⟨hep, hmode⟩, hatt, hcmd⟩ := answers_epaAccepted
        (P := fun t => (t.atp s.epaKey).ep = s.epaCfg.ep ∧ (t.atp s.epaKey).mode = (s.atp s.epaKey).mode) exec_epaRetarget
        ha hb (by decide) (by decide) (epaCheck_retarget (checked 4 (by decide)) hc)
        (retarget_atp s _ _ _)
      exact ⟨t, ht, hf, hep, hmode, hatt, hcmd⟩
    · obtain ⟨t, ht, -, hP, hcmd⟩ := answers_epaRefused exec_epaUnassign ha hb (by decide) (by decide)
        (epaCheck_unassigned (checked 2 (by decide)) (.inl rfl) hl)
      exact ⟨t, ht, hP, hcmd⟩
    · obtain ⟨t, ht, -, hP, hcmd⟩ := answers_epaRefused exec_epaUpdate ha hb (by decide) (by decide)
        (epaCheck_unassigned (checked 3 (by decide)) (.inr rfl) hl)
      exact ⟨t, ht, hP, hcmd⟩
  · exact answers_epaRefused (exec_epaBadCommand code) ha hb (by omega) h16 (epaCheck_reserved (by omega))

section

/-! ## The handle view (R119) -/

variable {s : State} {q : Requester} {i h : Nat}

theorem slcCsr_ne_epvSel (h : i < 256) : (Reg.slcCsr i).addr ≠ (epvSel q i).addr := by
  unfold epvSel
  split <;> simp only [Reg.addr] <;> omega

/-- The selection of a handle. -/
def State.epvPick (s : State) (q : Requester) (i h : Nat) : State := s.setF (epvSel q i) EPV_CSR.HANDLE h

theorem onlyRegs_epvPick (s : State) (q : Requester) (i h : Nat) : OnlyRegs s (s.epvPick q i h) [(epvSel q i).addr] :=
  onlyRegs_setF s _ _ _

theorem epvPick_flag (hi : i < 256) (f : Fld) : (s.epvPick q i h).flag (.slcCsr i) f = s.flag (.slcCsr i) f :=
  (onlyRegs_epvPick s q i h).flag (by simpa using slcCsr_ne_epvSel hi) f

theorem epvPick_handle (hh : h < 65536) : (s.epvPick q i h).getF (epvSel q i) EPV_CSR.HANDLE = h := by
  rw [State.epvPick, getF_setF_same _ _ _ _ rfl]
  exact Nat.mod_eq_of_lt hh

theorem wrEpvCsr_eq {op : Nat} (ho : op < 16) (hh : h < 65536) : s.wrEpvCsr q i (epvWord op h) =
    if (s.atE (hKey i h)).cfg.live = false ∨ (s.epvPick q i h).fenced i ∨ (s.epvPick q i h).inReset i then s.epvPick q i h
    else { s.epvPick q i h with epaOps := s.epaOps ++ (epvOp op (hKey i h)).toList } := by
  rw [State.wrEpvCsr, epvWord_handle hh, epvWord_op ho]
  rfl

/-- The operation waits for the tick, where the handle is assigned and the slice neither fenced nor in reset. -/
theorem wrEpvCsr_waits {op : Nat} {o : EpaOp} (hi : i < 256) (ho : op < 16) (hh : h < 65536)
    (hop : epvOp op (hKey i h) = some o) (hl : (s.atE (hKey i h)).cfg.live = true) (hf : s.fenced i = false)
    (hr : s.inReset i = false) :
    s.wrEpvCsr q i (epvWord op h) = { s.epvPick q i h with epaOps := s.epaOps ++ [o] } := by
  have hf' : (s.epvPick q i h).fenced i = false := (epvPick_flag hi _).trans hf
  have hr' : (s.epvPick q i h).inReset i = false := (epvPick_flag hi _).trans hr
  rw [wrEpvCsr_eq ho hh, if_neg (by simp [hl, hf', hr']), hop]
  rfl

theorem wrEpvCsr_unassigned {op : Nat} (ho : op < 16) (hh : h < 65536) (hl : (s.atE (hKey i h)).cfg.live = false) :
    s.wrEpvCsr q i (epvWord op h) = s.epvPick q i h := by
  rw [wrEpvCsr_eq ho hh, if_pos (.inl hl)]

/-- An operation on an assigned handle. -/
theorem answers_epvWaits {c : Instr} {op : Nat} {o : EpaOp}
    (he : exec c s = onDevice (fun s => s.gate q (.epvCsr i) (fun s => s.wrEpvCsr q i (epvWord op h))) s)
    (ha : s.accepts q (.epvCsr i) = true) (hi : i < 256) (hh : h < 65536)
    (hl : (s.atE (hKey i h)).cfg.live = true) (hf : s.fenced i = false) (hr : s.inReset i = false) (ho : op < 16)
    (hop : epvOp op (hKey i h) = some o) :
    Answers c s (fun t => t.epaOps = s.epaOps ++ [o] ∧ t.getF (epvSel q i) EPV_CSR.HANDLE = h ∧
      OnlyRegs s { t with epaOps := s.epaOps } [(epvSel q i).addr]) :=
  answers_gate he ha (wrEpvCsr_waits hi ho hh hop hl hf hr) ⟨rfl, rfl⟩
    ⟨rfl, epvPick_handle (s := s) hh, onlyRegs_epvPick s q i h⟩

/-- An operation on an unassigned handle. -/
theorem answers_epvUnassigned {c : Instr} {op : Nat}
    (he : exec c s = onDevice (fun s => s.gate q (.epvCsr i) (fun s => s.wrEpvCsr q i (epvWord op h))) s)
    (ha : s.accepts q (.epvCsr i) = true) (hh : h < 65536) (hl : (s.atE (hKey i h)).cfg.live = false) (ho : op < 16) :
    Answers c s (fun t => t.epaOps = s.epaOps ∧ t.getF (epvSel q i) EPV_CSR.HANDLE = h) :=
  answers_gate he ha (wrEpvCsr_unassigned ho hh hl) ⟨rfl, rfl⟩ ⟨rfl, epvPick_handle hh⟩

end

/-- Settles O35: each command writes one word to `EPV_CSR`, whose operation waits where the handle is assigned. -/
theorem handleView : Obligations.HandleView := by
  unfold Obligations.HandleView
  intro s q i h hi hh ha
  refine ⟨fun hl hf hr => ?_, fun hl => ⟨?_, ?_⟩⟩
  · have waits {c : Instr} {op : Nat} {o : EpaOp}
        (he : exec c s = onDevice (fun s => s.gate q (.epvCsr i) (fun s => s.wrEpvCsr q i (epvWord op h))) s)
        (ho : op < 16) (hop : epvOp op (hKey i h) = some o) := answers_epvWaits he ha hi hh hl hf hr ho hop
    exact ⟨waits (op := 1) rfl (by decide) rfl, waits (op := 2) rfl (by decide) rfl, waits (op := 3) rfl (by decide) rfl,
      waits (op := 4) rfl (by decide) rfl, waits (op := 5) rfl (by decide) rfl⟩
  · exact answers_epvUnassigned (op := 1) rfl ha hh hl (by decide)
  · exact answers_epvUnassigned (op := 3) rfl ha hh hl (by decide)

end Sys2Proof.Machine
end

section
/-!
What the ends of activations leave alone of devices and attachments (R181 to R185, R222).
-/
namespace Sys2Proof.Machine

/-- `t` with what work on items moves taken from `s`: contexts and what they stand in or hold, their requests and writes,
counts of latency, registers. -/
def State.workOf (t s : State) : State :=
  { t with
    regs := s.regs, cyc := s.cyc, reqs := s.reqs, writes := s.writes, aside := s.aside, lb := s.lb, rings := s.rings,
    ctxs := s.ctxs, progs := s.progs, engs := s.engs, ready := s.ready, tokens := s.tokens, sems := s.sems, eps := s.eps,
    ports := s.ports, resvP := s.resvP, deciding := s.deciding, live := s.live, lats := s.lats }

/-- From `s` to `t` nothing but work has moved, and each endpoint context belongs to the device that it belonged to. -/
def Worked (s t : State) : Prop :=
  t.workOf s = s ∧ ∀ e, (t.epc e).live = (s.epc e).live ∧ (t.epc e).dev = (s.epc e).dev

variable {s t u : State}

theorem Worked.of_eq (h : t.workOf s = s) (he : t.eps = s.eps) : Worked s t :=
  ⟨h, fun e => by rw [State.epc, he, State.epc]; exact ⟨rfl, rfl⟩⟩
theorem Worked.refl (s : State) : Worked s s := .of_eq rfl rfl
theorem Worked.trans (h : Worked s t) (k : Worked t u) : Worked s u := by
  obtain ⟨hw, he⟩ := h
  obtain ⟨kw, ke⟩ := k
  refine ⟨?_, fun e => ⟨(ke e).1.trans (he e).1, (ke e).2.trans (he e).2⟩⟩
  calc u.workOf s = (u.workOf t).workOf s := rfl
    _ = t.workOf s := by rw [kw]
    _ = s := hw

theorem worked_ite {c : Prop} [Decidable c] (ht : Worked s t) (hu : Worked s u) : Worked s (if c then t else u) := by
  split
  · exact ht
  · exact hu

theorem worked_ite_fst {β : Type} {c : Prop} [Decidable c] {p p' : State × β} (h : Worked s p.1)
    (h' : Worked s p'.1) : Worked s (if c then p else p').1 := by
  split
  · exact h
  · exact h'

theorem worked_forL {α : Type} {f : α → State → State} (h : ∀ a s, Worked s (f a s)) (l : List α) (s : State) :
    Worked s (forL l f s) := by
  induction l generalizing s with
  | nil => exact .refl s
  | cons a l ih => exact (h a s).trans (ih (f a s))

/-- An endpoint context changed in other fields. -/
theorem worked_modEpc (s : State) (e : Nat) {g : Ep → Ep} (hl : ∀ x, (g x).live = x.live) (hd : ∀ x, (g x).dev = x.dev) :
    Worked s (s.modEpc e g) := by
  refine ⟨rfl, fun k => ?_⟩
  rw [State.modEpc, setEpc_get]
  split
  next h => rw [h, hl, hd]; exact ⟨rfl, rfl⟩
  next => exact ⟨rfl, rfl⟩

/-! ## Changes outside the endpoint contexts -/

section
variable (s)

theorem worked_setF (r : Reg) (f : Fld) (x : Nat) : Worked s (s.setF r f x) := .of_eq rfl rfl
theorem worked_modCtx (c : Nat) (g : Ctx → Ctx) : Worked s (s.modCtx c g) := .of_eq rfl rfl
theorem worked_modRing (k : Nat) (g : Ring → Ring) : Worked s (s.modRing k g) := .of_eq rfl rfl
theorem worked_modToken (k : Nat) (g : Token → Token) : Worked s (s.modToken k g) := .of_eq rfl rfl
theorem worked_modSem (k : Nat) (g : Sem → Sem) : Worked s (s.modSem k g) := .of_eq rfl rfl
theorem worked_modPort (n : Nat) (g : Port → Port) : Worked s (s.modPort n g) := .of_eq rfl rfl
theorem worked_setEng (te : Nat) (x : Eng) : Worked s (s.setEng te x) := .of_eq rfl rfl
theorem worked_modRlist (k : Nat) (g : List Nat → List Nat) : Worked s (s.modRlist k g) := .of_eq rfl rfl
theorem worked_cyc (x : Cycle) : Worked s { s with cyc := x } := .of_eq rfl rfl
theorem worked_unready (c : Nat) : Worked s (s.unready c) := .of_eq rfl rfl
theorem worked_runOn (te c : Nat) : Worked s (s.runOn te c) :=
  (worked_setEng s te _).trans (worked_modCtx _ c _)
theorem worked_parkOp (te c : Nat) : Worked s (s.parkOp te c) :=
  (worked_setEng s te _).trans (worked_modCtx _ c _)
theorem worked_enlist (c : Nat) (head : Bool) : Worked s (s.enlist c head) :=
  (worked_modRlist s _ _).trans <| (worked_cyc _ _).trans (worked_modCtx _ c _)
theorem worked_tokenLeave (c : Nat) : Worked s (s.tokenLeave c) := .of_eq rfl rfl
theorem worked_writes (w : List PWrite) : Worked s { s with writes := w } := .of_eq rfl rfl
theorem worked_reqsDrop (c : Nat) : Worked s (s.reqsDrop c) := .of_eq rfl rfl
theorem worked_semLeave (c : Nat) : Worked s (s.semLeave c) := .of_eq rfl rfl

end

/-! ## Capacity, contexts and results -/

theorem worked_capFreed (s : State) (k i n : Nat) : Worked s (s.capFreed k i n) := by
  obtain ⟨a, h⟩ := capFreed_eq s k i n
  rw [h]
  exact .of_eq rfl rfl

theorem worked_lbFree (s : State) (i n : Nat) : Worked s (s.lbFree i n) := by
  obtain ⟨a, l, h⟩ := lbFree_eq s i n
  rw [h]
  exact .of_eq rfl rfl

theorem worked_progDrop (s : State) (k : Nat) : Worked s (s.progDrop k) :=
  worked_ite (Worked.trans (t := s.setProg k Prog.empty) (.of_eq rfl rfl) (worked_capFreed _ 2 _ _)) (.refl s)

theorem worked_ctxFree (s : State) (c : Nat) : Worked s (s.ctxFree c) := by
  have hc (s : State) : Worked s (s.setCtx c Ctx.free) := .of_eq rfl rfl
  unfold State.ctxFree
  dsimp only
  have h := (worked_reqsDrop s c).trans <| (worked_writes _ (orphanWrites c s.writes)).trans <|
    (hc _).trans (worked_capFreed _ 0 (s.ctx c).slice 1)
  exact worked_ite (h.trans (worked_progDrop _ _)) h

theorem worked_finish (s : State) (c code step bytes : Nat) : Worked s (s.finish c code step bytes) :=
  (worked_modRing s _ _).trans (worked_ctxFree (s.modRing _ _) c)

theorem worked_orphanize (s : State) (e : Nat) : Worked s (s.orphanize e) :=
  worked_ite (.refl s) ((worked_modEpc s e (g := fun x => { x with pend := [], orph := x.orph ++ x.pend })
    (fun _ => rfl) fun _ => rfl).trans (worked_setF _ _ _ _))

/-! ## Dispatch -/

theorem worked_runOrPlace (s : State) (te c : Nat) : Worked s (s.runOrPlace te c) :=
  worked_ite (worked_runOn s te c) ((worked_setEng s te _).trans (worked_modCtx _ c _))

theorem worked_gambitOver (s : State) (c n : Nat) : Worked s (s.gambitOver c n) := by
  unfold State.gambitOver
  split
  · exact .refl s
  · exact worked_modPort s n _

theorem worked_queued (s : State) (c n : Nat) (st : OpStage) : Worked s (s.queued c n st) :=
  (worked_ite (worked_gambitOver s c n) (.refl s)).trans <| (worked_modPort _ n _).trans (worked_modCtx _ c _)

theorem worked_toQueue (s : State) (c : Nat) : Worked s (s.toQueue c) := by
  unfold State.toQueue
  split
  · exact worked_queued s c _ _
  · exact .refl s

theorem worked_toSeq (s : State) (c : Nat) : Worked s (s.toSeq c) := (worked_toQueue s c).trans (worked_modCtx _ c _)

theorem worked_opGo (s : State) (c : Nat) : Worked s (s.opGo c) := by
  unfold State.opGo
  split
  · exact worked_toSeq s c
  · refine worked_ite (worked_toSeq s c) ?_
    split
    · exact (worked_modSem s _ _).trans ((worked_modCtx _ c _).trans (worked_toSeq _ c))
    · exact (worked_modSem s _ _).trans (worked_modCtx _ c _)

theorem worked_opStart (s : State) (c : Nat) (r : BusReq) : Worked s (s.opStart c r) :=
  (worked_modCtx s c _).trans (worked_opGo (s.modCtx c _) c)

theorem worked_startOn (s : State) (te c : Nat) : Worked s (s.startOn te c) := by
  refine (worked_unready s c).trans ?_
  unfold State.startOn
  dsimp only
  generalize s.unready c = t
  split
  next r _ =>
    have h := worked_opStart t c r
    exact worked_ite (h.trans (worked_runOrPlace _ te c)) (h.trans (worked_parkOp _ te c))
  · split
    · exact worked_ite (worked_runOn t te c) ((worked_modCtx t c _).trans (worked_parkOp _ te c))
    · exact worked_runOn t te c

theorem worked_dispatch1 {k c : Nat} (h : s.dispatch1 k = some (t, c)) : Worked s t := by
  unfold State.dispatch1 at h
  split at h
  · cases h
    exact worked_startOn s _ _
  · cases h

theorem worked_dispatchN (k n : Nat) (s : State) : Worked s (s.dispatchN k n) := by
  induction n generalizing s with
  | zero => exact .refl s
  | succ n ih =>
    unfold State.dispatchN
    split
    · rename_i p h
      exact (worked_dispatch1 h).trans (ih p.1)
    · exact .refl s

theorem worked_settle (s : State) : Worked s s.settle :=
  worked_forL (fun k s => worked_ite (worked_dispatchN k 8 s) (.refl s)) (List.range 20) s

/-! ## Semaphores and tokens -/

theorem worked_leaveEng (s : State) (c : Nat) : Worked s (s.leaveEng c) := by
  unfold State.leaveEng
  split
  · exact .of_eq rfl rfl
  · exact .refl s

theorem worked_placed (s : State) (c : Nat) : Worked s (s.placed c) := worked_ite (worked_enlist s c false) (.refl s)

theorem worked_tokenGive (s : State) (k c : Nat) : Worked s (s.tokenGive k c) := by
  unfold State.tokenGive
  dsimp only
  split
  · exact (worked_modToken s k _).trans <| (worked_modCtx _ c _).trans <| (worked_modCtx _ c _).trans
      (worked_enlist _ c false)
  · exact (worked_modToken s k _).trans <| (worked_modCtx _ c _).trans (worked_ite (.refl _) (worked_enlist _ c false))

theorem worked_tokenPass (s : State) (k : Nat) : Worked s (s.tokenPass k) := by
  unfold State.tokenPass
  split
  · exact worked_modToken s k _
  · exact (worked_modToken s k _).trans (worked_tokenGive _ k _)

theorem worked_tokenDrop (s : State) (c : Nat) : Worked s (s.tokenDrop c) := by
  unfold State.tokenDrop
  dsimp only
  split
  · exact .refl s
  · exact (worked_modCtx s c _).trans (worked_ite (.refl _) (worked_tokenPass _ _))

theorem worked_semPass (s : State) (i : Nat) : Worked s (s.semPass i).1 := by
  unfold State.semPass
  split
  · exact .refl s
  · dsimp only
    split
    · exact (worked_modSem s i _).trans <| (worked_modCtx _ _ _).trans (worked_enlist _ _ false)
    · split
      · exact (worked_modSem s i _).trans <| (worked_modCtx _ _ _).trans <|
          worked_ite_fst (.refl _) ((worked_toSeq _ _).trans (worked_placed _ _))
      · exact (worked_modSem s i _).trans (worked_modCtx _ _ _)

theorem worked_semDrop (s : State) (i : Nat) (abandoned : Bool) : Worked s (s.semDrop i abandoned).1 :=
  (worked_modSem s i _).trans <| (worked_ite (worked_setF _ _ _ _) (.refl _)).trans (worked_semPass _ i)

theorem worked_semDrops (abandoned : Bool) (l : List Nat) (s : State) : Worked s (s.semDrops abandoned l).1 := by
  induction l generalizing s with
  | nil => exact .refl s
  | cons i l ih => exact (worked_ite_fst (.refl s) (worked_semDrop s i abandoned)).trans (ih _)

/-! ## The end of an activation -/

theorem worked_dropOp (s : State) (c : Nat) : Worked s (s.dropOp c) := by
  unfold State.dropOp
  split
  · exact .refl s
  · exact (worked_lbFree s _ _).trans <|
      (worked_ite ((worked_lbFree _ _ _).trans (worked_modEpc _ _ (g := fun e => { e with part := [], partGran := 0 })
        (fun _ => rfl) fun _ => rfl)) (.refl _)).trans <|
      (worked_writes _ _).trans <| (worked_reqsDrop _ c).trans (worked_modCtx _ c _)

theorem worked_seqEnd (s : State) (c : Nat) : Worked s (s.seqEnd c) :=
  (worked_modCtx s c _).trans (worked_forL (fun _ s => worked_ite (worked_modEpc s _ (g := fun e => { e with dirty := true })
    (fun _ => rfl) fun _ => rfl) (.refl s)) _ _)

theorem worked_endCommon (s : State) (c code : Nat) (abandoned : Bool) :
    Worked s (s.endCommon c code abandoned).1 :=
  (worked_leaveEng s c).trans <| (worked_unready _ c).trans <| (worked_tokenLeave _ c).trans <|
    (worked_semLeave _ c).trans <| (worked_dropOp _ c).trans <| (worked_seqEnd _ c).trans <| (worked_modCtx _ c _).trans <|
    (worked_tokenDrop _ c).trans <| (worked_ite (worked_progDrop _ _) (.refl _)).trans (worked_semDrops abandoned _ _)

theorem worked_orphanTaken (s : State) (c : Nat) : Worked s (s.orphanTaken c) := by
  unfold State.orphanTaken
  split
  · exact worked_ite (worked_orphanize s _) (.refl s)
  · exact .refl s

theorem worked_latency (s : State) (c : Nat) : Worked s (s.latency c) := by
  unfold State.latency
  dsimp only
  split
  · exact .refl s
  · split
    · exact .of_eq rfl rfl
    · exact worked_ite (.refl s) (.of_eq rfl rfl)

theorem worked_tryFinish (s : State) (c : Nat) : Worked s (s.tryFinish c).1 :=
  worked_ite_fst (worked_finish s c _ _ _) (.refl s)

theorem worked_eventAt (s : State) (c tick : Nat) : Worked s (s.eventAt c tick) := by
  unfold State.eventAt
  dsimp only
  split
  · exact worked_ite (.refl s) ((worked_modCtx s c _).trans (worked_enlist _ c false))
  · exact .refl s

theorem worked_childEnd (s : State) (c code : Nat) : Worked s (s.childEnd c code).1 := by
  unfold State.childEnd
  dsimp only
  split
  · exact .refl s
  · exact (worked_ctxFree s c).trans <| (worked_modCtx _ _ _).trans <| (worked_eventAt _ _ 0).trans (worked_tryFinish _ _)

theorem worked_endResult (s : State) (c code : Nat) : Worked s (s.endResult c code).1 :=
  (worked_ite (worked_latency s c) (.refl s)).trans
    (worked_ite_fst (worked_tryFinish _ c) (worked_childEnd _ c code))

theorem worked_toEnding (s : State) (c : Nat) : Worked s (s.toEnding c) := by
  unfold State.toEnding
  dsimp only
  refine worked_ite (.refl s) ?_
  split
  · exact (worked_unready s c).trans <| (worked_tokenLeave _ c).trans (worked_modCtx _ c _)
  · exact (worked_leaveEng s c).trans (worked_modCtx _ c _)
  · exact worked_modCtx s c _
  · exact worked_modCtx s c _
  · exact worked_modCtx s c _
  · exact (worked_semLeave s c).trans (worked_modCtx _ c _)
  · exact (worked_tokenLeave s c).trans (worked_modCtx _ c _)
  · exact .refl s

/-! ## The entries of a ring -/

theorem worked_doReserve (s : State) (c : Nat) : Worked s (s.doReserve c) :=
  have hf := worked_finish s c
  have hd : Worked s { s with deciding := s.deciding ++ [c] } := .of_eq rfl rfl
  worked_ite (hf _ _ _) (worked_ite (hf _ _ _) (worked_ite (hd.trans (worked_modCtx _ c _)) (hf _ _ _)))

theorem worked_doRelease (s : State) (c : Nat) : Worked s (s.doRelease c) :=
  worked_ite (worked_finish s c _ _ _) (worked_ite (worked_finish s c _ _ _)
    (Worked.trans (t := s.setRsvP _ _) (.of_eq rfl rfl) (worked_finish _ c _ _ _)))

theorem worked_startEntry (s : State) (i r : Nat) (t : Taken) : Worked s (s.startEntry i r t).1 := by
  unfold State.startEntry
  dsimp only
  split
  · exact worked_modRing s _ _
  · split
    · exact (worked_modRing s _ _).trans <|
        worked_ite_fst (worked_finish _ _ _ _ _) (worked_ite (worked_enlist _ _ false) (.refl _))
    · exact (worked_modRing s _ _).trans (worked_finish _ _ _ _ _)
    · exact (worked_modRing s _ _).trans (worked_modRing _ _ _)
    · exact (worked_modRing s _ _).trans (worked_doReserve _ _)
    · exact (worked_modRing s _ _).trans (worked_doRelease _ _)
    · exact worked_modRing s _ _

theorem worked_tryEntry (s : State) (before : List Taken) (t : Taken) : Worked s (s.tryEntry before t) := by
  unfold State.tryEntry
  split
  · exact .refl s
  · exact worked_ite (worked_finish s _ _ _ _) (worked_ite (worked_finish s _ _ _ _) (.refl s))

theorem worked_pumpN (i r f k : Nat) (s : State) (js : List Job) : Worked s (State.pumpN i r f k s js).1 := by
  induction f generalizing k s js with
  | zero => exact .refl s
  | succ f ih =>
    unfold State.pumpN
    dsimp only
    split
    · exact .refl s
    · exact worked_ite_fst (ih _ _ _) <| worked_ite_fst (.refl s) <|
        (worked_ite_fst (.refl s) (worked_startEntry s i r _)).trans <| (worked_tryEntry _ _ _).trans (ih _ _ _)

/-! ## Jobs -/

theorem worked_job (s : State) (j : Job) : Worked s (s.job j).1 := by
  cases j with
  | ends c code =>
    exact worked_ite_fst ((worked_orphanTaken s c).trans <| (worked_endCommon _ c code true).trans
      (worked_endResult _ c code)) (.refl s)
  | posts c code => exact worked_ite_fst ((worked_endCommon s c code false).trans (worked_endResult _ c code)) (.refl s)
  | asks c code =>
    exact worked_ite_fst (worked_ite_fst (.refl s) ((worked_modCtx s c _).trans (worked_toEnding _ c))) <|
      worked_ite_fst (worked_modCtx s c _) (worked_ite_fst (worked_modCtx s c _) (.refl s))
  | pump i r => exact worked_pumpN i r 65537 0 s []

theorem worked_run (n : Nat) (js : List Job) (s : State) : Worked s (State.run n js s) := by
  induction n generalizing js s with
  | zero => exact .refl s
  | succ n ih =>
    cases js with
    | nil => exact .refl s
    | cons j js => exact (worked_job s j).trans (ih _ _)

theorem worked_jobs (s : State) (js : List Job) : Worked s (s.jobs js) :=
  (worked_run 1000000 js s).trans (worked_settle _)

end Sys2Proof.Machine
end

section
/-!
Detaches and the gambit pool's size (R118, R330, R331).
-/
namespace Sys2Proof.Machine

section

variable {s t : State} {d k e n : Nat}

/-! ## What stays of devices and attachments -/

theorem Worked.devs (h : Worked s t) : t.devs = s.devs := (congrArg State.devs h.1 :)
theorem Worked.att (h : Worked s t) : t.att = s.att := (congrArg State.att h.1 :)

/-- What each pass keeps, a loop keeps. -/
theorem forL_keeps {α : Type} {P : State → Prop} {f : α → State → State} (h : ∀ a s, P s → P (f a s)) (l : List α)
    (hs : P s) : P (forL l f s) := by
  induction l generalizing s with
  | nil => exact hs
  | cons a l ih => exact ih (h a s hs)

/-- Endpoint context `e` is live, belongs to device `k`, and an attachment that is live names it (R118). -/
structure State.Uses (s : State) (e k : Nat) : Prop where
  named : ∃ p ∈ s.att, p.2.cfg.live = true ∧ p.2.cfg.ep = e
  live : (s.epc e).live = true
  dev : (s.epc e).dev = k

/-- The device is detached, or its context is free. -/
def State.gone (s : State) (k : Nat) : Prop := (s.dev k).detached = true ∨ s.dev k = Dev.empty

theorem FMap.mem_of_find {α : Type} {a : α} {k : Nat} {m : FMap α} (h : FMap.find a k m ≠ a) : (k, FMap.find a k m) ∈ m := by
  induction m with
  | nil => exact absurd rfl h
  | cons p m ih =>
    obtain ⟨j, b⟩ := p
    by_cases hj : j = k
    · simp [FMap.find, hj]
    · simp only [FMap.find, hj, if_false] at h ⊢
      exact List.mem_cons_of_mem _ (ih h)

theorem FMap.mem_mapVals_of_mem {α : Type} [DecidableEq α] {a b : α} {j : Nat} {f : Nat → α → α} {m : FMap α}
    (h : (j, b) ∈ m) (hf : f j b ≠ a) : (j, f j b) ∈ FMap.mapVals a f m := by
  induction m with
  | nil => cases h
  | cons p m ih =>
    obtain ⟨i, c⟩ := p
    unfold FMap.mapVals
    obtain h | h := List.mem_cons.1 h
    · cases h
      rw [if_neg hf]
      exact List.mem_cons_self ..
    · split
      · exact ih h
      · exact List.mem_cons_of_mem _ (ih h)

/-- A live endpoint context is among those of its device. -/
theorem mem_epsOf (hl : (s.epc e).live = true) (hd : (s.epc e).dev = k) : e ∈ s.epsOf k := by
  have hne : s.epc e ≠ Ep.empty := fun h => by simp [h, Ep.empty] at hl
  refine List.mem_map.2 ⟨(e, s.epc e), List.mem_filter.2 ⟨FMap.mem_of_find hne, ?_⟩, rfl⟩
  simp [hl, hd]

/-- A live device is listed. -/
theorem mem_devs (hl : (s.dev k).live = true) : (k, s.dev k) ∈ s.devs := by
  have hne : s.dev k ≠ Dev.empty := fun h => by simp [h, Dev.empty] at hl
  exact FMap.mem_of_find hne

/-- An endpoint that is in use is referred to. -/
theorem State.Uses.held (h : s.Uses e k) : s.epHeld e = true := by
  obtain ⟨⟨p, hp, hl, he⟩, -, -⟩ := h
  have : s.att.any (fun q => q.2.cfg.live && q.2.cfg.ep == e) = true :=
    List.any_eq_true.2 ⟨p, hp, by simp [hl, he]⟩
  simp [State.epHeld, this]

theorem State.Uses.worked (h : s.Uses e k) (w : Worked s t) : t.Uses e k := by
  obtain ⟨hn, hl, hd⟩ := h
  exact ⟨w.att ▸ hn, (w.2 e).1.trans hl, (w.2 e).2.trans hd⟩

/-! ## One endpoint, one device (R332) -/

/-- The attachments of an endpoint marked, and what waits for the tick. -/
def State.epMarked (s : State) (e : Nat) : State :=
  let ks := (s.attsOf e).filter (fun k => !(s.atE k).cfg.detached)
  { s with
    att := s.att.mapVals Att.empty (fun _ a => if a.cfg.live && a.cfg.ep == e then
      { a with cfg := { a.cfg with detached := true } } else a),
    attP := s.attP.mapVals AttCfg.empty (fun _ a => if a.live && a.ep == e then { a with detached := true } else a),
    epaOps := s.epaOps ++ ks.map EpaOp.detach ++ (match s.secOf e with
      | some k => [EpaOp.secEnd k true]
      | none => []) }

theorem worked_detachEp (s : State) (e : Nat) : Worked (s.epMarked e) (s.detachEp e) :=
  (worked_orphanize (s.epMarked e) e).trans <|
    (worked_modEpc _ e (g := fun x => { x with dirty := false }) (fun _ => rfl) fun _ => rfl).trans (worked_jobs _ _)

/-- Marked attachments stay live, on their endpoints. -/
theorem State.Uses.marked (h : s.Uses e k) (j : Nat) : (s.epMarked j).Uses e k := by
  obtain ⟨⟨⟨i, a⟩, hp, hl, he⟩, hlive, hdev⟩ := h
  refine ⟨⟨_, FMap.mem_mapVals_of_mem hp ?_, ?_, ?_⟩, hlive, hdev⟩
  · intro hz
    have := congrArg (fun x => x.cfg.live) hz
    dsimp only at this hl
    split at this <;> simp [hl, Att.empty, AttCfg.empty] at this
  · dsimp only at hl ⊢
    split <;> exact hl
  · dsimp only at he ⊢
    split <;> exact he

theorem State.Uses.detachEp (h : s.Uses e k) (j : Nat) : (s.detachEp j).Uses e k := (h.marked j).worked (worked_detachEp s j)

theorem detachEp_devs (s : State) (j : Nat) : (s.detachEp j).devs = s.devs := (worked_detachEp s j).devs

theorem forL_detachEp_devs (l : List Nat) (s : State) : (forL l (fun e s => s.detachEp e) s).devs = s.devs :=
  forL_keeps (P := fun t => t.devs = s.devs) (fun e t h => (detachEp_devs t e).trans h) l rfl

theorem State.Uses.detachEps (h : s.Uses e k) (l : List Nat) : (forL l (fun e s => s.detachEp e) s).Uses e k :=
  forL_keeps (P := fun t => t.Uses e k) (fun j _ h => h.detachEp j) l h

theorem State.Uses.detachOne (h : s.Uses e k) (d : Nat) : (s.detachOne d).Uses e k := by
  unfold State.detachOne
  split
  · exact h
  · exact State.Uses.detachEps (s := s.modDev d _) ⟨h.named, h.live, h.dev⟩ _

theorem detachOne_dev (s : State) (d k : Nat) :
    (s.detachOne d).dev k = if k = d then { s.dev d with detached := true } else s.dev k := by
  unfold State.detachOne
  split
  next h =>
    split
    next hk =>
      rw [hk]
      generalize s.dev d = x at h
      cases x
      simp_all
    next => rfl
  next => rw [State.dev, forL_detachEp_devs]; exact setDev_get s d k _

/-! ## A device and those routed through it (R331) -/

/-- Every device of the list is marked, and marks stay. -/
theorem detachAll_detached (l : List Nat) (s : State) (h : k ∈ l ∨ (s.dev k).detached = true) :
    ((forL l (fun d s => s.detachOne d) s).dev k).detached = true := by
  induction l generalizing s with
  | nil => exact h.resolve_left (by simp)
  | cons d l ih =>
    refine ih (s.detachOne d) ?_
    rw [detachOne_dev]
    split
    · exact .inr rfl
    next hk =>
      refine h.imp_left fun hm => ?_
      exact (List.mem_cons.1 hm).resolve_left hk

theorem State.Uses.detachAll (h : s.Uses e k) (l : List Nat) : (forL l (fun d s => s.detachOne d) s).Uses e k :=
  forL_keeps (P := fun t => t.Uses e k) (fun d _ h => h.detachOne d) l h

/-! ## Contexts that nothing refers to (R118, R376) -/

theorem forL_setEpc (l : List Nat) (s : State) : (forL l (fun e s => s.setEpc e Ep.empty) s).devs = s.devs ∧
    (forL l (fun e s => s.setEpc e Ep.empty) s).att = s.att ∧
    ∀ e, e ∉ l → (forL l (fun e s => s.setEpc e Ep.empty) s).epc e = s.epc e := by
  induction l generalizing s with
  | nil => exact ⟨rfl, rfl, fun _ _ => rfl⟩
  | cons j l ih =>
    obtain ⟨hd, ha, he⟩ := ih (s.setEpc j Ep.empty)
    refine ⟨hd, ha, fun e hn => ?_⟩
    obtain ⟨hj, hl⟩ := not_or.1 (mt List.mem_cons.2 hn)
    exact (he e hl).trans ((setEpc_get s j e _).trans (if_neg hj))

/-- A device is freed, or stays as it is. -/
theorem freeDev_dev (s : State) (d k : Nat) : (s.freeDev d).dev k = s.dev k ∨ (s.freeDev d).dev k = Dev.empty := by
  unfold State.freeDev
  split
  · obtain ⟨hd, -, -⟩ := forL_setEpc (s.epsOf d) (s.setDev d Dev.empty)
    rw [State.dev, hd]
    change (s.setDev d Dev.empty).dev k = _ ∨ (s.setDev d Dev.empty).dev k = _
    rw [setDev_get]
    split
    · exact .inr rfl
    · exact .inl rfl
  · exact .inl rfl

/-- A device to which an attachment refers is not freed, and keeps its endpoint. -/
theorem freeDev_used (h : s.Uses e k) (d : Nat) : (s.freeDev d).dev k = s.dev k ∧ (s.freeDev d).Uses e k := by
  unfold State.freeDev
  split
  next hf =>
    obtain ⟨-, hall⟩ := Bool.and_eq_true_iff.1 hf
    have hout : e ∉ s.epsOf d := fun hm => by simpa [h.held] using List.all_eq_true.1 hall e hm
    have hk : k ≠ d := fun hkd => hout (mem_epsOf h.live (h.dev.trans hkd))
    obtain ⟨hd, ha, he⟩ := forL_setEpc (s.epsOf d) (s.setDev d Dev.empty)
    refine ⟨?_, ha ▸ h.named, (he e hout) ▸ h.live, (he e hout) ▸ h.dev⟩
    rw [State.dev, hd]
    exact (setDev_get s d k _).trans (if_neg hk)
  next => exact ⟨rfl, h⟩

theorem freeAll_gone (l : List Nat) (h : s.gone k) : (forL l (fun d s => s.freeDev d) s).gone k := by
  refine forL_keeps (P := fun t => t.gone k) (fun d t ht => ?_) l h
  unfold State.gone
  obtain hd | hd := freeDev_dev t d k
  · rwa [hd]
  · exact .inr hd

theorem freeAll_used (h : s.Uses e k) (l : List Nat) : (forL l (fun d s => s.freeDev d) s).dev k = s.dev k := by
  refine (forL_keeps (P := fun t => t.dev k = s.dev k ∧ t.Uses e k) (fun d t ht => ?_) l ⟨rfl, h⟩).1
  obtain ⟨hk, hu⟩ := ht
  obtain ⟨hd, hu'⟩ := freeDev_used hu d
  exact ⟨hd.trans hk, hu'⟩

/-! ## The detach of a device -/

/-- The devices that a detach marks. -/
def State.routedThrough (s : State) (d : Nat) : List Nat :=
  (s.devs.filter (fun q => q.1 == d ||
    ((s.dev d).route.length < q.2.route.length && (s.dev d).through q.2))).map Prod.fst

theorem detach_eq (s : State) (d : Nat) :
    s.detach d = (forL (s.routedThrough d) (fun k s => s.detachOne k) s).freeDevs := rfl

/-- A device that a detach marks is detached or its context free, and detached where an attachment refers to it. -/
theorem detach_marks (h : k ∈ s.routedThrough d) :
    (s.detach d).gone k ∧ ∀ e, s.Uses e k → ((s.detach d).dev k).detached = true := by
  have hm := detachAll_detached (s.routedThrough d) s (.inl h)
  refine ⟨freeAll_gone _ (.inl hm), fun e hu => ?_⟩
  rw [detach_eq, State.freeDevs, freeAll_used (hu.detachAll _)]
  exact hm

theorem mem_routedThrough_self (h : (s.dev d).live = true) : d ∈ s.routedThrough d :=
  List.mem_map.2 ⟨_, List.mem_filter.2 ⟨mem_devs h, by simp⟩, rfl⟩

theorem mem_routedThrough (hl : (s.dev d).route.length < (s.dev k).route.length)
    (ht : (s.dev d).through (s.dev k) = true) : k ∈ s.routedThrough d := by
  have hlive : (s.dev k).live = true := by
    simp only [Dev.through, Bool.and_eq_true] at ht
    exact ht.1.1.1
  exact List.mem_map.2 ⟨_, List.mem_filter.2 ⟨mem_devs hlive, by simp [hl, ht]⟩, rfl⟩

theorem kept_detach (s : State) (d : Nat) : Kept s (s.detach d) :=
  (kept_forL (fun k s => kept_detachOne s k) _ s).trans (kept_freeDevs _)

end

section

/-! ## `PORT_DET` and `PORT_GPOOL` -/

variable {s : State} {q : Requester} {n d : Nat}

theorem exec_portDetDetach : exec (.portDetDetach q n d) s =
    onDevice (fun s => s.gate q (.portDet n) (fun s => s.wrPortDet n (BitVec.ofNat 64 (2 ^ 28 + d % 2048)))) s := rfl
theorem exec_gpoolSizeWrite (v : Word32) : exec (.gpoolSizeWrite q v) s =
    onDevice (fun s => s.gate q .portGpool (fun s => s.wrPortGpool q (v.setWidth 64))) s := rfl

/-- The write that names a device to be detached. -/
def State.detNamed (s : State) (n d : Nat) : State := s.plainWrite (.portDet n) (BitVec.ofNat 64 (2 ^ 28 + d % 2048))

theorem detWord_cmd (d : Nat) : PORT_DET.CMD.get (BitVec.ofNat 64 (2 ^ 28 + d % 2048)) = 1 := by
  simp only [PORT_DET.CMD, Fld.get, Fld.width, Nat.shiftRight_eq_div_pow, BitVec.toNat_ofNat]
  omega
theorem detWord_device (h : d < 2048) : PORT_DET.DEVICE.get (BitVec.ofNat 64 (2 ^ 28 + d % 2048)) = d := by
  simp only [PORT_DET.DEVICE, Fld.get, Fld.width, Nat.shiftRight_eq_div_pow, BitVec.toNat_ofNat]
  omega

theorem wrPortDet_eq (h : d < 2048) : s.wrPortDet n (BitVec.ofNat 64 (2 ^ 28 + d % 2048)) =
    if (s.dev d).live && (s.dev d).port == n && !(s.dev d).detached then (s.detNamed n d).detach d
    else (s.detNamed n d).set1 (.portDet n) PORT_DET.IGN := by
  rw [State.wrPortDet, detWord_device h]
  exact if_pos (detWord_cmd d)

theorem portDetDetach_ignored (hd : d < 2048) (ha : s.accepts q (.portDet n) = true)
    (h : (s.dev d).live = false ∨ (s.dev d).port ≠ n ∨ (s.dev d).detached = true) :
    Answers (.portDetDetach q n d) s (fun t => t.flag (.portDet n) PORT_DET.IGN ∧ OnlyRegs s t [(Reg.portDet n).addr]) := by
  have hn : ¬ ((s.dev d).live && (s.dev d).port == n && !(s.dev d).detached) = true := by
    obtain h | h | h := h <;> simp [h]
  have ho := (onlyRegs_plainWrite s (.portDet n) (BitVec.ofNat 64 (2 ^ 28 + d % 2048))).trans
    (onlyRegs_set1 _ _ PORT_DET.IGN)
  exact answers_gate exec_portDetDetach ha ((wrPortDet_eq hd).trans (if_neg hn)) ho.kept ⟨set1_flag_same rfl, ho⟩

theorem portDetDetach_detaches {P : State → Prop} (hd : d < 2048) (ha : s.accepts q (.portDet n) = true)
    (hl : (s.dev d).live = true) (hp : (s.dev d).port = n) (hx : (s.dev d).detached = false)
    (h : P ((s.detNamed n d).detach d)) : Answers (.portDetDetach q n d) s P :=
  answers_gate exec_portDetDetach ha ((wrPortDet_eq hd).trans (if_pos (by simp [hl, hp, hx])))
    ((onlyRegs_plainWrite s _ _).kept.trans (kept_detach _ d)) h

/-- A size that the quotas leave room for. -/
theorem gpoolSizeWrite_takes {v : Word32} (ha : s.accepts q .portGpool = true)
    (h : ¬ (2048 < PORT_GPOOL.SIZE.get (v.setWidth 64) ∨ 4096 - PORT_GPOOL.SIZE.get (v.setWidth 64) <
      sumSlices (fun j => s.getF (.slcQmem j) SLC_QMEM.LB))) :
    Answers (.gpoolSizeWrite q v) s (fun t => t.getF .portGpool PORT_GPOOL.SIZE = PORT_GPOOL.SIZE.get (v.setWidth 64) ∧
      OnlyRegs s t [(Reg.portGpool).addr]) := by
  have ho := onlyRegs_plainWrite s .portGpool (v.setWidth 64)
  refine answers_gate (exec_gpoolSizeWrite v) ha (if_neg h) ho.kept ⟨?_, ho⟩
  rw [State.getF, rd_plainWrite rfl]
  exact (Fld.get_put_same PORT_GPOOL.SIZE _ _ rfl).trans (Fld.get_mod _ _)

theorem gpoolSizeWrite_violates {v : Word32} (ha : s.accepts q .portGpool = true)
    (h : 2048 < PORT_GPOOL.SIZE.get (v.setWidth 64) ∨ 4096 - PORT_GPOOL.SIZE.get (v.setWidth 64) <
      sumSlices (fun j => s.getF (.slcQmem j) SLC_QMEM.LB)) :
    exec (.gpoolSizeWrite q v) s = .next (s.violation q Reg.portGpool.loc) :=
  (exec_gpoolSizeWrite v).trans (onDevice_eq (accepts_up ha) ((gate_accepts ha _).trans (if_pos h))
    (violation_aon s q _) (violation_pending s q _))

end

/-- Settles O49: a detach marks each device of one list, and the freeing that follows passes over a device to which an
attachment refers; a pool size is a plain write or a violation. -/
theorem detachAndPool : Obligations.DetachAndPool := by
  unfold Obligations.DetachAndPool
  intro s q
  refine ⟨fun n d _ hd ha => ⟨fun hl hp hx => ?_, portDetDetach_ignored hd ha⟩,
    fun v ha => ⟨fun h1 h2 => gpoolSizeWrite_takes ha (by omega), gpoolSizeWrite_violates ha⟩⟩
  have out {k : Nat} (hk : k ∈ (s.detNamed n d).routedThrough d) :
      (((((s.detNamed n d).detach d).dev k).detached = true ∨ ((s.detNamed n d).detach d).dev k = Dev.empty) ∧
        ((∃ p ∈ s.att, p.2.cfg.live = true ∧ (s.epc p.2.cfg.ep).live = true ∧ (s.epc p.2.cfg.ep).dev = k) →
          (((s.detNamed n d).detach d).dev k).detached = true)) := by
    obtain ⟨hg, hu⟩ := detach_marks hk
    refine ⟨hg, ?_⟩
    rintro ⟨p, hp, hlive, helive, hedev⟩
    exact hu p.2.cfg.ep ⟨⟨p, hp, hlive, rfl⟩, helive, hedev⟩
  exact portDetDetach_detaches hd ha hl hp hx
    ⟨out (mem_routedThrough_self (s := s.detNamed n d) hl), fun k hr ht =>
      out (mem_routedThrough (s := s.detNamed n d) hr ht)⟩

end Sys2Proof.Machine
end

section
/-!
A fence of a slice while a cluster dispatches (R131, R234).
-/
namespace Sys2Proof.Machine

/-- Slice 1 has one item, context 5, which waits for host memory. It stands in the ready list of cluster 0 all the same, where
no run puts a parked item, but the statement ranges over every state. Context 6, of slice 2, has become ready in the cycle,
so that the cluster dispatches once the fence has acted. -/
def parkedInReadyList : State :=
  let items : FMap Ctx := [(5, { Ctx.free with slice := 1, act := .parked (.hld 0 0) }),
    (6, { Ctx.free with slice := 2, act := .ready })]
  { State.reset with ctxs := items, ready := [(0, [5])], cyc := ⟨1, [], [], [(6, false)], false⟩ }.wrE (.slcQeng 1)
    (SLC_QENG.TE.put 8 0)

/-- An engine takes the item that the fence has left parked. -/
theorem parkedInReadyList_runs :
    (match exec (.slcFence .ma 1) parkedInReadyList with
      | .next t => (t.ctx 5).act
      | _ => .free) = .running 0 := by
  decide +kernel

/-- Refutes O33: the clause on an item that waits for host memory says that the fence leaves it parked with `SLICE_FENCED`,
and does not ask that the item is out of the ready lists. In `parkedInReadyList` the dispatch that ends the command lets an
engine take it. -/
theorem not_sliceFenceAndReset : ¬ Obligations.SliceFenceAndReset := by
  unfold Obligations.SliceFenceAndReset
  intro h
  have hacc : parkedInReadyList.accepts .ma (.slcCsr 1) = true := by decide +kernel
  have hreset : parkedInReadyList.inReset 1 = false := by decide +kernel
  have hitems : parkedInReadyList.ctxsOf 1 (fun x => x.act == .other) = [] ∧
      parkedInReadyList.ctxsOf 1 Ctx.going = [5] := by decide +kernel
  have hact : (parkedInReadyList.ctx 5).act = .parked (.hld 0 0) ∧ (parkedInReadyList.ctx 5).going := by decide +kernel
  obtain ⟨-, -, hparked, -⟩ := h parkedInReadyList .ma 1 (by decide) (by decide) hacc
  obtain ⟨t, ht, -, hctx⟩ := hparked 5 0 0 hreset hitems.1 hitems.2 hact.1 hact.2
  have hrun := parkedInReadyList_runs
  rw [ht] at hrun
  exact absurd ((congrArg Ctx.act hctx).symm.trans hrun) (by rw [hact.1]; decide)

end Sys2Proof.Machine
end

section
/-!
Ring control (R136 to R138, R153, R157): what a write to `RING_CTL` does before its enable bit acts, the start and the
shutdown of a ring, and its moderation timer.
-/
namespace Sys2Proof.Machine

section

variable {s t u : State} {q : Requester} {i r : Nat} {p : Reg} {f : Fld} {l : List Nat}

/-! ## Registers and maps -/

theorem OnlyRegs.keepsRegs (h : OnlyRegs s t l) : KeepsRegs s t l := h.1
theorem OnlyRegs.eff (h : OnlyRegs s t l) : t.eff = s.eff := (congrArg State.eff h.2 :)
theorem OnlyRegs.ring (h : OnlyRegs s t l) (k : Nat) : t.ring k = s.ring k :=
  congrArg (FMap.find Ring.init k) (congrArg State.rings h.2 :)

theorem KeepsRegs.trans (h : KeepsRegs s t l) (k : KeepsRegs t u l) : KeepsRegs s u l :=
  fun p hp => (k p hp).trans (h p hp)

theorem KeepsRegs.mono {l' : List Nat} (h : KeepsRegs s t l) (hl : l ⊆ l') : KeepsRegs s t l' :=
  fun p hp => h p fun hm => hp (hl hm)

theorem keepsRegs_setF (s : State) (p : Reg) (f : Fld) (x : Nat) : KeepsRegs s (s.setF p f x) [p.addr] :=
  (onlyRegs_setF s p f x).keepsRegs

theorem getF_of_rd (h : t.rd p = s.rd p) (f : Fld) : t.getF p f = s.getF p f := congrArg f.get h
theorem flag_of_rd (h : t.rd p = s.rd p) (f : Fld) : t.flag p f = s.flag p f := congrArg (· != 0) (getF_of_rd h f)

/-- A one-bit field is at most 1. -/
theorem getF_le_one (s : State) (p : Reg) (hf : f.width = 1) : s.getF p f ≤ 1 := by
  rw [State.getF, ← Fld.get_mod, hf]
  omega

theorem FMap.filter_drop {α : Type} {g : Nat × α → Bool} {k : Nat} (h : ∀ a, g (k, a) = false) (m : FMap α) :
    (FMap.drop k m).filter g = m.filter g := by
  induction m with
  | nil => rfl
  | cons e m ih =>
    obtain ⟨j, b⟩ := e
    by_cases hj : j = k
    · subst hj
      simp [FMap.drop, ih, h]
    · simp [FMap.drop, hj, List.filter_cons, ih]

theorem FMap.filter_insert {α : Type} {g : Nat × α → Bool} {k : Nat} (h : ∀ a, g (k, a) = false) (a : α) (m : FMap α) :
    (FMap.insert k a m).filter g = m.filter g := by
  induction m with
  | nil => simp [FMap.insert, h]
  | cons e m ih =>
    obtain ⟨j, b⟩ := e
    by_cases hlt : k < j
    · simp [FMap.insert, hlt, h]
    · by_cases hj : j = k
      · subst hj
        simp [FMap.insert, h]
      · simp [FMap.insert, hlt, hj, List.filter_cons, ih]

/-- A count does not see a key for which its predicate never holds. -/
theorem FMap.count_put {α : Type} [DecidableEq α] {g : Nat → α → Bool} {k : Nat} (h : ∀ a, g k a = false) (d a : α)
    (m : FMap α) : FMap.count g (FMap.put d k a m) = FMap.count g m := by
  unfold FMap.count FMap.put
  split
  · rw [FMap.filter_drop h]
  · rw [FMap.filter_insert h]

/-- Software's write is on record for the rest of the cycle (R11). -/
theorem noteWrite_wroteNow (s : State) (p : Reg) : (s.noteWrite p).wroteNow p = true := by
  have hat : s.cycle.at_ = s.now + 1 := by
    unfold State.cycle
    split
    · assumption
    · rfl
  have hc : (s.noteWrite p).cycle = { s.cycle with wrote := p.addr :: s.cycle.wrote } := if_pos hat
  simp [State.wroteNow, hc]

/-! ## The registers of a ring -/

theorem slcCsr_addr_ne_ringCtl : (Reg.slcCsr i).addr ≠ (Reg.ringCtl i r).addr := by
  simp only [Reg.addr]
  omega

theorem ringCtl_loc (hi : i < 256) (hr : r < 64) : (Reg.ringCtl i r).loc = .page i (0x118 + r * 0x20) := by
  have ha : (Reg.ringCtl i r).addr = 0x100000000 + i * 0x10000 + 0x118 + r * 0x20 := rfl
  have hpage : ((Reg.ringCtl i r).addr - 0x100000000) / 0x10000 % 256 = i := by omega
  have hoff : ((Reg.ringCtl i r).addr - 0x100000000) % 0x10000 = 0x118 + r * 0x20 := by omega
  rw [Reg.loc, if_neg (by omega), hpage, hoff]

/-- While its slice is in reset a ring takes no writes (R132). -/
theorem accepts_ringCtl_inReset (hi : i < 256) (hr : r < 64) (h : s.accepts q (.ringCtl i r) = true) :
    s.inReset i = false := by
  simp only [State.accepts, Bool.and_eq_true, Bool.not_eq_true'] at h
  obtain ⟨⟨-, hshut⟩, -⟩ := h
  rw [ringCtl_loc hi hr] at hshut
  exact (Bool.or_eq_false_iff.1 hshut).1

/-- The rings that count as busy are told by `RING_STS`, which no write to `RING_CTL` changes. -/
theorem ringsBusy_setF_ringCtl (hr : r < 64) (s : State) (f : Fld) (x : Nat) :
    (s.setF (.ringCtl i r) f x).ringsBusy = s.ringsBusy := by
  refine FMap.count_put (fun a => ?_) _ _ _
  have hlow : ¬ 0x900 ≤ (Reg.ringCtl i r).addr % 65536 := by
    simp only [Reg.addr]
    omega
  simp [hlow]

/-- The check of a ring's regions looks at four registers of the ring and at the effective windows. -/
theorem ringRegions_congr (hc : t.rd (.ringCtl i r) = s.rd (.ringCtl i r))
    (hbase : t.rd (.ringBase i r) = s.rd (.ringBase i r)) (hdha : t.rd (.ringDha i r) = s.rd (.ringDha i r))
    (htsa : t.rd (.ringTsa i r) = s.rd (.ringTsa i r)) (he : t.eff = s.eff) :
    t.ringRegions i r = s.ringRegions i r := by
  have hw (a n : Nat) : t.inWindow i a n = s.inWindow i a n := by
    unfold State.inWindow State.winHas State.rdE
    rw [he]
  simp only [State.ringRegions, State.ringN, getF_of_rd hc, hbase, hdha, htsa, flag_of_rd htsa, hw]

/-- The conditions on an enable do not see a step that keeps the registers, the effective copies and the count of busy
rings. -/
theorem enRefused_congr (hr : r < 64) (hk : KeepsRegs s t [(Reg.ringCtl i r).addr])
    (hc : t.rd (.ringCtl i r) = s.rd (.ringCtl i r)) (he : t.eff = s.eff) (hb : t.ringsBusy = s.ringsBusy) :
    t.enRefused i r = s.enRefused i r := by
  have hsts := hk (.ringSts i r) (by simpa using (ringCtl_addr_ne_ringSts hr).symm)
  have hbase := hk (.ringBase i r) (by simp only [Reg.addr, List.mem_singleton]; omega)
  have hdha := hk (.ringDha i r) (by simp only [Reg.addr, List.mem_singleton]; omega)
  have htsa := hk (.ringTsa i r) (by simp only [Reg.addr, List.mem_singleton]; omega)
  have hcsr := hk (.slcCsr i) (by simpa using slcCsr_addr_ne_ringCtl)
  have hE (p : Reg) (f : Fld) : t.getE p f = s.getE p f := by rw [State.getE, State.rdE, he, State.getE, State.rdE]
  unfold State.enRefused State.ringN State.fenced State.inReset
  rw [getF_of_rd hc, getF_of_rd hc, flag_of_rd hsts, flag_of_rd hcsr, flag_of_rd hcsr, hbase, hE, hE, hb,
    ringRegions_congr hc hbase hdha htsa he]

/-- A size below 4 is refused (R137). -/
theorem enRefused_of_size (h : s.getF (.ringCtl i r) RING_CTL.SIZE < 4) : s.enRefused i r = true := by
  simp [State.enRefused, h]

/-! ## A ring that may fall idle -/

/-- A ring falls idle, or nothing happens (R153, R157). -/
theorem ringIdle_cases (s : State) (i r : Nat) :
    s.ringIdle i r = (s.ringUnshut i r).set1 (.ringSts i r) RING_STS.IDLE ∨ s.ringIdle i r = s := ite_eq_or_eq _ _ _

/-- Of the ring's record, falling idle touches the mark of a ring that the 7120 has shut down alone. -/
theorem ringIdle_ring (s : State) (i r : Nat) :
    ∃ b, (s.ringIdle i r).ring (rKey i r) = { s.ring (rKey i r) with shut := b } := by
  have hu : ∃ b, (s.ringUnshut i r).ring (rKey i r) = { s.ring (rKey i r) with shut := b } := by
    unfold State.ringUnshut
    split
    · exact ⟨false, setRing_same _ _ _⟩
    · exact ⟨_, rfl⟩
  obtain h | h := ringIdle_cases s i r
  · rw [h]
    exact hu
  · rw [h]
    exact ⟨_, rfl⟩

/-- In the cycle of a write to it, `RING_CTL` keeps what software has written (R11). -/
theorem ringIdle_ringCtl (hr : r < 64) (hw : s.wroteNow (.ringCtl i r) = true) :
    (s.ringIdle i r).rd (.ringCtl i r) = s.rd (.ringCtl i r) := by
  have hu : (s.ringUnshut i r).rd (.ringCtl i r) = s.rd (.ringCtl i r) := by
    rw [State.ringUnshut, if_pos hw]
    split
    · rfl
    · rfl
  obtain h | h := ringIdle_cases s i r
  · rw [h, set1_rd, rd_setF_ne _ _ _ (ringCtl_addr_ne_ringSts hr), hu]
  · rw [h]

/-- An idle ring stays idle. -/
theorem ringIdle_idle (h : s.flag (.ringSts i r) RING_STS.IDLE = true) :
    (s.ringIdle i r).flag (.ringSts i r) RING_STS.IDLE = true := by
  obtain he | he := ringIdle_cases s i r
  · rw [he]
    exact set1_flag_same rfl
  · rw [he, h]

/-! ## A write to `RING_CTL` before its enable bit acts (R136) -/

/-- `IE` written: a change of it clears the pending count and stops the timer. -/
def State.ieWritten (s : State) (i r ie : Nat) : State :=
  if ie = s.getF (.ringCtl i r) RING_CTL.IE then s
  else ((s.setF (.ringCtl i r) RING_CTL.IE ie).modClear i r).ringIdle i r

/-- `SIZE` and `VEC` written, where the ring is open to it. -/
def State.shapeWritten (s : State) (i r : Nat) (v : Word64) : State :=
  if s.ringOpen i r then
    (s.setF (.ringCtl i r) RING_CTL.SIZE (RING_CTL.SIZE.get v)).setF (.ringCtl i r) RING_CTL.VEC (RING_CTL.VEC.get v)
  else s

/-- All fields but the enable bit written. -/
def State.ctlWritten (s : State) (i r : Nat) (v : Word64) : State :=
  ((s.noteWrite (.ringCtl i r)).ieWritten i r (RING_CTL.IE.get v)).shapeWritten i r v

theorem wrRingCtl_eq (s : State) (i r : Nat) (v : Word64) : s.wrRingCtl i r v =
    (let u := s.ctlWritten i r v
     if (RING_CTL.EN.get v != 0) = u.flag (.ringCtl i r) RING_CTL.EN then u
     else if RING_CTL.EN.get v != 0 then
       (if u.enRefused i r then u.set1 (.ringSts i r) RING_STS.ENREJ else u.ringStart i r)
     else u.ringStop i r true) := rfl

theorem ieWritten_same {ie : Nat} (h : ie = s.getF (.ringCtl i r) RING_CTL.IE) : s.ieWritten i r ie = s := if_pos h

theorem shapeWritten_shut {v : Word64} (h : s.ringOpen i r = false) : s.shapeWritten i r v = s := if_neg (by simp [h])

theorem onlyRegs_shapeWritten (s : State) (i r : Nat) (v : Word64) :
    OnlyRegs s (s.shapeWritten i r v) [(Reg.ringCtl i r).addr] := by
  unfold State.shapeWritten
  split
  · exact (onlyRegs_setF _ _ _ _).trans (onlyRegs_setF _ _ _ _)
  · exact ⟨fun _ _ => rfl, rfl⟩

theorem shapeWritten_getF_apart {v : Word64} (s : State) (hs : f.apart RING_CTL.SIZE = true)
    (hv : f.apart RING_CTL.VEC = true) : (s.shapeWritten i r v).getF (.ringCtl i r) f = s.getF (.ringCtl i r) f := by
  unfold State.shapeWritten
  split
  · rw [getF_setF_apart _ _ _ _ _ rfl hv, getF_setF_apart _ _ _ _ _ rfl hs]
  · rfl

theorem shapeWritten_size {v : Word64} (h : s.ringOpen i r = true) :
    (s.shapeWritten i r v).getF (.ringCtl i r) RING_CTL.SIZE = RING_CTL.SIZE.get v := by
  rw [State.shapeWritten, if_pos h, getF_setF_apart _ _ _ _ _ rfl rfl, getF_setF_same _ _ _ _ rfl, Fld.get_mod]

/-- Values that the fields already have leave the register as it is. -/
theorem shapeWritten_unchanged {v : Word64} (hs : RING_CTL.SIZE.get v = s.getF (.ringCtl i r) RING_CTL.SIZE)
    (hv : RING_CTL.VEC.get v = s.getF (.ringCtl i r) RING_CTL.VEC) :
    (s.shapeWritten i r v).rd (.ringCtl i r) = s.rd (.ringCtl i r) := by
  unfold State.shapeWritten
  split
  · rw [rd_setF_same, rd_setF_same, hs, hv, State.getF, State.getF, Fld.put_get _ _ rfl, Fld.put_get _ _ rfl]
  · rfl

theorem shapeWritten_ringsBusy (hr : r < 64) (s : State) (v : Word64) :
    (s.shapeWritten i r v).ringsBusy = s.ringsBusy := by
  unfold State.shapeWritten
  split
  · rw [ringsBusy_setF_ringCtl hr, ringsBusy_setF_ringCtl hr]
  · rfl

/-! ### What is left when the enable bit acts -/

theorem kept_ieWritten (s : State) (i r ie : Nat) : Kept s (s.ieWritten i r ie) :=
  kept_ite (.refl s) (ringIdle_falls ((s.setF (.ringCtl i r) RING_CTL.IE ie).modClear i r) i r).kept

theorem keepsRegs_ieWritten (s : State) (i r ie : Nat) :
    KeepsRegs s (s.ieWritten i r ie) [(Reg.ringCtl i r).addr, (Reg.ringSts i r).addr] := by
  unfold State.ieWritten
  split
  · exact fun _ _ => rfl
  · exact ((keepsRegs_setF s _ _ _).mono (by simp)).trans
      (ringIdle_falls ((s.setF (.ringCtl i r) RING_CTL.IE ie).modClear i r) i r).regs

/-- Of `RING_CTL`, a change of `IE` changes that field alone. -/
theorem ieWritten_ringCtl {ie : Nat} (hr : r < 64) (hw : s.wroteNow (.ringCtl i r) = true)
    (h : ie ≠ s.getF (.ringCtl i r) RING_CTL.IE) :
    (s.ieWritten i r ie).rd (.ringCtl i r) = (s.setF (.ringCtl i r) RING_CTL.IE ie).rd (.ringCtl i r) := by
  rw [State.ieWritten, if_neg h]
  exact ringIdle_ringCtl (s := (s.setF (.ringCtl i r) RING_CTL.IE ie).modClear i r) hr hw

theorem ieWritten_getF_apart {ie : Nat} (hr : r < 64) (hw : s.wroteNow (.ringCtl i r) = true)
    (hf : f.apart RING_CTL.IE = true) : (s.ieWritten i r ie).getF (.ringCtl i r) f = s.getF (.ringCtl i r) f := by
  by_cases h : ie = s.getF (.ringCtl i r) RING_CTL.IE
  · rw [ieWritten_same h]
  · rw [getF_of_rd (ieWritten_ringCtl hr hw h), getF_setF_apart _ _ _ _ _ rfl hf]

/-- A change of `IE` clears the pending count and stops the timer (R136). -/
theorem ieWritten_ring {ie : Nat} (h : ie ≠ s.getF (.ringCtl i r) RING_CTL.IE) :
    ∃ b, (s.ieWritten i r ie).ring (rKey i r) = { s.ring (rKey i r) with pend := 0, timer := false, shut := b } := by
  rw [State.ieWritten, if_neg h]
  obtain ⟨b, hb⟩ := ringIdle_ring ((s.setF (.ringCtl i r) RING_CTL.IE ie).modClear i r) i r
  exact ⟨b, by rw [hb, State.modClear, State.modRing, setRing_same]; rfl⟩

/-- A ring that is open to a new shape is so after a write of `IE` too. -/
theorem ieWritten_ringOpen (hr : r < 64) (hw : s.wroteNow (.ringCtl i r) = true) (ho : s.ringOpen i r = true)
    (ie : Nat) : (s.ieWritten i r ie).ringOpen i r = true := by
  simp only [State.ringOpen, Bool.and_eq_true, Bool.not_eq_true'] at ho ⊢
  obtain ⟨hen, hidle⟩ := ho
  refine ⟨by rw [State.flag, ieWritten_getF_apart hr hw rfl]; exact hen, ?_⟩
  unfold State.ieWritten
  split
  · exact hidle
  · exact ringIdle_idle ((flag_of_rd (rd_setF_ne s _ _ (ringCtl_addr_ne_ringSts hr).symm) _).trans hidle)

section
variable (s i r) (v : Word64)

theorem kept_ctlWritten : Kept s (s.ctlWritten i r v) :=
  (kept_ieWritten (s.noteWrite (.ringCtl i r)) i r _).trans (onlyRegs_shapeWritten _ i r v).kept

theorem keepsRegs_ctlWritten : KeepsRegs s (s.ctlWritten i r v) [(Reg.ringCtl i r).addr, (Reg.ringSts i r).addr] :=
  (keepsRegs_ieWritten (s.noteWrite (.ringCtl i r)) i r _).trans
    ((onlyRegs_shapeWritten _ i r v).keepsRegs.mono (by simp))

/-- The enable bit stands as before. -/
theorem ctlWritten_en (hr : r < 64) :
    (s.ctlWritten i r v).flag (.ringCtl i r) RING_CTL.EN = s.flag (.ringCtl i r) RING_CTL.EN := by
  rw [State.flag, State.ctlWritten, shapeWritten_getF_apart _ rfl rfl,
    ieWritten_getF_apart hr (noteWrite_wroteNow s _) rfl]
  rfl

end

variable {v : Word64}

/-- The enable bit written as it stands. -/
theorem wrRingCtl_en_same (hr : r < 64) (h : (RING_CTL.EN.get v != 0) = s.flag (.ringCtl i r) RING_CTL.EN) :
    s.wrRingCtl i r v = s.ctlWritten i r v := by
  rw [wrRingCtl_eq]
  exact if_pos (h.trans (ctlWritten_en s i r v hr).symm)

theorem wrRingCtl_enable (hr : r < 64) (hv : RING_CTL.EN.get v = 1) (h : s.flag (.ringCtl i r) RING_CTL.EN = false) :
    s.wrRingCtl i r v = if (s.ctlWritten i r v).enRefused i r then
      (s.ctlWritten i r v).set1 (.ringSts i r) RING_STS.ENREJ else (s.ctlWritten i r v).ringStart i r := by
  have he := (ctlWritten_en s i r v hr).trans h
  simp [wrRingCtl_eq, hv, he]

theorem wrRingCtl_disable (hr : r < 64) (hv : RING_CTL.EN.get v = 0) (h : s.flag (.ringCtl i r) RING_CTL.EN = true) :
    s.wrRingCtl i r v = (s.ctlWritten i r v).ringStop i r true := by
  have he := (ctlWritten_en s i r v hr).trans h
  simp [wrRingCtl_eq, hv, he]

/-! ## Enabling a ring (R137, R138) -/

/-- The registers of a ring as it starts. -/
def State.ringCleared (s : State) (i r : Nat) : State :=
  (((s.set1 (.ringCtl i r) RING_CTL.EN).wr (.ringDone i r) 0).setF (.ringSts i r) RING_STS.SCAN 0).setF (.ringSts i r)
    RING_STS.IDLE 0

theorem ringStart_eq (s : State) (i r : Nat) : s.ringStart i r = (s.ringCleared i r).setRing (rKey i r)
    { Ring.init with pend := (s.ring (rKey i r)).pend, timer := (s.ring (rKey i r)).timer } := rfl

theorem ringStart_rd (s : State) (i r : Nat) (p : Reg) : (s.ringStart i r).rd p = (s.ringCleared i r).rd p := by
  rw [ringStart_eq, setRing_rd]

theorem ringStart_ringCtl (hr : r < 64) (s : State) :
    (s.ringStart i r).rd (.ringCtl i r) = (s.set1 (.ringCtl i r) RING_CTL.EN).rd (.ringCtl i r) := by
  rw [ringStart_rd, State.ringCleared, rd_setF_ne _ _ _ (ringCtl_addr_ne_ringSts hr),
    rd_setF_ne _ _ _ (ringCtl_addr_ne_ringSts hr), rd_wr_ne _ _ ringDone_addr_ne_ringCtl.symm]

theorem ringStart_ringDone (s : State) (i r : Nat) : (s.ringStart i r).rd (.ringDone i r) = 0 := by
  rw [ringStart_rd, State.ringCleared, rd_setF_ne _ _ _ ringDone_addr_ne_ringSts,
    rd_setF_ne _ _ _ ringDone_addr_ne_ringSts, rd_wr_same]

theorem ringStart_scan (s : State) (i r : Nat) : (s.ringStart i r).getF (.ringSts i r) RING_STS.SCAN = 0 := by
  rw [getF_of_rd (ringStart_rd s i r _), State.ringCleared, getF_setF_apart _ _ _ _ _ rfl rfl,
    getF_setF_same _ _ _ _ rfl, Nat.zero_mod]

theorem ringStart_idle (s : State) (i r : Nat) : (s.ringStart i r).flag (.ringSts i r) RING_STS.IDLE = false := by
  rw [flag_of_rd (ringStart_rd s i r _), State.ringCleared, flag_setF_zero _ _ rfl]

theorem ringStart_ring (s : State) (i r : Nat) : (s.ringStart i r).ring (rKey i r) =
    { Ring.init with pend := (s.ring (rKey i r)).pend, timer := (s.ring (rKey i r)).timer } := by
  rw [ringStart_eq, setRing_same]

theorem keepsRegs_ringStart (s : State) (i r : Nat) : KeepsRegs s (s.ringStart i r)
    [(Reg.ringCtl i r).addr, (Reg.ringDone i r).addr, (Reg.ringSts i r).addr] := by
  intro p hp
  simp only [List.mem_cons, List.not_mem_nil, or_false, not_or] at hp
  obtain ⟨hctl, hdone, hsts⟩ := hp
  rw [ringStart_rd, State.ringCleared, rd_setF_ne _ _ _ hsts, rd_setF_ne _ _ _ hsts, rd_wr_ne _ _ hdone, set1_rd,
    rd_setF_ne _ _ _ hctl]

theorem kept_ringStart (s : State) (i r : Nat) : Kept s (s.ringStart i r) := by
  have hclear : Kept s (s.ringCleared i r) :=
    (kept_set1 s _ _).trans <| Kept.trans ⟨wr_aon _ _ _, wr_pending _ _ _⟩ <|
      (kept_setF _ _ _ _).trans (kept_setF _ _ _ _)
  rw [ringStart_eq]
  exact hclear.trans ⟨setRing_aon _ _ _, setRing_pending _ _ _⟩

theorem exec_ringEnable (v : Word32) : exec (.ringEnable q i r v) s = onDevice (fun s => s.gate q (.ringCtl i r)
    (fun s => s.wrRingCtl i r (RING_CTL.EN.put 1 (v.setWidth 64)))) s := rfl

theorem ringOpen_iff : s.ringOpen i r = true ↔
    s.flag (.ringCtl i r) RING_CTL.EN = false ∧ s.flag (.ringSts i r) RING_STS.IDLE = true := by
  simp [State.ringOpen]

/-- A write of `IE`, `SIZE` and `VEC` as they stand leaves the other registers and the conditions on an enable as
they are. -/
theorem ctlWritten_unchanged (hr : r < 64) (hie : RING_CTL.IE.get v = s.getF (.ringCtl i r) RING_CTL.IE)
    (hs : RING_CTL.SIZE.get v = s.getF (.ringCtl i r) RING_CTL.SIZE)
    (hv : RING_CTL.VEC.get v = s.getF (.ringCtl i r) RING_CTL.VEC) :
    KeepsRegs s (s.ctlWritten i r v) [(Reg.ringCtl i r).addr] ∧
      (s.ctlWritten i r v).enRefused i r = s.enRefused i r := by
  have hu : s.ctlWritten i r v = (s.noteWrite (.ringCtl i r)).shapeWritten i r v :=
    congrArg (·.shapeWritten i r v) (ieWritten_same (s := s.noteWrite (.ringCtl i r)) hie)
  have ho := onlyRegs_shapeWritten (s.noteWrite (.ringCtl i r)) i r v
  rw [hu]
  exact ⟨ho.keepsRegs, enRefused_congr (s := s.noteWrite (.ringCtl i r)) hr ho.keepsRegs (shapeWritten_unchanged hs hv)
    ho.eff (shapeWritten_ringsBusy hr _ v)⟩

theorem ringEnable_starts {v : Word32} (hr : r < 64) (ha : s.accepts q (.ringCtl i r) = true)
    (ho : s.ringOpen i r = true) (hie : RING_CTL.IE.get (v.setWidth 64) = s.getF (.ringCtl i r) RING_CTL.IE)
    (hs : RING_CTL.SIZE.get (v.setWidth 64) = s.getF (.ringCtl i r) RING_CTL.SIZE)
    (hv : RING_CTL.VEC.get (v.setWidth 64) = s.getF (.ringCtl i r) RING_CTL.VEC) (hn : s.enRefused i r = false) :
    Answers (.ringEnable q i r v) s (fun t => t.flag (.ringCtl i r) RING_CTL.EN ∧ t.rd (.ringDone i r) = 0 ∧
      t.getF (.ringSts i r) RING_STS.SCAN = 0 ∧ t.flag (.ringSts i r) RING_STS.IDLE = false ∧
      (t.ring (rKey i r)).lap = 0 ∧ (t.ring (rKey i r)).taken = [] ∧
      KeepsRegs s t [(Reg.ringCtl i r).addr, (Reg.ringDone i r).addr, (Reg.ringSts i r).addr]) := by
  obtain ⟨hen, -⟩ := ringOpen_iff.1 ho
  have hput (f : Fld) (hf : f.apart RING_CTL.EN = true) :
      f.get (RING_CTL.EN.put 1 (v.setWidth 64)) = f.get (v.setWidth 64) := Fld.get_put_apart _ _ _ _ rfl hf
  obtain ⟨hk, hc⟩ := ctlWritten_unchanged hr ((hput _ rfl).trans hie) ((hput _ rfl).trans hs) ((hput _ rfl).trans hv)
  refine answers_gate (exec_ringEnable v) ha
    ((wrRingCtl_enable hr (Fld.get_put_same _ _ _ rfl) hen).trans (if_neg (by simp [hc, hn])))
    ((kept_ctlWritten s i r _).trans (kept_ringStart _ i r)) ?_
  have hring := ringStart_ring (s.ctlWritten i r (RING_CTL.EN.put 1 (v.setWidth 64))) i r
  refine ⟨?_, ringStart_ringDone _ i r, ringStart_scan _ i r, ringStart_idle _ i r, by rw [hring]; rfl,
    by rw [hring]; rfl, (hk.mono (by simp)).trans (keepsRegs_ringStart _ i r)⟩
  rw [flag_of_rd (ringStart_ringCtl hr _), set1_flag_same rfl]

/-- A size below 4 written while the ring is open is the one that the enable is judged by. -/
theorem ringEnable_refused {v : Word32} (hr : r < 64) (ha : s.accepts q (.ringCtl i r) = true)
    (ho : s.ringOpen i r = true) (hs : RING_CTL.SIZE.get (v.setWidth 64) < 4) :
    Answers (.ringEnable q i r v) s (fun t => t.flag (.ringCtl i r) RING_CTL.EN = false ∧
      t.flag (.ringSts i r) RING_STS.ENREJ) := by
  obtain ⟨hen, -⟩ := ringOpen_iff.1 ho
  have hsize : (s.ctlWritten i r (RING_CTL.EN.put 1 (v.setWidth 64))).getF (.ringCtl i r) RING_CTL.SIZE =
      RING_CTL.SIZE.get (v.setWidth 64) :=
    (shapeWritten_size (ieWritten_ringOpen (s := s.noteWrite (.ringCtl i r)) hr (noteWrite_wroteNow s _) ho _)).trans
      (Fld.get_put_apart _ _ _ _ rfl rfl)
  refine answers_gate (exec_ringEnable v) ha
    ((wrRingCtl_enable hr (Fld.get_put_same _ _ _ rfl) hen).trans
      (if_pos (enRefused_of_size (by rw [hsize]; exact hs))))
    ((kept_ctlWritten s i r _).trans (kept_set1 _ _ _)) ⟨?_, set1_flag_same rfl⟩
  rw [flag_of_rd ((set1_rd _ _ _ _).trans (rd_setF_ne _ _ _ (ringCtl_addr_ne_ringSts hr))),
    ctlWritten_en s i r _ hr, hen]

/-! ## Shutting a ring down (R157) -/

/-- A ring that software has shut down, before it may fall idle. -/
def State.ringHalted (s : State) (i r : Nat) : State :=
  ((s.fetchDrop i (· == r)).clr1 (.ringCtl i r) RING_CTL.EN).modRing (rKey i r)
    (fun g => { g with scanning := false, rescan := false, blocked := false, shut := false })

theorem ringStop_eq (s : State) (i r : Nat) : s.ringStop i r true = (s.ringHalted i r).ringIdle i r := rfl

theorem ringHalted_rd (s : State) (i r : Nat) (p : Reg) :
    (s.ringHalted i r).rd p = (s.setF (.ringCtl i r) RING_CTL.EN 0).rd p := rfl

theorem ringHalted_en (s : State) (i r : Nat) : (s.ringHalted i r).flag (.ringCtl i r) RING_CTL.EN = false := by
  rw [flag_of_rd (ringHalted_rd s i r _), flag_setF_zero _ _ rfl]

theorem ringHalted_ring (s : State) (i r : Nat) : (s.ringHalted i r).ring (rKey i r) =
    { s.ring (rKey i r) with scanning := false, rescan := false, blocked := false, shut := false } := setRing_same _ _ _

theorem ringHalted_wroteNow (s : State) (i r : Nat) :
    (s.ringHalted i r).wroteNow (.ringCtl i r) = s.wroteNow (.ringCtl i r) := rfl

theorem keepsRegs_ringStop (s : State) (i r : Nat) :
    KeepsRegs s (s.ringStop i r true) [(Reg.ringCtl i r).addr, (Reg.ringSts i r).addr] :=
  KeepsRegs.trans (t := s.ringHalted i r) ((keepsRegs_setF s _ _ _).mono (by simp))
    (ringIdle_falls (s.ringHalted i r) i r).regs

theorem kept_ringStop (s : State) (i r : Nat) : Kept s (s.ringStop i r true) :=
  Kept.trans (t := s.ringHalted i r) ⟨rfl, rfl⟩ (ringIdle_falls (s.ringHalted i r) i r).kept

/-- A ring that has nothing outstanding is idle with its shutdown. -/
theorem ringStop_idle (ht : (s.ring (rKey i r)).taken = []) (hm : (s.ring (rKey i r)).timer = false)
    (hreset : s.inReset i = false) :
    (s.ringStop i r true).flag (.ringSts i r) RING_STS.IDLE = true := by
  have hg := ringHalted_ring s i r
  have hoff : (s.ringHalted i r).ringOn i r = false := by simp [State.ringOn, ringHalted_en]
  have hin : (s.ringHalted i r).inReset i = false :=
    (flag_of_rd ((ringHalted_rd s i r _).trans (rd_setF_ne s _ _ slcCsr_addr_ne_ringCtl)) _).trans hreset
  rw [ringStop_eq, ringIdle_of_off hoff (by rw [hg]; exact ht) (by rw [hg]; exact hm) hin, set1_flag_same rfl]

/-- A write that clears the enable bit alone of a ring that is on. -/
theorem ctlWritten_disable (h : s.flag (.ringCtl i r) RING_CTL.EN = true) :
    s.ctlWritten i r (RING_CTL.EN.put 0 (s.rd (.ringCtl i r))) = s.noteWrite (.ringCtl i r) := by
  have hie : RING_CTL.IE.get (RING_CTL.EN.put 0 (s.rd (.ringCtl i r))) = s.getF (.ringCtl i r) RING_CTL.IE :=
    Fld.get_put_apart _ _ _ _ rfl rfl
  rw [State.ctlWritten, ieWritten_same (s := s.noteWrite (.ringCtl i r)) hie]
  exact shapeWritten_shut (by simp [State.ringOpen, flag_of_rd (noteWrite_rd s _ _), h])

theorem exec_ringShutdown : exec (.ringShutdown q i r) s = onDevice (fun s => s.gate q (.ringCtl i r)
    (fun s => s.wrRingCtl i r (RING_CTL.EN.put 0 (s.rd (.ringCtl i r))))) s := rfl

theorem ringShutdown_stops (hi : i < 256) (hr : r < 64) (ha : s.accepts q (.ringCtl i r) = true)
    (h : s.flag (.ringCtl i r) RING_CTL.EN = true) :
    Answers (.ringShutdown q i r) s (fun t => t.flag (.ringCtl i r) RING_CTL.EN = false ∧
      (t.ring (rKey i r)).scanning = false ∧ (t.ring (rKey i r)).taken = (s.ring (rKey i r)).taken ∧
      ((s.ring (rKey i r)).taken = [] → (s.ring (rKey i r)).timer = false → t.flag (.ringSts i r) RING_STS.IDLE) ∧
      KeepsRegs s t [(Reg.ringCtl i r).addr, (Reg.ringSts i r).addr]) := by
  have hstop : s.wrRingCtl i r (RING_CTL.EN.put 0 (s.rd (.ringCtl i r))) =
      (s.noteWrite (.ringCtl i r)).ringStop i r true := by
    rw [wrRingCtl_disable hr (Fld.get_put_same _ _ _ rfl) h, ctlWritten_disable h]
  have hw := (ringHalted_wroteNow (s.noteWrite (.ringCtl i r)) i r).trans (noteWrite_wroteNow s _)
  have hreset : (s.noteWrite (.ringCtl i r)).inReset i = false :=
    (flag_of_rd (noteWrite_rd s _ _) _).trans (accepts_ringCtl_inReset hi hr ha)
  obtain ⟨b, hb⟩ := ringIdle_ring ((s.noteWrite (.ringCtl i r)).ringHalted i r) i r
  rw [ringHalted_ring] at hb
  refine answers_gate exec_ringShutdown ha hstop (kept_ringStop (s.noteWrite (.ringCtl i r)) i r) ⟨?_, ?_, ?_, ?_, ?_⟩
  · rw [ringStop_eq, flag_of_rd (ringIdle_ringCtl hr hw), ringHalted_en]
  · rw [ringStop_eq, hb]
  · rw [ringStop_eq, hb]
    rfl
  · exact fun ht hm => ringStop_idle (s := s.noteWrite (.ringCtl i r)) ht hm hreset
  · exact keepsRegs_ringStop (s.noteWrite (.ringCtl i r)) i r

/-! ## A change of `IE` (R136) -/

/-- The word that changes `IE` and nothing else. -/
def State.ieFlipped (s : State) (i r : Nat) : Word64 :=
  RING_CTL.IE.put (1 - s.getF (.ringCtl i r) RING_CTL.IE) (s.rd (.ringCtl i r))

theorem exec_ringIeChange : exec (.ringIeChange q i r) s = onDevice (fun s => s.gate q (.ringCtl i r)
    (fun s => s.wrRingCtl i r (s.ieFlipped i r))) s := rfl

theorem ieFlipped_ie (s : State) (i r : Nat) :
    RING_CTL.IE.get (s.ieFlipped i r) = 1 - s.getF (.ringCtl i r) RING_CTL.IE :=
  (Fld.get_put_same _ _ _ rfl).trans (Nat.mod_eq_of_lt (Nat.lt_succ_of_le (Nat.sub_le 1 _)))

theorem ieFlipped_changes (s : State) (i r : Nat) :
    RING_CTL.IE.get (s.ieFlipped i r) ≠ s.getF (.ringCtl i r) RING_CTL.IE := by
  have hle := getF_le_one s (.ringCtl i r) (f := RING_CTL.IE) rfl
  rw [ieFlipped_ie]
  omega

theorem ieFlipped_en (s : State) (i r : Nat) :
    (RING_CTL.EN.get (s.ieFlipped i r) != 0) = s.flag (.ringCtl i r) RING_CTL.EN :=
  congrArg (· != 0) (Fld.get_put_apart _ _ _ _ rfl rfl)

/-- What a write that changes `IE` leaves in the register, and in the ring's record. -/
theorem ctlWritten_ie (hr : r < 64) (h : RING_CTL.IE.get v ≠ s.getF (.ringCtl i r) RING_CTL.IE) :
    (s.ctlWritten i r v).getF (.ringCtl i r) RING_CTL.IE = RING_CTL.IE.get v := by
  rw [State.ctlWritten, shapeWritten_getF_apart _ rfl rfl,
    getF_of_rd (ieWritten_ringCtl (s := s.noteWrite (.ringCtl i r)) hr (noteWrite_wroteNow s _) h),
    getF_setF_same _ _ _ _ rfl, Fld.get_mod]

theorem ctlWritten_ring (h : RING_CTL.IE.get v ≠ s.getF (.ringCtl i r) RING_CTL.IE) :
    ∃ b, (s.ctlWritten i r v).ring (rKey i r) = { s.ring (rKey i r) with pend := 0, timer := false, shut := b } := by
  obtain ⟨b, hb⟩ := ieWritten_ring (s := s.noteWrite (.ringCtl i r)) h
  exact ⟨b, ((onlyRegs_shapeWritten _ i r v).ring _).trans hb⟩

theorem ringIeChange_clears (hr : r < 64) (ha : s.accepts q (.ringCtl i r) = true) :
    Answers (.ringIeChange q i r) s (fun t =>
      t.getF (.ringCtl i r) RING_CTL.IE = 1 - s.getF (.ringCtl i r) RING_CTL.IE ∧ (t.ring (rKey i r)).pend = 0 ∧
      (t.ring (rKey i r)).timer = false ∧ (t.ring (rKey i r)).taken = (s.ring (rKey i r)).taken ∧
      KeepsRegs s t [(Reg.ringCtl i r).addr, (Reg.ringSts i r).addr]) := by
  obtain ⟨b, hb⟩ := ctlWritten_ring (ieFlipped_changes s i r)
  exact answers_gate exec_ringIeChange ha (wrRingCtl_en_same hr (ieFlipped_en s i r)) (kept_ctlWritten s i r _)
    ⟨(ctlWritten_ie hr (ieFlipped_changes s i r)).trans (ieFlipped_ie s i r), by rw [hb], by rw [hb], by rw [hb],
      keepsRegs_ctlWritten s i r _⟩

/-! ## The moderation timer (R153) -/

theorem msix_rings (s : State) (p fn v : Nat) : (s.msix p fn v).rings = s.rings := by
  have ht (s : State) (p : Nat) : (s.hostTraffic p).rings = s.rings := rfl
  unfold State.msix
  dsimp only
  split_ifs
  · rw [emit_rings]
    rfl
  · rfl
  · rw [emit_rings, ht]
  · rfl

/-- Where the ring's vector is one of a function's (R411). -/
theorem ringIrq_msix (h : ¬ (i = 0 ∧ s.isLocal = true)) :
    s.ringIrq i r = s.sliceIrq i (s.getF (.ringCtl i r) RING_CTL.VEC) :=
  if_neg h

theorem exec_moderationTimerExpiry : exec (.moderationTimerExpiry i r) s = onDevice (fun s =>
    if (s.ring (rKey i r)).timer then ((s.modClear i r).ringIrq i r).ringIdle i r else s) s := rfl

theorem moderationTimerExpiry_clears (hu : s.up = true) (hm : (s.ring (rKey i r)).timer = true)
    (h : ¬ (i = 0 ∧ s.isLocal = true)) : Answers (.moderationTimerExpiry i r) s (fun t =>
      (t.ring (rKey i r)).pend = 0 ∧ (t.ring (rKey i r)).timer = false ∧
      t = ((s.modClear i r).ringIrq i r).ringIdle i r) := by
  have hirq : (s.modClear i r).ringIrq i r = _ := ringIrq_msix (s := s.modClear i r) h
  have hring : ((s.modClear i r).ringIrq i r).ring (rKey i r) =
      { s.ring (rKey i r) with pend := 0, timer := false } := by
    rw [hirq, State.ring, State.sliceIrq, msix_rings]
    exact setRing_same s _ _
  have hk : Kept s ((s.modClear i r).ringIrq i r) := by
    rw [hirq]
    exact (kept_modRing s _ _).trans (kept_msix (s.modClear i r) _ _ _)
  obtain ⟨b, hb⟩ := ringIdle_ring ((s.modClear i r).ringIrq i r) i r
  exact answers_eq exec_moderationTimerExpiry hu (if_pos hm) (hk.trans (ringIdle_falls _ i r).kept)
    ⟨by rw [hb, hring], by rw [hb, hring], rfl⟩

end

/-- Settles O39: a write to `RING_CTL` is one of its other fields and then one of `EN`, which starts the ring, refuses or
stops it; the timer's expiry is a cleared count and one event. -/
theorem ringControl : Obligations.RingControl := by
  unfold Obligations.RingControl
  intro s q i r hi hr ha
  exact ⟨fun _ => ringEnable_starts hr ha, fun _ => ringEnable_refused hr ha, ringShutdown_stops hi hr ha,
    ringIeChange_clears hr ha, moderationTimerExpiry_clears (accepts_up ha)⟩

end Sys2Proof.Machine
end

section
/-!
The end of a bus operation while its item runs, in a state whose ready list names that item (R209, R216, R232).
-/
namespace Sys2Proof.Machine

/-- An OUT with A = 1 that has ended with OK. -/
def endedOut : Op := { opOf (busReq .out true 0) 0 0 0 0 0 0 with result := some stOk }

/-- Context 5 runs on engine 1 with that OUT, and context 8 has joined the ready list of its cluster and level in this cycle.
The list names context 5 too. A list is of Ready items (R232), but the statement ranges over every state. -/
def runningListed : State :=
  { (((State.reset.setEng 1 (Eng.holds 5)).setCtx 5 { Ctx.free with act := .running 1, op := some endedOut }).setCtx 8
      { Ctx.free with act := .ready }).setRlist 0 [5, 8] with
    cyc := ⟨State.reset.now + 1, [], [], [(8, false)], false⟩ }

/-- The dispatch that the join of context 8 calls for takes context 5, the head of the list, to engine 0. -/
theorem runningListed_moves :
    (match exec (.busOperationEnd 5) runningListed with
      | .next t => (t.ctx 5).act
      | _ => .free) = .running 0 := by
  decide +kernel

/-- Refutes O14: its second clause says that an item that runs while its operation ends goes on with its engine, and in
`runningListed` the dispatch of the cycle (`State.settle`, R234) hands the running item to another engine. -/
theorem not_busOperationEvents : ¬ Obligations.BusOperationEvents := by
  unfold Obligations.BusOperationEvents
  rintro ⟨-, hrunning, -⟩
  have hup : runningListed.up = true := by decide +kernel
  have hctx : (runningListed.ctx 5).act = .running 1 ∧ (runningListed.ctx 5).op = some endedOut := by decide +kernel
  have hquiet : runningListed.onWire 5 = false ∧ runningListed.unaddressed 5 endedOut stOk = false := by decide +kernel
  obtain ⟨hact, hop⟩ := hctx
  obtain ⟨hwire, haddr⟩ := hquiet
  obtain ⟨t, ht, hstays, -⟩ := hrunning runningListed 5 stOk endedOut 1 hup hact hop rfl hwire haddr
  have hmoved := runningListed_moves
  rw [ht] at hmoved
  exact absurd (hstays.symm.trans hmoved) (by decide)

end Sys2Proof.Machine
end

section
/-!
Loading and unloading programs (R168 to R173): the write of a command, and the ends of LOAD and UNLOAD.
-/
namespace Sys2Proof.Machine

section
variable {s t u : State} {q : Requester} {sl id code detail : Nat} {ws : List Word32}

/-! ## Requests on their way to the host (R83 to R86) -/

/-- From `s` to `t` requests and posted writes may have been added or issued; nothing else changes but what is on the links
and the records of domains. -/
def Requests (s t : State) : Prop :=
  { t with reqs := s.reqs, writes := s.writes, tag := s.tag, doms := s.doms, out := s.out } = s

theorem Requests.refl (s : State) : Requests s s := rfl

theorem Requests.trans (h : Requests s t) (k : Requests t u) : Requests s u := by
  calc ({ u with reqs := s.reqs, writes := s.writes, tag := s.tag, doms := s.doms, out := s.out } : State)
      = { ({ u with reqs := t.reqs, writes := t.writes, tag := t.tag, doms := t.doms, out := t.out } : State) with
          reqs := s.reqs, writes := s.writes, tag := s.tag, doms := s.doms, out := s.out } := rfl
    _ = { t with reqs := s.reqs, writes := s.writes, tag := s.tag, doms := s.doms, out := s.out } := by rw [k]
    _ = s := h

theorem Requests.kept (h : Requests s t) : Kept s t := ⟨(congrArg State.aon h :), (congrArg State.pending h :)⟩
theorem Requests.regs (h : Requests s t) : t.regs = s.regs := (congrArg State.regs h :)
theorem Requests.progs (h : Requests s t) : t.progs = s.progs := (congrArg State.progs h :)
theorem Requests.ldCmd (h : Requests s t) : t.ldCmd = s.ldCmd := (congrArg State.ldCmd h :)

theorem requests_ite {c : Prop} [Decidable c] (ht : Requests s t) (hu : Requests s u) :
    Requests s (if c then t else u) := by
  split
  · exact ht
  · exact hu

theorem requests_forL {α : Type} {f : α → State → State} (h : ∀ a s, Requests s (f a s)) (l : List α) (s : State) :
    Requests s (forL l f s) := by
  induction l generalizing s with
  | nil => exact .refl s
  | cons a l ih => exact (h a s).trans (ih (f a s))

theorem requests_asked (s : State) (r : HostReq) : Requests s (s.asked r) := rfl

theorem requests_tryIssue (s : State) (r : HostReq) : Requests s (s.tryIssue r) := by
  obtain ⟨d, o, h⟩ := tryIssue_eq s r
  rw [h]
  rfl

theorem requests_tryWrite (s : State) (w : PWrite) : Requests s (s.tryWrite w) := requests_ite rfl (.refl s)

theorem requests_askTranslation (s : State) (i c a n : Nat) (w : Bool) : Requests s (s.askTranslation i c a n w) := by
  unfold State.askTranslation
  split
  · exact .refl s
  · exact requests_ite (.refl s) ((requests_asked s _).trans (requests_tryIssue _ _))

theorem requests_pumpWrite (s : State) (w : PWrite) : Requests s (s.pumpWrite w) :=
  requests_ite (.refl s) <|
    (requests_ite (requests_askTranslation s _ _ _ _ _) (.refl s)).trans (requests_tryWrite _ w)

theorem requests_pumpRead (s : State) (r : HostReq) : Requests s (s.pumpRead r) := by
  refine Requests.trans (requests_ite ?_ (.refl s)) (requests_tryIssue _ r)
  split
  · exact .refl s
  · exact requests_askTranslation s _ _ _ _ _

theorem requests_pumpReqs (s : State) : Requests s s.pumpReqs := by
  refine requests_forL (fun k s => ?_) _ s
  dsimp only
  cases s.writes.find? (fun w => w.tag == k) with
  | none =>
    split
    · exact requests_pumpRead s _
    · exact .refl s
  | some w =>
    have hw := requests_pumpWrite s w
    split
    · exact hw.trans (requests_pumpRead _ _)
    · exact hw

theorem requests_newReq (s : State) (i c a n : Nat) (p : Purpose) : Requests s (s.newReq i c a n p) :=
  (requests_asked s (s.made i c a n p)).trans (requests_pumpReqs _)

/-! ## The word of a command (R171) -/

theorem ldWord_toNat (cmd sl id : Nat) :
    (ldWord cmd sl id).toNat = cmd % 16 * 2 ^ 28 + sl % 256 * 2 ^ 16 + id % 64 := by
  rw [ldWord, BitVec.toNat_ofNat]
  omega

theorem ldWord_cmd (cmd sl id : Nat) : DSP_LD_CTL.CMD.get (ldWord cmd sl id) = cmd % 16 := by
  rw [Fld.get, ldWord_toNat, Nat.shiftRight_eq_div_pow]
  simp only [DSP_LD_CTL.CMD, Fld.width]
  omega
theorem ldWord_slice (cmd sl id : Nat) : DSP_LD_CTL.SLICE.get (ldWord cmd sl id) = sl % 256 := by
  rw [Fld.get, ldWord_toNat, Nat.shiftRight_eq_div_pow]
  simp only [DSP_LD_CTL.SLICE, Fld.width]
  omega
theorem ldWord_prog (cmd sl id : Nat) : DSP_LD_CTL.PROG.get (ldWord cmd sl id) = id % 64 := by
  rw [Fld.get, ldWord_toNat, Nat.shiftRight_eq_div_pow]
  simp only [DSP_LD_CTL.PROG, Fld.width]
  omega

/-! ## The end of a command (R170 to R172) -/

/-- What the end of a command writes before its event. -/
def State.ldEnded (s : State) (code detail : Nat) : State :=
  ((({ s with ldCmd := none }.clr1 .dspLdSts DSP_LD_STS.BUSY).setF .dspLdSts DSP_LD_STS.RESULT code).setF .dspLdSts
    DSP_LD_STS.DETAIL detail)

theorem dspLdSts_not_wakeAddr : ¬ wakeAddr (Reg.dspLdSts).addr := by decide

theorem Touches.progs {A : Nat → Prop} (h : Touches A s t) : t.progs = s.progs := by
  obtain ⟨-, -, hs⟩ := h
  exact show (t.faultsOf s).progs = s.progs from congrArg State.progs hs
theorem Touches.ldCmd {A : Nat → Prop} (h : Touches A s t) : t.ldCmd = s.ldCmd := by
  obtain ⟨-, -, hs⟩ := h
  exact show (t.faultsOf s).ldCmd = s.ldCmd from congrArg State.ldCmd hs

section
variable (s code detail)

theorem kept_ldFinish : Kept s (s.ldFinish code detail) :=
  Kept.trans (t := s.ldEnded code detail) ⟨rfl, rfl⟩ (kept_irqEvent _ 311)
theorem ldFinish_progs : (s.ldFinish code detail).progs = s.progs := (touches_irqEvent (s.ldEnded code detail) 311).progs
theorem ldFinish_ldCmd : (s.ldFinish code detail).ldCmd = none := (touches_irqEvent (s.ldEnded code detail) 311).ldCmd
theorem ldFinish_prog (k : Nat) : (s.ldFinish code detail).prog k = s.prog k :=
  congrArg (FMap.find Prog.empty k) (ldFinish_progs s code detail)
theorem ldFinish_pend : (s.ldFinish code detail).irqPend 311 = true := irqEvent_pend _ (by decide)

theorem ldFinish_getF (f : Fld) : (s.ldFinish code detail).getF .dspLdSts f = (s.ldEnded code detail).getF .dspLdSts f :=
  irqEvent_getF _ 311 dspLdSts_not_wakeAddr f

theorem ldFinish_ldBusy : (s.ldFinish code detail).ldBusy = false := by
  rw [State.ldBusy, State.flag, ldFinish_getF, State.ldEnded, getF_setF_apart _ _ _ _ _ rfl rfl,
    getF_setF_apart _ _ _ _ _ rfl rfl, clr1_eq, getF_setF_same _ _ _ _ rfl]
  rfl

variable {code detail}

theorem ldFinish_result (h : code < 16) : (s.ldFinish code detail).getF .dspLdSts DSP_LD_STS.RESULT = code := by
  rw [ldFinish_getF, State.ldEnded, getF_setF_apart _ _ _ _ _ rfl rfl, getF_setF_same _ _ _ _ rfl]
  exact Nat.mod_eq_of_lt (Nat.lt_trans h (by decide))
theorem ldFinish_detail (h : detail < 2 ^ 14) : (s.ldFinish code detail).getF .dspLdSts DSP_LD_STS.DETAIL = detail :=
  (ldFinish_getF s code detail _).trans ((getF_setF_same _ _ _ _ rfl).trans (Nat.mod_eq_of_lt h))

end

/-! ## Commands (R171) -/

theorem exec_dspLoad : exec (.dspLoad q sl id) s =
    onDevice (fun s => s.gate q .dspLdCtl (fun s => s.wrLdCtl (ldWord 1 sl id))) s := rfl
theorem exec_dspUnload : exec (.dspUnload q sl id) s =
    onDevice (fun s => s.gate q .dspLdCtl (fun s => s.wrLdCtl (ldWord 2 sl id))) s := rfl
theorem exec_dspLdBadCommand : exec (.dspLdBadCommand q code) s =
    onDevice (fun s => s.gate q .dspLdCtl (fun s => s.wrLdCtl (ldWord code 0 0))) s := rfl

/-- A write is ignored while a command runs. -/
theorem wrLdCtl_busy (h : s.ldBusy = true) (v : Word64) : s.wrLdCtl v = s := if_pos h

/-- A command under way: `BUSY` set. -/
def State.ldBegun (s : State) (cmd sl id : Nat) : State :=
  { s.set1 .dspLdSts DSP_LD_STS.BUSY with ldCmd := some (cmd, sl, id) }

/-- A LOAD that passes its first checks asks for the header of its image. -/
def State.askHeader (s : State) (sl id : Nat) : State :=
  if s.flag (.slcBind sl) SLC_BIND.VALID ∧ (s.prog (sl * 64 + id)).live = false ∧ s.hostOk 0 s.ldSrc 16 then
    s.newReq 0 noCtx s.ldSrc 16 (.image none)
  else s

/-- What the code of a command brings about once its word is written. -/
def State.ldCommand (s : State) (sl id : Nat) : Nat → State
  | 0 => s
  | 1 => (s.ldBegun 1 sl id).askHeader sl id
  | 2 => s.ldBegun 2 sl id
  | _ => s.ldFinish 0x0E 0

theorem wrLdCtl_free (h : s.ldBusy = false) (v : Word64) :
    s.wrLdCtl v = (s.plainWrite .dspLdCtl v).ldCommand (DSP_LD_CTL.SLICE.get v) (DSP_LD_CTL.PROG.get v)
      (DSP_LD_CTL.CMD.get v) :=
  if_neg (Bool.eq_false_iff.1 h)

/-- The state with the word of a command written. -/
def State.ldWritten (s : State) (cmd sl id : Nat) : State := s.plainWrite .dspLdCtl (ldWord cmd sl id)

theorem wrLdCtl_ldWord {cmd : Nat} (h : s.ldBusy = false) (hc : cmd < 16) (hs : sl < 256) (hi : id < 64) :
    s.wrLdCtl (ldWord cmd sl id) = (s.ldWritten cmd sl id).ldCommand sl id cmd := by
  rw [wrLdCtl_free h, ldWord_cmd, ldWord_slice, ldWord_prog, Nat.mod_eq_of_lt hc, Nat.mod_eq_of_lt hs,
    Nat.mod_eq_of_lt hi, State.ldWritten]

theorem kept_ldBegun (s : State) (cmd sl id : Nat) : Kept s (s.ldBegun cmd sl id) := ⟨rfl, rfl⟩

theorem ldBegun_ldBusy (s : State) (cmd sl id : Nat) : (s.ldBegun cmd sl id).ldBusy = true :=
  set1_flag_same (s := s) rfl

theorem requests_askHeader (s : State) (sl id : Nat) : Requests s (s.askHeader sl id) :=
  requests_ite (requests_newReq s _ _ _ _ _) (.refl s)

/-- Codes from 3 on name no command. -/
theorem ldCommand_bad (s : State) (sl id : Nat) (h : 3 ≤ code) : s.ldCommand sl id code = s.ldFinish 0x0E 0 := by
  obtain ⟨n, rfl⟩ := Nat.exists_eq_add_of_le' h
  rfl

theorem kept_ldWritten (s : State) (cmd sl id : Nat) : Kept s (s.ldWritten cmd sl id) := ⟨rfl, rfl⟩

theorem dspLoad_begins (hs : sl < 256) (hi : id < 64) (ha : s.accepts q .dspLdCtl = true) (hb : s.ldBusy = false) :
    Answers (.dspLoad q sl id) s (fun t => t.ldBusy ∧ t.ldCmd = some (1, sl, id) ∧ t.progs = s.progs) := by
  have h := requests_askHeader ((s.ldWritten 1 sl id).ldBegun 1 sl id) sl id
  have hbusy := flag_of_rd (congrArg (FMap.find _ (Reg.dspLdSts).addr) h.regs) DSP_LD_STS.BUSY
  exact answers_gate exec_dspLoad ha (wrLdCtl_ldWord hb (by decide) hs hi)
    ((kept_ldWritten s 1 sl id).trans ((kept_ldBegun _ 1 sl id).trans h.kept))
    ⟨hbusy.trans (ldBegun_ldBusy _ 1 sl id), h.ldCmd, h.progs⟩

theorem dspUnload_begins (hs : sl < 256) (hi : id < 64) (ha : s.accepts q .dspLdCtl = true) (hb : s.ldBusy = false) :
    Answers (.dspUnload q sl id) s (fun t => t.ldBusy ∧ t.ldCmd = some (2, sl, id) ∧ t.progs = s.progs) :=
  answers_gate exec_dspUnload ha (wrLdCtl_ldWord hb (by decide) hs hi)
    ((kept_ldWritten s 2 sl id).trans (kept_ldBegun _ 2 sl id)) ⟨ldBegun_ldBusy _ 2 sl id, rfl, rfl⟩

theorem dspLdBadCommand_reports (ha : s.accepts q .dspLdCtl = true) (hb : s.ldBusy = false) (h3 : 3 ≤ code)
    (hc : code < 16) : Answers (.dspLdBadCommand q code) s (fun t => t.ldBusy = false ∧
      t.getF .dspLdSts DSP_LD_STS.RESULT = 0x0E ∧ t.irqPend 311 ∧ t.progs = s.progs) :=
  answers_gate exec_dspLdBadCommand ha
    ((wrLdCtl_ldWord hb hc (by decide) (by decide)).trans (ldCommand_bad _ 0 0 h3))
    ((kept_ldWritten s code 0 0).trans (kept_ldFinish _ 0x0E 0))
    ⟨ldFinish_ldBusy _ _ _, ldFinish_result _ (by decide), ldFinish_pend _ _ _, ldFinish_progs (s.ldWritten code 0 0) _ _⟩

/-! ## The end of a LOAD (R170) -/

/-- What the reads of the image brought, and the state without them. -/
def State.ldImage (s : State) (image : Option (List Word32)) : Option (List Word32) :=
  if s.inSram 0 then some s.sramImage
  else if s.reqs.any (fun q => isImage q.purpose && q.fails == 4) then none else image
def State.imageReadDone (s : State) : State := { s with reqs := s.reqs.filter (fun q => !(isImage q.purpose)) }

/-- The program stored: header, words and fuel, in Library blocks. -/
def State.ldStored (s : State) (sl id : Nat) (ws : List Word32) (blocks : List Nat) : State :=
  (s.capTake 2 sl (imageBlocks (imageCount ws))).setProg (sl * 64 + id)
    ⟨true, false, imageFuel ws, ws.take 4, (ws.drop 4).take (imageCount ws),
      s.pickBlocks (imageBlocks (imageCount ws)) blocks⟩

/-- The checks made over an image, and what comes of them. -/
def State.ldJudged (s : State) (sl id : Nat) (image : Option (List Word32)) (blocks : List Nat) : State :=
  (if (s.loadResult sl id image).1 = 0 then
      match image with
      | some ws => (s.loadRecord sl id image).ldStored sl id ws blocks
      | none => s.loadRecord sl id image
    else s.loadRecord sl id image).ldFinish (s.loadResult sl id image).1 (s.loadResult sl id image).2

/-- The end of the command that is under way, if it is a LOAD. -/
def State.ldDone (s : State) (image : Option (List Word32)) (blocks : List Nat) : Option (Nat × Nat × Nat) → State
  | some (1, sl, id) =>
    if s.reqs.any (fun q => isImage q.purpose && q.phase != .issued && q.fails != 4) then s
    else s.imageReadDone.ldJudged sl id (s.ldImage image) blocks
  | _ => s

theorem loadDone_eq (s : State) (image : Option (List Word32)) (blocks : List Nat) :
    s.loadDone image blocks = s.ldDone image blocks s.ldCmd := rfl

/-- With no request on its way the checks are made at once, over the image that the command brings. -/
theorem loadDone_judged (hs : s.inSram 0 = false) (hc : s.ldCmd = some (1, sl, id)) (hr : s.reqs = [])
    (image : Option (List Word32)) (blocks : List Nat) : s.loadDone image blocks = s.ldJudged sl id image blocks := by
  have himage : s.ldImage image = image := by simp [State.ldImage, hs, hr]
  have hdone : s.imageReadDone = s := by rw [State.imageReadDone, hr, List.filter_nil, ← hr]
  rw [loadDone_eq, hc, State.ldDone, himage, hdone, hr]
  rfl

/-- An image with no error, or with one in itself, lies where it may be read. -/
theorem loadResult_reaches (h : (s.loadResult sl id (some ws)).1 = 0 ∨ 6 ≤ (s.loadResult sl id (some ws)).1) :
    s.hostOk 0 s.ldSrc 16 = true ∧ s.hostOk 0 s.ldSrc (16 + 4 * imageCount ws) = true := by
  unfold State.loadResult at h
  dsimp only at h
  split_ifs at h with hb hl h16 hc hn
  case neg => exact ⟨(Bool.not_eq_false _).mp h16, (Bool.not_eq_false _).mp hn⟩
  all_goals simp at h

theorem loadRecord_of_reaches (h : s.hostOk 0 s.ldSrc 16 = true ∧ s.hostOk 0 s.ldSrc (16 + 4 * imageCount ws) = true) :
    s.loadRecord sl id (some ws) = s := by
  simp [State.loadRecord, h]

theorem ldStored_prog (s : State) (sl id : Nat) (ws : List Word32) (blocks : List Nat) (k : Nat) :
    (s.ldStored sl id ws blocks).prog k = if k = sl * 64 + id then
      ⟨true, false, imageFuel ws, ws.take 4, (ws.drop 4).take (imageCount ws),
        s.pickBlocks (imageBlocks (imageCount ws)) blocks⟩ else s.prog k :=
  setProg_get (s.capTake 2 sl (imageBlocks (imageCount ws))) _ _ _

theorem exec_loadComplete (image : Option (List Word32)) (blocks : List Nat) :
    exec (.loadComplete image blocks) s = onDevice (fun s => s.loadDone image blocks) s := rfl

theorem ldJudged_passed (h : s.loadResult sl id (some ws) = (0, 0)) (blocks : List Nat) :
    s.ldJudged sl id (some ws) blocks = (s.ldStored sl id ws blocks).ldFinish 0 0 := by
  have hrec : s.loadRecord sl id (some ws) = s := loadRecord_of_reaches (loadResult_reaches (.inl (by rw [h])))
  rw [State.ldJudged, h, hrec, if_pos rfl]

theorem ldJudged_failed {n : Nat} (h : s.loadResult sl id (some ws) = (code, n)) (h6 : 6 ≤ code) (blocks : List Nat) :
    s.ldJudged sl id (some ws) blocks = s.ldFinish code n := by
  have hrec : s.loadRecord sl id (some ws) = s := loadRecord_of_reaches (loadResult_reaches (.inr (by rw [h]; exact h6)))
  rw [State.ldJudged, h, hrec, if_neg (by dsimp only; omega)]

theorem loadComplete_stores (hu : s.up = true) (hs : s.inSram 0 = false) (hc : s.ldCmd = some (1, sl, id))
    (hr : s.reqs = []) (h : s.loadResult sl id (some ws) = (0, 0)) (blocks : List Nat) :
    Answers (.loadComplete (some ws) blocks) s (fun t => t.ldBusy = false ∧ t.ldCmd = none ∧ t.irqPend 311 ∧
      t.getF .dspLdSts DSP_LD_STS.RESULT = 0 ∧ (t.prog (sl * 64 + id)).live ∧
      (t.prog (sl * 64 + id)).head = ws.take 4 ∧
      (t.prog (sl * 64 + id)).words = (ws.drop 4).take (imageCount ws) ∧ (t.prog (sl * 64 + id)).fuel = imageFuel ws ∧
      ∀ k, k ≠ sl * 64 + id → t.prog k = s.prog k) := by
  have hp := (ldFinish_prog (s.ldStored sl id ws blocks) 0 0 (sl * 64 + id)).trans
    ((ldStored_prog s sl id ws blocks _).trans (if_pos rfl))
  refine answers_eq (exec_loadComplete _ _) hu ((loadDone_judged hs hc hr _ _).trans (ldJudged_passed h blocks))
    (Kept.trans (t := s.ldStored sl id ws blocks) ⟨rfl, rfl⟩ (kept_ldFinish _ 0 0))
    ⟨ldFinish_ldBusy _ _ _, ldFinish_ldCmd _ _ _, ldFinish_pend _ _ _, ldFinish_result _ (by decide), by rw [hp],
      by rw [hp], by rw [hp], by rw [hp], fun k hk => ?_⟩
  rw [ldFinish_prog, ldStored_prog, if_neg hk]

theorem loadComplete_reports {n : Nat} (hu : s.up = true) (hs : s.inSram 0 = false) (hc : s.ldCmd = some (1, sl, id))
    (hr : s.reqs = []) (h : s.loadResult sl id (some ws) = (code, n)) (h6 : 6 ≤ code) (h16 : code < 16) (hn : n < 2 ^ 14)
    (blocks : List Nat) : Answers (.loadComplete (some ws) blocks) s (fun t => t.ldBusy = false ∧
      t.getF .dspLdSts DSP_LD_STS.RESULT = code ∧ t.getF .dspLdSts DSP_LD_STS.DETAIL = n ∧ t.progs = s.progs) :=
  answers_eq (exec_loadComplete _ _) hu ((loadDone_judged hs hc hr _ _).trans (ldJudged_failed h h6 blocks))
    (kept_ldFinish s _ _) ⟨ldFinish_ldBusy _ _ _, ldFinish_result _ h16, ldFinish_detail _ hn, ldFinish_progs _ _ _⟩

/-! ## The end of an UNLOAD (R172) -/

/-- A program that is being unloaded is removed, where there is no activation. -/
theorem progDrop_prog {k : Nat} (hu : (s.prog k).unloading = true) (hx : s.ctxs = []) (j : Nat) :
    (s.progDrop k).prog j = if j = k then Prog.empty else s.prog j := by
  obtain ⟨a, ha⟩ := capFreed_eq (s.setProg k Prog.empty) 2 (k / 64) (s.prog k).blocks.length
  have hdrop : s.progDrop k = (s.setProg k Prog.empty).capFreed 2 (k / 64) (s.prog k).blocks.length :=
    if_pos (by simp [hu, hx])
  have hprogs : (s.progDrop k).progs = (s.setProg k Prog.empty).progs := by rw [hdrop, ha]
  exact (congrArg (FMap.find Prog.empty j) hprogs).trans (setProg_get s k j Prog.empty)

/-- A program marked for its removal. -/
def State.unloadingOf (s : State) (k : Nat) : State := s.modProg k (fun p => { p with unloading := true })

/-- What an UNLOAD whose command names a program does. -/
def State.unloadDone (s : State) : Option (Nat × Nat × Nat) → State
  | some (2, sl, id) =>
    if s.bound sl = false then s.ldFinish 0x01 0
    else if (s.prog (sl * 64 + id)).live = false ∨ (s.prog (sl * 64 + id)).unloading then s.ldFinish 0x03 0
    else ((s.unloadingOf (sl * 64 + id)).progDrop (sl * 64 + id)).ldFinish 0 0
  | _ => s

theorem exec_unloadComplete : exec .unloadComplete s = onDevice (fun s => s.unloadDone s.ldCmd) s := rfl

theorem unloadComplete_frees (hu : s.up = true) (hc : s.ldCmd = some (2, sl, id)) (hb : s.bound sl = true)
    (hl : (s.prog (sl * 64 + id)).live = true) (hn : (s.prog (sl * 64 + id)).unloading = false) (hx : s.ctxs = []) :
    Answers .unloadComplete s (fun t => t.ldBusy = false ∧ t.getF .dspLdSts DSP_LD_STS.RESULT = 0 ∧
      t.prog (sl * 64 + id) = Prog.empty ∧ ∀ k, k ≠ sl * 64 + id → t.prog k = s.prog k) := by
  have hf : s.unloadDone s.ldCmd = ((s.unloadingOf (sl * 64 + id)).progDrop (sl * 64 + id)).ldFinish 0 0 := by
    rw [hc, State.unloadDone, if_neg (by simp [hb]), if_neg (by simp [hl, hn])]
  have hmark : ((s.unloadingOf (sl * 64 + id)).prog (sl * 64 + id)).unloading = true := by
    rw [State.unloadingOf, State.modProg, setProg_same]
  have hprog := progDrop_prog hmark hx
  refine answers_eq exec_unloadComplete hu hf
    (Kept.trans (t := s.unloadingOf (sl * 64 + id)) ⟨rfl, rfl⟩ ((kept_progDrop _ _).trans (kept_ldFinish _ 0 0)))
    ⟨ldFinish_ldBusy _ _ _, ldFinish_result _ (by decide), ?_, fun k hk => ?_⟩
  · rw [ldFinish_prog, hprog, if_pos rfl]
  · rw [ldFinish_prog, hprog, if_neg hk, State.unloadingOf, State.modProg, setProg_get, if_neg hk]

end

/-- Settles O41: a write to `DSP_LD_CTL` is ignored, begins a command or ends one that does not exist; the end of a LOAD is
its checks' result and, where they pass, one program stored; the end of an UNLOAD is one program removed. -/
theorem programLoading : Obligations.ProgramLoading := by
  unfold Obligations.ProgramLoading
  intro s q sl id hs hi
  refine ⟨fun ha hb => ⟨dspLoad_begins hs hi ha hb, dspUnload_begins hs hi ha hb,
      fun code h3 hc => dspLdBadCommand_reports ha hb h3 hc⟩,
    fun ha hb => ⟨exec_ignored exec_dspLoad ha (wrLdCtl_busy hb _), exec_ignored exec_dspUnload ha (wrLdCtl_busy hb _)⟩,
    fun ws blocks hu hm hc hr h => loadComplete_stores hu hm hc hr h blocks,
    fun ws blocks k n hu hm hc hr h h6 h16 hn => loadComplete_reports hu hm hc hr h h6 h16 hn blocks,
    unloadComplete_frees⟩

end Sys2Proof.Machine
end

section
/-!
Instructions that finish on the engine (R196 to R201): what an instruction that changes only its context answers, and so the
results of arithmetic, logic, moves, compares, branches, calls and pad accesses.
-/
namespace Sys2Proof.Machine

variable {s : State} {c d : Nat} {w : Word32} {i : Instr}

/-- The context as the instruction finds it: one unit of fuel has been charged (R175). -/
def Ctx.charged (x : Ctx) : Ctx := { x with fuel := x.fuel - 1 }

/-- What an instruction answers that makes `y` of its context. -/
theorem answers_kwarvo {g : Ctx → Ctx} {y : Ctx} (he : exec i s = kwarvo c w g s) (h : s.issues c w = true)
    (hy : g (s.ctx c).charged = y) (ha : y.act = (s.ctx c).act) :
    Answers i s (fun t => OnlyCtx s t c ∧ t.ctx c = y) := by
  subst hy
  exact ⟨_, he.trans (kwarvo_eq h g (ha ▸ issues_act h)), onlyCtx_setCtx _, setCtx_same s c _⟩

/-- The state in which an instruction does its work. -/
def State.charge (s : State) (c : Nat) : State := s.setCtx c (s.ctx c).charged

@[simp] theorem charge_ctx (s : State) (c : Nat) : (s.charge c).ctx c = (s.ctx c).charged := setCtx_same s c _

/-- An instruction that could do more, and here does `g` to its context alone. -/
theorem kwarvoS_eq_kwarvo {f : State → State} {g : Ctx → Ctx} (h : s.issues c w = true)
    (hf : f (s.charge c) = (s.charge c).modCtx c g) : kwarvoS c w f s = kwarvo c w g s := by
  unfold kwarvoS kwarvo
  rw [onDevice_up _ (issues_iff.1 h).1, onDevice_up _ (issues_iff.1 h).1, issue_eq h, issue_eq h]
  exact congrArg (fun t : State => Host.Outcome.next { t with aon := s.aon, pending := s.pending }) hf

theorem setReg_charged (x : Ctx) (d : Nat) (v : Word64) : (x.charged.setReg d v).step1 = (x.setReg d v).went := by
  unfold Ctx.setReg
  split <;> rfl

@[simp] theorem went_act (x : Ctx) : x.went.act = x.act := rfl

/-! ## Results, values and flags (R196 to R198) -/

/-- An instruction that writes a value alone. -/
theorem givesValue_of {f : Ctx → Word64} {v : Word64}
    (he : exec i s = kwarvo c w (fun x => (x.setReg d (f x)).step1) s) (h : s.issues c w = true)
    (hf : f (s.ctx c).charged = v) : GivesValue i s c d v :=
  answers_kwarvo he h (by rw [hf, setReg_charged]) (by simp)

theorem getLsbD_63 (v : Word64) : v.getLsbD 63 = v.msb := (BitVec.msb_eq_getLsbD_last v).symm

/-- An instruction that writes a result, with Z and N from it. -/
theorem givesResult_of {f : Ctx → Alu} {v : Word64} {carry : Bool}
    (he : exec i s = kwarvo c w (fun x => x.putAlu d (f x)) s) (h : s.issues c w = true)
    (hf : f (s.ctx c).charged = aluOf v carry) : GivesResult i s c d v carry := by
  refine answers_kwarvo he h ?_ (by simp)
  simp only [hf, Ctx.putAlu, aluOf, setReg_charged, getLsbD_63]

/-- An instruction that sets the three flags alone. -/
theorem givesFlags_of {f : Ctx → Flags} {z cf n : Bool} (he : exec i s = kwarvo c w (fun x => x.putFlags (f x)) s)
    (h : s.issues c w = true) (hf : f (s.ctx c).charged = ⟨z, cf, n⟩) : GivesFlags i s c z cf n :=
  answers_kwarvo he h (by simp only [Ctx.putFlags, hf]; rfl) rfl

/-- What MOVK leaves of the old value, and puts in its place. -/
theorem movkValue_bit (x : Nat) (old : Word64) (imm : BitVec 16) {j : Nat} (hj : j < 64) :
    (movkValue old x imm).getLsbD j =
      if 16 * x ≤ j ∧ j < 16 * x + 16 then imm.getLsbD (j - 16 * x) else old.getLsbD j := by
  have hmask : (0xFFFF#64).getLsbD (j - 16 * x) = decide (j - 16 * x < 16) := by
    rw [show (0xFFFF#64) = BitVec.ofNat 64 (2 ^ 16 - 1) from rfl, BitVec.getLsbD_ofNat, Nat.testBit_two_pow_sub_one]
    simp
    omega
  simp only [movkValue, zext16, BitVec.getLsbD_or, BitVec.getLsbD_and, BitVec.getLsbD_not, BitVec.getLsbD_shiftLeft,
    BitVec.getLsbD_setWidth, hmask, hj]
  by_cases hlo : 16 * x ≤ j
  · by_cases hhi : j < 16 * x + 16
    · simp [hlo, hhi, show ¬ j < 16 * x by omega, show j - 16 * x < 16 by omega, show j - 16 * x < 64 by omega]
    · have himm : imm.getLsbD (j - 16 * x) = false := BitVec.getLsbD_of_ge imm _ (by omega)
      simp [hhi, himm, show ¬ j - 16 * x < 16 by omega]
  · simp [hlo, show j < 16 * x by omega]

/-- Settles O6: each instruction of Table 4 writes its result through `putAlu`, its value, or the three flags through
`putFlags`, and that is all it does. -/
theorem arithmeticLogicCompare : Obligations.ArithmeticLogicCompare := by
  unfold Obligations.ArithmeticLogicCompare
  refine ⟨fun s c d a b k x imm hk => ?_, fun s c a b imm m => ?_⟩
  · subst hk
    refine ⟨fun h => givesResult_of rfl h rfl, fun h => givesResult_of rfl h rfl, fun h => givesResult_of rfl h rfl,
      fun h => givesResult_of rfl h rfl, fun h => givesResult_of rfl h rfl, fun h => givesResult_of rfl h rfl,
      fun h => givesResult_of rfl h rfl, fun h => givesResult_of rfl h rfl, fun h => givesResult_of rfl h rfl,
      fun h => givesResult_of rfl h rfl, fun h => givesResult_of rfl h rfl, fun h => givesResult_of rfl h rfl,
      fun h => givesResult_of rfl h rfl, fun h => givesResult_of rfl h rfl, fun h => givesResult_of rfl h rfl,
      fun h => givesResult_of rfl h rfl, fun h => givesValue_of rfl h rfl, fun h _ => ?_,
      fun h hx => givesValue_of rfl h ?_, fun h => answers_kwarvo rfl h rfl rfl⟩
    case refine_1 =>
      obtain ⟨t, ht, honly, hctx⟩ := answers_kwarvo (i := .movk c d x imm) rfl h (setReg_charged _ _ _) (setReg_act _ _ _)
      exact ⟨t, ht, honly, _, hctx, fun j hj => movkValue_bit x _ imm hj⟩
    case refine_2 =>
      interval_cases x <;> rfl
  · exact ⟨fun h => givesFlags_of rfl h rfl, fun h => givesFlags_of rfl h rfl,
      fun h => givesFlags_of rfl h (by simp only [tstFlags, getLsbD_63]; rfl), fun h => givesFlags_of rfl h rfl,
      fun h => givesFlags_of rfl h (congrArg (Flags.mk _ false) (Bool.eq_iff_iff.2 (by simp; rfl)))⟩

/-! ## Branches (R199, R200) -/

theorem ret_pops {r : Nat} {l : List Nat} (h : s.issues c (wordN 0x1C) = true) (hx : (s.ctx c).stack = r :: l) :
    exec (.ret c) s = kwarvo c (wordN 0x1C) (fun x => { x with pc := r, stack := l }) s := by
  refine kwarvoS_eq_kwarvo h ?_
  have hs : ((s.charge c).ctx c).stack = r :: l := by rw [charge_ctx]; exact hx
  simp only [hs]

/-- Settles O7: a branch, a CALL and a RET that pops change their context alone. -/
theorem branchCallReturn : Obligations.BranchCallReturn := by
  unfold Obligations.BranchCallReturn
  intro s c cond target
  refine ⟨fun h hc => answers_kwarvo rfl h ?_ rfl, fun h => answers_kwarvo rfl h rfl rfl,
    fun r l h hx => answers_kwarvo (ret_pops h hx) h rfl rfl⟩
  have htaken {b : Bool} {x : Ctx} : (if b then { x with pc := target } else x.step1) =
      { x with pc := if b then target else x.pc + 1 } := by cases b <;> rfl
  exact htaken

/-! ## The pad (R166, R201) -/

theorem leValue_lt (l : List Byte) : leValue l < 256 ^ l.length := by
  induction l with
  | nil => simp [leValue]
  | cons b t ih =>
    have := b.isLt
    simp only [leValue, List.length_cons, pow_succ]
    omega

/-- The bytes of a little-endian value. -/
theorem leValue_byte (l : List Byte) {i : Nat} (hi : i < l.length) : leValue l / 256 ^ i % 256 = (l[i]).toNat := by
  induction l generalizing i with
  | nil => cases hi
  | cons b t ih =>
    have hb := b.isLt
    cases i with
    | zero => simp only [leValue, pow_zero, Nat.div_one, List.getElem_cons_zero]; omega
    | succ i =>
      have hd : leValue (b :: t) / 256 = leValue t := by simp only [leValue]; omega
      rw [pow_succ', ← Nat.div_div_eq_div_mul, hd, List.getElem_cons_succ]
      exact ih _

theorem leBytes_byte (n v : Nat) {i : Nat} (hi : i < (leBytes n v).length) :
    ((leBytes n v)[i]).toNat = v / 256 ^ i % 256 := by
  induction n generalizing v i with
  | zero => cases hi
  | succ n ih =>
    cases i with
    | zero => simp [leBytes]
    | succ i =>
      simp only [leBytes, List.getElem_cons_succ]
      rw [ih, Nat.div_div_eq_div_mul, pow_succ']

theorem padPut_padAt (x : Ctx) (b : Byte) {a q : Nat} (ha : a < 256) (hq : q < 256) :
    (x.padPut a b).padAt q = if q = a then b else x.padAt q := by
  rw [Ctx.padAt, Ctx.padAt, Ctx.padPut, Nat.mod_eq_of_lt ha, Nat.mod_eq_of_lt hq]
  exact FMap.find_put _ _ _ _ _

/-- A write to the pad changes nothing else of the context. -/
theorem padWrite_eq (x : Ctx) (a : Nat) (l : List Byte) : x.padWrite a l = { x with pad := (x.padWrite a l).pad } := by
  induction l generalizing x a with
  | nil => rfl
  | cons b t ih => exact ih (x.padPut a b) (a + 1)

theorem padWrite_pad_congr {x y : Ctx} (h : x.pad = y.pad) (a : Nat) (l : List Byte) :
    (x.padWrite a l).pad = (y.padWrite a l).pad := by
  induction l generalizing x y a with
  | nil => exact h
  | cons b t ih => exact ih (by simp only [Ctx.padPut, h]) (a + 1)

theorem padWrite_charged (x : Ctx) (a : Nat) (l : List Byte) :
    (x.charged.padWrite a l).step1 = { x.went with pad := (x.padWrite a l).pad } := by
  rw [padWrite_eq, padWrite_pad_congr (x := x.charged) (y := x) rfl]
  rfl

/-- The pad after a write that does not wrap. -/
theorem padWrite_padAt (x : Ctx) {a q : Nat} (l : List Byte) (ha : a + l.length ≤ 256) (hq : q < 256) :
    (x.padWrite a l).padAt q = if h : a ≤ q ∧ q - a < l.length then l[q - a]'h.2 else x.padAt q := by
  induction l generalizing x a with
  | nil => simp [Ctx.padWrite]
  | cons b t ih =>
    rw [List.length_cons] at ha
    rw [Ctx.padWrite, ih (x.padPut a b) (by omega), padPut_padAt x b (by omega) hq]
    rcases Nat.lt_trichotomy q a with h | h | h
    · simp [show ¬ a ≤ q by omega, show ¬ a + 1 ≤ q by omega, show q ≠ a by omega]
    · simp [h]
    · obtain ⟨k, rfl⟩ : ∃ k, q = a + 1 + k := ⟨q - (a + 1), by omega⟩
      simp [show a + 1 + k - a = k + 1 by omega, show a ≤ a + 1 + k by omega, show a + 1 + k ≠ a by omega]

/-- The address of a pad access. -/
theorem padAddr_eq (base : Word64) (off size : Nat) :
    padAddr base off size = (base.toNat + off) % 256 / 2 ^ size * 2 ^ size :=
  (Nat.div_mul_self_eq_mod_sub_self).symm

/-- A pad access does not wrap. -/
theorem padAddr_fits (base : Word64) (off : Nat) {size : Nat} (h : size < 4) : padAddr base off size + 2 ^ size ≤ 256 := by
  rw [padAddr_eq]
  interval_cases size <;> omega

/-- Settles O8: LDP reads the bytes of its access into a value; STP writes them, and leaves the rest of the pad. -/
theorem padAccess : Obligations.PadAccess := by
  unfold Obligations.PadAccess
  intro s c d a size off hsize _
  dsimp only
  rw [← padAddr_eq]
  generalize hp : padAddr ((s.ctx c).reg a) off size = p
  have hfit : p + 2 ^ size ≤ 256 := hp ▸ padAddr_fits _ off hsize
  refine ⟨fun h => ?_, fun h => ?_⟩
  · have hlen : ((s.ctx c).padBytes p (2 ^ size)).length = 2 ^ size := by simp [Ctx.padBytes]
    have hlt : leValue ((s.ctx c).padBytes p (2 ^ size)) < 256 ^ 2 ^ size := by
      simpa only [hlen] using leValue_lt ((s.ctx c).padBytes p (2 ^ size))
    have h64 : 256 ^ 2 ^ size ≤ 2 ^ 64 := by interval_cases size <;> decide
    have hv : (BitVec.ofNat 64 (leValue ((s.ctx c).padBytes p (2 ^ size)))).toNat =
        leValue ((s.ctx c).padBytes p (2 ^ size)) := Nat.mod_eq_of_lt (by omega)
    refine ⟨_, givesValue_of (v := BitVec.ofNat 64 (leValue ((s.ctx c).padBytes p (2 ^ size)))) rfl h (hp ▸ rfl),
      fun i hi => ?_, hv.symm ▸ hlt⟩
    rw [hv, leValue_byte _ (by rwa [hlen])]
    simp [Ctx.padBytes]
  · have hlen : (leBytes (2 ^ size) ((s.ctx c).reg d).toNat).length = 2 ^ size := length_leBytes _ _
    have hat (q : Nat) (hq : q < 256) := padWrite_padAt (s.ctx c) (a := p) _ (hlen.symm ▸ hfit) hq
    obtain ⟨t, ht, honly, hctx⟩ := answers_kwarvo (i := .stp c d a size off)
      (y := { (s.ctx c).went with pad := ((s.ctx c).padWrite p (leBytes (2 ^ size) ((s.ctx c).reg d).toNat)).pad })
      rfl h (hp ▸ padWrite_charged _ _ _) rfl
    have hpad (q : Nat) : (t.ctx c).padAt q = ((s.ctx c).padWrite p (leBytes (2 ^ size) ((s.ctx c).reg d).toNat)).padAt q := by
      rw [hctx]; rfl
    refine ⟨t, ht, honly, by rw [hctx], fun i hi => ?_, fun q hq hne => ?_⟩
    · rw [hpad, hat _ (by omega), dif_pos ⟨by omega, by omega⟩, leBytes_byte]
      simp
    · rw [hpad, hat _ hq, dif_neg]
      rintro ⟨hle, hi⟩
      exact hne (q - p) (by omega) (by omega)

end Sys2Proof.Machine
end

section
/-!
The end of a park (R182, R234, R258), and WAIT and WAITCLK (R216 to R218).
-/
namespace Sys2Proof.Machine

variable {s t u : State} {c te k : Nat} {w : Word32} {i : Instr}

/-! ## What a dispatch leaves of an item that has nothing at the sequencer -/

/-- The item of `c`, and what is on its way to the host and in the seal unit, are those of `s`. -/
structure SameItem (c : Nat) (s t : State) : Prop where
  ctx : t.ctx c = s.ctx c
  reqs : t.reqs = s.reqs
  writes : t.writes = s.writes
  sealOps : t.sealOps = s.sealOps

theorem SameItem.refl (c : Nat) (s : State) : SameItem c s s := ⟨rfl, rfl, rfl, rfl⟩

theorem SameItem.trans (h : SameItem c s t) (k : SameItem c t u) : SameItem c s u :=
  ⟨k.ctx.trans h.ctx, k.reqs.trans h.reqs, k.writes.trans h.writes, k.sealOps.trans h.sealOps⟩

theorem sameItem_ite {p : Prop} [Decidable p] (ht : SameItem c s t) (hu : SameItem c s u) :
    SameItem c s (if p then t else u) := by
  split
  · exact ht
  · exact hu

theorem sameItem_modCtx {j : Nat} (hj : c ≠ j) (s : State) (g : Ctx → Ctx) : SameItem c s (s.modCtx j g) :=
  ⟨(setCtx_get s j c _).trans (if_neg hj), rfl, rfl, rfl⟩

theorem SameItem.modCtx {j : Nat} (h : SameItem c s t) (hj : c ≠ j) (g : Ctx → Ctx) : SameItem c s (t.modCtx j g) :=
  h.trans (sameItem_modCtx hj t g)

theorem sameItem_queued {j : Nat} (hj : c ≠ j) (s : State) (n : Nat) (st : OpStage) :
    SameItem c s (s.queued j n st) := by
  have hover : SameItem c s (s.gambitOver j n) := by
    unfold State.gambitOver
    split <;> exact ⟨rfl, rfl, rfl, rfl⟩
  have hport (t : State) (h : SameItem c s t) (g : Port → Port) : SameItem c s (t.modPort n g) :=
    h.trans ⟨rfl, rfl, rfl, rfl⟩
  unfold State.queued
  refine SameItem.modCtx (hport _ ?_ _) hj _
  exact sameItem_ite hover (.refl c s)

theorem sameItem_toSeq {j : Nat} (hj : c ≠ j) (s : State) : SameItem c s (s.toSeq j) := by
  have hqueue : SameItem c s (s.toQueue j) := by
    unfold State.toQueue
    split
    · exact sameItem_queued hj s _ _
    · exact .refl c s
  exact hqueue.trans (sameItem_modCtx hj _ _)

theorem sameItem_opStart {j : Nat} (hj : c ≠ j) (s : State) (r : BusReq) : SameItem c s (s.opStart j r) := by
  have hsem (t : State) (n : Nat) (g : Sem → Sem) : SameItem c t (t.modSem n g) := ⟨rfl, rfl, rfl, rfl⟩
  have hgo (t : State) : SameItem c t (t.opGo j) := by
    unfold State.opGo
    split
    · exact sameItem_toSeq hj t
    · refine sameItem_ite (sameItem_toSeq hj t) ?_
      split
      · exact (hsem t _ _).trans ((sameItem_modCtx hj _ _).trans (sameItem_toSeq hj _))
      · exact (hsem t _ _).trans (sameItem_modCtx hj _ _)
  exact (sameItem_modCtx hj s _).trans (hgo _)

/-- An engine that takes another item. -/
theorem sameItem_startOn {j : Nat} (hj : c ≠ j) (s : State) (te : Nat) : SameItem c s (s.startOn te j) := by
  have heng (t : State) (e : Eng) (g : Ctx → Ctx) : SameItem c t ((t.setEng te e).modCtx j g) :=
    SameItem.modCtx (s := t) (t := t.setEng te e) ⟨rfl, rfl, rfl, rfl⟩ hj g
  have hlist : SameItem c s (s.unready j) := ⟨rfl, rfl, rfl, rfl⟩
  refine hlist.trans ?_
  unfold State.startOn
  dsimp only
  generalize s.unready j = t
  split
  · exact sameItem_ite ((sameItem_opStart hj t _).trans (sameItem_ite (heng _ _ _) (heng _ _ _)))
      ((sameItem_opStart hj t _).trans (heng _ _ _))
  · split
    · exact sameItem_ite (heng t _ _) ((sameItem_modCtx hj t _).trans (heng _ _ _))
    · exact heng t _ _

/-- The item of `c` is as in `s`, but that an engine may have taken it; and what is on its way to the host and in the seal
unit is as in `s`. -/
structure Taking (c : Nat) (s t : State) : Prop where
  ctx : t.ctx c = { s.ctx c with act := (t.ctx c).act }
  act : (t.ctx c).act = (s.ctx c).act ∨ ∃ te, (t.ctx c).act = .running te
  reqs : t.reqs = s.reqs
  writes : t.writes = s.writes
  sealOps : t.sealOps = s.sealOps

theorem Taking.refl (c : Nat) (s : State) : Taking c s s := ⟨rfl, .inl rfl, rfl, rfl, rfl⟩

theorem Taking.trans (h : Taking c s t) (k : Taking c t u) : Taking c s u where
  ctx := by
    rw [k.ctx, h.ctx]
  act := k.act.elim (fun e => e ▸ h.act) .inr
  reqs := k.reqs.trans h.reqs
  writes := k.writes.trans h.writes
  sealOps := k.sealOps.trans h.sealOps

theorem SameItem.taking (h : SameItem c s t) : Taking c s t :=
  ⟨by rw [h.ctx], .inl (by rw [h.ctx]), h.reqs, h.writes, h.sealOps⟩

theorem Taking.idleBus (h : Taking c s t) (hb : (s.ctx c).idleBus = true) : (t.ctx c).idleBus = true := by
  rw [h.ctx]; exact hb

theorem idleBus_iff {x : Ctx} : x.idleBus = true ↔ x.op = none ∧ x.go = none := by
  simp [Ctx.idleBus]

/-- An item with nothing at the sequencer runs when an engine takes it. -/
theorem taking_startOn (hb : (s.ctx c).idleBus = true) (te j : Nat) : Taking c s (s.startOn te j) := by
  by_cases hj : c = j
  · subst hj
    obtain ⟨hop, hgo⟩ := idleBus_iff.1 hb
    have hrun : s.startOn te c = (s.unready c).runOn te c := by
      have hop' : ((s.unready c).ctx c).op = none := hop
      have hgo' : ((s.unready c).ctx c).go = none := hgo
      simp only [State.startOn, hop', hgo']
    have hctx : ((s.unready c).runOn te c).ctx c = { s.ctx c with act := .running te } := setCtx_same _ _ _
    rw [hrun]
    exact ⟨by rw [hctx], .inr ⟨te, by rw [hctx]⟩, rfl, rfl, rfl⟩
  · exact (sameItem_startOn hj s te).taking

theorem taking_dispatchN (hb : (s.ctx c).idleBus = true) (k n : Nat) : Taking c s (s.dispatchN k n) := by
  induction n generalizing s with
  | zero => exact .refl c s
  | succ n ih =>
    unfold State.dispatchN
    split
    · rename_i p hp
      have hstart : Taking c s p.1 := by
        unfold State.dispatch1 at hp
        split at hp
        · cases hp
          exact taking_startOn hb _ _
        · cases hp
      exact hstart.trans (ih (hstart.idleBus hb))
    · exact .refl c s

/-! ## The end of a park -/

/-- The item of `c` is no longer parked, and else as in `s`; and what is on its way to the host and in the seal unit is as in
`s`. -/
structure Resumes (c : Nat) (s t : State) : Prop where
  resumed : t.resumed c
  ctx : t.ctx c = { s.ctx c with act := (t.ctx c).act }
  reqs : t.reqs = s.reqs
  writes : t.writes = s.writes
  sealOps : t.sealOps = s.sealOps

/-- A park ends, with no end condition waiting: the item joins its ready list, and its cluster dispatches (R234, R258). -/
theorem wake_resumes (he : (s.ctx c).endCode = none) (hb : (s.ctx c).idleBus = true) : Resumes c s (s.wake c) := by
  have hjoin : s.wake c = (s.enlist c false).dispatchN (s.ctx c).cluster 8 := by simp only [State.wake, he]; rfl
  have hlisted : (s.enlist c false).ctx c = { s.ctx c with act := .ready } := setCtx_same _ _ _
  have htaking := taking_dispatchN (s := s.enlist c false) (by rw [hlisted]; exact hb) (s.ctx c).cluster 8
  rw [hjoin]
  refine ⟨htaking.act.imp_left (fun h => h.trans (by rw [hlisted])), ?_, htaking.reqs, htaking.writes, htaking.sealOps⟩
  conv_lhs => rw [htaking.ctx, hlisted]

/-- The end condition and the operation of `y` are those of `x`. -/
structure SameBus (x y : Ctx) : Prop where
  endCode : y.endCode = x.endCode
  op : y.op = x.op
  go : y.go = x.go

/-- The same after a change `g` of the item. -/
theorem wake_modCtx_resumes {g : Ctx → Ctx} (hg : SameBus (s.ctx c) (g (s.ctx c))) (he : (s.ctx c).endCode = none)
    (hb : (s.ctx c).idleBus = true) : Resumes c (s.modCtx c g) ((s.modCtx c g).wake c) := by
  have hctx : (s.modCtx c g).ctx c = g (s.ctx c) := setCtx_same s c _
  refine wake_resumes (by rw [hctx, hg.endCode, he]) ?_
  rw [hctx, Ctx.idleBus, hg.op, hg.go]
  exact hb

/-- What the item is after a change `g` of it and the end of its park. -/
theorem Resumes.modCtx {g : Ctx → Ctx} (h : Resumes c (s.modCtx c g) t) :
    t.ctx c = { g (s.ctx c) with act := (t.ctx c).act } := by
  have := h.ctx
  rwa [State.modCtx, setCtx_same] at this

/-! ## Instructions that park -/

/-- What an instruction answers that parks its item, after `u` has been made of the state. -/
theorem kwarvoS_parks {f : State → State} {wt : Wait} (h : s.issues c w = true) (hf : f (s.charge c) = u.park c wt) :
    kwarvoS c w f s = .next { u.park c wt with aon := s.aon, pending := s.pending } :=
  (kwarvoS_eq h f).trans (by rw [← hf]; rfl)

theorem leaveEng_ctx (s : State) (c j : Nat) : (s.leaveEng c).ctx j = s.ctx j := by
  unfold State.leaveEng
  split <;> rfl

theorem modCtx_same (s : State) (c : Nat) (g : Ctx → Ctx) : (s.modCtx c g).ctx c = g (s.ctx c) := setCtx_same s c _

/-- A parked item. -/
theorem park_ctx (s : State) (c : Nat) (wt : Wait) :
    (s.park c wt).ctx c = { s.ctx c with act := .parked wt, since := s.now } :=
  (modCtx_same _ c _).trans (by rw [leaveEng_ctx])

/-- What an instruction answers that goes on to the next index and parks its item there. -/
theorem answers_parks {f : State → State} {wt : Wait} (he : exec i s = kwarvoS c w f s) (h : s.issues c w = true)
    (hf : f (s.charge c) = ((s.charge c).modCtx c Ctx.step1).park c wt) :
    Answers i s (fun t => (t.ctx c).pc = (s.ctx c).pc + 1 ∧ (t.ctx c).act = .parked wt) := by
  have hctx : ((s.charge c).modCtx c Ctx.step1).ctx c = (s.ctx c).charged.step1 := by rw [modCtx_same, charge_ctx]
  exact ⟨_, he.trans (kwarvoS_parks h hf), (congrArg Ctx.pc (park_ctx _ c wt)).trans (congrArg Ctx.pc hctx),
    congrArg Ctx.act (park_ctx _ c wt)⟩

/-! ## What a status and a register written leave of an item -/

@[simp] theorem setSt_act (x : Ctx) (k n : Nat) : (x.setSt k n).act = x.act := by rw [Ctx.setSt]
@[simp] theorem setSt_pc (x : Ctx) (k n : Nat) : (x.setSt k n).pc = x.pc := by rw [Ctx.setSt]
@[simp] theorem setSt_g (x : Ctx) (k n : Nat) : (x.setSt k n).g = x.g := by rw [Ctx.setSt]
@[simp] theorem setSt_op (x : Ctx) (k n : Nat) : (x.setSt k n).op = x.op := by rw [Ctx.setSt]
@[simp] theorem setSt_go (x : Ctx) (k n : Nat) : (x.setSt k n).go = x.go := by rw [Ctx.setSt]
@[simp] theorem setSt_endCode (x : Ctx) (k n : Nat) : (x.setSt k n).endCode = x.endCode := by rw [Ctx.setSt]
@[simp] theorem setSt_evOp (x : Ctx) (k n : Nat) : (x.setSt k n).evOp = x.evOp := by rw [Ctx.setSt]
@[simp] theorem setSt_evChild (x : Ctx) (k n : Nat) : (x.setSt k n).evChild = x.evChild := by rw [Ctx.setSt]
@[simp] theorem setSt_evPkt (x : Ctx) (k n : Nat) : (x.setSt k n).evPkt = x.evPkt := by rw [Ctx.setSt]
@[simp] theorem setReg_op (x : Ctx) (d : Nat) (v : Word64) : (x.setReg d v).op = x.op := by
  unfold Ctx.setReg; split <;> rfl
@[simp] theorem setReg_go (x : Ctx) (d : Nat) (v : Word64) : (x.setReg d v).go = x.go := by
  unfold Ctx.setReg; split <;> rfl
@[simp] theorem setReg_endCode (x : Ctx) (d : Nat) (v : Word64) : (x.setReg d v).endCode = x.endCode := by
  unfold Ctx.setReg; split <;> rfl
@[simp] theorem setReg_evOp (x : Ctx) (d : Nat) (v : Word64) : (x.setReg d v).evOp = x.evOp := by
  unfold Ctx.setReg; split <;> rfl
@[simp] theorem setReg_evChild (x : Ctx) (d : Nat) (v : Word64) : (x.setReg d v).evChild = x.evChild := by
  unfold Ctx.setReg; split <;> rfl
@[simp] theorem setReg_evPkt (x : Ctx) (d : Nat) (v : Word64) : (x.setReg d v).evPkt = x.evPkt := by
  unfold Ctx.setReg; split <;> rfl
@[simp] theorem perform_c (x : Ctx) (k n : Nat) : (x.perform k n).c = false := rfl
@[simp] theorem perform_st (x : Ctx) (k n : Nat) : (x.perform k n).st = stWord k n := rfl
@[simp] theorem perform_act (x : Ctx) (k n : Nat) : (x.perform k n).act = x.act := by simp [Ctx.perform]
@[simp] theorem perform_g (x : Ctx) (k n : Nat) : (x.perform k n).g = x.g := by simp [Ctx.perform]
@[simp] theorem perform_op (x : Ctx) (k n : Nat) : (x.perform k n).op = x.op := by simp [Ctx.perform]
@[simp] theorem perform_go (x : Ctx) (k n : Nat) : (x.perform k n).go = x.go := by simp [Ctx.perform]
@[simp] theorem perform_endCode (x : Ctx) (k n : Nat) : (x.perform k n).endCode = x.endCode := by simp [Ctx.perform]

/-! ## WAIT (R216, R217) -/

/-- The events that a WAIT of the mask `m` finds, a Clock tick as bit 2 (R216). -/
def State.waitGot (s : State) (x : Ctx) (m : Nat) : Nat :=
  (x.events + if s.atTick && x.tickSeen != s.aon.clockCount then 4 else 0) &&& m

/-- WAIT returns: what it leaves of the events, and what it writes to the registers. -/
theorem waitReturn_reads (x : Ctx) (d got : Nat) :
    (x.waitReturn d got).act = x.act ∧ (x.waitReturn d got).pc = x.pc ∧
    (x.waitReturn d got).c = false ∧
    (x.waitReturn d got).evOp = (if got % 2 = 1 then false else x.evOp) ∧
    (x.waitReturn d got).evChild = (if got / 2 % 2 = 1 then false else x.evChild) ∧
    (x.waitReturn d got).evPkt = (if got / 8 % 2 = 1 then false else x.evPkt) ∧
    (x.waitReturn d got).g = (x.setReg d (BitVec.ofNat 64 got)).g := by
  unfold Ctx.waitReturn
  cases hr : (x.setReg d (BitVec.ofNat 64 got)).opRes <;> by_cases h : got % 2 = 1 <;> simp [hr, h]

/-- The events that a WAIT names: those of the item, and the tick as bit 2. -/
def eventBits (op child pkt : Bool) : Nat := (if op then 1 else 0) + (if child then 2 else 0) + if pkt then 8 else 0

/-- WAIT consumes the events that it returns. -/
theorem waitReturn_events (x : Ctx) (d : Nat) (tick : Bool) (m : BitVec 4) :
    (x.waitReturn d ((x.events + if tick then 4 else 0) &&& m.toNat)).events = x.events - (x.events &&& m.toNat) := by
  have hbits : ∀ (o k p tick : Bool) (m : BitVec 4),
      eventBits (if ((eventBits o k p + if tick then 4 else 0) &&& m.toNat) % 2 = 1 then false else o)
        (if ((eventBits o k p + if tick then 4 else 0) &&& m.toNat) / 2 % 2 = 1 then false else k)
        (if ((eventBits o k p + if tick then 4 else 0) &&& m.toNat) / 8 % 2 = 1 then false else p) =
      eventBits o k p - (eventBits o k p &&& m.toNat) := by decide
  obtain ⟨-, -, -, hop, hchild, hpkt, -⟩ := waitReturn_reads x d ((x.events + if tick then 4 else 0) &&& m.toNat)
  rw [Ctx.events, hop, hchild, hpkt]
  exact hbits x.evOp x.evChild x.evPkt tick m

theorem reg_of_g {x y : Ctx} (h : x.g = y.g) (j : Nat) : x.reg j = y.reg j := by
  simp only [Ctx.reg, h]

/-- What a register reads as after a write to it. -/
theorem reg_setReg' (x : Ctx) (d j : Nat) (v : Word64) :
    (x.setReg d v).reg j = if j ≠ 0 ∧ j = d then v else x.reg j := by
  rw [reg_setReg]
  by_cases h : j = 0
  · simp [h, Ctx.reg]
  · simp [h]

/-- The context after a WAIT that returns at once. -/
def State.waited (s : State) (d got : Nat) (x : Ctx) : Ctx :=
  { (x.waitReturn d got).step1 with tickSeen := if got / 4 % 2 = 1 then s.aon.clockCount else x.tickSeen }

theorem waited_events (x : Ctx) (d : Nat) (m : BitVec 4) :
    (s.waited d (s.waitGot x m.toNat) x.charged).events = x.events - (x.events &&& m.toNat) := by
  have hgot : s.waitGot x m.toNat =
      (x.charged.events + if s.atTick && x.tickSeen != s.aon.clockCount then 4 else 0) &&& m.toNat := rfl
  have hev := waitReturn_events x.charged d (s.atTick && x.tickSeen != s.aon.clockCount) m
  rw [← hgot] at hev
  refine Eq.trans ?_ hev
  simp only [State.waited, Ctx.events, Ctx.step1]
  rfl

theorem doWait_returns {d r m : Nat} (hg : s.waitGot (s.ctx c) m ≠ 0) :
    (s.charge c).doWait c d r m = (s.charge c).modCtx c (s.waited d (s.waitGot (s.ctx c) m)) := by
  have hg' : (s.charge c).waitGot ((s.charge c).ctx c) m = s.waitGot (s.ctx c) m := by rw [charge_ctx]; rfl
  rw [← hg'] at hg ⊢
  exact if_pos hg

/-- WAIT with an event that is set (R216, R217). -/
theorem wait_returns {d r : Nat} {m : BitVec 4} (h : s.issues c (wordW 0x2C d r m.toNat) = true)
    (hg : s.waitGot (s.ctx c) m.toNat ≠ 0) :
    Answers (.wait c d r m) s (fun t => OnlyCtx s t c ∧ (t.ctx c).pc = (s.ctx c).pc + 1 ∧ (t.ctx c).c = false ∧
      (t.ctx c).events = (s.ctx c).events - ((s.ctx c).events &&& m.toNat) ∧
      (t.ctx c).tickSeen = (if (s.waitGot (s.ctx c) m.toNat).testBit 2 then s.aon.clockCount else (s.ctx c).tickSeen) ∧
      ∀ j, (t.ctx c).reg j =
        if j ≠ 0 ∧ j = d then BitVec.ofNat 64 (s.waitGot (s.ctx c) m.toNat) else (s.ctx c).reg j) := by
  obtain ⟨hact, hpc, hc, -, -, -, hregs⟩ := waitReturn_reads (s.ctx c).charged d (s.waitGot (s.ctx c) m.toNat)
  obtain ⟨t, ht, honly, hctx⟩ := answers_kwarvo (i := .wait c d r m) (y := s.waited d _ (s.ctx c).charged)
    (kwarvoS_eq_kwarvo h (doWait_returns hg)) h rfl hact
  refine ⟨t, ht, honly, ?_, ?_, ?_, ?_, fun j => ?_⟩
  · rw [hctx]; exact congrArg (· + 1) hpc
  · rw [hctx]; exact hc
  · rw [hctx]; exact waited_events (s.ctx c) d m
  · rw [hctx, Nat.testBit_eq_decide_div_mod_eq]; simp [State.waited, Ctx.charged]
  · rw [hctx]
    exact (reg_of_g (y := (s.ctx c).charged.setReg d (BitVec.ofNat 64 _)) hregs j).trans (reg_setReg' _ _ _ _)

/-- WAIT that finds no event, and does not return at once for its mask 0 and no timeout (R217). -/
theorem wait_parks {d r : Nat} {m : BitVec 4} (h : s.issues c (wordW 0x2C d r m.toNat) = true)
    (hg : s.waitGot (s.ctx c) m.toNat = 0) (hm : m ≠ 0 ∨ ((s.ctx c).reg r).toNat % 2 ^ 32 ≠ 0) :
    Answers (.wait c d r m) s (fun t => (t.ctx c).pc = (s.ctx c).pc + 1 ∧
      (t.ctx c).act = .parked (.wait d m.toNat (if ((s.ctx c).reg r).toNat % 2 ^ 32 = 0 then none
        else some (s.now + 25 * (((s.ctx c).reg r).toNat % 2 ^ 32))))) := by
  have hg' : (s.charge c).waitGot ((s.charge c).ctx c) m.toNat = 0 := by rw [charge_ctx]; exact hg
  have hus : opBits (((s.charge c).ctx c).reg r) 31 0 = ((s.ctx c).reg r).toNat % 2 ^ 32 := by
    rw [charge_ctx]; simp [opBits]; rfl
  have hm' : ¬ (m.toNat = 0 ∧ opBits (((s.charge c).ctx c).reg r) 31 0 = 0) := by
    rw [hus]
    rintro ⟨hz, hu⟩
    exact hm.elim (fun h => h (BitVec.eq_of_toNat_eq hz)) (fun h => h hu)
  refine answers_parks rfl h ?_
  rw [← hus]
  exact (if_neg (not_not_intro hg')).trans (if_neg hm')

/-- A parked item after a WAIT that has timed out at `dl`. -/
def Ctx.timedOut (d dl : Nat) (x : Ctx) : Ctx :=
  { (x.setReg d 0).perform stTimeout 0 with romUs := x.romUs + (dl - x.since) / 25 }

/-- The timeout of a WAIT (R217). -/
theorem waitTimeout_wakes {d m dl : Nat} (hu : s.up = true) (ha : (s.ctx c).act = .parked (.wait d m (some dl)))
    (hdl : dl ≤ s.now) (hf : s.frozen (s.ctx c).slice = false) (he : (s.ctx c).endCode = none)
    (hb : (s.ctx c).idleBus = true) :
    Answers (.waitTimeout c) s (fun t => t.resumed c ∧ (t.ctx c).st = 5 ∧ (t.ctx c).c = false ∧
      ∀ j, (t.ctx c).reg j = if j = d then 0 else (s.ctx c).reg j) := by
  have hexec : exec (.waitTimeout c) s = .next { (s.modCtx c (Ctx.timedOut d dl)).wake c with
      aon := s.aon, pending := s.pending } := by
    show execWaitTimeout c s = _
    rw [execWaitTimeout, onDevice_up _ hu]
    simp only [ha, hdl, hf, and_self, if_true]
    rfl
  have hwake := wake_modCtx_resumes (g := Ctx.timedOut d dl) ⟨by simp [Ctx.timedOut], by simp [Ctx.timedOut],
    by simp [Ctx.timedOut]⟩ he hb
  refine ⟨_, hexec, hwake.resumed, (congrArg Ctx.st hwake.modCtx).trans ?_, (congrArg Ctx.c hwake.modCtx).trans ?_,
    fun j => ?_⟩
  · simp [Ctx.timedOut]
    decide
  · simp [Ctx.timedOut]
  · refine (reg_of_g (y := (s.ctx c).setReg d 0) ((congrArg Ctx.g hwake.modCtx).trans (by simp [Ctx.timedOut])) j).trans ?_
    rw [reg_setReg]
    by_cases hj : j = 0
    · simp [hj, Ctx.reg]
    · simp [hj]

/-! ## WAITCLK (R218) -/

/-- WAITCLK on a target that `clk` has reached. -/
theorem waitclk_returns {a : Nat} (h : s.issues c (wordU 0x2D a) = true)
    (hr : clkReached ((s.ctx c).reg a) s.clk = true) :
    Answers (.waitclk c a) s (fun t => OnlyCtx s t c ∧ t.ctx c = { (s.ctx c).went with st := 0, c := false }) := by
  have hr' : clkReached (((s.charge c).ctx c).reg a) (s.charge c).clk = true := by rw [charge_ctx]; exact hr
  exact answers_kwarvo (g := fun x => (x.perform stOk 0).step1) (kwarvoS_eq_kwarvo h (if_pos hr')) h rfl rfl

/-- WAITCLK on a target that lies ahead. -/
theorem waitclk_parks {a : Nat} (h : s.issues c (wordU 0x2D a) = true)
    (hr : clkReached ((s.ctx c).reg a) s.clk = false) :
    Answers (.waitclk c a) s (fun t => (t.ctx c).pc = (s.ctx c).pc + 1 ∧
      (t.ctx c).act = .parked (.waitclk ((s.ctx c).reg a))) := by
  have hr' : clkReached (((s.charge c).ctx c).reg a) (s.charge c).clk = false := by rw [charge_ctx]; exact hr
  have hreg : ((s.charge c).ctx c).reg a = (s.ctx c).reg a := by rw [charge_ctx]; rfl
  exact answers_parks rfl h ((if_neg (by rw [hr']; decide)).trans (by rw [hreg]))

/-- `clk` reaches the target of a WAITCLK. -/
theorem waitclkReached_wakes {v : Word64} (hu : s.up = true) (ha : (s.ctx c).act = .parked (.waitclk v))
    (hr : clkReached v s.clk = true) (hf : s.frozen (s.ctx c).slice = false) (he : (s.ctx c).endCode = none)
    (hb : (s.ctx c).idleBus = true) :
    Answers (.waitclkReached c) s (fun t => t.resumed c ∧ (t.ctx c).st = 0 ∧ (t.ctx c).c = false) := by
  have hexec : exec (.waitclkReached c) s = .next { (s.modCtx c (fun x => x.perform stOk 0)).wake c with
      aon := s.aon, pending := s.pending } := by
    show execWaitclkReached c s = _
    rw [execWaitclkReached, onDevice_up _ hu]
    simp only [ha, hr, hf, and_self, if_true]
  have hwake := wake_modCtx_resumes (g := fun x => x.perform stOk 0) ⟨by simp, by simp, by simp⟩ he hb
  exact ⟨_, hexec, hwake.resumed, congrArg Ctx.st hwake.modCtx, congrArg Ctx.c hwake.modCtx⟩

/-- Settles O11: WAIT returns with the events that it names or parks, and so does WAITCLK with its target; the ends of their
parks wake the item. -/
theorem waitInstructions : Obligations.WaitInstructions := by
  unfold Obligations.WaitInstructions
  refine ⟨fun s c d r m h => ⟨fun hg => wait_returns h hg, fun hg hm => wait_parks h hg hm⟩,
    fun s c d m dl hu ha hdl hf he hb => waitTimeout_wakes hu ha hdl hf he hb, fun s c a h => ⟨fun hr => ?_, fun hr => ?_⟩,
    fun s c v hu ha hr hf he hb => waitclkReached_wakes hu ha (decide_eq_true hr) hf he hb⟩
  · exact waitclk_returns h (decide_eq_true hr)
  · exact waitclk_parks h (decide_eq_false (by omega))

end Sys2Proof.Machine
end

section
/-!
Statements of the instruction reference that fail: a refused bus instruction of a ROM program (R188), an HST whose number another
write has (R202), a released semaphore that a waiting bus instruction takes (R262), and DOZE on an engine that does not show its
item (R227).
-/
namespace Sys2Proof.Machine

/-! ## A refused bus instruction of a ROM program -/

/-- Context 5 of slice 1 runs ROM program 129 with every argument 0 on handle 3, a control endpoint. -/
def romOnControl : State :=
  ((State.reset.setCtx 5 { Ctx.free with
      slice := 1, act := .running 0, prog := 129, fuel := 9, ep := 3, args := argsOf 3 [] }).setEng 0 (Eng.holds 5)).setAtE
    (hKey 1 3) { Att.empty with cfg := { AttCfg.empty with live := true, ep := 20 } }

/-- The STREAM that its program issues first, which no control endpoint suits. -/
def romStream : BusReq := moverReq .stream false 3 0 0

/-- The program posts BAD_ARGUMENT, and its context is free. -/
theorem romOnControl_ends :
    (match exec (.stream 5 false 0) romOnControl with
      | .next t => (t.ctx 5).act
      | _ => .ready) = .free := by
  decide +kernel

/-- Refutes O9: a bus instruction that Table 7 refuses is to change its context's C, `st` and step index alone. A ROM program ends
with BAD_ARGUMENT when its bus instruction is refused (R188), and the statement does not leave ROM programs out. -/
theorem not_busInstructionIssue : ¬ Obligations.BusInstructionIssue := by
  unfold Obligations.BusInstructionIssue
  intro h
  have hissues : romOnControl.issues 5 (wordX 0x28 false 0 0) = true := by decide +kernel
  have hop : (romOnControl.ctx 5).op = none := by decide +kernel
  have hends : romOnControl.busEnds 5 romStream = none := by decide +kernel
  have hrefused : romOnControl.busRefused 5 romStream = true := by decide +kernel
  obtain ⟨-, hrefuses⟩ := h romOnControl 5 0 0 false
    (.stream 5 false 0, wordX 0x28 false 0 0, romStream)
    (.tail _ <| .tail _ <| .tail _ <| .tail _ <| .tail _ <| .tail _ <| .tail _ <| .head _) hissues
  obtain ⟨t, ht, -, hctx⟩ := hrefuses hop hends hrefused
  have hfree := romOnControl_ends
  rw [ht] at hfree
  exact absurd ((congrArg Ctx.act hctx).symm.trans hfree) (by decide +kernel)

/-! ## An HST whose number another write has -/

/-- The write of slice 0, in LOCAL, that has the number which the state gives next. -/
def sameNumber : PWrite := ⟨0, 0, 9, 0, 0, 0, 0, [], .hst, false, 0, 0, false, []⟩

/-- Context 5 of slice 1 has come to `HST g0, [g0]`, of one byte. The function of slice 1 may not issue requests. The write of
slice 0 already has the number that the HST's write gets; a run of the block never gives a number twice, but the statement ranges
over every state. -/
def numberTaken : State :=
  let hst : Prog := { Prog.empty with live := true, fuel := 9, words := [wordM 0x20 0 0 0 0] }
  let s := ((State.reset.setProg 64 hst).setCtx 5 { Ctx.free with slice := 1, act := .running 0, fuel := 9 }).setEng 0 (Eng.holds 5)
  { (s.wrE (.slcWinSize 1 0) 0x1000).setF .glbMgrSts GLB_MGR_STS.STATE claimLocal with writes := [sameNumber] }

/-- The write of slice 0 is issued, and stands in the place of the HST's write too. -/
theorem numberTaken_writes :
    (match exec (.hst 5 0 0 0 0) numberTaken with
      | .next t => t.writes.all (fun w => w.slice == 0)
      | _ => false) = true := by
  decide +kernel

/-- Refutes O10: an HST at issue is to leave its write among those that have not left. In `numberTaken` the issue of an older
write with the same number replaces it. -/
theorem not_hostAccesses : ¬ Obligations.HostAccesses := by
  unfold Obligations.HostAccesses
  rintro ⟨h, -⟩
  have hissues : numberTaken.issues 5 (wordM 0x20 0 0 0 0) = true := by decide +kernel
  have hslice : (numberTaken.ctx 5).slice = 1 := by decide +kernel
  have hok : numberTaken.hostOk (numberTaken.ctx 5).slice
      ((numberTaken.ctx 5).reg 0 + (0 : BitVec 16).signExtend 64).toNat (2 ^ 0) = true := by decide +kernel
  have hsram : numberTaken.inSram (numberTaken.ctx 5).slice = false := by decide +kernel
  obtain ⟨-, hhst⟩ := h numberTaken 5 0 0 0 0 (Nat.mod_one _) hok hsram
  obtain ⟨t, ht, -, -, -, w, hw, -, hws, -⟩ := hhst hissues
  have hall := numberTaken_writes
  rw [ht] at hall
  have hzero : w.slice = 0 := by simpa using List.all_eq_true.1 hall w hw
  exact absurd (hzero.symm.trans (hws.trans hslice)) (by decide)

/-! ## A released semaphore that a waiting bus instruction takes -/

/-- Semaphore 7 arbitrates handle 3 of slice 1, and context 5 holds it for its bus operation. Context 6 has a PING on the handle to
issue: it has joined its ready list in this cycle, and engines are free. -/
def arbitratedWaiter : State :=
  let holder : Ctx := { Ctx.free with slice := 1, act := .parked .op, arbs := [7] }
  let waiter : Ctx := { Ctx.free with slice := 1, act := .ready, cur := some 3, go := some (busReq .ping true 3) }
  let s := ((State.reset.setSem 7 { Sem.free with owner := some 5 }).setCtx 5 holder).setCtx 6 waiter
  { ((s.setRlist 0 [6]).setAtE (hKey 1 3)
      { Att.empty with cfg := { AttCfg.empty with live := true, ep := 20, mode := 2, sem := 7 } }).wrE (.slcQeng 1)
      (SLC_QENG.TE.put 8 0) with
    cyc := ⟨State.reset.now + 1, [], [], [(6, false)], false⟩ }

/-- The dispatch that ends the command issues the PING, which takes the semaphore. -/
theorem arbitratedWaiter_takes :
    (match exec (.semCtlRelease .ma 7) arbitratedWaiter with
      | .next t => (t.sem 7).owner
      | _ => none) = some 6 := by
  decide +kernel

/-- Refutes O12: its last clause says that a RELEASE leaves the semaphore without an owner where none waits in its queue. In
`arbitratedWaiter` the dispatch of the cycle (`State.settle`, R234) hands it on. -/
theorem not_semaphores : ¬ Obligations.Semaphores := by
  unfold Obligations.Semaphores
  rintro ⟨-, -, hrelease⟩
  have hacc : arbitratedWaiter.accepts .ma .semCtl = true := by decide +kernel
  have hsem : (arbitratedWaiter.sem 7).owner = some 5 ∧ (arbitratedWaiter.sem 7).queue = [] := by decide +kernel
  obtain ⟨t, ht, hnone, -⟩ := hrelease arbitratedWaiter .ma 7 5 (by decide) hacc hsem.1 hsem.2
  have htaken := arbitratedWaiter_takes
  rw [ht] at htaken
  exact absurd (hnone.symm.trans htaken) (by decide)

/-! ## DOZE on an engine that does not show its item -/

/-- Context 5 runs on engine 0 and has come to DOZE, with an entry of the engine's domain asked for; but engine 0 shows no item. In a
run of the block the two agree, but the statement ranges over every state. -/
def engineUnaware : State :=
  let doze : Prog := { Prog.empty with live := true, fuel := 9, words := [wordC 0x36 0] }
  ((State.reset.setProg 64 doze).setCtx 5 { Ctx.free with slice := 1, act := .running 0, fuel := 9 }).setF (.pwrCtl 0) PWR_CTL.MODE 1

/-- DOZE enters its item in the engine's record. -/
theorem engineUnaware_holds :
    (match exec (.doze 5) engineUnaware with
      | .next t => (t.eng 0).hold
      | _ => none) = some 5 := by
  decide +kernel

/-- Refutes O13: its last clause says that DOZE changes only the doze mark of the engine's record. -/
theorem not_workControl : ¬ Obligations.WorkControl := by
  unfold Obligations.WorkControl
  rintro ⟨-, -, -, -, -, -, hdoze⟩
  have hissues : engineUnaware.issues 5 (wordC 0x36 0) = true := by decide +kernel
  have hact : (engineUnaware.ctx 5).act = .running 0 := by decide +kernel
  have hmode : engineUnaware.getF (.pwrCtl (0 / 2)) PWR_CTL.MODE ≠ 0 := by decide +kernel
  obtain ⟨t, ht, heng, -⟩ := (hdoze engineUnaware 5 0 hissues hact).2 hmode
  have hholds := engineUnaware_holds
  rw [ht] at hholds
  exact absurd ((congrArg Eng.hold heng).symm.trans hholds) (by decide +kernel)

end Sys2Proof.Machine
end

section
/-!
Key slots (R360, R363).
-/
namespace Sys2Proof.Machine

variable {s t : State} {q : Requester} {k use code result : Nat} {key : List Word32}

/-! ## The word of a key command -/

theorem keyWord_toNat (cmd use slot : Nat) :
    (keyWord cmd use slot).toNat = cmd % 16 * 2 ^ 28 + use % 8 * 256 + slot % 32 := by
  rw [keyWord, BitVec.toNat_ofNat]
  omega

theorem keyWord_cmd (cmd use slot : Nat) : SEAL_KEY_CTL.CMD.get (keyWord cmd use slot) = cmd % 16 := by
  rw [Fld.get, keyWord_toNat, Nat.shiftRight_eq_div_pow]
  simp only [SEAL_KEY_CTL.CMD, Fld.width]
  omega
theorem keyWord_use (cmd use slot : Nat) : SEAL_KEY_CTL.USE.get (keyWord cmd use slot) = use % 8 := by
  rw [Fld.get, keyWord_toNat, Nat.shiftRight_eq_div_pow]
  simp only [SEAL_KEY_CTL.USE, Fld.width]
  omega
theorem keyWord_slot (cmd use slot : Nat) : SEAL_KEY_CTL.SLOT.get (keyWord cmd use slot) = slot % 32 := by
  rw [Fld.get, keyWord_toNat, Nat.shiftRight_eq_div_pow]
  simp only [SEAL_KEY_CTL.SLOT, Fld.width]
  omega

/-! ## The end of a command -/

/-- What the end of a key command writes before its event. -/
def State.keyEnded (s : State) (result : Nat) : State :=
  ({ s with keyCmd := none }.clr1 .sealKeySts SEAL_KEY_STS.BUSY).setF .sealKeySts SEAL_KEY_STS.RESULT result

theorem sealKeySts_not_wakeAddr : ¬ wakeAddr (Reg.sealKeySts).addr := by decide
theorem sealSlot_not_wakeAddr (h : k < 32) : ¬ wakeAddr (Reg.sealSlot k).addr := by
  revert h; revert k; decide
theorem sealSlot_addr_ne (h : k < 32) : (Reg.sealSlot k).addr ≠ (Reg.sealKeySts).addr := by
  revert h; revert k; decide

theorem Touches.keys {A : Nat → Prop} (h : Touches A s t) : t.keys = s.keys := by
  obtain ⟨-, -, hs⟩ := h
  exact show (t.faultsOf s).keys = s.keys from congrArg State.keys hs
theorem Touches.seqs {A : Nat → Prop} (h : Touches A s t) : t.seqs = s.seqs := by
  obtain ⟨-, -, hs⟩ := h
  exact show (t.faultsOf s).seqs = s.seqs from congrArg State.seqs hs
theorem Touches.keyCmd {A : Nat → Prop} (h : Touches A s t) : t.keyCmd = s.keyCmd := by
  obtain ⟨-, -, hs⟩ := h
  exact show (t.faultsOf s).keyCmd = s.keyCmd from congrArg State.keyCmd hs

section
variable (s result)

theorem touches_keyDone : Touches wakeAddr ((s.keyEnded result).pended 312) (s.keyDone result) :=
  touches_irqEvent (s.keyEnded result) 312
theorem kept_keyDone : Kept s (s.keyDone result) :=
  Kept.trans (t := s.keyEnded result) ⟨rfl, rfl⟩ (kept_irqEvent _ 312)
theorem keyDone_keys : (s.keyDone result).keys = s.keys := (touches_keyDone s result).keys
theorem keyDone_seqs : (s.keyDone result).seqs = s.seqs := (touches_keyDone s result).seqs
theorem keyDone_keyCmd : (s.keyDone result).keyCmd = none := (touches_keyDone s result).keyCmd
theorem keyDone_pend : (s.keyDone result).irqPend 312 = true := irqEvent_pend (s.keyEnded result) (by decide)

theorem keyDone_busy : (s.keyDone result).flag .sealKeySts SEAL_KEY_STS.BUSY = false :=
  (irqEvent_flag (s.keyEnded result) 312 sealKeySts_not_wakeAddr _).trans
    ((flag_setF_apart _ _ _ rfl rfl).trans (flag_setF_zero _ _ rfl))

theorem keyDone_result : (s.keyDone result).getF .sealKeySts SEAL_KEY_STS.RESULT = result % 256 :=
  (irqEvent_getF (s.keyEnded result) 312 sealKeySts_not_wakeAddr _).trans (getF_setF_same _ _ _ _ rfl)

/-- The end of a command leaves every slot as it is. -/
theorem keyDone_slot (h : k < 32) (f : Fld) : (s.keyDone result).getF (.sealSlot k) f = s.getF (.sealSlot k) f :=
  (irqEvent_getF (s.keyEnded result) 312 (sealSlot_not_wakeAddr h) f).trans
    ((getF_setF_ne _ _ _ _ (sealSlot_addr_ne h)).trans (getF_setF_ne _ _ _ _ (sealSlot_addr_ne h)))

end

/-! ## LOAD (R360) -/

/-- A LOAD of eight staged words has been taken. -/
def State.keyTaken (s : State) (k use : Nat) (key : List Word32) : State :=
  { s with stage := [], keyCmd := some (1, k, use, key) }.set1 .sealKeySts SEAL_KEY_STS.BUSY

theorem wrSealKeyCtl_busy (h : s.flag .sealKeySts SEAL_KEY_STS.BUSY = true) (v : Word64) : s.wrSealKeyCtl v = s := by
  simp only [State.wrSealKeyCtl, h, if_true]

theorem wrSealKeyCtl_load (hb : s.flag .sealKeySts SEAL_KEY_STS.BUSY = false) (hk : k < 32) (hu : use < 8)
    (h : s.staged8 = some key) : s.wrSealKeyCtl (keyWord 1 use k) = s.keyTaken k use key := by
  simp only [State.wrSealKeyCtl, hb, keyWord_cmd, keyWord_slot, keyWord_use, Nat.mod_eq_of_lt hk, Nat.mod_eq_of_lt hu, h]
  rfl

theorem wrSealKeyCtl_load_unstaged (hb : s.flag .sealKeySts SEAL_KEY_STS.BUSY = false) (h : s.staged8 = none) :
    s.wrSealKeyCtl (keyWord 1 use k) = { s with stage := [] }.keyDone 1 := by
  simp only [State.wrSealKeyCtl, hb, keyWord_cmd, h]
  rfl

theorem sealKeyLoad_takes (hk : k < 32) (hu : use < 8) (ha : s.accepts q .sealKeyCtl = true)
    (hb : s.flag .sealKeySts SEAL_KEY_STS.BUSY = false) (h : s.staged8 = some key) :
    Answers (.sealKeyLoad q k use) s (fun t => t.flag .sealKeySts SEAL_KEY_STS.BUSY ∧
      t.keyCmd = some (1, k, use, key) ∧ t.stage = [] ∧ OnlyRegs s { t with keyCmd := s.keyCmd, stage := s.stage }
        [(Reg.sealKeySts).addr]) :=
  answers_gate rfl ha (wrSealKeyCtl_load hb hk hu h) ⟨rfl, rfl⟩
    ⟨set1_flag_same rfl, rfl, rfl, onlyRegs_set1 s .sealKeySts SEAL_KEY_STS.BUSY⟩

theorem sealKeyLoad_unstaged (ha : s.accepts q .sealKeyCtl = true)
    (hb : s.flag .sealKeySts SEAL_KEY_STS.BUSY = false) (h : s.staged8 = none) :
    Answers (.sealKeyLoad q k use) s (fun t => t.getF .sealKeySts SEAL_KEY_STS.RESULT = 1 ∧
      t.flag .sealKeySts SEAL_KEY_STS.BUSY = false ∧ t.irqPend 312 ∧ t.keys = s.keys) :=
  answers_gate rfl ha (wrSealKeyCtl_load_unstaged hb h)
    (Kept.trans (t := { s with stage := [] }) ⟨rfl, rfl⟩ (kept_keyDone _ 1))
    ⟨keyDone_result _ 1, keyDone_busy _ 1, keyDone_pend _ 1, keyDone_keys { s with stage := [] } 1⟩

/-- The register of a slot as a LOAD writes it. -/
def State.slotSet (s : State) (k use : Nat) : State :=
  ((s.set1 (.sealSlot k) SEAL_SLOT.VALID).setF (.sealSlot k) SEAL_SLOT.USE use).addF (.sealSlot k) SEAL_SLOT.GEN 1

theorem slotSet_valid : (s.slotSet k use).flag (.sealSlot k) SEAL_SLOT.VALID = true := by
  rw [State.slotSet, State.addF, flag_setF_apart _ _ _ rfl rfl, flag_setF_apart _ _ _ rfl rfl, set1_flag_same rfl]

theorem slotSet_use : (s.slotSet k use).getF (.sealSlot k) SEAL_SLOT.USE = use % 2 ^ SEAL_SLOT.USE.width := by
  rw [State.slotSet, State.addF, getF_setF_apart _ _ _ _ _ rfl rfl, getF_setF_same _ _ _ _ rfl]

theorem slotSet_gen : (s.slotSet k use).getF (.sealSlot k) SEAL_SLOT.GEN =
    (s.getF (.sealSlot k) SEAL_SLOT.GEN + 1) % 2 ^ SEAL_SLOT.GEN.width := by
  rw [State.slotSet, State.addF, getF_setF_same _ _ _ _ rfl, getF_setF_apart _ _ _ _ _ rfl rfl, set1_getF_apart _ _ rfl rfl]

/-- A slot as a LOAD writes it. -/
def State.slotFilled (s : State) (k use : Nat) (key : List Word32) : State :=
  ((s.slotSet k use).setKeyOf k key).setSeqOf k 0

theorem slotFilled_getF (r : Reg) (f : Fld) : (s.slotFilled k use key).getF r f = (s.slotSet k use).getF r f := rfl

theorem keyLoadComplete_fills (hk : k < 32) (hu : s.up = true) (h : s.keyCmd = some (1, k, use, key)) :
    Answers .keyLoadComplete s (fun t => t.flag (.sealSlot k) SEAL_SLOT.VALID ∧
      t.getF (.sealSlot k) SEAL_SLOT.USE = use % 2 ^ SEAL_SLOT.USE.width ∧
      t.getF (.sealSlot k) SEAL_SLOT.GEN = (s.getF (.sealSlot k) SEAL_SLOT.GEN + 1) % 2 ^ SEAL_SLOT.GEN.width ∧
      t.keyOf k = key ∧ t.seqOf k = 0 ∧ t.flag .sealKeySts SEAL_KEY_STS.BUSY = false ∧
      t.getF .sealKeySts SEAL_KEY_STS.RESULT = 0 ∧ t.keyCmd = none) := by
  have hslot (f : Fld) : ((s.slotFilled k use key).keyDone 0).getF (.sealSlot k) f = (s.slotSet k use).getF (.sealSlot k) f :=
    (keyDone_slot _ 0 hk f).trans (slotFilled_getF _ f)
  have hkey : ((s.slotFilled k use key).keyDone 0).keyOf k = key :=
    (congrArg (FMap.find [] k) (keyDone_keys _ 0)).trans (setKeyOf_same _ k key)
  have hseq : ((s.slotFilled k use key).keyDone 0).seqOf k = 0 :=
    (congrArg (FMap.find 0 k) (keyDone_seqs _ 0)).trans (setSeqOf_same _ k 0)
  refine answers_eq (t := (s.slotFilled k use key).keyDone 0) (execKeyLoadComplete.eq_1 s) hu ?_
    (Kept.trans (t := s.slotFilled k use key) ⟨rfl, rfl⟩ (kept_keyDone _ 0))
    ⟨?_, (hslot _).trans slotSet_use, (hslot _).trans slotSet_gen, hkey, hseq, keyDone_busy _ 0,
      keyDone_result _ 0, keyDone_keyCmd _ 0⟩
  · simp only [h]
    rfl
  · rw [State.flag, hslot]
    exact slotSet_valid

/-! ## ERASE (R363), and commands that there are not -/

/-- The register of a slot as an ERASE writes it. -/
def State.slotCleared (s : State) (k : Nat) : State :=
  ((s.clr1 (.sealSlot k) SEAL_SLOT.VALID).setF (.sealSlot k) SEAL_SLOT.USE 0).addF (.sealSlot k) SEAL_SLOT.GEN 1

theorem slotCleared_valid : (s.slotCleared k).flag (.sealSlot k) SEAL_SLOT.VALID = false := by
  rw [State.slotCleared, State.addF, flag_setF_apart _ _ _ rfl rfl, flag_setF_apart _ _ _ rfl rfl, clr1_eq,
    flag_setF_zero _ _ rfl]

theorem slotCleared_gen : (s.slotCleared k).getF (.sealSlot k) SEAL_SLOT.GEN =
    (s.getF (.sealSlot k) SEAL_SLOT.GEN + 1) % 2 ^ SEAL_SLOT.GEN.width := by
  rw [State.slotCleared, State.addF, getF_setF_same _ _ _ _ rfl, getF_setF_apart _ _ _ _ _ rfl rfl, clr1_eq,
    getF_setF_apart _ _ _ _ _ rfl rfl]

theorem slotCleared_rd {r : Reg} (h : r.addr ≠ (Reg.sealSlot k).addr) : (s.slotCleared k).rd r = s.rd r := by
  rw [State.slotCleared, State.addF, rd_setF_ne _ _ _ h, rd_setF_ne _ _ _ h, clr1_eq, rd_setF_ne _ _ _ h]

/-- A slot as an ERASE writes it. -/
def State.slotEmptied (s : State) (k : Nat) : State := (s.slotCleared k).setKeyOf k []

/-- The operations of the unit that no erase of slot `k` stops, and the ports without the report keys of that slot. -/
def State.unkeyed (s : State) (k : Nat) : State :=
  { s with
    sealOps := s.sealOps.filter (fun o => !(o.holds k)),
    ports := s.ports.mapVals Port.init (fun _ p => { p with fifo := { p.fifo with items := p.fifo.items.map (Item.unkey k) } }) }

theorem erased_getF (r : Reg) (f : Fld) :
    ((s.slotEmptied k).unkeyed k).getF r f = (s.slotCleared k).getF r f := rfl

/-- An erase of a slot under which there is no claim, and with which nothing works. -/
theorem eraseSlot_unused (hc : s.claimsUnder k = []) (ho : ∀ o ∈ s.sealOps, o.holds k = false) :
    s.eraseSlot k = (s.slotEmptied k).unkeyed k := by
  have hops : s.sealOps.filter (fun o => o.holds k) = [] := List.filter_eq_nil_iff.2 (by simpa using ho)
  have hclaims : ((s.slotEmptied k).unkeyed k).claimsUnder k = [] := hc
  unfold State.eraseSlot
  change forL (s.sealOps.filter (fun o => o.holds k)) _
    (forL (((s.slotEmptied k).unkeyed k).claimsUnder k) _ ((s.slotEmptied k).unkeyed k)) = _
  rw [hops, hclaims]
  rfl

/-- An ERASE has been taken. -/
def State.eraseTaken (s : State) (k : Nat) : State :=
  { s with stage := [], keyCmd := some (2, k, 0, []) }.set1 .sealKeySts SEAL_KEY_STS.BUSY

theorem wrSealKeyCtl_erase (hb : s.flag .sealKeySts SEAL_KEY_STS.BUSY = false) (hk : k < 32) :
    s.wrSealKeyCtl (keyWord 2 0 k) = (s.eraseTaken k).eraseSlot k := by
  simp only [State.wrSealKeyCtl, hb, keyWord_cmd, keyWord_slot, Nat.mod_eq_of_lt hk]
  rfl

theorem sealKeyErase_empties (hk : k < 32) (ha : s.accepts q .sealKeyCtl = true)
    (hb : s.flag .sealKeySts SEAL_KEY_STS.BUSY = false) (hc : s.claimsUnder k = [])
    (ho : ∀ o ∈ s.sealOps, o.holds k = false) :
    Answers (.sealKeyErase q k) s (fun t => t.flag .sealKeySts SEAL_KEY_STS.BUSY ∧
      t.flag (.sealSlot k) SEAL_SLOT.VALID = false ∧ t.keyOf k = [] ∧
      t.getF (.sealSlot k) SEAL_SLOT.GEN = (s.getF (.sealSlot k) SEAL_SLOT.GEN + 1) % 2 ^ SEAL_SLOT.GEN.width ∧
      t.keyCmd = some (2, k, 0, [])) := by
  have hne := sealSlot_addr_ne hk
  have hbusy : (((s.eraseTaken k).slotEmptied k).unkeyed k).flag .sealKeySts SEAL_KEY_STS.BUSY = true := by
    rw [State.flag, erased_getF, State.getF, slotCleared_rd hne.symm]
    exact set1_flag_same rfl
  have hvalid : (((s.eraseTaken k).slotEmptied k).unkeyed k).flag (.sealSlot k) SEAL_SLOT.VALID = false := by
    rw [State.flag, erased_getF]
    exact slotCleared_valid
  have hgen : (((s.eraseTaken k).slotEmptied k).unkeyed k).getF (.sealSlot k) SEAL_SLOT.GEN =
      (s.getF (.sealSlot k) SEAL_SLOT.GEN + 1) % 2 ^ SEAL_SLOT.GEN.width := by
    have htaken : (s.eraseTaken k).getF (.sealSlot k) SEAL_SLOT.GEN = s.getF (.sealSlot k) SEAL_SLOT.GEN :=
      getF_setF_ne s _ _ _ hne
    rw [erased_getF, slotCleared_gen, htaken]
  exact answers_gate rfl ha ((wrSealKeyCtl_erase hb hk).trans (eraseSlot_unused (s := s.eraseTaken k) hc ho)) ⟨rfl, rfl⟩
    ⟨hbusy, hvalid, setKeyOf_same _ k [], hgen, rfl⟩

theorem sealEraseDone_ends (hu : s.up = true) (h : s.keyCmd = some (2, k, 0, [])) :
    Answers .sealEraseDone s (fun t => t.flag .sealKeySts SEAL_KEY_STS.BUSY = false ∧
      t.getF .sealKeySts SEAL_KEY_STS.RESULT = 0 ∧ t.irqPend 312 ∧ t.keyCmd = none) :=
  answers_eq (execSealEraseDone.eq_1 s) hu (by simp only [h]) (kept_keyDone s 0)
    ⟨keyDone_busy s 0, keyDone_result s 0, keyDone_pend s 0, keyDone_keyCmd s 0⟩

theorem wrSealKeyCtl_other (hb : s.flag .sealKeySts SEAL_KEY_STS.BUSY = false) (h : 3 ≤ code) (hc : code < 16) :
    s.wrSealKeyCtl (keyWord code 0 0) = s.keyDone 2 := by
  obtain ⟨n, rfl⟩ : ∃ n, code = n + 3 := ⟨code - 3, by omega⟩
  simp only [State.wrSealKeyCtl, hb, keyWord_cmd, Nat.mod_eq_of_lt hc]
  rfl

theorem sealKeyBadCommand_ends (ha : s.accepts q .sealKeyCtl = true)
    (hb : s.flag .sealKeySts SEAL_KEY_STS.BUSY = false) (h : 3 ≤ code) (hc : code < 16) :
    Answers (.sealKeyBadCommand q code) s (fun t =>
      t.getF .sealKeySts SEAL_KEY_STS.RESULT = 2 ∧ t.irqPend 312 ∧ t.keys = s.keys ∧ t.keyCmd = none) :=
  answers_gate rfl ha (wrSealKeyCtl_other hb h hc) (kept_keyDone s 2)
    ⟨keyDone_result s 2, keyDone_pend s 2, keyDone_keys s 2, keyDone_keyCmd s 2⟩

end Sys2Proof.Machine
end

section
/-!
SEAL and the operations of the seal unit (R226, R361 to R365).
-/
namespace Sys2Proof.Machine

variable {s t u : State} {c k mode a len dst blk : Nat} {opening : Bool} {o : SealOp} {q : HostReq}

/-! ## The instruction (R226) -/

/-- SEAL as it is queued. -/
def State.sealQueued (s : State) (c mode k : Nat) : SealOp :=
  ⟨.instr c (decide (mode = 1)) (s.blockOf c k).len (s.blockOf c k).dst k, (s.blockOf c k).slot, false, 0, [], 0,
    (s.ctx c).padBytes k 64, [], [], false⟩

/-- The pad offset of the block of a SEAL. -/
def Ctx.sealAt (x : Ctx) (a : Nat) : Nat := (x.reg a).toNat % 256 / 64 * 64

theorem charge_blockOf (s : State) (c k : Nat) : (s.charge c).blockOf c k = s.blockOf c k := by
  rw [State.blockOf, charge_ctx]; rfl

theorem charge_sealQueued (s : State) (c mode k : Nat) : (s.charge c).sealQueued c mode k = s.sealQueued c mode k := by
  rw [State.sealQueued, charge_blockOf, charge_ctx]; rfl

theorem charge_sealAt (s : State) (c a : Nat) : ((s.charge c).ctx c).sealAt a = (s.ctx c).sealAt a := by
  rw [charge_ctx]; rfl

theorem charge_hostOk (s : State) (c i a n : Nat) : (s.charge c).hostOk i a n = s.hostOk i a n := rfl

theorem charge_slice (s : State) (c : Nat) : ((s.charge c).ctx c).slice = (s.ctx c).slice := by rw [charge_ctx]; rfl

theorem doSeal_refuses (hb : (s.blockOf c ((s.ctx c).sealAt a)).ok = false) :
    s.doSeal c mode a = s.modCtx c (fun x => { x.refuse with n := false }) := if_pos hb

/-- SEAL with a bad block. -/
theorem seal_refused (h : s.issues c (wordK 0x35 mode a) = true) (hb : (s.blockOf c ((s.ctx c).sealAt a)).ok = false) :
    Answers (.seal c mode a) s (fun t => OnlyCtx s t c ∧
      t.ctx c = { (s.ctx c).went with c := true, n := false, st := 0 }) := by
  have hb' : ((s.charge c).blockOf c (((s.charge c).ctx c).sealAt a)).ok = false := by
    rw [charge_sealAt, charge_blockOf, hb]
  have hst : stWord stOk 0 = 0 := by decide
  refine answers_kwarvo (kwarvoS_eq_kwarvo (f := fun s => s.doSeal c mode a) h (doSeal_refuses hb')) h ?_ rfl
  simp only [Ctx.refuse, Ctx.setSt, hst]
  rfl

/-- The block of the SEAL of `c` at `k` is good, and R83 accepts its ranges. -/
structure SealAccepted (s : State) (c k : Nat) : Prop where
  ok : (s.blockOf c k).ok = true
  src : s.hostOk (s.ctx c).slice (s.blockOf c k).src (s.blockOf c k).len = true
  aad : s.hostOk (s.ctx c).slice (s.blockOf c k).aad (s.blockOf c k).aadLen = true
  dst : s.hostOk (s.ctx c).slice (s.blockOf c k).dst (s.blockOf c k).len = true

theorem SealAccepted.charge (h : SealAccepted s c k) : SealAccepted (s.charge c) c k := by
  obtain ⟨hok, hsrc, haad, hdst⟩ := h
  refine ⟨?_, ?_, ?_, ?_⟩ <;> rw [charge_blockOf]
  · exact hok
  · rw [charge_slice, charge_hostOk]; exact hsrc
  · rw [charge_slice, charge_hostOk]; exact haad
  · rw [charge_slice, charge_hostOk]; exact hdst

/-- The operations of the seal unit replaced. -/
def State.withOps (s : State) (l : List SealOp) : State := { s with sealOps := l }

theorem doSeal_queues (h : SealAccepted s c ((s.ctx c).sealAt a)) :
    s.doSeal c mode a =
      ((s.withOps (s.sealOps ++ [s.sealQueued c mode ((s.ctx c).sealAt a)])).modCtx c Ctx.step1).park c .sealOp := by
  obtain ⟨hok, hsrc, haad, hdst⟩ := h
  have hnot {b : Bool} (hb : b = true) : ¬ b = false := by simp [hb]
  exact (if_neg (hnot hok)).trans ((if_neg (hnot hsrc)).trans ((if_neg (hnot haad)).trans (if_neg (hnot hdst))))

theorem park_sealOps (s : State) (c : Nat) (wt : Wait) : (s.park c wt).sealOps = s.sealOps := by
  have hleave : (s.leaveEng c).sealOps = s.sealOps := by
    unfold State.leaveEng
    split <;> rfl
  exact hleave

/-- SEAL with a block that it can use, over ranges that R83 accepts. -/
theorem seal_parks (h : s.issues c (wordK 0x35 mode a) = true) (hs : SealAccepted s c ((s.ctx c).sealAt a)) :
    Answers (.seal c mode a) s (fun t => (t.ctx c).act = .parked .sealOp ∧ (t.ctx c).pc = (s.ctx c).pc + 1 ∧
      (t.ctx c).g = (s.ctx c).g ∧ t.sealOps = s.sealOps ++ [s.sealQueued c mode ((s.ctx c).sealAt a)]) := by
  let u := ((s.charge c).withOps (s.sealOps ++ [s.sealQueued c mode ((s.ctx c).sealAt a)])).modCtx c Ctx.step1
  have hdo : (s.charge c).doSeal c mode a = u.park c .sealOp := by
    have := doSeal_queues (mode := mode) (a := a) (s := s.charge c) (c := c) (by rw [charge_sealAt]; exact hs.charge)
    rwa [charge_sealAt, charge_sealQueued] at this
  have hu : u.ctx c = (s.ctx c).charged.step1 := (modCtx_same _ c _).trans (congrArg Ctx.step1 (charge_ctx s c))
  have hctx : (u.park c .sealOp).ctx c = { (s.ctx c).charged.step1 with act := .parked .sealOp, since := u.now } := by
    rw [park_ctx, hu]
  have hg : ((u.park c .sealOp).ctx c).g = (s.ctx c).g := by rw [hctx]; rfl
  exact ⟨_, kwarvoS_parks (f := fun s => s.doSeal c mode a) h hdo, congrArg Ctx.act hctx, congrArg Ctx.pc hctx,
    hg, park_sealOps u c .sealOp⟩

/-! ## What the pump leaves of the posted writes -/

/-- A posted write but for its issue. -/
def PWrite.core (w : PWrite) : PWrite := { w with issued := false, xlat := [] }

/-- From `s` to `t` requests have been tried or issued, and the posted writes of `t` are `o`, issued or not; of its requests
each is a Translation Request. -/
structure Posted (o : Option PWrite) (s t : State) : Prop where
  requests : Requests s t
  writes : t.writes.map PWrite.core = o.toList
  trans : ∀ q ∈ t.reqs, q.isTrans = true

theorem isTrans_of_purpose {q v : HostReq} (h : v.purpose = q.purpose) : v.isTrans = q.isTrans := by
  simp only [HostReq.isTrans, h]

variable {o : Option PWrite}

theorem Posted.tryIssue (h : Posted o s t) (q : HostReq) : Posted o s (t.tryIssue q) := by
  obtain ⟨hreq, hw, htr⟩ := h
  refine ⟨hreq.trans (requests_tryIssue t q), ?_, ?_⟩
  · obtain ⟨d, l, e⟩ := tryIssue_eq t q
    rw [e]
    exact hw
  · obtain ⟨d, l, e⟩ := tryIssue_eq t q
    rw [e]
    intro v hv
    change v ∈ (if t.canIssue q then t.issuedReqs q else t.reqs) at hv
    split at hv
    · obtain ⟨r, hr, rfl⟩ := List.mem_map.1 hv
      refine (isTrans_of_purpose ?_).trans (htr r hr)
      split <;> rfl
    · exact htr v hv

theorem Posted.askTranslation (h : Posted o s t) (i c a n : Nat) (w : Bool) : Posted o s (t.askTranslation i c a n w) := by
  unfold State.askTranslation
  split
  · exact h
  · split
    · exact h
    · refine Posted.tryIssue ⟨h.requests.trans (requests_asked t _), h.writes, fun v hv => ?_⟩ _
      rcases List.mem_append.1 hv with hv | hv
      · exact h.trans v hv
      · rw [List.mem_singleton.1 hv]
        rfl

theorem Posted.tryWrite {w : PWrite} (h : Posted (some w.core) s t) : Posted (some w.core) s (t.tryWrite w) := by
  unfold State.tryWrite
  split
  · refine ⟨h.requests.trans rfl, ?_, h.trans⟩
    obtain ⟨v, hv⟩ : ∃ v, t.writes = [v] := List.length_eq_one_iff.1 (by simpa using congrArg List.length h.writes)
    have hcore : v.core = w.core := by simpa [hv] using h.writes
    simp only [hv, List.map_cons, List.map_nil]
    split
    · rfl
    · simp [hcore]
  · exact h

theorem Posted.pumpWrite {w : PWrite} (h : Posted (some w.core) s t) : Posted (some w.core) s (t.pumpWrite w) := by
  unfold State.pumpWrite
  split
  · exact h
  · split
    · exact (h.askTranslation _ _ _ _ _).tryWrite
    · exact h.tryWrite

theorem Posted.pumpRead (h : Posted o s t) (q : HostReq) : Posted o s (t.pumpRead q) := by
  unfold State.pumpRead
  refine Posted.tryIssue ?_ q
  split
  · split
    · exact h
    · exact h.askTranslation _ _ _ _ _
  · exact h

/-- A write that stands in the list is the one there is. -/
theorem Posted.core_of_mem (h : Posted o s t) {w : PWrite} (hw : w ∈ t.writes) : o = some w.core := by
  have := List.mem_map_of_mem (f := PWrite.core) hw
  rw [h.writes] at this
  simpa using this

theorem Posted.forL {α : Type} {f : α → State → State} (hf : ∀ a t, Posted o s t → Posted o s (f a t)) (l : List α)
    (h : Posted o s t) : Posted o s (forL l f t) := by
  induction l generalizing t with
  | nil => exact h
  | cons a l ih => exact ih (hf a t h)

theorem Posted.pumpReqs (h : Posted o s t) : Posted o s t.pumpReqs := by
  refine h.forL (fun n t h => ?_) _
  have hwrite : Posted o s (match t.writes.find? (fun w => w.tag == n) with
      | some w => t.pumpWrite w
      | none => t) := by
    split
    next w hw =>
      have ho := h.core_of_mem (List.mem_of_find?_eq_some hw)
      subst ho
      exact h.pumpWrite
    next => exact h
  dsimp only
  split
  · exact hwrite.pumpRead _
  · exact hwrite

/-- Nothing that waits is refused late where R83 accepts the write. -/
theorem Posted.refuseLate (h : Posted o s t) (hok : ∀ w ∈ o, s.hostOk w.slice w.addr w.bytes.length = true) :
    t.refuseLate = t := by
  have hreads : t.reqs.filter (fun q => q.phase == .waiting && !q.isTrans && t.mayIssue q.slice && t.limitOk q.slice &&
      t.orderOk q && !(t.hostOk q.slice q.addr q.len)) = [] :=
    List.filter_eq_nil_iff.2 fun q hq => by simp [h.trans q hq]
  have hsame (i a n : Nat) : t.hostOk i a n = s.hostOk i a n :=
    (congrArg (fun s => State.hostOk s i a n) h.requests :)
  have hwrites : t.writes.filter (fun w => !w.issued && t.mayIssue w.slice && !(t.hostOk w.slice w.addr w.bytes.length)) =
      [] := List.filter_eq_nil_iff.2 fun w hw => by
    have hw' : s.hostOk w.slice w.addr w.bytes.length = true := hok w.core (h.core_of_mem hw)
    simp [hsame, hw']
  rw [State.refuseLate, hreads]
  change Machine.forL (t.writes.filter (fun w => !w.issued && t.mayIssue w.slice &&
    !(t.hostOk w.slice w.addr w.bytes.length))) _ t = t
  rw [hwrites]
  rfl

/-- The answers to PME_Turn_Off leave the writes and the seal unit alone. -/
structure SameSeal (s t : State) : Prop where
  kept : Kept s t
  writes : t.writes = s.writes
  sealOps : t.sealOps = s.sealOps

theorem sameSeal_pmeAcks (s : State) : SameSeal s s.pmeAcks := by
  have hone (s : State) (p : Nat) : SameSeal s (s.pmeAck p) := by
    unfold State.pmeAck
    split <;> exact ⟨⟨rfl, rfl⟩, rfl, rfl⟩
  have hall (l : List Nat) (s : State) : SameSeal s (forL l (fun p s => s.pmeAck p) s) := by
    induction l generalizing s with
    | nil => exact ⟨⟨rfl, rfl⟩, rfl, rfl⟩
    | cons p l ih =>
      obtain ⟨hk, hw, ho⟩ := hone s p
      obtain ⟨kk, kw, ko⟩ := ih (s.pmeAck p)
      exact ⟨hk.trans kk, kw.trans hw, ko.trans ho⟩
  exact hall (List.range 4) s

end Sys2Proof.Machine
end

section
/-!
The operations of the seal unit: start, data, output and end (R226, R361, R364, R365).
-/
namespace Sys2Proof.Machine

variable {s t u : State} {c len dst blk : Nat} {opening : Bool} {o : SealOp} {q : HostReq} {d : List Byte}

/-! ## An operation of a context -/

theorem isFor_of_use (h : o.use = .instr c opening len dst blk) : o.isFor c = true := by
  simp [SealOp.isFor, h]

theorem Requests.sealOps (h : Requests s t) : t.sealOps = s.sealOps := (congrArg State.sealOps h :)

/-- The source of a SEAL is read where more of it is needed (R226). -/
theorem sealRead_source (ho : s.sealOps = [o]) (hu : o.use = .instr c opening len dst blk)
    (hl : o.src.length < (sealBlock o.blk).len) :
    s.sealRead c = s.newReq (s.ctx c).slice c ((sealBlock o.blk).src + o.src.length)
      (min ((sealBlock o.blk).len - o.src.length)
        (s.readMax (s.ctx c).slice ((sealBlock o.blk).src + o.src.length))) .sealSource := by
  simp only [State.sealRead, ho, List.find?_cons, isFor_of_use hu, hu, hl, if_true]

/-- With all that it reads there, a SEAL makes its output. -/
theorem sealRead_done (ho : s.sealOps = [o]) (hu : o.use = .instr c opening len dst blk)
    (hl : (sealBlock o.blk).len ≤ o.src.length) (ha : (sealBlock o.blk).aadLen ≤ o.aad.length) :
    s.sealRead c = s.sealEmit c o := by
  simp only [State.sealRead, ho, List.find?_cons, isFor_of_use hu, hu, Nat.not_lt.2 hl, Nat.not_lt.2 ha, if_false]

/-! ## The start (R361, R365) -/

/-- An operation once it has started: with a copy of its slot. -/
def State.sealBegun (s : State) (o : SealOp) : SealOp :=
  { o with started := true, key := s.slotKey o.slot 0, gen := s.getF (.sealSlot o.slot) SEAL_SLOT.GEN, seq := s.seqOf o.slot }

theorem exec_sealOpStart (hu : s.up = true) (ho : s.sealOps = [o]) (hn : o.started = false) (hd : s.domLive 162 = true)
    (hr : s.sealRunning < 8) (ht : s.sealStart 0 o = t) :
    exec .sealOpStart s = .next { t with aon := s.aon, pending := s.pending } := by
  have hfirst : firstWaiting s.sealOps 0 = some (0, o) := by simp [firstWaiting, ho, hn]
  show execSealOpStart s = _
  rw [execSealOpStart, onDevice_up _ hu]
  simp only [hfirst, hr, hd, and_self, if_true, ht]

theorem sealStart_reads (ho : s.sealOps = [o]) (hu : o.use = .instr c opening len dst blk) (hk : s.slotKey o.slot 0 ≠ []) :
    s.sealStart 0 o = ((s.withOps [s.sealBegun o]).traffic 162).sealRead c := by
  simp only [State.sealStart, hu, SealUse.bit, hk, if_false, ho, State.sealBegun, State.withOps]
  rfl

theorem sealStart_refuses (ho : s.sealOps = [o]) (hu : o.use = .instr c opening len dst blk) (hk : s.slotKey o.slot 0 = []) :
    s.sealStart 0 o = (s.withOps []).sealRefused c := by
  simp only [State.sealStart, hu, SealUse.bit, hk, if_true, ho]
  rfl

/-- The request that is made while nothing else waits, issued or not. -/
theorem newReq_reqs_alone {i : Nat} (hr : s.reqs = []) (hw : s.writes = []) (ha : s.atsOn i = false) (c a n : Nat)
    (p : Purpose) :
    ∃ ph since cto, (s.newReq i c a n p).reqs = [{ s.made i c a n p with phase := ph, since := since, cto := cto }] := by
  rw [newReq_alone hr hw ha]
  exact tryIssue_reqs_alone (congrArg (· ++ [s.made i c a n p]) hr)

/-- An operation on a slot with a key begins to read its source. -/
theorem sealOpStart_reads (hu : s.up = true) (ho : s.sealOps = [o]) (hn : o.started = false)
    (huse : o.use = .instr c opening len dst blk) (hd : s.domLive 162 = true) (hrun : s.sealRunning < 8)
    (hk : s.slotKey o.slot 0 ≠ []) (hl : o.src.length < (sealBlock o.blk).len) (hr : s.reqs = []) (hw : s.writes = [])
    (ha : s.atsOn (s.ctx c).slice = false) :
    Answers .sealOpStart s (fun t => t.sealOps = [s.sealBegun o] ∧
      ∃ w, t.reqs = [w] ∧ w.purpose = .sealSource ∧ w.ctx = c ∧ w.addr = (sealBlock o.blk).src + o.src.length) := by
  let u := (s.withOps [s.sealBegun o]).traffic 162
  have hread := (sealStart_reads ho huse hk).trans (sealRead_source (s := u) (o := s.sealBegun o) rfl huse hl)
  obtain ⟨ph, since, cto, hone⟩ := newReq_reqs_alone (s := u) (i := (u.ctx c).slice) hr hw ha c _ _ .sealSource
  exact ⟨_, exec_sealOpStart hu ho hn hd hrun hread, (requests_newReq u _ _ _ _ _).sealOps, _, hone, rfl, rfl, rfl⟩

/-- An operation on a slot that it may not use: SEAL is refused (R361). -/
theorem sealOpStart_refuses (hu : s.up = true) (ho : s.sealOps = [o]) (hn : o.started = false)
    (huse : o.use = .instr c opening len dst blk) (hd : s.domLive 162 = true) (hrun : s.sealRunning < 8)
    (hk : s.slotKey o.slot 0 = []) (he : (s.ctx c).endCode = none) (hb : (s.ctx c).idleBus = true) :
    Answers .sealOpStart s (fun t => t.sealOps = [] ∧ t.resumed c ∧ (t.ctx c).c = true ∧ (t.ctx c).n = false) := by
  have hwake : Resumes c _ ((s.withOps []).sealRefused c) :=
    wake_modCtx_resumes (s := s.withOps []) (g := fun x => { x.setSt stOk 0 with c := true, n := false })
      ⟨by simp, by simp, by simp⟩ he hb
  exact ⟨_, exec_sealOpStart hu ho hn hd hrun (sealStart_refuses ho huse hk), hwake.sealOps, hwake.resumed,
    congrArg Ctx.c hwake.modCtx, congrArg Ctx.n hwake.modCtx⟩

/-! ## Data and output (R226, R364) -/

/-- The output write of a SEAL as it is made. -/
def State.sealWrite (s : State) (c : Nat) (o : SealOp) : PWrite :=
  let x := s.ctx c
  let y := s.ctx (x.root c)
  ⟨s.tag, x.slice, c, x.ring, y.idx, y.lap, (sealBlock o.blk).dst, gcmText o.key o.nonce o.src, .sealOut, false, x.cluster,
    s.tag, false, []⟩

/-- What a SEAL writes: nothing where it is an open whose tag does not match. -/
def State.sealOutput (s : State) (c : Nat) (o : SealOp) : Option PWrite :=
  if o.mismatch then none else some (s.sealWrite c o)

theorem postWrite_seal (s : State) (c : Nat) (o : SealOp) :
    s.postWrite c (sealBlock o.blk).dst (gcmText o.key o.nonce o.src) .sealOut =
      { s with writes := s.writes ++ [s.sealWrite c o], tag := s.tag + 1 }.pumpWrites := by
  cases hop : (s.ctx c).op <;> simp only [State.postWrite, State.postPiece, State.sealWrite, hop] <;> rfl

/-- The output of a SEAL is marked as made, and asked for. -/
theorem sealEmit_posted (ho : s.sealOps = [o]) (huse : o.use = .instr c opening len dst blk) (hr : s.reqs = [])
    (hw : s.writes = []) :
    Posted (s.sealOutput c o) (s.withOps [{ o with out := true }]) (s.sealEmit c o) := by
  have hmade : { s with sealOps := s.sealOps.map (fun (v : SealOp) => if v.isFor c then { v with out := true } else v) } =
      s.withOps [{ o with out := true }] := by
    simp [State.withOps, ho, isFor_of_use huse]
  rw [State.sealEmit, hmade, State.sealOutput]
  generalize hu : s.withOps [{ o with out := true }] = u
  have hur : u.reqs = [] := by rw [← hu]; exact hr
  have huw : u.writes = [] := by rw [← hu]; exact hw
  have hsame : s.sealWrite c o = u.sealWrite c o := by rw [← hu]; rfl
  split
  · exact ⟨.refl u, by rw [huw]; rfl, by simp [hur]⟩
  · rw [postWrite_seal, hsame]
    have hpost : Posted (some (u.sealWrite c o).core) u
        { u with writes := u.writes ++ [u.sealWrite c o], tag := u.tag + 1 } :=
      ⟨rfl, by simp [huw], by simp [hur]⟩
    have hpump : State.pumpWrites { u with writes := u.writes ++ [u.sealWrite c o], tag := u.tag + 1 } =
        State.pumpWrite { u with writes := u.writes ++ [u.sealWrite c o], tag := u.tag + 1 } (u.sealWrite c o) := by
      simp [State.pumpWrites, huw, forL]
    rw [hpump]
    exact hpost.pumpWrite

/-- The operation with more of its source read. -/
def SealOp.fed (o : SealOp) (d : List Byte) : SealOp := { o with src := o.src ++ d }

/-- The read of a SEAL that waits for a completion, and that brings the rest of its source. -/
structure LastRead (s : State) (o : SealOp) (q : HostReq) (c : Nat) (d : List Byte) : Prop where
  reqs : s.reqs = [q]
  issued : q.phase = .issued
  purpose : q.purpose = .sealSource
  ctx : q.ctx = c
  host : s.inSram q.slice = false
  length : d.length = q.len
  src : (sealBlock o.blk).len ≤ o.src.length + q.len
  aad : (sealBlock o.blk).aadLen ≤ o.aad.length

/-- The state once the request has gone and the operation has its source. -/
def State.sealFed (s : State) (o : SealOp) (d : List Byte) : State := { s.withOps [o.fed d] with reqs := [] }

theorem answered_alone (h : LastRead s o q c d) : s.answered (s.slPort q.slice) q.tag = some q := by
  simp [State.answered, State.findReq, h.reqs, h.issued]

/-- The last data of a SEAL makes its output. -/
theorem completed_eq (h : LastRead s o q c d) (ho : s.sealOps = [o]) (huse : o.use = .instr c opening len dst blk) :
    s.completed q .ok d = ((s.sealFed o d).sealEmit c (o.fed d)).pumpReqs := by
  have hdata : s.reqData q d = d := by
    simp [State.reqData, h.host, ← h.length]
  have harrived : (s.dropReq q.tag).sealArrived c false d = (s.sealFed o d).sealRead c := by
    simp [State.dropReq, State.sealArrived, h.reqs, ho, isFor_of_use huse, State.sealFed, State.withOps, SealOp.fed]
  have hread : (s.sealFed o d).sealRead c = (s.sealFed o d).sealEmit c (o.fed d) :=
    sealRead_done (s := s.sealFed o d) rfl huse (by simpa [SealOp.fed, h.length] using h.src) h.aad
  rw [← hread, ← harrived, ← h.ctx]
  simp only [State.completed, State.reqDone, h.purpose, reduceCtorEq, if_false, hdata]

/-- The last data of a SEAL: its output is made, and asked for (R226, R364). -/
theorem completionReceived_emits (hu : s.up = true) (h : LastRead s o q c d) (ho : s.sealOps = [o])
    (huse : o.use = .instr c opening len dst blk) (hw : s.writes = [])
    (hok : (o.fed d).mismatch = false →
      s.hostOk (s.ctx c).slice (sealBlock o.blk).dst (gcmText o.key o.nonce (o.fed d).src).length = true) :
    Answers (.completionReceived (s.slPort q.slice) q.tag .ok d) s (fun t => t.sealOps = [{ o.fed d with out := true }] ∧
      t.writes.map PWrite.core = ((s.sealFed o d).sealOutput c (o.fed d)).toList) := by
  have hpost := (sealEmit_posted (s := s.sealFed o d) (o := o.fed d) rfl huse rfl hw).pumpReqs
  have hlate := hpost.refuseLate (fun w hwo => by
    unfold State.sealOutput at hwo
    split at hwo
    next => cases hwo
    next hm =>
      cases hwo
      exact hok (by simpa using hm))
  have hafter := sameSeal_pmeAcks (s.completed q .ok d)
  rw [← completed_eq h ho huse] at hpost hlate
  have hemit : Kept s (s.completed q .ok d) :=
    Kept.trans (t := (s.sealFed o d).withOps [{ o.fed d with out := true }]) ⟨rfl, rfl⟩ hpost.requests.kept
  refine answers_eq (t := (s.completed q .ok d).pmeAcks) (execCompletionReceived.eq_1 _ _ _ _ s) hu ?_
    (hemit.trans hafter.kept)
    ⟨hafter.sealOps.trans hpost.requests.sealOps, (congrArg (List.map PWrite.core) hafter.writes).trans hpost.writes⟩
  simp only [answered_alone h, State.afterReqs, hlate]

/-- What the posted writes are, when the output of a SEAL is all there is of them. -/
theorem writes_of_sealOutput (hw : s.writes = [])
    (h : t.writes.map PWrite.core = ((s.sealFed o d).sealOutput c (o.fed d)).toList) :
    if (o.fed d).mismatch then t.writes.length = s.writes.length
    else ∃ w, w ∈ t.writes ∧ w.addr = (sealBlock o.blk).dst ∧ w.ctx = c ∧
      w.bytes = gcmText o.key o.nonce (o.fed d).src := by
  unfold State.sealOutput at h
  split at h
  next hm =>
    rw [if_pos hm, hw]
    simpa using congrArg List.length h
  next hm =>
    rw [if_neg hm]
    obtain ⟨w, hw⟩ : ∃ w, t.writes = [w] := List.length_eq_one_iff.1 (by simpa using congrArg List.length h)
    have hcore : w.core = (s.sealFed o d).sealWrite c (o.fed d) := by simpa [hw] using h
    exact ⟨w, by simp [hw], congrArg PWrite.addr hcore, congrArg PWrite.ctx hcore, congrArg PWrite.bytes hcore⟩

/-! ## The end (R226, R364) -/

theorem exec_sealOpComplete_waits (hu : s.up = true) (ho : s.sealOps = [o])
    (huse : o.use = .instr c opening len dst blk) (h : o.out = false ∨ s.sealUnsent c = true) :
    exec (.sealOpComplete 0) s = .next s := by
  have hnot : ¬ (o.out = true ∧ s.sealUnsent c = false) := by
    rintro ⟨hout, hsent⟩
    simp [hout, hsent] at h
  refine (execSealOpComplete.eq_1 0 s).trans (onDevice_eq (t := s) hu ?_ rfl rfl)
  simp only [ho, List.getElem?_cons_zero, huse, hnot, if_false]

theorem exec_sealOpComplete (hu : s.up = true) (ho : s.sealOps = [o]) (huse : o.use = .instr c opening len dst blk)
    (hout : o.out = true) (hsent : s.sealUnsent c = false) :
    exec (.sealOpComplete 0) s = .next { (s.withOps []).sealEnd o c opening len blk with
      aon := s.aon, pending := s.pending } := by
  show execSealOpComplete 0 s = _
  rw [execSealOpComplete, onDevice_up _ hu]
  simp only [ho, List.getElem?_cons_zero, huse, hout, hsent, and_self, if_true]
  rfl

/-- What the end of a SEAL makes of the pad: the tag of sealed text stands in it. -/
def Ctx.sealTagged (o : SealOp) (opening : Bool) (k : Nat) (x : Ctx) : Ctx :=
  if o.mismatch || opening then x else x.padWrite (k + 40) (o.tag (gcmText o.key o.nonce o.src))

/-- What it makes of the status and the flags. -/
def Ctx.sealTold (o : SealOp) (len : Nat) (x : Ctx) : Ctx :=
  if o.mismatch then { x with c := true, n := true } else { x.setSt stOk len with c := false, n := false }

section
variable (x : Ctx) (o : SealOp) (len : Nat)

@[simp] theorem setSt_st (code bytes : Nat) : (x.setSt code bytes).st = stWord code bytes := by rw [Ctx.setSt]
@[simp] theorem setSt_pad (code bytes : Nat) : (x.setSt code bytes).pad = x.pad := by rw [Ctx.setSt]

theorem sealTold_sameBus : SameBus x (x.sealTold o len) := by
  unfold Ctx.sealTold
  split
  · exact ⟨rfl, rfl, rfl⟩
  · exact ⟨by simp, by simp, by simp⟩

@[simp] theorem sealTold_c : (x.sealTold o len).c = o.mismatch := by
  cases hm : o.mismatch <;> simp [Ctx.sealTold, hm]
@[simp] theorem sealTold_n : (x.sealTold o len).n = o.mismatch := by
  cases hm : o.mismatch <;> simp [Ctx.sealTold, hm]
@[simp] theorem sealTold_pad : (x.sealTold o len).pad = x.pad := by
  cases hm : o.mismatch <;> simp [Ctx.sealTold, hm]
theorem sealTold_st : (x.sealTold o len).st = if o.mismatch then x.st else stWord stOk len := by
  cases hm : o.mismatch <;> simp [Ctx.sealTold, hm]

/-- The tag changes the pad alone. -/
theorem sealTagged_eq (opening : Bool) (k : Nat) :
    x.sealTagged o opening k = { x with pad := (x.sealTagged o opening k).pad } := by
  unfold Ctx.sealTagged
  split
  · rfl
  · exact padWrite_eq x _ _

end

/-- The tag in the pad, before the status is told. -/
def State.sealTagged (s : State) (o : SealOp) (c : Nat) (opening : Bool) (k : Nat) : State :=
  if o.mismatch || opening then s else s.modCtx c (fun x => x.padWrite (k + 40) (o.tag (gcmText o.key o.nonce o.src)))

theorem sealEnd_eq (s : State) (o : SealOp) (c : Nat) (opening : Bool) (len k : Nat) :
    s.sealEnd o c opening len k = ((s.sealTagged o c opening k).modCtx c (Ctx.sealTold o len)).wake c := by
  unfold State.sealEnd State.sealTagged
  cases hm : o.mismatch <;> cases opening <;> simp only [Bool.or_true, Bool.true_or, Bool.or_self, Bool.false_eq_true,
    if_true, if_false, State.modCtx, Ctx.sealTold, hm]

theorem sealTagged_ctx (s : State) (o : SealOp) (c : Nat) (opening : Bool) (k : Nat) :
    (s.sealTagged o c opening k).ctx c = (s.ctx c).sealTagged o opening k := by
  unfold State.sealTagged Ctx.sealTagged
  split
  · rfl
  · exact modCtx_same s c _

theorem sealTagged_writes (s : State) (o : SealOp) (c : Nat) (opening : Bool) (k : Nat) :
    (s.sealTagged o c opening k).writes = s.writes := by
  unfold State.sealTagged
  split <;> rfl

theorem sealTagged_sealOps (s : State) (o : SealOp) (c : Nat) (opening : Bool) (k : Nat) :
    (s.sealTagged o c opening k).sealOps = s.sealOps := by
  unfold State.sealTagged
  split <;> rfl

/-- The park of a SEAL that ends. -/
theorem sealEnd_resumes (he : (s.ctx c).endCode = none) (hb : (s.ctx c).idleBus = true) (o : SealOp) (opening : Bool)
    (len k : Nat) :
    Resumes c ((s.sealTagged o c opening k).modCtx c (Ctx.sealTold o len)) (s.sealEnd o c opening len k) := by
  have hctx := (sealTagged_ctx s o c opening k).trans (sealTagged_eq (s.ctx c) o opening k)
  rw [sealEnd_eq]
  exact wake_modCtx_resumes (sealTold_sameBus _ o len) (by rw [hctx]; exact he) (by rw [hctx]; exact hb)

/-- Bytes in the pad are read back. -/
theorem padBytes_padWrite (x : Ctx) {p : Nat} (l : List Byte) (h : p + l.length ≤ 256) :
    (x.padWrite p l).padBytes p l.length = l := by
  refine List.ext_getElem (by simp [Ctx.padBytes]) fun i _ hi => ?_
  have hat := padWrite_padAt x (q := p + i) l h (by omega)
  rw [dif_pos ⟨by omega, by omega⟩] at hat
  simpa [Ctx.padBytes] using hat

theorem length_tag (o : SealOp) (d : List Byte) : (o.tag d).length = 16 := length_leBytes _ _

theorem sealTagged_tag (x : Ctx) {k : Nat} (hk : k ≤ 192) (hm : o.mismatch = false) :
    (x.sealTagged o false k).padBytes (k + 40) 16 = o.tag (gcmText o.key o.nonce o.src) := by
  have htag := padBytes_padWrite x (p := k + 40) (o.tag (gcmText o.key o.nonce o.src)) (by rw [length_tag]; omega)
  rw [length_tag] at htag
  rwa [Ctx.sealTagged, hm]

theorem padBytes_of_pad {x y : Ctx} (h : x.pad = y.pad) (p n : Nat) : x.padBytes p n = y.padBytes p n := by
  simp only [Ctx.padBytes, Ctx.padAt, h]

/-- The output of a SEAL has been issued: its operation ends, and its park (R226, R364). -/
theorem sealOpComplete_ends (hu : s.up = true) (ho : s.sealOps = [o]) (hout : o.out = true)
    (huse : o.use = .instr c opening len dst blk) (hsent : s.sealUnsent c = false) (hblk : blk ≤ 192)
    (he : (s.ctx c).endCode = none) (hb : (s.ctx c).idleBus = true) :
    Answers (.sealOpComplete 0) s (fun t => t.sealOps = [] ∧ t.resumed c ∧ t.writes = s.writes ∧
      (t.ctx c).c = o.mismatch ∧ (t.ctx c).n = o.mismatch ∧ (o.mismatch → (t.ctx c).st = (s.ctx c).st) ∧
      (o.mismatch = false → (t.ctx c).st = stWord stOk len ∧
        (opening = false → (t.ctx c).padBytes (blk + 40) 16 = o.tag (gcmText o.key o.nonce o.src)))) := by
  have hwake := sealEnd_resumes (s := s.withOps []) he hb o opening len blk
  have htagged : ((s.withOps []).sealTagged o c opening blk).ctx c = (s.ctx c).sealTagged o opening blk :=
    sealTagged_ctx _ o c opening blk
  have hend := hwake.modCtx
  rw [htagged] at hend
  have hst := (congrArg Ctx.st hend).trans (sealTold_st _ o len)
  refine ⟨_, exec_sealOpComplete hu ho huse hout hsent, hwake.sealOps.trans (sealTagged_sealOps _ _ _ _ _), hwake.resumed,
    hwake.writes.trans (sealTagged_writes _ _ _ _ _), (congrArg Ctx.c hend).trans (sealTold_c _ o len),
    (congrArg Ctx.n hend).trans (sealTold_n _ o len), fun hm => hst.trans ?_, fun hm => ⟨hst.trans ?_, fun hop => ?_⟩⟩
  · rw [if_pos hm, sealTagged_eq]
  · rw [hm]
    rfl
  · subst hop
    exact (padBytes_of_pad ((congrArg Ctx.pad hend).trans (sealTold_pad _ o len)) _ _).trans (sealTagged_tag _ hblk hm)

/-! ## The obligation -/

/-- Settles O43: key slots are loaded and erased; SEAL reads its block, its operation a copy of its slot and its source, and
what it makes of them is its output, its tag and its flags. -/
theorem keysAndSeal : Obligations.KeysAndSeal := by
  unfold Obligations.KeysAndSeal
  refine ⟨fun s q k use hk huse ha =>
      ⟨fun hb => ⟨fun key hkey => ?_, fun hnone => ?_, fun hc ho => ?_, fun code h3 h16 => ?_⟩, fun hb => ?_,
        fun key hcmd => ?_, fun hcmd => ?_⟩,
    fun s c mode a hm ha h => ⟨fun hbad => ?_, fun hok hsrc haad hdst => ?_⟩,
    fun s o c len dst blk opening hu ho hn huse hd hrun => ⟨fun hk hl hr hw hats => ?_, fun hk hact he hb => ?_⟩,
    fun s o c len dst blk opening q d hu ho huse hr hph hp hc hs hd hl hal hw => ?_,
    fun s o c len dst blk opening hu ho hout huse hsent hblk hact he hb => ?_,
    fun s o c len dst blk opening hu ho huse h => ?_⟩
  · exact sealKeyLoad_takes hk huse ha hb hkey
  · exact sealKeyLoad_unstaged ha hb hnone
  · exact sealKeyErase_empties hk ha hb hc ho
  · exact sealKeyBadCommand_ends ha hb h3 h16
  · exact exec_ignored rfl ha (wrSealKeyCtl_busy hb _)
  · exact keyLoadComplete_fills hk (accepts_up ha) hcmd
  · exact sealEraseDone_ends (accepts_up ha) hcmd
  · exact seal_refused h hbad
  · exact seal_parks h ⟨hok, hsrc, haad, hdst⟩
  · exact sealOpStart_reads hu ho hn huse hd hrun hk hl hr hw hats
  · exact sealOpStart_refuses hu ho hn huse hd hrun hk he hb
  · intro o' hok
    obtain ⟨t, ht, hops, hwrites⟩ := completionReceived_emits hu ⟨hr, hph, hp, hc, hs, hd, hl, hal⟩ ho huse hw hok
    exact ⟨t, ht, hops, writes_of_sealOutput hw hwrites⟩
  · exact sealOpComplete_ends hu ho hout huse hsent hblk he hb
  · exact exec_sealOpComplete_waits hu ho huse h

end Sys2Proof.Machine
end

section
/-!
Engines (R235, R243, R246): what a dispatch with nothing to do leaves, and an item that joins the head of its level.
-/
namespace Sys2Proof.Machine

variable {s : State} {c k te : Nat}

/-! ## A cluster with nothing to dispatch -/

/-- No dispatch without a free engine and an eligible item (R234). -/
theorem dispatchN_idle (h : s.dispatch1 k = none) (n : Nat) : s.dispatchN k n = s := by
  cases n with
  | zero => rfl
  | succ n => simp only [State.dispatchN, h]

theorem dispatch_noEngine (h : s.freeEng k = none) : s.dispatch k = s :=
  dispatchN_idle (by simp only [State.dispatch1, h]) 8

theorem topItem_none (h : s.ready = []) (n : Nat) : s.topItem k n = none := by
  induction n with
  | zero => rfl
  | succ n ih => simp [State.topItem, State.rlist, h, ih]

theorem dispatch_noItem (h : s.ready = []) : s.dispatch k = s :=
  dispatchN_idle (by simp [State.dispatch1, topItem_none h]) 8

theorem dispatchAll_noItem (h : s.ready = []) : s.dispatchAll = s := forN_id fun _ _ => dispatch_noItem h

/-! ## The head of a ready list -/

/-- The key of the ready list that an item joins: that of its cluster and level (R232). -/
abbrev State.listKey (s : State) (c : Nat) : Nat := (s.ctx c).cluster * 8 + (s.ctx c).pri

theorem putFirst_none {p : Nat → Bool} {l : List Nat} (h : ∀ j ∈ l, p j = false) : putFirst p c l = c :: l := by
  cases l with
  | nil => rfl
  | cons a l => simp [putFirst, h a List.mem_cons_self]

theorem enlist_ctx (s : State) (c : Nat) (head : Bool) : (s.enlist c head).ctx c = { s.ctx c with act := .ready } :=
  setCtx_same _ c _

/-- An item that joins the head of its list, alone in its cycle (R232). -/
theorem enlist_head (h : ∀ j ∈ s.rlist (s.listKey c), s.joinedNow true j = false) :
    (s.enlist c true).rlist (s.listKey c) = c :: s.rlist (s.listKey c) :=
  (setRlist_same s _ _).trans (putFirst_none h)

/-- An item that goes back to the head of its list leaves the island and the queue alone. -/
theorem kept_toHead (s : State) (c : Nat) : Kept s (s.toHead c) := (kept_leaveEng s c).trans (kept_enlist _ c true)

/-! ## The three commands -/

/-- The write-back of an engine ends (R235). -/
theorem engineFree_frees (hu : s.up = true) (hw : (s.eng te).wb = true)
    (hon : s.getF (.pwrSts (te / 2)) PWR_STS.STATE = 0) (hr : s.ready = []) :
    exec (.engineFree te) s = .next (s.setEng te Eng.free) := by
  have hon' : (s.setEng te Eng.free).getF (.pwrSts (te / 2)) PWR_STS.STATE = 0 := hon
  have hplace : (s.setEng te Eng.free).dozePlace te = s.setEng te Eng.free := if_neg (by simp [hon'])
  refine onDevice_eq hu ?_ rfl rfl
  rw [if_pos hw, hplace]
  exact dispatchAll_noItem hr

/-- What preempts an item at its quantum (R243, R385). -/
theorem preempts_iff : s.preempts te c = true ↔ s.getF (.pwrSts (te / 2)) PWR_STS.STATE = 1 ∨
    (s.handedN (te / 8) < s.eligibleAbove (te / 8) (s.ctx c).pri ∧ s.freeEng (te / 8) = none) := by
  simp [State.preempts]

/-- A running item that goes back to the head of its list leaves its engine to the write-back. -/
theorem toHead_running (ha : (s.ctx c).act = .running te) : s.toHead c = (s.setEng te Eng.leaving).enlist c true := by
  simp only [State.toHead, State.leaveEng, ha]

/-- The quantum of an item that is preempted ends (R243). -/
theorem quantumPreempt_preempts (hu : s.up = true) (he : s.eng te = Eng.holds c) (ha : (s.ctx c).act = .running te)
    (hp : s.preempts te c = true) (hj : ∀ j ∈ s.rlist (s.listKey c), s.joinedNow true j = false) :
    Answers (.quantumPreempt te) s (fun t =>
      t.eng te = { Eng.leaving with handed := !(decide (s.getF (.pwrSts (te / 2)) PWR_STS.STATE = 1)) } ∧
      t.ctx c = { s.ctx c with act := .ready } ∧ t.rlist (s.listKey c) = c :: s.rlist (s.listKey c)) := by
  have heng : (s.toHead c).eng te = Eng.leaving := by
    rw [toHead_running ha]
    exact setEng_same s te Eng.leaving
  refine answers_eq (t := (s.toHead c).modEng te
      (fun e => { e with handed := !(s.getF (.pwrSts (te / 2)) PWR_STS.STATE == 1) }))
    (show exec _ s = execQuantumPreempt te s from rfl) hu ?_ ?_ ⟨?_, ?_, ?_⟩
  · simp only [he, Eng.holds, hp, and_self, if_true]
  · exact (kept_toHead s c).trans ⟨rfl, rfl⟩
  · rw [State.modEng, setEng_same, heng]
    rfl
  · rw [toHead_running ha]
    exact enlist_ctx (s.setEng te Eng.leaving) c true
  · rw [toHead_running ha]
    exact enlist_head (s := s.setEng te Eng.leaving) hj

/-- A suspended item leaves its state while every engine of its cluster is taken (R246). -/
theorem exec_suspendLeave (hu : s.up = true) (ha : (s.ctx c).act = .suspended)
    (hh : s.higherWork (s.ctx c).cluster (s.ctx c).pri = false) (hf : s.frozen (s.ctx c).slice = false)
    (he : s.freeEng (s.ctx c).cluster = none) : exec (.suspendLeave c) s = .next (s.enlist c true) := by
  have hjoin : s.join c true = s.enlist c true := dispatch_noEngine (s := s.enlist c true) he
  have hkept := kept_enlist s c true
  show execSuspendLeave c s = _
  refine onDevice_eq hu ?_ hkept.1 hkept.2
  simp only [hh, hf, ha, hjoin, Bool.false_eq_true, or_self, if_false]

/-- Settles O15: the write-back that ends frees its engine, and with no item ready no dispatch follows; a preempted item and
one that leaves Suspended join the head of their list. -/
theorem engineEvents : Obligations.EngineEvents := by
  unfold Obligations.EngineEvents
  refine ⟨fun s te hu hw hon hr => ⟨_, engineFree_frees hu hw hon hr, setEng_same s te _, rfl⟩,
    fun s te c hu he ha hp hj => quantumPreempt_preempts hu he ha (preempts_iff.2 hp) hj,
    fun s c hu ha hh hf he hj => ⟨_, exec_suspendLeave hu ha hh hf he, enlist_ctx s c true, enlist_head hj⟩⟩

end Sys2Proof.Machine
end

section
/-!
A stalemate whose record of a fault stands outside the history (R269, R437).
-/
namespace Sys2Proof.Machine

/-- Contexts 5 and 6 of slice 1 have waited for more than 1 ms, 5 the shorter, each for the semaphore that the other holds; a Clock
tick occurs. Source 53 (STALEMATE), whose reaction is an interrupt, has counted three events of the four that decide, and the entry of
its open record is 5089. The history ends at entry 31, but the statement ranges over every state, and the entry's first word has the
address of `DSP_STALE`. -/
def staleRecordAstray : State :=
  let waits (own other since : Nat) : Ctx :=
    { Ctx.free with slice := 1, act := .parked (.lock other), locks := [own], since := since }
  let s := (State.reset.setCtx 5 (waits 41 40 8)).setCtx 6 (waits 40 41 0)
  let s := (s.setSem 40 { Sem.free with owner := some 6, queue := [5] }).setSem 41 { Sem.free with owner := some 5, queue := [6] }
  let s := ((s.setF (.fltCfg 53) FLT_CFG.REACT 1).setF (.fltSts 53) FLT_STS.STATE 1).setF (.fltSts 53) FLT_STS.COUNT 3
  { s.setFlt 53 { FltSrc.init with entry := 5089 } with aon := { s.aon with clockCount := 16 } }

/-- The fourth event decides, and its reaction is noted among the bits of the victim's slice. -/
theorem staleRecordAstray_slice :
    (match exec .stalemateDetection staleRecordAstray with
      | .next t => t.getF .dspStale DSP_STALE.SLICE
      | _ => 1) = 73 := by
  decide +kernel

/-- Refutes O16: its clause on the victim's record asks for the victim's slice in `DSP_STALE` in every state, and in
`staleRecordAstray` the record of the fault that the stalemate is (R269) is written over it. -/
theorem not_stealResortStalemate : ¬ Obligations.StealResortStalemate := by
  unfold Obligations.StealResortStalemate
  rintro ⟨-, -, -, -, hvictim, -⟩
  have hup : staleRecordAstray.up = true := by decide +kernel
  have htick : staleRecordAstray.atTick = true ∧ staleRecordAstray.staleSeen ≠ staleRecordAstray.aon.clockCount := by
    decide +kernel
  have hvictims : staleRecordAstray.staleVictims = [5] := by decide +kernel
  have hslice : (staleRecordAstray.ctx 5).slice = 1 := by decide +kernel
  obtain ⟨t, ht, -, -, hrecord⟩ := hvictim staleRecordAstray 5 hup htick.1 htick.2 hvictims (by decide) (by rw [hslice]; decide)
  have hwritten := staleRecordAstray_slice
  rw [ht] at hwritten
  exact absurd ((hrecord.symm.trans hwritten).symm.trans hslice) (by decide)

end Sys2Proof.Machine
end
